-- ==== Sys2Proof/Word.lean ====
section
/-! DEFINITION. The words and the names every other file uses: a register word, a byte, a lane of the package. -/

namespace Sys2Proof

/-- A register is 32 bits wide (R10). -/
abbrev Word := BitVec 32

/-- One byte. -/
abbrev Byte := BitVec 8

/-- The three lanes of the package; their indices are 0, 1 and 2 (R24). -/
inductive LaneId where
  | A
  | B
  | C
  deriving DecidableEq, Repr

/-- The lane index of R24. -/
def LaneId.index : LaneId → Nat
  | .A => 0
  | .B => 1
  | .C => 2

/-- The next lane in the order A→B→C→A: the far end of port N. -/
def LaneId.next : LaneId → LaneId
  | .A => .B
  | .B => .C
  | .C => .A

/-- The previous lane in the order A→B→C→A: the far end of port P. -/
def LaneId.prev : LaneId → LaneId
  | .A => .C
  | .B => .A
  | .C => .B

/-- A cross-lane port: N leads to the next lane, P to the previous one. -/
inductive Port where
  | N
  | P
  deriving DecidableEq, Repr

/-- The lane at the far end of a port. -/
def LaneId.at (l : LaneId) : Port → LaneId
  | .N => l.next
  | .P => l.prev

/-- The other port. -/
def Port.other : Port → Port
  | .N => .P
  | .P => .N

end Sys2Proof
end

