-- ==== Sys2Proof/Frames.lean ====
section
/-! DEFINITION. The frames and messages that commands carry: what travels on the cross-lane links, the die-to-die link, the lane
network and the object channel, as the fields the manual gives them. -/

namespace Sys2Proof

/-- The coordination frame of R28. Lane indices are 0, 1, 2 and 3 for none. -/
structure CoordFrame where
  seq : Nat
  sender : Nat
  state : Nat
  toCellar : Bool
  noToken : Bool
  testPassed : Bool
  runComplete : Bool
  tokenNum : Nat
  tokenHolder : Nat
  tokenPass : Nat
  lastHeld : List Nat
  votes : Nat
  downN : Bool
  downP : Bool
  downFar : Bool
  start : Bool
  stop : Bool
  standstill : Bool
  motionGrant : Bool
  standCond : Bool
  delivering : Bool
  digest : List Byte
  epoch : Nat
  deriving DecidableEq, Repr

/-- The payload of a key message (R465). -/
structure KeyMsg where
  kind : Nat
  sender : Nat
  epoch : Nat
  number : Nat
  named : Nat
  deriving DecidableEq, Repr

/-- The setpoint frame of the authority class (R75, R334): per actuator the torque demand and the release request, the two
agreement bits, and the latched positions with the validity of their interfaces. `none` for an agreement bit: not judged. -/
structure SetpointFrame where
  epoch : Nat
  torque : List Word
  release : Nat
  agreeNext : Option Bool
  agreePrev : Option Bool
  position : List Int
  valid : Nat
  deriving DecidableEq, Repr

/-- The shelf frame of R88. -/
structure ShelfFrame where
  tick : Nat
  epoch : Nat
  count : Nat
  words : List Word
  deriving DecidableEq, Repr

/-- The vote frame of R238. -/
structure VoteFrame where
  release : Nat
  seq : Nat
  stop : Bool
  against : Nat
  live : Nat
  capable : Nat
  deriving DecidableEq, Repr

/-- What an angle frame says of one star (R132). -/
structure AngleEntry where
  angle : Nat
  speed : Word
  conf : Nat
  flags : Nat
  deriving DecidableEq, Repr

/-- The angle frame of R132. -/
structure AngleFrame where
  num : Nat
  sender : Nat
  age : Nat
  stars : List AngleEntry
  deriving DecidableEq, Repr

/-- A lane-network frame on the line (R244): its bytes from the destination to the FCS, whether its end delimiter is free of errors, and the
device time of its first symbol in ns. -/
structure LnFrame where
  bytes : List Byte
  endOk : Bool
  stamp : Nat
  deriving DecidableEq, Repr

/-- What a decision tick finds at one group's inputs: the bits of the four channels at the modulator clocks since the last command that brought
some, channel k in bit k (R183), the node-high time of legs U, V, W by the sense stamps in units of 625 ps (R158), the legs whose stages made an
illegal request (R161), and whether both commands of a leg were high at the input of the envelope guards (R236). -/
structure GroupSample where
  clocks : List Nat
  high : List Nat
  illegal : Nat
  bothOn : Bool
  deriving DecidableEq, Repr

/-- What the clocks up to a command captured, and the channel of the group that it names (R191). -/
structure ChannelBits where
  channel : Fin 4
  clocks : List Nat
  deriving DecidableEq, Repr

/-- What the clocks up to a command captured, and the threshold of R177 that it names: the third, or the second. -/
structure ThresholdBits where
  third : Bool
  clocks : List Nat
  deriving DecidableEq, Repr

/-- A group, and what its clocks up to a command captured (R181). -/
structure GroupBits where
  group : Fin 16
  clocks : List Nat
  deriving DecidableEq, Repr

/-- The levels of A, B and Z at an incremental edge (R200). -/
structure IncrLevels where
  a : Bool
  b : Bool
  z : Bool
  deriving DecidableEq, Repr

/-- A rise of Z: its interface, and the main-clock cycles for which the line then held (R200, R201). -/
structure ZRise where
  interface : Fin 16
  held : Nat
  deriving DecidableEq, Repr

/-- The levels of U, V, W at a change of the Hall lines, and the main-clock cycles for which they then held (R208). -/
structure HallLevels where
  pattern : Nat
  held : Nat
  deriving DecidableEq, Repr

/-- A die-to-die frame: whether its CRC is right, and the reading of sensor 4 in 0.1 °C where it carries one (R25). -/
structure D2dFrame where
  ok : Bool
  temp : Option Int
  deriving DecidableEq, Repr

/-- A port, and the guardian's count for it (R260). -/
structure PortCount where
  port : Fin 2
  count : Nat
  deriving DecidableEq, Repr

/-- A port, and how long its transmission lasts in tenths of a µs (R261). -/
structure PortSpan where
  port : Fin 2
  span : Nat
  deriving DecidableEq, Repr

/-- What a core of the pair may ask a bus for (R328). -/
inductive TxnKind where
  | read
  | write
  | atomic
  | fetch
  deriving DecidableEq, Repr

/-- A transaction as the compare buffer compares it (R328): kind, address, size with its byte enables, data or operand, mode, and the operation of an
atomic. -/
structure BusTxn where
  kind : TxnKind
  address : Nat
  size : Nat
  value : Word
  user : Bool
  op : Nat
  deriving DecidableEq, Repr

/-- A store of the lead core: its size in bytes, its data, and whether it is made in user mode, by the application (R10, R340); `trail` is the
transaction that the trail core emitted at its place, none for the same one. -/
structure StoreData where
  size : Nat
  value : Word
  user : Bool
  trail : Option BusTxn
  deriving DecidableEq, Repr

/-- The lead core's transaction of a store to an address. -/
def StoreData.txn (x : StoreData) (a : Nat) : BusTxn := ⟨.write, a, x.size, x.value, x.user, 0⟩

/-- The two cores agree on a store (R328). -/
def StoreData.agrees (x : StoreData) (a : Nat) : Bool := x.trail.all (fun y => y == x.txn a)

/-- What the application calls with: a code to log, a call that the table of R347 does not list, or an exception raised in user mode (R345). -/
inductive AppCall where
  | log (code : Nat)
  | unlisted
  | exception
  deriving DecidableEq, Repr

/-- The instructions of the TAP that the manual names (R33, R164, R327); RETIRE and factory programming are commands of their own. -/
inductive TapInstr where
  | idcode
  | bypass
  | sample
  | extest
  | clamp
  | highz
  | debugHalt
  | debugResume
  deriving DecidableEq, Repr

end Sys2Proof
end

