-- ==== Sys2Proof/Config.lean ====
section
/-! DEFINITION. What the specification leaves open: uninterpreted constants, about which nothing can be proved. A function of a
counter gives a fresh value for every reading; a function of operands gives one value for one set of operands. -/

namespace Sys2Proof.Config

/-- A word the specification does not fix, one for every draw. (Log entries 15: DESIGN CHOICE, 77: DESIGN CHOICE) -/
opaque freeWord : Nat → Word

/-- A truth value the specification does not fix, one for every draw. (Log entry 15: DESIGN CHOICE) -/
opaque freeBool : Nat → Bool

/-- A number the specification does not fix, one for every draw. (Log entries 15: DESIGN CHOICE, 81: DESIGN CHOICE, 93: DESIGN CHOICE) -/
opaque freeNat : Nat → Nat

/-- An exact quantity the specification does not fix, one for every draw. (Log entry 15: DESIGN CHOICE) -/
opaque freeRat : Nat → Rat

/-- The voltage that a calibrated housekeeping code of rail 0 to 3 stands for (R194, R321). (Log entry 193: DESIGN CHOICE) -/
opaque railVolts : Nat → Int → Rat

/-- A block of bytes the specification does not fix: key material, signatures, challenges. (Log entries 15: DESIGN CHOICE, 93: DESIGN CHOICE) -/
opaque freeBytes : Nat → List Byte

/-- The F32 word that stands for a quantity which binary32 cannot hold exactly. (Log entry 9: DESIGN CHOICE) -/
opaque roundF32 : Rat → Word

/-- Whether the angle of a vector, which lies between two counts, is given as the higher of them: no rule says how it is rounded.
(Log entry 12: DESIGN CHOICE) -/
opaque atanUp : Rat → Rat → Bool

/-- The observer and injection tracking loops (R125, R129): the gains are the implementation's. (Log entry 13: DESIGN CHOICE) -/
opaque observerSpeed : List Rat → Rat
/-- Log entry 13: DESIGN CHOICE. -/
opaque injectionAngle : List Rat → Rat
/-- Log entry 13: DESIGN CHOICE. -/
opaque injectionSpeed : List Rat → Rat

/-- The runtime's position and force loops (R343): torque demand, next reference position, reference speed and integrator.
(Log entry 14: DESIGN CHOICE) -/
opaque loopDemand : List Rat → Rat
/-- Log entry 14: DESIGN CHOICE. -/
opaque loopPosition : List Rat → Int
/-- Log entry 14: DESIGN CHOICE. -/
opaque loopSpeed : List Rat → Rat
/-- Log entry 14: DESIGN CHOICE. -/
opaque loopIntegrator : List Rat → Rat
opaque forceIntegrator : List Rat → Rat

/-- The IDCODE word of the boundary scan (R4): it carries the die set and the package revision, at places that the specification does not
give. (Log entry 145: DESIGN CHOICE) -/
opaque idcode : Nat → Nat → Word

/-- What the factory programs into OTP at Blank→Provisioned (R413): the serial number and the public keys. (Log entry 20: DESIGN CHOICE) -/
opaque serialNumber : List Byte
/-- Log entry 20: DESIGN CHOICE. -/
opaque vendorKey : List Byte
/-- Log entry 20: DESIGN CHOICE. -/
opaque identityPrivate : List Byte
/-- Log entry 20: DESIGN CHOICE. -/
opaque transportPrivate : List Byte

/-- The date code of the package, marked at the factory (0x1000 sub-index 6, R313). -/
opaque dateCode : Nat

/-- The calibration set that the factory wrote into flash (R425). (Log entry 21: DESIGN CHOICE) -/
opaque factorySet : List Byte

/-- The number drawn for a signature (R416): the private key, the signed bytes. (Log entry 210: DESIGN CHOICE) -/
opaque signNonce : List Byte → List Byte → Nat

/-- The 66 bytes of the shared secret behind a wrapped network key (R420): the transport key, the wrapped key. (Log entry 210: DESIGN CHOICE) -/
opaque sharedSecret : List Byte → List Byte → List Byte

/-- What a node without a network key forms in place of a CMAC (R247, R420). (Log entry 162: DESIGN CHOICE) -/
opaque keylessCmac : List Byte → List Byte

/-- The 200 bytes of a setpoint frame, whose layout is not given (R27, R75): from its epoch, demands, release requests, agreement bits, positions and
validities. (Log entry 209: DESIGN CHOICE) -/
opaque setpointPayload : Nat → List Word → Nat → Option Bool → Option Bool → List Int → Nat → List Byte

/-- The 32-bit LBIST result that the boot ROM holds for a duplicated unit (R366): the die set, the unit. (Log entry 201: DESIGN CHOICE) -/
opaque lbistSig : Nat → Nat → Word

/-- A correction value of AD_CAL applied to a code of an ADC, away from the reset value (R193): the word, the code.
(Log entry 38: DESIGN CHOICE) -/
opaque adCorrect : Word → Int → Int

/-- The code that an ADC converts from a level of the loopback DAC (R195): the range setting (4: the housekeeping input), the DAC code.
(Log entry 159: DESIGN CHOICE) -/
opaque dacLevel : Nat → Nat → Int

end Sys2Proof.Config
end

