-- ==== Sys2Proof/Machine/Num.lean ====
section
/-! DEFINITION. Numbers: two's complement and limits on integers, the F32 words of the manual (IEEE 754 binary32, R8, R14) as exact
quantities, electrical angles in counts, and the two irrational constants the formulas of the manual use. -/

namespace Sys2Proof.Machine

/-- A value held between two limits: values outside act as the nearer limit. -/
def clampN (lo hi v : Nat) : Nat := if v < lo then lo else if hi < v then hi else v

/-- The same for integers. -/
def clampI (lo hi v : Int) : Int := if v < lo then lo else if hi < v then hi else v

/-- The same for exact quantities. -/
def clampR (lo hi v : Rat) : Rat := if v < lo then lo else if hi < v then hi else v

/-- The magnitude. -/
def absR (x : Rat) : Rat := if x < 0 then -x else x

def maxR (x y : Rat) : Rat := if x < y then y else x
def minR (x y : Rat) : Rat := if x < y then x else y

/-- A field of `w` bits read as two's complement. -/
def signed (w v : Nat) : Int := if v % 2 ^ w < 2 ^ (w - 1) then (v % 2 ^ w : Nat) else (v % 2 ^ w : Nat) - (2 ^ w : Nat)

/-- An integer held in `w` bits. -/
def wrap (w : Nat) (i : Int) : Nat := (i % (2 ^ w : Nat)).toNat

/-- The integer nearest to zero of an exact quantity. -/
def truncR (x : Rat) : Int := if x < 0 then -((-x).floor) else x.floor

/-- The integer nearest an exact quantity, halves away from zero. -/
def roundR (x : Rat) : Int := if x < 0 then -((-x + 1 / 2).floor) else (x + 1 / 2).floor

/-- Bit `i` of a natural number. -/
def bit (n i : Nat) : Bool := n.testBit i

/-- Bit `i` of a natural number set to `b`. -/
def putBit (n i : Nat) (b : Bool) : Nat := if b then n ||| 1 <<< i else if n.testBit i then n - 1 <<< i else n

def b2n (b : Bool) : Nat := if b then 1 else 0

/-! ### F32 words -/

/-- The exponent field. -/
def f32exp (w : Word) : Nat := (w.toNat / 2 ^ 23) % 256

/-- Neither infinite nor a NaN. -/
def f32finite (w : Word) : Bool := f32exp w != 255

/-- The power of two with an integer exponent. -/
def pow2 (e : Int) : Rat := if 0 ≤ e then ((2 ^ e.toNat : Nat) : Rat) else 1 / ((2 ^ (-e).toNat : Nat) : Rat)

/-- The exact value of a finite F32 word. -/
def f32val (w : Word) : Rat :=
  let m : Nat := w.toNat % 2 ^ 23
  let e := f32exp w
  let mag : Rat := if e = 0 then (m : Rat) * pow2 (-149) else ((m + 2 ^ 23 : Nat) : Rat) * pow2 ((e : Int) - 150)
  if w.toNat < 2 ^ 31 then mag else -mag

/-- The exponent of the leading binary digit of a positive quantity. -/
def log2R (x : Rat) : Int :=
  let e : Int := (Nat.log2 x.num.toNat : Int) - (Nat.log2 x.den : Int)
  if x < pow2 e then e - 1 else e

/-- The F32 word of an exact quantity: its own word where binary32 holds it, an uninterpreted one where it must be rounded.
(Log entry 9: DESIGN CHOICE) -/
def f32of (x : Rat) : Word :=
  if x = 0 then 0 else
  let a := absR x
  let s : Nat := if x < 0 then 2 ^ 31 else 0
  let e := log2R a
  if e < -126 then
    let m := a * pow2 149
    if m.den = 1 then BitVec.ofNat 32 (s + m.num.toNat) else Config.roundF32 x
  else
    let m := a * pow2 (23 - e)
    if m.den = 1 ∧ e ≤ 127 then BitVec.ofNat 32 (s + (e + 127).toNat * 2 ^ 23 + (m.num.toNat - 2 ^ 23)) else Config.roundF32 x

/-- The F32 word of positive infinity. -/
def f32inf : Word := 0x7F800000

/-- A quantity read from a setting: its value where it is finite and positive, the stated substitute elsewhere. -/
def f32posOr (w : Word) (d : Rat) : Rat := if f32finite w && decide (0 < f32val w) then f32val w else d

/-- The same where zero is a value of its own and only negative or non-finite words are replaced. -/
def f32nonnegOr (w : Word) (d : Rat) : Rat := if f32finite w && decide (0 ≤ f32val w) then f32val w else d

/-- Finite and positive. -/
def f32pos (w : Word) : Bool := f32finite w && decide (0 < f32val w)

/-! ### Constants, roots and angles -/

/-- π to twenty places. (Log entry 11: DESIGN CHOICE) -/
def piR : Rat := 314159265358979323846 / 100000000000000000000

/-- √3 to twenty places. (Log entry 11: DESIGN CHOICE) -/
def sqrt3R : Rat := 173205080756887729353 / 100000000000000000000

/-- The integer square root by bits from the top, on `fuel` bits. -/
def isqrtAux (n : Nat) : Nat → Nat → Nat
  | 0, r => r
  | k + 1, r => let c := r + 2 ^ k; isqrtAux n k (if c * c ≤ n then c else r)

/-- The integer square root of a number below 2^256. -/
def isqrt (n : Nat) : Nat := isqrtAux n 128 0

/-- The square root, exact where the quantity is the square of a fraction, else to 2^-40. (Log entry 11: DESIGN CHOICE) -/
def sqrtR (x : Rat) : Rat :=
  if x ≤ 0 then 0 else
  let n := isqrt x.num.toNat
  let d := isqrt x.den
  if n * n = x.num.toNat ∧ d * d = x.den then (n : Rat) / (d : Rat)
  else (isqrt (x * 2 ^ 80).floor.toNat : Rat) / (2 ^ 40 : Nat)

/-- The sum of the power series x^n / n! over every second n, with rising sign changes, from the term `a` of order `n` on.
(Log entry 11: DESIGN CHOICE) -/
def seriesFrom (x2 : Rat) : Nat → Nat → Rat → Rat
  | 0, _, _ => 0
  | k + 1, n, a => a + seriesFrom x2 k (n + 2) (-(a * x2) / (((n + 1) * (n + 2) : Nat) : Rat))

/-- A quantity cut to 2^-60. -/
def cut60 (x : Rat) : Rat := (truncR (x * 2 ^ 60) : Rat) / 2 ^ 60

/-- Cosine and sine of an angle from 0 to a quarter turn in counts of 1/65,536 turn: exact at both ends, else to 2^-60.
(Log entry 11: DESIGN CHOICE) -/
def cosQ (x : Rat) : Rat :=
  if x = 0 then 1 else if x = 16384 then 0 else
  let r := x * piR / 32768
  cut60 (seriesFrom (r * r) 16 0 1)
def sinQ (x : Rat) : Rat := cosQ (16384 - x)

/-- Cosine of an angle in counts, a fraction of a count included. -/
def cosF (x : Rat) : Rat :=
  let y := x - 65536 * ((x / 65536).floor : Rat)
  if y ≤ 16384 then cosQ y
  else if y ≤ 32768 then -cosQ (32768 - y)
  else if y ≤ 49152 then -cosQ (y - 32768)
  else cosQ (65536 - y)

/-- Cosine and sine of an angle in counts of 1/65,536 turn. -/
def cosC (a : Nat) : Rat := cosF (a : Rat)
def sinC (a : Nat) : Rat := cosF ((a : Rat) - 16384)

/-- The largest angle in whole counts, below 2^k above `n`, that a vector of the first quadrant has reached, by bits from the top. -/
def atanAux (y x : Rat) : Nat → Nat → Nat
  | 0, n => n
  | k + 1, n =>
    let c := n + 2 ^ k
    atanAux y x k (if x * sinQ (c : Rat) ≤ y * cosQ (c : Rat) then c else n)

/-- The angle of a vector in counts, R95, R202: exact on the axes and diagonals; elsewhere it lies between two counts, and which of them
stands for it is left open. (Log entry 12: DESIGN CHOICE) -/
def atanC (y x : Rat) : Nat :=
  if y = 0 then (if x < 0 then 32768 else 0)
  else if x = 0 then (if y < 0 then 49152 else 16384)
  else if y = x then (if x < 0 then 40960 else 8192)
  else if y = -x then (if x < 0 then 24576 else 57344)
  else
    let n :=
      if 0 < y then (if 0 < x then atanAux y x 14 0 else 16384 + atanAux (-x) y 14 0)
      else (if x < 0 then 32768 + atanAux (-y) (-x) 14 0 else 49152 + atanAux x (-y) 14 0)
    (n + (if Config.atanUp y x then 1 else 0)) % 65536

/-- The signed difference of two angles in counts, −32,768 to 32,767. -/
def angDiff (a b : Nat) : Int := signed 16 (wrap 16 ((a : Int) - b))

/-- A step of the lane's time, 625 ps, in seconds. -/
def stepSec : Rat := 1 / 1600000000

/-! ### Times: one step is 625 ps, the resolution of the leg generator -/

/-- A nanosecond count as steps of 625 ps. -/
def ns (n : Nat) : Nat := n * 8 / 5
def us (n : Nat) : Nat := n * 1600
def ms (n : Nat) : Nat := n * 1600000
def sec (n : Nat) : Nat := n * 1600000000

end Sys2Proof.Machine
end

