-- ==== Sys2Proof/Machine/BlocksDrive.lean ====
section
/-! DEFINITION. The state of the drive section of a lane that stands behind its registers: torque engine, angle unit, leg generator,
chopper, sigma-delta channels, feedback interface and envelope guard of one group (R24), as plain data. -/

namespace Sys2Proof.Machine

/-- How a star is out of service: the isolation states of R164 and R178. -/
inductive Iso where
  | none
  | allOff
  | short
  | groupOff
  deriving DecidableEq, Repr

/-- The driving mode of a torque engine, coded as TQ_STATUS.MODE. -/
inductive Mode where
  | tracking
  | carrier
  | table
  deriving DecidableEq, Repr

/-- The angle source of a star, coded as AN_STATUS.SOURCE. -/
inductive Source where
  | none
  | injection
  | observer
  | encoder
  | consensus
  deriving DecidableEq, Repr

/-- The commanded state of a leg: both switches off, low switch on, high switch on, or (an illegal request) both on. -/
inductive LegCmd where
  | off
  | low
  | high
  | both
  deriving DecidableEq, Repr

/-- Torque engine (R93 to R122). `psiStar` is ψ* as R101 defines it, `refA` and `refB` the reference of the newest tick, complete at
`refAt`, and `refOld` that of the tick before it (R112); `fluxPend` waits for the first tick of table mode (R115).
(Log entry 10: DESIGN CHOICE) -/
structure TqS where
  psiA : Rat
  psiB : Rat
  cT : Int
  cPsi : Int
  mode : Mode
  wantMode : Mode
  handAt : Nat
  fluxFrom : Rat
  fluxRampAt : Option Nat
  fluxPend : Bool
  psiStar : Rat
  isolated : Bool
  effShare : Nat
  target : Nat
  targetLatch : Option Nat
  dPrev : Rat
  dNew : Rat
  dLatch : Option Rat
  step : Nat
  dUse : Rat
  capOn : Bool
  intF : Rat
  intT : Rat
  budget : List Nat
  budgetTick : List Nat
  vHist : List (Rat × Rat)
  tHat : Rat
  tRef : Rat
  iMag : Rat
  vector : Nat
  sector : Nat
  paIndex : Nat
  ilim : Bool
  refA : Rat
  refB : Rat
  refAt : Nat
  refOld : Rat × Rat
  paramWas : Bool
  deriving DecidableEq, Repr

/-- A sibling's estimate of one star, as its last accepted angle frame gave it (R133). -/
structure PeerS where
  angle : Nat
  speed : Word
  conf : Nat
  flags : Nat
  age : Nat
  arrival : Nat
  seen : Bool
  staleTold : Bool
  deriving DecidableEq, Repr

/-- Angle unit (R123 to R140). `injHist` holds the demodulated products of one injection period, newest first (R125), `peakPlus` and
`peakMinus` the largest |id| of the pulses of a polarity test (R139). (Log entry 10: DESIGN CHOICE) -/
structure AnS where
  source : Source
  nextSource : Source
  angle : Nat
  speed : Rat
  valid : Bool
  high : Bool
  polOk : Bool
  starting : Bool
  startAt : Nat
  tests : Nat
  testAt : Option Nat
  polWait : Option Nat
  injRun : Bool
  injAngle : Nat
  injSpeed : Rat
  injAmp : Rat
  injHist : List (Rat × Rat)
  peakPlus : Rat
  peakMinus : Rat
  injLost : Bool
  obsA : Rat
  obsB : Rat
  obsAngle : Nat
  obsSpeed : Rat
  obsLost : Bool
  obsFlux : Rat
  disRun : Nat
  disagree : Bool
  alignOk : Bool
  misalign : Bool
  confInj : Nat
  confObs : Nat
  confEnc : Nat
  consAngle : Nat
  consSpeed : Rat
  contrib : Nat
  nextAngle : Nat
  nextSpeed : Rat
  nextValid : Bool
  exchanged : Bool
  injOkAt : Option Nat
  obsOkAt : Option Nat
  lastSpeed : Rat
  reachedAt : Option Nat
  alignSince : Option Nat
  misSince : Option Nat
  peerN : PeerS
  peerP : PeerS
  deriving DecidableEq, Repr

/-- A state change of a leg that its switching-node sense has still to judge (R156): when the outgoing command fell, the direction of the
node, the dead time that was applied, and what the sense showed of it before its incoming command rose: the time to the crossing, if there was
one. -/
structure LegEdge where
  fell : Nat
  rising : Bool
  dt : Nat
  seen : Option (Option Nat)
  deriving DecidableEq, Repr

/-- One leg of a group (R24: U, V, W, K). `cmd` is its commanded state, which `changedAt` began with the fall of the outgoing command and
whose own command rises at `onAt`; `plan` holds the changes asked for at times to come, `defer` one that waits for MINPULSE (R154), `held` one
that waits for a token (R236), `edges` the changes not yet judged. `dtR` and `dtF` are the adapted dead times, `dtWas` the values before the
update of `dtAt` (R170). `highAcc` and `highFrom` measure the time commanded high, `highLast` that of the previous decision tick (R158). -/
structure LegS where
  cmd : LegCmd
  changedAt : Nat
  onAt : Nat
  plan : List (Nat × LegCmd)
  defer : Option LegCmd
  held : Option LegCmd
  edges : List LegEdge
  tokens : Nat
  tokenAt : Nat
  silent : Bool
  silentRun : Nat
  goodRun : Nat
  fault : Bool
  acc : Int
  dtR : Nat
  dtF : Nat
  dtWas : Nat × Nat
  dtAt : Nat
  highAcc : Nat
  highFrom : Nat
  highLast : Nat
  illegal : Bool
  deriving DecidableEq, Repr

/-- Leg generator (R141 to R170). `nextAt` is the next period start; `commitAt` and `shadowAt` are when COMMIT and a shadow register were last
written, `tripClrAt` when a TRIP_CLR was last accepted, `shadowWas` what period and duties held before the writes of that cycle (R170).
(Log entry 10: DESIGN CHOICE) -/
structure LgS where
  running : Bool
  periodAt : Nat
  nextAt : Nat
  period : Nat
  duty : List Nat
  phase : Nat
  nm1 : Nat
  commit : Bool
  commitAt : Nat
  shadowAt : Option Nat
  shadowWas : Nat × List Nat
  qcap : Bool
  legs : Vector LegS 4
  tripHold : Bool
  tripEnd : Bool
  tripClrAt : Nat
  iso : Iso
  guardOff : Bool
  gen : Bool
  genAt : Nat
  genHold : Bool
  deriving DecidableEq, Repr

/-- Chopper and DC link (R171 to R182). `on` is the state that the decision asks leg K for. -/
structure ChS where
  on : Bool
  energy : Rat
  hot : Bool
  fault : Bool
  cause : Nat
  clamp : Bool
  uv : Bool
  step : Nat
  vHist : List Rat
  deriving DecidableEq, Repr

/-- Sigma-delta channels of a group (R183 to R191). `hist` holds the captured bits, newest clock first, channel k in bit k, of which `taken` came
since ENABLE rose; `runs` counts the equal bits of each channel; `since` says since when the fast-path vDC lies below VUV_TRIP and at or above
VOV2, VOV3 and EG_OV. -/
structure SdS where
  settling : Bool
  enabledAt : Nat
  chfault : Nat
  oc : Nat
  sumRun : Nat
  trips : List Nat
  val3 : List Rat
  hist : List Nat
  taken : Nat
  runs : List Nat
  since : List (Option Nat)
  deriving DecidableEq, Repr

/-- The speed state of R212. -/
inductive SpdState where
  | standstill
  | one
  | run
  deriving DecidableEq, Repr

/-- A conversion that a feedback interface has still to take (R192, R219): when its inputs were held, when it is complete, sine and cosine, the
quarter count at the hold, and the time to the next one. -/
structure ConvS where
  heldAt : Nat
  doneAt : Nat
  sine : Int
  cosine : Int
  negative : Bool
  quarter : Nat
  span : Nat
  deriving DecidableEq, Repr

/-- An SSI transfer that an interface has still to take (R207, R219): when it began, the word, its parity bit and the final sample. -/
structure SsiS where
  began : Nat
  word : Nat
  par : Bool
  last : Bool
  deriving DecidableEq, Repr

/-- Feedback interface (R197 to R219). `qSeen` says that the quarter count has taken a quadrant since ENABLE rose (R202), `zCheck` that a Z edge of
that time is still to be checked, with what `zSince` was before it, and `zSet` when one last set the reference, with the count before it (R201, R219);
`conv` and `ssiRx` are samples still to be taken; `emuSpan` is the time over which the emulated output
spreads its edges (R217). (Log entry 10: DESIGN CHOICE) -/
structure FbS where
  p : Nat
  rev : Nat
  count : Nat
  valid : Bool
  refOk : Bool
  fault : Bool
  spd : SpdState
  dirNeg : Bool
  stamps : List Nat
  speed : Rat
  stepPos : Int
  levelA : Bool
  levelB : Bool
  levelZ : Bool
  qSeen : Bool
  zSince : Bool
  lastRefDir : Int
  zFails : Nat
  sigRun : Nat
  syncRun : Nat
  ampRun : Nat
  jumpRun : Nat
  hall : Nat
  hallLast : Nat
  hallAt : Nat
  line : Nat
  sampleAt : Nat
  framesSince : Nat
  busy : Bool
  ssiAt : Nat
  disRun : Nat
  emuCount : Int
  emuTarget : Int
  emuAt : Nat
  emuSpan : Nat
  zCheck : Option (Nat × Bool)
  zSet : Option (Nat × Nat)
  conv : List ConvS
  ssiRx : Option SsiS
  ptOn : Bool
  extP : Nat
  deriving DecidableEq, Repr

/-- Envelope guard of a group (R231 to R239); `ceiling = none` while no ceiling acts after a grant. -/
structure EgS where
  tPrev : Rat
  rateClamp : Bool
  ceiling : Option Rat
  c0 : Rat
  grantRun : Nat
  granted : Bool
  voters : Nat
  demandTold : Bool
  deriving DecidableEq, Repr

/-- One group: star g of the lane with its engine, angle unit, legs, link, channels, feedback interface and guard. -/
structure Group where
  tq : TqS
  an : AnS
  lg : LgS
  ch : ChS
  sd : SdS
  fb : FbS
  eg : EgS
  deriving DecidableEq, Repr

/-- The torque engine after reset: tracking, flux state +1, default share (TQ_STATUS and TQ_SHARE reset values).
(Log entry 125: DESIGN CHOICE) -/
def TqS.reset : TqS :=
  { psiA := 0, psiB := 0, cT := 0, cPsi := 1, mode := .tracking, wantMode := .tracking, handAt := 0, fluxFrom := 0,
    fluxRampAt := none, fluxPend := false, psiStar := 0, isolated := false, effShare := 0, target := 0, targetLatch := none, dPrev := 0, dNew := 0,
    dLatch := none, step := 20, dUse := 0, capOn := false, intF := 0, intT := 0, budget := [4, 4, 4], budgetTick := [0, 0, 0],
    vHist := [], tHat := 0, tRef := 0, iMag := 0, vector := 0, sector := 0, paIndex := 0, ilim := false, refA := 0, refB := 0,
    refAt := 0, refOld := (0, 0), paramWas := true }

def PeerS.reset : PeerS :=
  { angle := 0, speed := 0, conf := 0, flags := 0, age := 0, arrival := 0, seen := false, staleTold := false }

/-- Log entry 125: DESIGN CHOICE. -/
def AnS.reset : AnS :=
  { source := .none, nextSource := .none, angle := 0, speed := 0, valid := false, high := false, polOk := false,
    starting := false, startAt := 0, tests := 0, testAt := none, polWait := none, injRun := false, injAngle := 0, injSpeed := 0, injAmp := 0,
    injHist := [], peakPlus := 0, peakMinus := 0,
    injLost := false, obsA := 0, obsB := 0, obsAngle := 0, obsSpeed := 0, obsLost := false, obsFlux := 0, disRun := 0,
    disagree := false, alignOk := false, misalign := false, confInj := 0, confObs := 0, confEnc := 0, consAngle := 0,
    consSpeed := 0, contrib := 0, nextAngle := 0, nextSpeed := 0, nextValid := false, exchanged := false, injOkAt := none, obsOkAt := none,
    lastSpeed := 0, reachedAt := none, alignSince := none, misSince := none, peerN := .reset, peerP := .reset }

/-- A leg after reset: both commands low, dead times at DT_ZC (R155), full tokens (R236). (Log entry 125: DESIGN CHOICE) -/
def LegS.reset (dt : Nat) : LegS :=
  { cmd := .off, changedAt := 0, onAt := 0, plan := [], defer := none, held := none, edges := [], tokens := 4, tokenAt := 0, silent := false,
    silentRun := 0, goodRun := 0, fault := false, acc := 0, dtR := dt, dtF := dt, dtWas := (dt, dt), dtAt := 0, highAcc := 0, highFrom := 0,
    highLast := 0, illegal := false }

/-- Log entry 125: DESIGN CHOICE. -/
def LgS.reset : LgS :=
  { running := false, periodAt := 0, nextAt := 0, period := 10000, duty := [0x8000, 0x8000, 0x8000], phase := 0, nm1 := 0, commit := false,
    commitAt := 0, shadowAt := none, shadowWas := (10000, []), qcap := false, legs := #v[.reset 800, .reset 800, .reset 800, .reset 160], tripHold := false, tripEnd := false, tripClrAt := 0,
    iso := .none, guardOff := false, gen := false, genAt := 0, genHold := false }

/-- Log entry 125: DESIGN CHOICE. -/
def ChS.reset : ChS :=
  { on := false, energy := 0, hot := false, fault := false, cause := 0, clamp := false, uv := false, step := 0,
    vHist := [] }

/-- Log entry 125: DESIGN CHOICE. -/
def SdS.reset : SdS :=
  { settling := true, enabledAt := 0, chfault := 0, oc := 0, sumRun := 0, trips := [], val3 := [0, 0, 0, 0],
    hist := [], taken := 0, runs := [0, 0, 0, 0], since := [none, none, none, none] }

/-- Log entry 125: DESIGN CHOICE. -/
def FbS.reset : FbS :=
  { p := 0, rev := 0, count := 0, valid := false, refOk := false, fault := false, spd := .standstill, dirNeg := false,
    stamps := [], speed := 0, stepPos := 0, levelA := false, levelB := false, levelZ := false, qSeen := false, zSince := true,
    lastRefDir := 0, zFails := 0, sigRun := 0, syncRun := 0, ampRun := 0, jumpRun := 0, hall := 7, hallLast := 7, hallAt := 0, line := 0, sampleAt := 0,
    framesSince := 0, busy := false, ssiAt := 0, disRun := 0, emuCount := 0, emuTarget := 0, emuAt := 0, emuSpan := 4000, zCheck := none, zSet := none, conv := [], ssiRx := none, ptOn := false, extP := 0 }

/-- The envelope guard after reset: the ceiling is 0 (R239). (Log entry 125: DESIGN CHOICE) -/
def EgS.reset : EgS :=
  { tPrev := 0, rateClamp := false, ceiling := some 0, c0 := 0, grantRun := 0, granted := false, voters := 0,
    demandTold := false }

def Group.reset : Group :=
  { tq := .reset, an := .reset, lg := .reset, ch := .reset, sd := .reset, fb := .reset, eg := .reset }

end Sys2Proof.Machine
end

