-- ==== Sys2Proof/Machine/BlocksNet.lean ====
section
/-! DEFINITION. The state of a lane's communication blocks: lane network with guardians, network time and modes (chapters 11 and 12), the
object channel (R287 to R300), and the 100BASE-T1 port (R301 to R303), as plain data. -/

namespace Sys2Proof.Machine

/-! ### Lane network -/

/-- The start-up states of R268, coded as LN_TSTATUS.STATE. -/
inductive NetState where
  | off
  | listen
  | coldStart
  | integrate
  | sync
  deriving DecidableEq, Repr

def NetState.code : NetState → Nat
  | .off => 0
  | .listen => 1
  | .coldStart => 2
  | .integrate => 3
  | .sync => 4

/-- A transmission under way on a port (R251, R261): the frame, none of one outside the schedule, its last symbol and the end of its guardian window in ns of device time, and whether
TX_IRQ follows its completion. -/
structure LnTxS where
  frame : Option LnFrame
  ends : Nat
  shuts : Nat
  irq : Bool
  deriving DecidableEq, Repr

/-- The guardian of a port in its own time (R260 to R262): the count of its clock and the device time at the last origin, none before the first
strobe; the accepted cycles that stand in its rate, each with its counts and its µs, newest first; the mode sent with the last strobe; whether
STROBE_MISSING has already counted the strobe that is due; the number of origins since the first; the guardian cycle and slot of the window used
last; lane time of the last start-up transmission. -/
structure GuardS where
  origin : Option (Int × Int)
  rates : List (Int × Nat)
  mode : Nat
  missed : Bool
  cycle : Nat
  used : Option (Nat × Nat)
  startAt : Option Nat
  deriving DecidableEq, Repr

def GuardS.reset : GuardS := { origin := none, rates := [], mode := 0, missed := false, cycle := 0, used := none, startAt := none }

/-- One port with its guardian. `noneRun` and `someRun` count cycles without and with an accepted frame (R256); `accepted` are the frames
accepted in this cycle; `valid` the receive windows filled since the port was enabled; `learned`
the strobes accepted while learning, 8 ending it (R262); `viols` the violations in the window, each with its age in cycles and its lane time (R263);
`copy` the guardian's copy of the tables and `guard` its time (R260); `tx` the transmission under way, `first` the device time of the first symbol
of the newest frame received, accepted or not (R254); `heard` nodes with the age in
cycles and the lane time at which they were heard last (R285); `got` and `bad`: a discovery frame was accepted since the last topology check, and one carried another
digest (R286). -/
structure LnPortS where
  lost : Bool
  noneRun : Nat
  someRun : Nat
  accepted : List LnFrame
  valid : Nat
  learned : Nat
  guard : GuardS
  copy : Option (List (Nat × Word))
  tx : Option LnTxS
  first : Option Nat
  latched : Bool
  viols : List (Nat × Nat)
  closed : Bool
  topoFail : Nat
  topoOk : Nat
  heard : List (Nat × Nat × Nat)
  bad : Bool
  deriving DecidableEq, Repr

def LnPortS.reset : LnPortS :=
  { lost := true, noneRun := 0, someRun := 0, accepted := [], valid := 0, learned := 0, guard := .reset, copy := none, tx := none,
    first := none, latched := false, viols := [], closed := false, topoFail := 0, topoOk := 0, heard := [], bad := false }

/-- A sender of hop-0 sync frames (R275, R279): what its newest one said, the cycle it was accepted in, its stamp and port. -/
structure SyncPeer where
  node : Nat
  port : Nat
  depth : Nat
  ref : Nat
  refRank : Nat
  cyc : Nat
  stamp : Nat
  action : Nat
  deriving DecidableEq, Repr

/-- The frame a node integrates on (R272): sender, kind, slot, occurrences missed, depth, reference. -/
structure IntegS where
  node : Nat
  kind : Nat
  slot : Nat
  missed : Nat
  depth : Nat
  ref : Nat
  refRank : Nat
  deriving DecidableEq, Repr

/-- A mode change in progress (R281): mode, request number, requester, the cycle of the request, who was present then, the answers. -/
structure ModeReqS where
  mode : Nat
  num : Nat
  node : Nat
  cyc : Nat
  present : List Nat
  acks : List Nat
  nak : Bool
  refuse : Bool
  deriving DecidableEq, Repr

/-- An accepted frame kept for a locked receive window (R255). -/
structure RxHeld where
  desc : Nat
  stamp : Nat
  data : List Byte
  deriving DecidableEq, Repr

/-- Lane network of a lane. Device time is `timeNs` and `timeFrac` parts of 1/8 × 10⁻⁹ ns at lane time `timeAt`, and runs on from there with the offset correction `slew` spread
over `slewLen` ns and the rate correction `rate` (R277). `cycStart` is the device time of the current cycle start, `commit` the pending
commits, `fresh` the live halves committed since their last transmission, `done` the slots whose lock point has passed in this cycle, `len`
the lengths of service messages in the live halves; `peers` the senders of sync frames, `delays` the last delay results, `own` the own sync
frames sent, each with its cycle, action time and ports; `ofsHist` the offset corrections since the rate last moved, each with the start of its cycle;
`reqSent` the cycle and mode of the own request sent last; `modes` senders of this cycle with their mode; `acted` the slots whose action point has passed in this cycle; `swapped` the receive windows that
an acceptance has replaced in this clock cycle: slot, port, lane time, what was readable before, what is since (R255). -/
structure LnS where
  timeNs : Nat
  timeFrac : Nat
  timeAt : Nat
  slew : Int
  slewLen : Nat
  rate : Int
  state : NetState
  on : Nat
  mode : Nat
  cyc : Nat
  cycStart : Nat
  nit : Bool
  listenAt : Nat
  outAt : Nat
  joinWait : Bool
  attempt : Nat
  csSent : Nat
  csStart : Nat
  integ : Option IntegS
  toSync : Option (Nat × Nat × Nat × Nat)
  depth : Nat
  source : Nat
  ref : Nat
  refRank : Nat
  holdover : Bool
  holdCyc : Nat
  srcSeen : Nat
  rankCheck : Bool
  samples : List Int
  ofs : Int
  ofsHist : List (Int × Nat)
  peers : List SyncPeer
  delays : List (Nat × Nat × List Int)
  own : List (Nat × Nat × Nat)
  rotate : Nat
  goMode : Option Nat
  reqNum : Nat
  reqSent : Option (Nat × Nat)
  pend : Option ModeReqS
  queued : Option ModeReqS
  switchTo : Option Nat
  diverge : Option (Nat × Nat)
  present : List Nat
  modes : List (Nat × Nat)
  result : Nat × Nat × Nat
  topoAt : Option Nat
  commit : Nat
  fresh : Nat
  done : Nat
  len : List (Nat × Nat)
  lock : Option (Nat × Nat)
  held : Option RxHeld
  injLeft : Nat
  p0 : LnPortS
  p1 : LnPortS
  acted : Nat
  swapped : List (Nat × Nat × Nat × RxHeld × RxHeld)
  statusSeq : List (Nat × Nat)
  timeHi : Word
  cycHi : Word
  last0 : Option LnFrame
  last1 : Option LnFrame
  deriving DecidableEq, Repr

/-- Log entry 125: DESIGN CHOICE. -/
def LnS.reset : LnS :=
  { timeNs := 0, timeFrac := 0, timeAt := 0, slew := 0, slewLen := 1, rate := 0, state := .off, on := 0, mode := 0, cyc := 0, cycStart := 0, nit := false,
    listenAt := 0, outAt := 0, joinWait := false, attempt := 0, csSent := 0, csStart := 0, integ := none, toSync := none, depth := 0,
    source := 0, ref := 0, refRank := 0, holdover := false, holdCyc := 0, srcSeen := 0, rankCheck := false, samples := [], ofs := 0,
    ofsHist := [], peers := [], delays := [], own := [], rotate := 0, goMode := none, reqNum := 0, reqSent := none, pend := none, queued := none, switchTo := none,
    diverge := none, present := [], modes := [], result := (0, 0, 0), topoAt := none, commit := 0, fresh := 0,
    done := 0, len := [], lock := none, held := none, injLeft := 0, p0 := .reset, p1 := .reset, acted := 0, swapped := [],
    statusSeq := [], timeHi := 0, cycHi := 0, last0 := none, last1 := none }

/-! ### Object channel -/

/-- Where a request came from: the CAN object channel, or a service slot of the lane network. -/
inductive Carrier where
  | can
  | net
  deriving DecidableEq, Repr

/-- The header of an object-protocol message without its status (R287). -/
structure ObjHead where
  service : Nat
  rid : Nat
  index : Nat
  sub : Nat
  client : Nat
  deriving DecidableEq, Repr

/-- A response as it was formed: header, status, data. -/
structure ObjResp where
  head : ObjHead
  status : Nat
  data : List Byte
  deriving DecidableEq, Repr

/-- What a request in progress waits for (R293): the flash work of a write, or, with its data, an earlier request of its client (R290). -/
inductive FlashJob where
  | record (bytes : List Byte)
  | calibration (bytes : List Byte)
  | commit
  | openInstall (size : Nat)
  | verify
  | abort
  | wait (data : List Byte)
  deriving DecidableEq, Repr

/-- A request in progress (R293). -/
structure ReqS where
  head : ObjHead
  carrier : Carrier
  since : Nat
  lastBusy : Nat
  job : FlashJob
  deriving DecidableEq, Repr

/-- An open transfer (R291): its direction, entry, total size, the bytes received or the snapshot, the last request of its client. -/
structure XferS where
  client : Nat
  write : Bool
  index : Nat
  sub : Nat
  size : Nat
  data : List Byte
  last : Nat
  deriving DecidableEq, Repr

/-- A CAN message being assembled from classical parts (R298). -/
structure PartS where
  client : Nat
  next : Nat
  data : List Byte
  at_ : Nat
  deriving DecidableEq, Repr

/-- Object channel (R287 to R300). `windows` holds per client the last 16 identifiers with their cached responses, newest first (R294);
`rx` are received messages whose requests have not been executed, `canTx` and `netTx` the responses waiting on each carrier, `last` the
newest response formed, `wire` the CAN frames of the newest response handed to that controller, each with its identifier and data field (R297,
R298), `canAt` the last time a frame was on the bus (R364). `record` is the selected event-log record of 0x6F00. -/
structure OcS where
  on : Bool
  busOff : Bool
  windows : List (Nat × List (Nat × Option ObjResp))
  inprog : List ReqS
  xfers : List XferS
  part : Option PartS
  rx : List (Carrier × List Byte)
  canTx : List (ObjResp × Nat)
  netTx : List ObjResp
  last : Option ObjResp
  wire : List (Nat × List Byte)
  canAt : Nat
  record : Nat
  deriving DecidableEq, Repr

/-- Log entry 125: DESIGN CHOICE. -/
def OcS.reset : OcS :=
  { on := false, busOff := false, windows := [], inprog := [], xfers := [], part := none, rx := [], canTx := [],
    netTx := [], last := none, wire := [], canAt := 0, record := 0 }

/-! ### 100BASE-T1 port -/

/-- The port. `seqs` are the sequence numbers of the streams sent, `bufs` the blocks being received with the pieces they have (R303), `noneAt`
the time of the last answer that no install is open, `acks` the acknowledgements that wait for the rate limit, each a block with its status,
`sentAt` when the last frames left with their sizes, `wire` the newest frame sent as
bytes. What the outbound streams still have to carry: of the snapshot being sent the next offset and the object, the sequence numbers and
indices of the attic records, the numbers of event-log records. -/
structure EnS where
  link : Bool
  master : Bool
  sqi : Nat
  seqs : List (Nat × Nat)
  bufs : List (Nat × List (Nat × List Byte))
  noneAt : Option Nat
  acks : List (Nat × Nat)
  sentAt : List (Nat × Nat)
  wire : List Byte
  snapOut : Option (Nat × List Byte)
  atticOut : List (Nat × Nat)
  logOut : List Nat
  deriving DecidableEq, Repr

/-- Log entry 125: DESIGN CHOICE. -/
def EnS.reset : EnS :=
  { link := false, master := false, sqi := 0, seqs := [], bufs := [], noneAt := none, acks := [], sentAt := [], wire := [], snapOut := none,
    atticOut := [], logOut := [] }

end Sys2Proof.Machine
end

