-- ==== Sys2Proof/Syntax.lean ====
section
/-! DEFINITION. The commands that the package takes: one constructor per row of the opcode table, in its order. Every command names the lane
it reaches, `l`, and the lane's time at which it does, `t`, in steps of 625 ps; the further operands are what the event brings with it. -/

namespace Sys2Proof

/-- A command. -/
inductive Instr where
  /-- RAIL_LOSS (R41). -/
  | railLoss (l : LaneId) (t : Nat) (r : Fin 5)
  /-- RST_N_LOW (R437). -/
  | rstNLow (l : LaneId) (t : Nat)
  /-- LANE_RESET_RELEASE (R436). -/
  | laneResetRelease (l : LaneId) (t : Nat) (clksel : Bool)
  /-- CELLAR_RESET (R437). -/
  | cellarReset (l : LaneId) (t : Nat)
  /-- RAIL_OUT_OF_WINDOW (R436). -/
  | railOutOfWindow (l : LaneId) (t : Nat) (r : Fin 5)
  /-- TAP_RESET (R437). -/
  | tapReset (l : LaneId) (t : Nat)
  /-- LRESET (R439). -/
  | lreset (l : LaneId) (t : Nat) (v : Word)
  /-- PLL_LOCK (R433). -/
  | pllLock (l : LaneId) (t : Nat)
  /-- PLL_LOCK_TIMEOUT (R433). -/
  | pllLockTimeout (l : LaneId) (t : Nat)
  /-- PLL_LOCK_LOST (R433). -/
  | pllLockLost (l : LaneId) (t : Nat)
  /-- MAIN_CLOCK_STOP (R162). -/
  | mainClockStop (l : LaneId) (t : Nat)
  /-- GUARDIAN_COUNT_WINDOW (R73). -/
  | guardianCountWindow (l : LaneId) (t : Nat) (cnt : Nat)
  /-- RC_COUNT_WINDOW (R434). -/
  | rcCountWindow (l : LaneId) (t : Nat) (cnt : Nat)
  /-- X32_FAIL (R434). -/
  | x32Fail (l : LaneId) (t : Nat)
  /-- SECURE_BOOT (R414). -/
  | secureBoot (l : LaneId) (t : Nat)
  /-- CONFIG_LOAD (R421). -/
  | configLoad (l : LaneId) (t : Nat) (straps : Nat)
  /-- STRAP_READ (R423). -/
  | strapRead (l : LaneId) (t : Nat) (pat : Nat)
  /-- DECISION_TICK (R94). -/
  | decisionTick (l : LaneId) (t : Nat) (xs : List GroupSample)
  /-- DEFERRED_LEG_CHANGE (R154). -/
  | deferredLegChange (l : LaneId) (t : Nat) (g : Fin 16) (k : Fin 4)
  /-- AUTHORITY_TICK_BOUNDARY (R68). -/
  | authorityTickBoundary (l : LaneId) (t : Nat)
  /-- TICK_DEADLINE (R344). -/
  | tickDeadline (l : LaneId) (t : Nat)
  /-- EXCHANGE_TICK (R132). -/
  | exchangeTick (l : LaneId) (t : Nat) (rttN : Nat) (rttP : Nat)
  /-- CARRIER_PERIOD_START (R143). -/
  | carrierPeriodStart (l : LaneId) (t : Nat) (g : Fin 16) (clocks : List Nat) (illegal : Nat)
  /-- GEN_HOLD_END (R167). -/
  | genHoldEnd (l : LaneId) (t : Nat) (g : Fin 16)
  /-- SWITCHING_NODE_EDGE (R156). -/
  | switchingNodeEdge (l : LaneId) (t : Nat) (g : Fin 16) (k : Fin 4) (rising : Bool) (cross : Option Nat) (clocks : List Nat)
  /-- OVERCURRENT_TRIP (R187). -/
  | overcurrentTrip (l : LaneId) (t : Nat) (g : Fin 16) (u : List Nat) (v : List Nat) (w : List Nat)
  /-- EG_OVERCURRENT (R236). -/
  | egOvercurrent (l : LaneId) (t : Nat) (g : Fin 16) (u : List Nat) (v : List Nat) (w : List Nat)
  /-- EG_OVERVOLTAGE (R236). -/
  | egOvervoltage (l : LaneId) (t : Nat) (g : Fin 16) (clocks : List Nat)
  /-- SWITCH_TOKEN_RETURN (R236). -/
  | switchTokenReturn (l : LaneId) (t : Nat) (g : Fin 16) (k : Fin 4)
  /-- CHANNEL_STUCK (R191). -/
  | channelStuck (l : LaneId) (t : Nat) (g : Fin 16) (x : ChannelBits)
  /-- SETTLING_END (R186). -/
  | settlingEnd (l : LaneId) (t : Nat) (g : Fin 16)
  /-- OV_QUALIFIED (R177). -/
  | ovQualified (l : LaneId) (t : Nat) (g : Fin 16) (x : ThresholdBits)
  /-- UNDERVOLTAGE_TRIP (R181). -/
  | undervoltageTrip (l : LaneId) (t : Nat) (x : GroupBits)
  /-- ADC_FRAME (R192). -/
  | adcFrame (l : LaneId) (t : Nat) (fe : List Int) (hk : List Int) (temp : List Int)
  /-- SSI_TRANSFER (R206). -/
  | ssiTransfer (l : LaneId) (t : Nat) (f : Fin 16) (dataHigh : Bool)
  /-- SSI_TRANSFER_DONE (R207). -/
  | ssiTransferDone (l : LaneId) (t : Nat) (f : Fin 16) (word : Nat) (par : Bool) (last : Bool)
  /-- INCREMENTAL_EDGE (R200). -/
  | incrementalEdge (l : LaneId) (t : Nat) (f : Fin 16) (x : IncrLevels) (held : Nat)
  /-- Z_EDGE (R201). -/
  | zEdge (l : LaneId) (t : Nat) (x : ZRise)
  /-- SET_REF (R201). -/
  | setRef (l : LaneId) (t : Nat) (f : Fin 16)
  /-- HALL_CHANGE (R208). -/
  | hallChange (l : LaneId) (t : Nat) (f : Fin 16) (x : HallLevels)
  /-- HALL_INVALID_HOLD (R208). -/
  | hallInvalidHold (l : LaneId) (t : Nat) (f : Fin 16)
  /-- LINE_FAULT (R210). -/
  | lineFault (l : LaneId) (t : Nat) (f : Fin 16) (rcv : Fin 3)
  /-- SPEED_TIMEOUT (R212). -/
  | speedTimeout (l : LaneId) (t : Nat) (f : Fin 16)
  /-- EXCITATION_HALF_PERIOD (R204). -/
  | excitationHalfPeriod (l : LaneId) (t : Nat) (amp : Nat) (limited : Bool)
  /-- POLARITY_TEST (R139). -/
  | polarityTest (l : LaneId) (t : Nat) (g : Fin 16) (lo : List Nat) (hi : List Nat)
  /-- START_FAIL (R139). -/
  | startFail (l : LaneId) (t : Nat) (g : Fin 16)
  /-- POLARITY_WAIT_END (R139). -/
  | polarityWaitEnd (l : LaneId) (t : Nat) (g : Fin 16)
  /-- LOCAL_SOURCE_RETURN (R135). -/
  | localSourceReturn (l : LaneId) (t : Nat) (g : Fin 16) (src : Machine.Source)
  /-- ENCODER_ALIGN (R131). -/
  | encoderAlign (l : LaneId) (t : Nat) (g : Fin 16) (ok : Bool)
  /-- ALIGN_CAPTURE (R131). -/
  | alignCapture (l : LaneId) (t : Nat) (g : Fin 16)
  /-- PEER_STALE (R133). -/
  | peerStale (l : LaneId) (t : Nat) (g : Fin 16) (p : Port)
  /-- VOTE_FRAME_RECEIVE (R238). -/
  | voteFrameReceive (l : LaneId) (t : Nat) (p : Port) (fr : VoteFrame) (ok : Bool)
  /-- ANGLE_FRAME_RECEIVE (R133). -/
  | angleFrameReceive (l : LaneId) (t : Nat) (p : Port) (fr : AngleFrame) (ok : Bool)
  /-- SETPOINT_FRAME_RECEIVE (R75). -/
  | setpointFrameReceive (l : LaneId) (t : Nat) (p : Port) (fr : SetpointFrame) (ok : Bool)
  /-- SHELF_FRAME_RECEIVE (R88). -/
  | shelfFrameReceive (l : LaneId) (t : Nat) (p : Port) (fr : ShelfFrame) (ok : Bool)
  /-- COORDINATION_FRAME_RECEIVE (R28). -/
  | coordinationFrameReceive (l : LaneId) (t : Nat) (p : Port) (fr : CoordFrame) (ok : Bool)
  /-- RENEWAL_RECEIVE (R72). -/
  | renewalReceive (l : LaneId) (t : Nat) (p : Port) (m : KeyMsg) (ok : Bool)
  /-- RENEWAL_ACK_RECEIVE (R70). -/
  | renewalAckReceive (l : LaneId) (t : Nat) (p : Port) (m : KeyMsg) (ok : Bool)
  /-- CLAIM_RECEIVE (R82). -/
  | claimReceive (l : LaneId) (t : Nat) (p : Port) (m : KeyMsg) (ok : Bool)
  /-- CLAIM_ACK_RECEIVE (R82). -/
  | claimAckReceive (l : LaneId) (t : Nat) (p : Port) (m : KeyMsg) (ok : Bool)
  /-- CLAIM_WITHDRAWAL_RECEIVE (R82). -/
  | claimWithdrawalReceive (l : LaneId) (t : Nat) (p : Port) (m : KeyMsg) (ok : Bool)
  /-- RELEASE_RECEIVE (R82). -/
  | releaseReceive (l : LaneId) (t : Nat) (p : Port) (m : KeyMsg) (ok : Bool)
  /-- REVOCATION_RECEIVE (R80). -/
  | revocationReceive (l : LaneId) (t : Nat) (p : Port) (m : KeyMsg) (ok : Bool)
  /-- LINK_SILENCE (R30). -/
  | linkSilence (l : LaneId) (t : Nat) (p : Port)
  /-- LINK_UP (R30). -/
  | linkUp (l : LaneId) (t : Nat) (p : Port)
  /-- LEASE_EXPIRY (R71). -/
  | leaseExpiry (l : LaneId) (t : Nat)
  /-- SILENCE_THRESHOLD (R72). -/
  | silenceThreshold (l : LaneId) (t : Nat)
  /-- INTERREGNUM_TIMEOUT (R69). -/
  | interregnumTimeout (l : LaneId) (t : Nat)
  /-- VOTE_EXPIRY (R84). -/
  | voteExpiry (l : LaneId) (t : Nat) (v : LaneId)
  /-- D2D_FRAME_RECEIVE (R25). -/
  | d2dFrameReceive (l : LaneId) (t : Nat) (field : Bool) (x : D2dFrame)
  /-- D2D_LINK_LOSS (R26). -/
  | d2dLinkLoss (l : LaneId) (t : Nat)
  /-- INPUT_SAMPLE (R223). -/
  | inputSample (l : LaneId) (t : Nat) (raw : Nat)
  /-- OFF_PULSE_START (R221). -/
  | offPulseStart (l : LaneId) (t : Nat) (j : Fin 4)
  /-- TEST_SAMPLE (R225). -/
  | testSample (l : LaneId) (t : Nat) (j : Fin 4) (raw : Nat)
  /-- TEST_CYCLE_END (R226). -/
  | testCycleEnd (l : LaneId) (t : Nat)
  /-- SUPPLY_LIMIT_TRIP (R222). -/
  | supplyLimitTrip (l : LaneId) (t : Nat) (supply : Fin 8)
  /-- SUPPLY_RETRY (R222). -/
  | supplyRetry (l : LaneId) (t : Nat) (supply : Fin 8) (limited : Bool)
  /-- SUPPLY_ENABLE_CLEAR (R222). -/
  | supplyEnableClear (l : LaneId) (t : Nat) (supply : Fin 8)
  /-- STANDSTILL_CONFIRM (R54). -/
  | standstillConfirm (l : LaneId) (t : Nat)
  /-- STOP_TIME_LIMIT (R54). -/
  | stopTimeLimit (l : LaneId) (t : Nat)
  /-- STEERING_HOLD_END (R54). -/
  | steeringHoldEnd (l : LaneId) (t : Nat)
  /-- STOP_END (R54). -/
  | stopEnd (l : LaneId) (t : Nat)
  /-- BENCH (R41). -/
  | bench (l : LaneId) (t : Nat)
  /-- READMIT (R41). -/
  | readmit (l : LaneId) (t : Nat)
  /-- RELEASE (R81). -/
  | release (l : LaneId) (t : Nat)
  /-- LG_COMMIT (R146). -/
  | lgCommit (l : LaneId) (t : Nat) (g : Fin 16)
  /-- TRIP_CLR (R166). -/
  | tripClr (l : LaneId) (t : Nat) (g : Fin 16)
  /-- DAC_ROUTE (R195). -/
  | dacRoute (l : LaneId) (t : Nat) (v : Word)
  /-- LN_CYCLE_START (R265). -/
  | lnCycleStart (l : LaneId) (t : Nat)
  /-- LN_LOCK_POINT (R253). -/
  | lnLockPoint (l : LaneId) (t : Nat) (slot : Fin 64)
  /-- LN_ACTION_POINT (R251). -/
  | lnActionPoint (l : LaneId) (t : Nat) (slot : Fin 64)
  /-- LN_FRAME_RECEIVE (R254). -/
  | lnFrameReceive (l : LaneId) (t : Nat) (p : Fin 2) (f : LnFrame)
  /-- NETWORK_IDLE_START (R248). -/
  | networkIdleStart (l : LaneId) (t : Nat)
  /-- PORT_LOST (R256). -/
  | portLost (l : LaneId) (t : Nat) (p : Fin 2)
  /-- PORT_BACK (R256). -/
  | portBack (l : LaneId) (t : Nat) (p : Fin 2)
  /-- GUARDIAN_STROBE (R260). -/
  | guardianStrobe (l : LaneId) (t : Nat) (p : Fin 2) (count : Nat)
  /-- STROBE_MISSING (R260). -/
  | strobeMissing (l : LaneId) (t : Nat) (x : PortCount)
  /-- GUARDIAN_VIOLATION (R261). -/
  | guardianViolation (l : LaneId) (t : Nat) (x : PortSpan)
  /-- COLLISION (R243). -/
  | collision (l : LaneId) (t : Nat) (p : Fin 2)
  /-- COLD_START_COLLISION (R271). -/
  | coldStartCollision (l : LaneId) (t : Nat)
  /-- LISTEN_TIMEOUT (R269). -/
  | listenTimeout (l : LaneId) (t : Nat)
  /-- COLD_START_DONE (R268). -/
  | coldStartDone (l : LaneId) (t : Nat)
  /-- INTEGRATE_TIMEOUT (R268). -/
  | integrateTimeout (l : LaneId) (t : Nat)
  /-- SOURCE_LOSS (R279). -/
  | sourceLoss (l : LaneId) (t : Nat)
  /-- HOLDOVER_LIMIT (R279). -/
  | holdoverLimit (l : LaneId) (t : Nat)
  /-- TOPOLOGY_CHECK (R286). -/
  | topologyCheck (l : LaneId) (t : Nat)
  /-- PORT_ENABLE (R268). -/
  | portEnable (l : LaneId) (t : Nat) (p : Fin 2)
  /-- REOPEN (R263). -/
  | reopen (l : LaneId) (t : Nat) (mask : Nat)
  /-- LN_TXCOMMIT (R253). -/
  | lnTxcommit (l : LaneId) (t : Nat) (hi : Bool) (v : Word)
  /-- LN_RXLOCK (R255). -/
  | lnRxlock (l : LaneId) (t : Nat) (v : Word)
  /-- LN_INJ_ARM (R264). -/
  | lnInjArm (l : LaneId) (t : Nat) (v : Word)
  /-- LN_MREQ_GO (R281). -/
  | lnMreqGo (l : LaneId) (t : Nat) (v : Word)
  /-- LN_TIME_READ (R265). -/
  | lnTimeRead (l : LaneId) (t : Nat) (cyc : Bool)
  /-- CAN_FRAME_RECEIVE (R297). -/
  | canFrameReceive (l : LaneId) (t : Nat) (ext : Bool) (remote : Bool) (id : Nat) (data : List Byte)
  /-- CAN_PART_TIMEOUT (R298). -/
  | canPartTimeout (l : LaneId) (t : Nat)
  /-- RETX_BUDGET_EXPIRY (R299). -/
  | retxBudgetExpiry (l : LaneId) (t : Nat) (client : Nat) (rid : Nat)
  /-- BUS_OFF (R296). -/
  | busOff (l : LaneId) (t : Nat)
  /-- BUS_OFF_RECOVERY (R296). -/
  | busOffRecovery (l : LaneId) (t : Nat)
  /-- READ (R288). -/
  | read (l : LaneId) (t : Nat) (via : Machine.Carrier) (client : Nat) (rid : Nat) (index : Nat) (sub : Nat)
  /-- WRITE (R288). -/
  | write (l : LaneId) (t : Nat) (via : Machine.Carrier) (client : Nat) (rid : Nat) (index : Nat) (sub : Nat) (data : List Byte)
  /-- READ_SEG (R288). -/
  | readSeg (l : LaneId) (t : Nat) (via : Machine.Carrier) (client : Nat) (rid : Nat) (index : Nat) (sub : Nat) (offset : Nat)
  /-- WRITE_INIT (R291). -/
  | writeInit (l : LaneId) (t : Nat) (via : Machine.Carrier) (client : Nat) (rid : Nat) (index : Nat) (sub : Nat) (size : Nat)
  /-- WRITE_SEG (R292). -/
  | writeSeg (l : LaneId) (t : Nat) (via : Machine.Carrier) (client : Nat) (rid : Nat) (index : Nat) (sub : Nat) (offset : Nat) (data : List Byte)
  /-- WRITE_END (R292). -/
  | writeEnd (l : LaneId) (t : Nat) (via : Machine.Carrier) (client : Nat) (rid : Nat) (index : Nat) (sub : Nat) (size : Nat) (crc : Word)
  /-- ABORT (R291). -/
  | abort (l : LaneId) (t : Nat) (via : Machine.Carrier) (client : Nat) (rid : Nat) (index : Nat) (sub : Nat)
  /-- BUSY_INTERVAL (R293). -/
  | busyInterval (l : LaneId) (t : Nat) (client : Nat) (rid : Nat)
  /-- FLASH_WORK_DONE (R293). -/
  | flashWorkDone (l : LaneId) (t : Nat) (client : Nat) (rid : Nat)
  /-- XFER_TIMEOUT (R291). -/
  | xferTimeout (l : LaneId) (t : Nat) (client : Nat)
  /-- SET_PROFILE (R61). -/
  | setProfile (l : LaneId) (t : Nat) (v : Nat)
  /-- START_COMMAND (R47). -/
  | startCommand (l : LaneId) (t : Nat)
  /-- STOP_COMMAND (R50). -/
  | stopCommand (l : LaneId) (t : Nat)
  /-- UNLOCK_CHALLENGE (R323). -/
  | unlockChallenge (l : LaneId) (t : Nat)
  /-- UNLOCK_TOKEN (R415). -/
  | unlockToken (l : LaneId) (t : Nat) (token : List Byte)
  /-- ATTESTATION_NONCE (R416). -/
  | attestationNonce (l : LaneId) (t : Nat) (nonce : List Byte)
  /-- ATTEST_DONE (R417). -/
  | attestDone (l : LaneId) (t : Nat)
  /-- CONFIG_COMMIT (R422). -/
  | configCommit (l : LaneId) (t : Nat) (ok : Bool)
  /-- CONFIG_COMMIT_COMPLETE (R422). -/
  | configCommitComplete (l : LaneId) (t : Nat)
  /-- INSTALL_OPEN (R426). -/
  | installOpen (l : LaneId) (t : Nat) (size : Nat)
  /-- INSTALL_VERIFY (R427). -/
  | installVerify (l : LaneId) (t : Nat)
  /-- VERIFY_DONE (R427). -/
  | verifyDone (l : LaneId) (t : Nat)
  /-- INSTALL_ABORT (R429). -/
  | installAbort (l : LaneId) (t : Nat) (cmd : Bool)
  /-- TRIAL_FAIL (R428). -/
  | trialFail (l : LaneId) (t : Nat)
  /-- IMAGE_FRAME_RECEIVE (R303). -/
  | imageFrameReceive (l : LaneId) (t : Nat) (dst : List Byte) (src : List Byte) (etherType : List Byte) (head : List Byte) (data : List Byte) (fcs : List Byte)
  /-- IMAGE_BLOCK_STORED (R303). -/
  | imageBlockStored (l : LaneId) (t : Nat) (b : Nat) (ok : Bool)
  /-- EN_LINK_CHANGE (R302). -/
  | enLinkChange (l : LaneId) (t : Nat) (up : Bool) (sqi : Fin 8)
  /-- STREAM_FRAME_SEND (R302). -/
  | streamFrameSend (l : LaneId) (t : Nat) (stream : Nat)
  /-- CF_ERASE (R431). -/
  | cfErase (l : LaneId) (t : Nat)
  /-- CF_PROGRAM (R431). -/
  | cfProgram (l : LaneId) (t : Nat)
  /-- CF_OP_DONE (R431). -/
  | cfOpDone (l : LaneId) (t : Nat)
  /-- SERVICE_TIME_EXPIRY (R411). -/
  | serviceTimeExpiry (l : LaneId) (t : Nat)
  /-- RETIRE (R410). -/
  | retire (l : LaneId) (t : Nat)
  /-- FACTORY_PROVISION (R410). -/
  | factoryProvision (l : LaneId) (t : Nat)
  /-- FAULT_REPORT (R350). -/
  | faultReport (l : LaneId) (t : Nat) (source : Nat) (unit : Nat) (inj : Bool)
  /-- ERR_OUT_PULSE_END (R353). -/
  | errOutPulseEnd (l : LaneId) (t : Nat)
  /-- QUIET_PERIOD_END (R355). -/
  | quietPeriodEnd (l : LaneId) (t : Nat) (source : Nat)
  /-- LOG_RECORD_WRITE (R362). -/
  | logRecordWrite (l : LaneId) (t : Nat)
  /-- FC_ERROUT_WRITE (R353). -/
  | fcErroutWrite (l : LaneId) (t : Nat) (v : Word)
  /-- FC_INJ_ARM (R358). -/
  | fcInjArm (l : LaneId) (t : Nat) (v : Word)
  /-- FC_XINJ_ARM (R359). -/
  | fcXinjArm (l : LaneId) (t : Nat) (v : Word)
  /-- FC_TRAP_WRITE (R360). -/
  | fcTrapWrite (l : LaneId) (t : Nat) (e : Fin 8) (v : Word)
  /-- PAIR_MISMATCH (R331). -/
  | pairMismatch (l : LaneId) (t : Nat)
  /-- COMPARE_TIMEOUT (R330). -/
  | compareTimeout (l : LaneId) (t : Nat) (cycles : Nat)
  /-- WATCHDOG_EXPIRY (R350). -/
  | watchdogExpiry (l : LaneId) (t : Nat)
  /-- INTERRUPT_TAKE (R333). -/
  | interruptTake (l : LaneId) (t : Nat) (n : Nat)
  /-- IC_CLAIM (R338). -/
  | icClaim (l : LaneId) (t : Nat) (yard : Bool)
  /-- IC_COMPLETE (R338). -/
  | icComplete (l : LaneId) (t : Nat) (yard : Bool) (source : Nat)
  /-- IC_VECTOR_READ (R338). -/
  | icVectorRead (l : LaneId) (t : Nat)
  /-- IC_BUDGET_START (R345). -/
  | icBudgetStart (l : LaneId) (t : Nat) (cycles : Nat)
  /-- BUDGET_EXPIRY (R345). -/
  | budgetExpiry (l : LaneId) (t : Nat)
  /-- SWSET (R337). -/
  | swset (l : LaneId) (t : Nat)
  /-- DOORBELL_H (R349). -/
  | doorbellH (l : LaneId) (t : Nat)
  /-- DOORBELL_Y (R337). -/
  | doorbellY (l : LaneId) (t : Nat)
  /-- YRESET (R349). -/
  | yreset (l : LaneId) (t : Nat)
  /-- YARD_FIREWALL_REFUSE (R348). -/
  | yardFirewallRefuse (l : LaneId) (t : Nat) (a : Nat) (write : Bool)
  /-- FIREWALL_STORM (R350). -/
  | firewallStorm (l : LaneId) (t : Nat)
  /-- TICK_DONE (R347). -/
  | tickDone (l : LaneId) (t : Nat)
  /-- LOG (R347). -/
  | log (l : LaneId) (t : Nat) (call : AppCall) (value : Word)
  /-- TALLY (R347). -/
  | tally (l : LaneId) (t : Nat) (b : Nat) (idx : Nat)
  /-- MAIL (R347). -/
  | mail (l : LaneId) (t : Nat) (addr : Nat) (len : Nat)
  /-- SLICE_START (R368). -/
  | sliceStart (l : LaneId) (t : Nat) (len : Nat)
  /-- SLICE_END (R364). -/
  | sliceEnd (l : LaneId) (t : Nat) (pass : Bool) (last : Bool) (sig : Word)
  /-- TOKEN_CREATE (R369). -/
  | tokenCreate (l : LaneId) (t : Nat)
  /-- PERIODIC_RUN_START (R371). -/
  | periodicRunStart (l : LaneId) (t : Nat)
  /-- DEEP (R371). -/
  | deep (l : LaneId) (t : Nat)
  /-- ST_ABORT (R371). -/
  | stAbort (l : LaneId) (t : Nat)
  /-- STEP (R374). -/
  | step (l : LaneId) (t : Nat)
  /-- SLEEP_HOLD (R390). -/
  | sleepHold (l : LaneId) (t : Nat)
  /-- SLEEP_CELLAR (R390). -/
  | sleepCellar (l : LaneId) (t : Nat)
  /-- PREPARE_ANSWER (R390). -/
  | prepareAnswer (l : LaneId) (t : Nat) (streaming : Bool)
  /-- PREPARE_TIMEOUT (R391). -/
  | prepareTimeout (l : LaneId) (t : Nat)
  /-- DRAIN_EXPIRY (R393). -/
  | drainExpiry (l : LaneId) (t : Nat) (drained : Nat) (aborted : List Nat)
  /-- LARDER_SAVE_DONE (R394). -/
  | larderSaveDone (l : LaneId) (t : Nat)
  /-- FINAL_WINDOW_END (R396). -/
  | finalWindowEnd (l : LaneId) (t : Nat)
  /-- WAKE_SOURCE (R397). -/
  | wakeSource (l : LaneId) (t : Nat) (src : Nat)
  /-- WAKE_TIMER (R397). -/
  | wakeTimer (l : LaneId) (t : Nat)
  /-- WAKE_COMPLETE (R398). -/
  | wakeComplete (l : LaneId) (t : Nat) (saveOk : Bool) (slotOk : Bool) (straps : Nat)
  /-- DOZE (R388). -/
  | doze (l : LaneId) (t : Nat) (on : Bool)
  /-- PM_PADREL (R395). -/
  | pmPadrel (l : LaneId) (t : Nat) (v : Word)
  /-- SB_ADDRESS_MATCH (R407). -/
  | sbAddressMatch (l : LaneId) (t : Nat) (addr : Nat) (written : Nat)
  /-- SB_READ (R407). -/
  | sbRead (l : LaneId) (t : Nat) (n : Nat)
  /-- CELLAR_OVERTEMP (R405). -/
  | cellarOvertemp (l : LaneId) (t : Nat)
  /-- SHUT_FLAG_CLEAR (R405). -/
  | shutFlagClear (l : LaneId) (t : Nat)
  /-- TALLY_WINDOW_END (R376). -/
  | tallyWindowEnd (l : LaneId) (t : Nat) (counts : List (Nat × Nat))
  /-- SNAPSHOT_READY (R377). -/
  | snapshotReady (l : LaneId) (t : Nat)
  /-- CLEAR_WRAP (R378). -/
  | clearWrap (l : LaneId) (t : Nat)
  /-- ATTIC_CLEAR (R383). -/
  | atticClear (l : LaneId) (t : Nat)
  /-- ATTIC_SAMPLE (R382). -/
  | atticSample (l : LaneId) (t : Nat) (code : Nat) (pc : Word) (insn : Word) (data : Word) (lat : Nat) (user : Bool) (busy : Bool)
  /-- TL_PEEK_READ (R375). -/
  | tlPeekRead (l : LaneId) (t : Nat)
  /-- HPM_COUNTER_WRITE (R381). -/
  | hpmCounterWrite (l : LaneId) (t : Nat) (csr : Nat) (v : Word)
  /-- REGISTER_WRITE (R11). -/
  | registerWrite (l : LaneId) (t : Nat) (a : Nat) (x : StoreData)
  /-- RST_N_RELEASE (R41). -/
  | rstNRelease (l : LaneId) (t : Nat) (clksel : Bool)
  /-- RAIL_RETURN (R436). -/
  | railReturn (l : LaneId) (t : Nat) (r : Fin 5)
  /-- TAP_UPDATE (R164). -/
  | tapUpdate (l : LaneId) (t : Nat) (instr : Option TapInstr) (bsr : Option (List Bool))
  /-- SUPPLY_CURRENT_LIMIT (R222). -/
  | supplyCurrentLimit (l : LaneId) (t : Nat) (supply : Fin 8) (inLimit : Bool)
  deriving DecidableEq, Repr

end Sys2Proof
end

