-- ==== Sys2Proof/Decode.lean ====
section
/-! DEFINITION. Table words: spec/opcode_table.json gives its rows no fields, so that no word spells a command. -/

namespace Sys2Proof

/-- The command that a word of the table spells: none. (Log entry 6: DEDUCED) -/
def decodeTableWord (_nbits _w : Nat) : Option Instr := none

end Sys2Proof
end

