-- ==== Sys2Proof/Machine/Cmac.lean ====
section
/-! DEFINITION. AES-128 on lists of bytes, both ways, with the message authentication code of R247 (NIST SP 800-38B) and the key unwrap of R420 (NIST
SP 800-38F) over it. -/

namespace Sys2Proof.Machine

/-- The substitution box in eight words of 32 bytes, byte 0 of each the least significant. -/
def sboxWords : List Nat :=
  [0xc072a49cafa2d4adf04759fa7dc982ca76abd7fe2b670130c56f6bf27b777c63,
   0x75b227ebe28012079a059618c323c7041531d871f1e5a534ccf73f362693fdb7,
   0xcf584c4a39becb6a5bb1fc20ed00d153842fe329b3d63b52a05a6e1b1a2c8309,
   0xd2f3ff1021dab6bcf5389d928f40a351a89f3c507f02f94585334d43fbaaefd0,
   0xdb0b5ede14b8ee4688902a22dc4f816073195d643d7ea7c41744975fec130ccd,
   0x08ae7a65eaf4566ca94ed58d6d37c8e779e4959162acd3c25c2406490a3a32e0,
   0x9e1dc186b95735610ef6034866b53e708a8bbd4b1f74dde8c6b4a61c2e2578ba,
   0x16bb54b00f2d99416842e6bf0d89a18cdf2855cee9871e9b948ed9691198f8e1]

/-- The substitution of one byte. -/
def sbox (b : Nat) : Nat := (sboxWords.getD (b / 32) 0 >>> (8 * (b % 32))) % 256

/-- The inverse box, packed in the same way. -/
def sboxInvWords : List Nat :=
  [0xcbe9dec444438e3487ff2f9b8239e37cfbd7f3819ea340bf38a53630d56a0952,
   0x25d18b6d49a25b76b224d92866a12e084ec3fa420b954cee3d23c2a632947b54,
   0x849d8da75746155edab9edfd5048706c92b6655dcc5ca4d41698688664f6f872,
   0x6b8a130103bdafc1020f3fca8f1e2cd00645b3b80558e4f70ad3bc8c00abd890,
   0x6edf751ce837f9e28535ade72274ac9673e6b4f0cecff297eadc674f4111913a,
   0xf45acd78fec0db9a2079d2c64b3e56fc1bbe18aa0e62b76f89c5291d711af147,
   0xef9cc9939f7ae52d0d4ab519a97f51605fec8027591012b131c7078833a8dd1f,
   0x7d0c2155631469e126d677ba7e042b17619953833cbbebc8b0f52aae4d3be0a0]

/-- The inverse substitution of one byte. -/
def sboxInv (b : Nat) : Nat := (sboxInvWords.getD (b / 32) 0 >>> (8 * (b % 32))) % 256

/-- Two strings of bytes added bit by bit. -/
def xorBytes (a b : List Nat) : List Nat := List.zipWith (· ^^^ ·) a b

/-- A byte times x in the field of the cipher. -/
def xtime (b : Nat) : Nat := if b < 128 then 2 * b else (2 * b) ^^^ 0x11B

/-- The next round key; `c` is the round's constant. -/
def nextKey (c : Nat) (k : List Nat) : List Nat :=
  let t := [sbox (k.getD 13 0) ^^^ c, sbox (k.getD 14 0), sbox (k.getD 15 0), sbox (k.getD 12 0)]
  let w0 := xorBytes (k.take 4) t
  let w1 := xorBytes ((k.drop 4).take 4) w0
  let w2 := xorBytes ((k.drop 8).take 4) w1
  w0 ++ w1 ++ w2 ++ xorBytes ((k.drop 12).take 4) w2

/-- The bytes substituted and the rows shifted. -/
def subShift (s : List Nat) : List Nat := (List.range 16).map (fun i => sbox (s.getD ((5 * i) % 16) 0))

/-- One column mixed. -/
def mixColumn (a b c d : Nat) : List Nat :=
  let t := a ^^^ b ^^^ c ^^^ d
  [a ^^^ t ^^^ xtime (a ^^^ b), b ^^^ t ^^^ xtime (b ^^^ c), c ^^^ t ^^^ xtime (c ^^^ d), d ^^^ t ^^^ xtime (d ^^^ a)]

/-- The four columns mixed. -/
def mixColumns : List Nat → List Nat
  | a :: b :: c :: d :: r => mixColumn a b c d ++ mixColumns r
  | _ => []

/-- The rounds with the constants that are left: the last one mixes no columns. -/
def aesRounds : List Nat → List Nat → List Nat → List Nat
  | [], _, s => s
  | [c], k, s => xorBytes (subShift s) (nextKey c k)
  | c :: cs, k, s => aesRounds cs (nextKey c k) (xorBytes (mixColumns (subShift s)) (nextKey c k))

/-- AES-128 of one block of 16 bytes. -/
def aes (k s : List Nat) : List Nat := aesRounds [1, 2, 4, 8, 16, 32, 64, 128, 0x1B, 0x36] k (xorBytes s k)

/-- The round keys from the last one back to the key itself. -/
def keysBack (k : List Nat) (cs : List Nat) : List (List Nat) :=
  cs.foldl (fun (ks : List (List Nat)) c => nextKey c (ks.headD []) :: ks) [k]

/-- The rows shifted back and the bytes substituted back. -/
def subShiftInv (s : List Nat) : List Nat := (List.range 16).map (fun i => sboxInv (s.getD ((13 * i) % 16) 0))

/-- The four columns mixed back: each is first brought to the form that `mixColumn` turns into the inverse. -/
def mixColumnsInv : List Nat → List Nat
  | a :: b :: c :: d :: r =>
    let u := xtime (xtime (a ^^^ c))
    let v := xtime (xtime (b ^^^ d))
    mixColumn (a ^^^ u) (b ^^^ v) (c ^^^ u) (d ^^^ v) ++ mixColumnsInv r
  | _ => []

/-- The rounds undone with the round keys that are left: the last one mixes no columns. -/
def aesRoundsInv : List (List Nat) → List Nat → List Nat
  | [], s => s
  | [k], s => xorBytes (subShiftInv s) k
  | k :: ks, s => aesRoundsInv ks (mixColumnsInv (xorBytes (subShiftInv s) k))

/-- The inverse of AES-128 on one block. -/
def aesInv (k s : List Nat) : List Nat :=
  match keysBack k [1, 2, 4, 8, 16, 32, 64, 128, 0x1B, 0x36] with
  | l :: ks => aesRoundsInv ks (xorBytes s l)
  | [] => s

/-- A block as a number, its first byte the highest, and back. -/
def beNat (bs : List Nat) : Nat := bs.foldl (fun n b => 256 * n + b) 0
def beList (n : Nat) : List Nat := (List.range 16).map (fun i => n >>> (8 * (15 - i)) % 256)

/-- The doubling of SP 800-38B. -/
def cmacDouble (x : Nat) : Nat := if x < 2 ^ 127 then 2 * x else (2 * x) % 2 ^ 128 ^^^ 0x87

/-- The chain over the blocks of a message: the last one takes the first subkey where it is full, else its padding and the second. -/
def cmacBlocks (k : List Nat) (k1 k2 : Nat) : Nat → List Nat → List Nat → List Nat
  | 0, x, m => aes k (xorBytes x (if m.length = 16 then xorBytes m (beList k1)
      else xorBytes (m ++ [0x80] ++ List.replicate (15 - m.length) 0) (beList k2)))
  | n + 1, x, m => cmacBlocks k k1 k2 n (aes k (xorBytes x (m.take 16))) (m.drop 16)

/-- The AES-128 CMAC of a message, 16 bytes. -/
def aesCmac (key msg : List Byte) : List Byte :=
  let k := (List.range 16).map (fun i => (key.getD i 0).toNat)
  let k1 := cmacDouble (beNat (aes k (List.replicate 16 0)))
  (cmacBlocks k k1 (cmacDouble k1) ((msg.length - 1) / 16) (List.replicate 16 0) (msg.map (·.toNat))).map (BitVec.ofNat 8)

/-- One step of the unwrap of SP 800-38F over two halves: the first half with the step's number and the second half of the key, taken back. -/
def unwrapStep (k : List Nat) (x : List Nat × List Nat × List Nat) (t : Nat) : List Nat × List Nat × List Nat :=
  let y := aesInv k (xorBytes x.1 (List.replicate 7 0 ++ [t]) ++ (if t % 2 = 0 then x.2.2 else x.2.1))
  if t % 2 = 0 then (y.take 8, x.2.1, y.drop 8) else (y.take 8, y.drop 8, x.2.2)

/-- A key of 16 bytes unwrapped from 24: none where the check value does not come out. -/
def keyUnwrap (key wrapped : List Byte) : Option (List Byte) :=
  let k := (List.range 16).map (fun i => (key.getD i 0).toNat)
  let w := (List.range 24).map (fun i => (wrapped.getD i 0).toNat)
  let r := [12, 11, 10, 9, 8, 7, 6, 5, 4, 3, 2, 1].foldl (unwrapStep k) (w.take 8, (w.drop 8).take 8, w.drop 16)
  if r.1 = List.replicate 8 0xA6 then some ((r.2.1 ++ r.2.2).map (BitVec.ofNat 8)) else none

end Sys2Proof.Machine
end

