-- ==== Sys2Proof/Machine/BlocksCore.lean ====
section
/-! DEFINITION. The state of a lane's core that stands behind its registers: lane state, key and votes, cross-lane and die-to-die
links, controlled stop, configuration working values, fault hub, resets and clocks, safety inputs and supplies, as plain data. -/

namespace Sys2Proof.Machine

/-- The lane states of R40, coded as KY_STATUS.LANE_STATE. -/
inductive LaneState where
  | off
  | booting
  | bench
  | shadow
  | service
  | withdrawn
  deriving DecidableEq, Repr

def LaneState.code : LaneState → Nat
  | .off => 0
  | .booting => 1
  | .bench => 2
  | .shadow => 3
  | .service => 4
  | .withdrawn => 5

/-- The causes of a withdrawal without a fault source (R357), coded as FC_WDR.CAUSE. -/
inductive WdrCause where
  | vote
  | interregnum
  | links
  deriving DecidableEq, Repr

def WdrCause.code : WdrCause → Nat
  | .vote => 1
  | .interregnum => 2
  | .links => 3

/-- The causes of a controlled stop, coded as 0x3003 sub-index 2 (R316). -/
inductive StopCause where
  | none
  | single
  | liveStars
  | hostLoss
  | stopInput
  | hostCommand
  | disagreement
  deriving DecidableEq, Repr

def StopCause.code : StopCause → Nat
  | .none => 0
  | .single => 1
  | .liveStars => 2
  | .hostLoss => 3
  | .stopInput => 4
  | .hostCommand => 5
  | .disagreement => 6

/-- One cross-lane link as this lane sees it (R30, R85). `valid` counts valid frames toward coming up; `crcInj` says that an injection failed a
frame of the run of CRC failures (R358). -/
structure LinkS where
  up : Bool
  declared : Bool
  remote : Bool
  declAt : Nat
  crcRun : Nat
  crcInj : Bool
  valid : Nat
  lastValid : Nat
  deriving DecidableEq, Repr

/-- Log entry 125: DESIGN CHOICE. -/
def LinkS.reset : LinkS :=
  { up := false, declared := false, remote := false, declAt := 0, crcRun := 0, crcInj := false, valid := 0, lastValid := 0 }

/-- Cross-lane block: the two links of this lane and what is known of the link between its siblings; coordination frames;
`sentN` and `sentP` the frames sent in the last 50 µs with their sizes (CX_LOAD); `keyAt` the times of the key-message frames of the last
50 µs, `keyTick` the kinds sent in this tick, `keyWait` the key messages that wait (R465). -/
structure CxS where
  n : LinkS
  p : LinkS
  farDown : Bool
  farAt : Nat
  seq : Nat
  coordN : Option CoordFrame
  coordP : Option CoordFrame
  recN : List (Nat × CoordFrame)
  recP : List (Nat × CoordFrame)
  sentN : List (Nat × Nat)
  sentP : List (Nat × Nat)
  keyAt : List Nat
  keyTick : List Nat
  keyWait : List KeyMsg
  angNumN : Option Nat
  angNumP : Option Nat
  exNum : Nat
  deriving DecidableEq, Repr

/-- Log entry 125: DESIGN CHOICE. -/
def CxS.reset : CxS :=
  { n := .reset, p := .reset, farDown := false, farAt := 0, seq := 0, coordN := none, coordP := none, recN := [],
    recP := [], sentN := [], sentP := [], keyAt := [], keyTick := [], keyWait := [], angNumN := none, angNumP := none, exNum := 0 }

/-- The setpoints of one lane for one tick (R66): torque demands and release requests of the sixteen actuators. -/
structure Setpoints where
  torque : List Word
  release : Nat
  deriving DecidableEq, Repr

def Setpoints.zero : Setpoints := { torque := List.replicate 16 0, release := 0 }

/-- A claim on the key: who claims, the epoch claimed, when it was sent, and who has acknowledged. -/
structure ClaimS where
  claimant : LaneId
  epoch : Nat
  at_ : Nat
  acks : List LaneId
  deriving DecidableEq, Repr

/-- A vote frame as it was accepted on a port (R238): what was taken of it, when it arrived, and whether its sender has been in Service since;
`before` are the release bits and the arrival of the one that it replaced, while those counted (R239). -/
structure VoteRx where
  frame : VoteFrame
  arrival : Nat
  inService : Bool
  before : Option (Nat × Nat)
  deriving DecidableEq, Repr

/-- Lane state, key, lease, claims, votes and comparison (R40 to R92). `shelf` is the shelf state that the lane works with, `shelfOwn` what it
has computed for the tick that runs (R89); a word that is not listed is 0. `hostWord` and `hostProfile` are 0x3020 and 0x3011 as the process data brought
them last, `pdNum` the number taken last from each client, `hostStill` the report of standstill in the newest frame accepted (R48).
(Log entry 131: DEDUCED) -/
structure KyS where
  state : LaneState
  level : Nat
  profile : Nat
  profileReq : Option Nat
  holder : Option LaneId
  epoch : Nat
  lastHolder : Option LaneId
  renewal : Nat
  renewals : List (Nat × Nat)
  acks : List (Nat × LaneId)
  lease : Option Nat
  silence : Option Nat
  revoked : Option Nat
  revocations : List LaneId
  claim : Option ClaimS
  acked : Option ClaimS
  released : Bool
  interSince : Nat
  cast : List (LaneId × Nat)
  sibN : Nat
  sibP : Nat
  voteN : Option VoteRx
  voteP : Option VoteRx
  voteSeq : Nat
  ownVote : Nat
  vtNext : Bool
  vtPrev : Bool
  tick : Nat
  boundary : Nat
  serviceAt : Nat
  own : Setpoints
  spN : Option SetpointFrame
  spP : Option SetpointFrame
  agreeN : Option Bool
  agreeP : Option Bool
  applied : Setpoints
  runRow : Nat
  run : Nat
  dualRun : Nat
  shadowRun : Nat
  shadowDone : Bool
  shelf : List Word
  shelfOwn : List Word
  shelfRx : Option ShelfFrame
  shelfSeen : Bool
  shadowShelf : Bool
  stopSeen : Bool
  benchReq : Bool
  readmitReq : Bool
  startCmd : Bool
  startEdge : List Nat
  stopCmd : Bool
  hostWord : Nat
  hostProfile : Nat
  hostStill : Bool
  pdNum : List (Option Nat)
  profEdge : List Nat
  pd : List (Nat × Nat × Nat × List (Nat × Word))
  lastPd : Option Nat
  delivering : Bool
  hostLost : Bool
  latchedPos : List Int
  latchedValid : Nat
  agreedPos : List Int
  agreedSpeed : List Rat
  deriving DecidableEq, Repr

/-- Log entry 125: DESIGN CHOICE. -/
def KyS.reset : KyS :=
  { state := .off, level := 0, profile := 0, profileReq := none, holder := none, epoch := 0, lastHolder := none, renewal := 0,
    renewals := [], acks := [], lease := none, silence := none, revoked := none, revocations := [], claim := none,
    acked := none, released := false, interSince := 0, cast := [], sibN := 0, sibP := 0, voteN := none, voteP := none, voteSeq := 0, ownVote := 0,
    vtNext := false, vtPrev := false, tick := 0, boundary := 0, serviceAt := 0, own := .zero, spN := none, spP := none,
    agreeN := none, agreeP := none, applied := .zero, runRow := 0, run := 0, dualRun := 0, shadowRun := 0, shadowDone := false,
    shelf := [], shelfOwn := [], shelfRx := none, shelfSeen := false, shadowShelf := false, stopSeen := false, benchReq := false, readmitReq := false,
    startCmd := false, startEdge := [0, 0, 0, 0], stopCmd := false, hostWord := 0, hostProfile := 0, hostStill := false, pdNum := [none, none, none, none], profEdge := [0, 0, 0, 0], pd := [], lastPd := none, delivering := false, hostLost := false,
    latchedPos := List.replicate 16 0, latchedValid := 0,
    agreedPos := List.replicate 16 0, agreedSpeed := List.replicate 16 0 }

/-- Controlled stop and the hold of the brakes (R48 to R54). `causes` are the causes that stood at the last boundary, a bit each by its
code and its place; `brake0` the brake demands in use when the stop began. -/
structure StopS where
  active : Bool
  cause : StopCause
  causes : Nat
  began : Nat
  still : Option Nat
  speedHist : List Rat
  speed : Rat
  brake0 : List Rat
  brake : List Rat
  limitMet : Bool
  confirmed : Option Nat
  ramp : Option Nat
  released : Bool
  startPos : List Int
  held : Bool
  standCond : Bool
  ownStill : Option Nat
  deriving DecidableEq, Repr

/-- Log entry 125: DESIGN CHOICE. -/
def StopS.reset : StopS :=
  { active := false, cause := .none, causes := 0, began := 0, still := none, speedHist := [], speed := 0, brake0 := List.replicate 16 0, brake := List.replicate 16 0,
    limitMet := false, confirmed := none, ramp := none, released := false, startPos := List.replicate 16 0, held := true,
    standCond := false, ownStill := none }

/-- The configuration working values of one actuator (0x2n00, 0x2n03, R314). -/
structure ActCfg where
  inUse : Bool
  radius : Word
  pathTol : Nat
  rated : Word
  gains : List Word
  deriving DecidableEq, Repr

def ActCfg.reset : ActCfg :=
  { inUse := false, radius := 0, pathTol := 0, rated := 0, gains := [0, 0, 0, 0x3F800000, 0] }

/-- The configuration working values outside the registers (R314, R316, R318, R322), with their defaults. -/
structure CfgS where
  acts : Vector ActCfg 16
  gateLanes : Nat
  decel : Word
  ramp : Word
  stillSpeed : Word
  stillTime : Nat
  holdTime : Nat
  limitTime : Nat
  hostTimeout : Nat
  mapping : List (Nat × Word)
  straps : Nat
  deriving DecidableEq, Repr

def CfgS.reset : CfgS :=
  { acts := Vector.replicate 16 .reset, gateLanes := 2, decel := 0x3FC00000, ramp := 0x41200000, stillSpeed := 0x3D4CCCCD,
    stillTime := 500, holdTime := 10, limitTime := 30, hostTimeout := 20000, mapping := [], straps := 0 }

/-- One event-log record (R361); `num` is given when it is written to flash. -/
structure LogRec where
  kind : Nat
  cls : Nat
  source : Nat
  flags : Nat
  unit_ : Nat
  laneState : Nat
  level : Nat
  tick : Nat
  time : Nat
  detail : List Nat
  deriving DecidableEq, Repr

/-- A pulse on ERR_OUT (R353): when its present phase began, whether it is the releasing phase of a held output, and the source that started it. -/
structure PulseS where
  began : Nat
  releasing : Bool
  source : Nat
  deriving DecidableEq, Repr

/-- Fault hub (R350 to R363). `nextRec` is the number of the next record of the event log and `logged` how many the log holds. The
recovery times, the log queue and the latches lie in the cellar or the larder. `cut` is when ERR_OUT was forced, the fatal source that forced it and
the pulse it cut short, `merges` the merges into a pulse, each with its time and source, as long as a cycle can last (R352). -/
structure FcS where
  quiet : List (Nat × Nat)
  recov : List (Nat × List Nat)
  wdrQuiet : Option Nat
  wdrRecov : List Nat
  pulse : Option PulseS
  forced : Bool
  cut : Option (Nat × Nat × Option PulseS)
  merges : List (Nat × Nat)
  injArm : Bool
  injLeft : Nat
  xinjLeft : Nat
  queue : List LogRec
  dropped : Nat
  nextRec : Nat
  logged : Nat
  logCount : List (Nat × Nat × Nat)
  ioReport : List Byte
  deriving DecidableEq, Repr

/-- Log entry 125: DESIGN CHOICE. -/
def FcS.reset : FcS :=
  { quiet := [], recov := [], wdrQuiet := none, wdrRecov := [], pulse := none, forced := false, cut := none, merges := [], injArm := false, injLeft := 0,
    xinjLeft := 0, queue := [], dropped := 0, nextRec := 0, logged := 0, logCount := [],
    ioReport := List.replicate 8 0 }

/-- Supplies, resets and clocks (R432 to R440). `rails` has a bit per rail above its release level, in the order of 0x6401; `lostLock` says
that the PLL has lost a lock it had, `clockFault` that the guardian has found the main clock stopped and the hub has not recorded it yet (R351). -/
structure SyS where
  rails : Nat
  rstN : Bool
  resetHeld : Bool
  railsAt : Nat
  releasedAt : Nat
  lock : Bool
  lostLock : Bool
  clockFault : Bool
  mainPll : Bool
  extRef : Bool
  x32Fail : Bool
  nolockNext : Bool
  permit : Bool
  tap : TapInstr
  boundaryReg : List Bool
  debugHalt : Bool
  deriving DecidableEq, Repr

/-- After the package is first looked at: no rail up, reset held. (Log entry 17: DEDUCED) -/
def SyS.reset : SyS :=
  { rails := 0, rstN := true, resetHeld := true, railsAt := 0, releasedAt := 0, lock := false, lostLock := false, clockFault := false, mainPll := false,
    extRef := false, x32Fail := false, nolockNext := false, permit := false, tap := .idcode,
    boundaryReg := [], debugHalt := false }

/-- One field supply (R222); `trying` in a retry that is in limit: it delivers, and its OFF bit stands. -/
structure SupplyS where
  off : Bool
  trying : Bool
  lim : Bool
  limSince : Nat
  retryAt : Option Nat
  deriving DecidableEq, Repr

def SupplyS.reset : SupplyS := { off := false, trying := false, lim := false, limSince := 0, retryAt := none }

/-- One safety input (R223 to R226); `crossMask` are the supplies at whose off-pulses the fails of `crossRun` came. -/
structure InputS where
  raw : Bool
  filtered : Bool
  count : Nat
  before : Bool
  stuckRun : Nat
  crossRun : Nat
  crossMask : Nat
  stuck : Bool
  cross : Bool
  cleanCycles : Nat
  cycleFail : Bool
  cyclePass : Bool
  deriving DecidableEq, Repr

def InputS.reset : InputS :=
  { raw := false, filtered := false, count := 0, before := false, stuckRun := 0, crossRun := 0, crossMask := 0, stuck := false, cross := false,
    cleanCycles := 0, cycleFail := false, cyclePass := false }

/-- Safety inputs, field supplies, excitation monitor and the die-to-die link (R25, R26, R204, R220 to R226): `d2d…` the logic die's judgement
of the link, `field…` the field die's. `tested` are the supplies whose off-pulse has been tested, `cycleNo` the test cycle that runs. -/
structure SfS where
  supplies : Vector SupplyS 8
  inputs : Vector InputS 16
  pulseAt : List (Option Nat)
  tested : Nat
  cycleNo : Nat
  d2dRun : Nat
  d2dInj : Bool
  d2dLast : Nat
  d2dLost : Bool
  fieldRun : Nat
  fieldLast : Nat
  fieldLost : Bool
  excAmpRun : Nat
  excLimRun : Nat
  excFault : Bool
  excOk : Bool
  deriving DecidableEq, Repr

/-- Log entry 125: DESIGN CHOICE. -/
def SfS.reset : SfS :=
  { supplies := Vector.replicate 8 .reset, inputs := Vector.replicate 16 .reset, pulseAt := [none, none, none, none], tested := 0, cycleNo := 0,
    d2dRun := 0, d2dInj := false, d2dLast := 0, d2dLost := false, fieldRun := 0, fieldLast := 0, fieldLost := false, excAmpRun := 0, excLimRun := 0, excFault := false, excOk := false }

/-- SAR ADCs: the next housekeeping entry of each, the newest calibrated code of each rail (entry codes 4 to 7), frames since reset and when the last began, decision ticks since reset and when the last was
(R192, R194). -/
structure AdS where
  next : List Nat
  rails : List (Option Int)
  frame : Nat
  frameAt : Nat
  tick : Nat
  tickAt : Nat
  deriving DecidableEq, Repr

/-- Log entry 125: DESIGN CHOICE. -/
def AdS.reset : AdS := { next := [0, 0, 0, 0], rails := [none, none, none, none], frame := 0, frameAt := 0, tick := 0, tickAt := 0 }

end Sys2Proof.Machine
end

