-- ==== Sys2Proof/Machine/Crypto.lean ====
section
/-! DEFINITION. The digests and signatures of chapter 20: SHA-512 (FIPS 180-4), the curve P-521 with its keys and ECDSA over SHA-512 (FIPS 186-4), and
the unwrap of a network key (R420). Signatures are r and s, keys x and y, each in 66 bytes, the highest first. -/

namespace Sys2Proof.Machine

/-! ### SHA-512 -/

/-- The round constants, four in each number, the first the least significant. -/
def shaConsts : List Nat :=
  [0xe9b5dba58189dbbcb5c0fbcfec4d3b2f7137449123ef65cd428a2f98d728ae22,
   0xab1c5ed5da6d8118923f82a4af194f9b59f111f1b605d0193956c25bf348b538,
   0x550c7dc3d5ffb4e2243185be4ee4b28c12835b0145706fbed807aa98a3030242,
   0xc19bf174cf6926949bdc06a725c7123580deb1fe3b1696b172be5d74f27b896f,
   0x240ca1cc77ac9c650fc19dc68b8cd5b5efbe4786384f25e3e49b69c19ef14ad2,
   0x76f988da831153b55cb0a9dcbd41fbd44a7484aa6ea6e4832de92c6f592b0275,
   0xbf597fc7beef0ee4b00327c898fb213fa831c66d2db43210983e5152ee66dfab,
   0x142929670a0e6e7006ca6351e003826fd5a79147930aa725c6e00bf33da88fc2,
   0x53380d139d95b3df4d2c6dfc5ac42aed2e1b21385c26c92627b70a8546d22ffc,
   0x92722c851482353b81c2c92e47edaee6766a0abb3c77b2a8650a73548baf63de,
   0xc76c51a30654be30c24b8b70d0f89791a81a664bbc423001a2bfe8a14cf10364,
   0x106aa07032bbd1b8f40e35855771202ad69906245565a910d192e819d6ef5218,
   0x34b0bcb5e19b48a82748774cdf8eeb991e376c085141ab5319a4c116b8d2d0c8,
   0x682e6ff3d6b2b8a35b9cca4f7763e3734ed8aa4ae3418acb391c0cb3c5c95a63,
   0x8cc702081a6439ec84c87814a1f0ab7278a5636f43172f60748f82ee5defb2fc,
   0xc67178f2e372532bbef9a3f7b2c67915a4506cebde82bde990befffa23631e28,
   0xf57d4f7fee6ed178eada7dd6cde0eb1ed186b8c721c0c207ca273eceea26619c,
   0x1b710b35131c471b113f9804bef90dae0a637dc5a2c898a606f067aa72176fba,
   0x431d67c49c100d4c3c9ebe0a15c9bebc32caab7b40c7249328db77f523047d84,
   0x6c44198c4a4758175fcb6fab3ad6faec597f299cfc657e2a4cc5d4becb3e42b6]

/-- The initial hash value, packed in the same way. -/
def shaInit : List Nat :=
  [0xa54ff53a5f1d36f13c6ef372fe94f82bbb67ae8584caa73b6a09e667f3bcc908,
   0x5be0cd19137e21791f83d9abfb41bd6b9b05688c2b3e6c1f510e527fade682d1]

/-- The four words of each number. -/
def words64 (ns : List Nat) : List Nat := ns.flatMap (fun n => [n % 2 ^ 64, n >>> 64 % 2 ^ 64, n >>> 128 % 2 ^ 64, n >>> 192])

/-- A word rotated right. -/
def rotr (n x : Nat) : Nat := (x >>> n) ||| (x <<< (64 - n)) % 2 ^ 64

/-- The two functions of the message schedule, and the two of a round. -/
def shaS0 (x : Nat) : Nat := rotr 1 x ^^^ rotr 8 x ^^^ x >>> 7
def shaS1 (x : Nat) : Nat := rotr 19 x ^^^ rotr 61 x ^^^ x >>> 6
def shaB0 (x : Nat) : Nat := rotr 28 x ^^^ rotr 34 x ^^^ rotr 39 x
def shaB1 (x : Nat) : Nat := rotr 14 x ^^^ rotr 18 x ^^^ rotr 41 x

/-- The message schedule with one word more; the newest word stands first. -/
def shaExtend (w : List Nat) : List Nat :=
  ((shaS1 (w.getD 1 0) + w.getD 6 0 + shaS0 (w.getD 14 0) + w.getD 15 0) % 2 ^ 64) :: w

/-- The bytes of a list as numbers of `n` bytes, the highest byte first. -/
def beWords (n : Nat) : Nat → List Nat → List Nat
  | 0, _ => []
  | c + 1, bs => beNat (bs.take n) :: beWords n c (bs.drop n)

/-- The 80 words of the schedule of a block of 128 bytes. -/
def shaSchedule (block : List Nat) : List Nat := ((List.range 64).foldl (fun w _ => shaExtend w) (beWords 8 16 block).reverse).reverse

/-- One round on the eight working variables. -/
def shaRound (s : List Nat) (kw : Nat × Nat) : List Nat :=
  match s with
  | [a, b, c, d, e, f, g, h] =>
    let t := h + shaB1 e + ((e &&& f) ^^^ ((2 ^ 64 - 1 - e) &&& g)) + kw.1 + kw.2
    [(t + shaB0 a + ((a &&& b) ^^^ (a &&& c) ^^^ (b &&& c))) % 2 ^ 64, a, b, c, (d + t) % 2 ^ 64, e, f, g]
  | _ => s

/-- The hash value after one more block. -/
def shaBlock (h block : List Nat) : List Nat :=
  List.zipWith (fun x y => (x + y) % 2 ^ 64) h (((words64 shaConsts).zip (shaSchedule block)).foldl shaRound h)

/-- The hash value after `n` blocks. -/
def shaBlocks : Nat → List Nat → List Nat → List Nat
  | 0, h, _ => h
  | n + 1, h, m => shaBlocks n (shaBlock h (m.take 128)) (m.drop 128)

/-- A number in `n` bytes, the highest first. -/
def beBytes (n x : Nat) : List Nat := (List.range n).map (fun i => x >>> (8 * (n - 1 - i)) % 256)

/-- A number of bytes as it stands in a list. -/
def natOf (bs : List Byte) : Nat := beNat (bs.map (·.toNat))

/-- SHA-512 of a list of bytes: 64 bytes (R414). (Log entry 22: DEDUCED) -/
@[irreducible] def sha512 (bs : List Byte) : List Byte :=
  let n := (bs.length + 144) / 128
  let m := bs.map (·.toNat) ++ [0x80] ++ List.replicate (128 * n - bs.length - 17) 0 ++ beBytes 16 (8 * bs.length)
  ((shaBlocks n (words64 shaInit) m).flatMap (beBytes 8)).map (BitVec.ofNat 8)

/-! ### P-521 -/

/-- The prime of the field, the order of the base point, and the curve's constant. -/
def p521 : Nat := 2 ^ 521 - 1
def n521 : Nat := 0x1fffffffffffffffffffffffffffffffffffffffffffffffffffffffffffffffffa51868783bf2f966b7fcc0148f709a5d03bb5c9b8899c47aebb6fb71e91386409
def b521 : Nat := 0x51953eb9618e1c9a1f929a21a0b68540eea2da725b99b315f3b8b489918ef109e156193951ec7e937b1652c0bd3bb1bf073573df883d2c34f1ef451fd46b503f00

/-- A point: x and y, or the point at infinity. -/
abbrev Point := Option (Nat × Nat)

/-- The base point. -/
def base521 : Point :=
  some (0xc6858e06b70404e9cd9e3ecb662395b4429c648139053fb521f828af606b4d3dbaa14b5e77efe75928fe1dc127a2ffa8de3348b3c1856a429bf97e7e31c2e5bd66,
    0x11839296a789a3bc0045c8a5fb42c7d1bd998f54449579b446817afbd17273e662c97ee72995ef42640c550b9013fad0761353c7086a272c24088be94769fd16650)

/-- `b` to the power `e`, of at most `f` bits, modulo `m`. -/
def powMod (m : Nat) : Nat → Nat → Nat → Nat
  | 0, _, _ => 1
  | f + 1, b, e =>
    let h := powMod m f (b * b % m) (e / 2)
    if e % 2 = 1 then h * b % m else h

/-- The inverse modulo a prime. -/
def invMod (m x : Nat) : Nat := powMod m 521 x (m - 2)

/-- The point on the line of slope `l` through two points of the curve. -/
def chord (l x1 y1 x2 : Nat) : Point :=
  let x := (l * l + 2 * p521 - x1 - x2) % p521
  some (x, (l * (x1 + p521 - x) + p521 - y1) % p521)

/-- The sum of two points. -/
def pointAdd : Point → Point → Point
  | none, q => q
  | p, none => p
  | some (x1, y1), some (x2, y2) =>
    if x1 = x2 then
      if (y1 + y2) % p521 = 0 then none else chord ((3 * x1 * x1 + p521 - 3) * invMod p521 (2 * y1) % p521) x1 y1 x2
    else chord ((y2 + p521 - y1) * invMod p521 (x2 + p521 - x1) % p521) x1 y1 x2

/-- A point taken `e` times, `e` of at most `f` bits. -/
def pointMul : Nat → Nat → Point → Point
  | 0, _, _ => none
  | f + 1, e, q =>
    let h := pointMul f (e / 2) (pointAdd q q)
    if e % 2 = 1 then pointAdd h q else h

/-- The point lies on the curve. -/
def onCurve (x y : Nat) : Bool :=
  decide (x < p521) && decide (y < p521) && (y * y % p521 == (x * x * x + b521 + (p521 - x) * 3) % p521)

/-- The scalar of a private key: a number from 1 to the order less 1. (Log entry 22: DEDUCED) -/
def scalar (key : List Byte) : Nat := 1 + natOf key % (n521 - 1)

/-- The public key of a private key, 133 bytes uncompressed (R413). (Log entry 22: DEDUCED) -/
@[irreducible] def publicKey (key : List Byte) : List Byte :=
  match pointMul 521 (scalar key) base521 with
  | some q => ([4] ++ beBytes 66 q.1 ++ beBytes 66 q.2).map (BitVec.ofNat 8)
  | none => []

/-- The point of a public key of 133 bytes. -/
def keyPoint (key : List Byte) : Point :=
  let x := natOf ((key.drop 1).take 66)
  let y := natOf (key.drop 67)
  if key.length = 133 ∧ key.getD 0 0 = 4 ∧ onCurve x y = true then some (x, y) else none

/-- A signature of 132 bytes over the SHA-512 of a message verifies with a public key (R413 to R419). (Log entry 22: DEDUCED) -/
@[irreducible] def sigOk (key msg sig : List Byte) : Bool :=
  let r := natOf (sig.take 66)
  let s := natOf (sig.drop 66)
  let w := invMod n521 s
  sig.length == 132 && (keyPoint key).isSome && decide (0 < r) && decide (r < n521) && decide (0 < s) && decide (s < n521)
    && (match pointAdd (pointMul 521 (natOf (sha512 msg) * w % n521) base521) (pointMul 521 (r * w % n521) (keyPoint key)) with
      | some q => q.1 % n521 == r
      | none => false)

/-- The signature with a private key over the SHA-512 of a message (R416); the number drawn for it is open. (Log entry 22: DEDUCED) -/
@[irreducible] def signature (key msg : List Byte) : List Byte :=
  let k := 1 + Config.signNonce key msg % (n521 - 1)
  match pointMul 521 k base521 with
  | some q =>
    let r := q.1 % n521
    (beBytes 66 r ++ beBytes 66 (invMod n521 k * (natOf (sha512 msg) + r * scalar key) % n521)).map (BitVec.ofNat 8)
  | none => []

/-- The network key of a lane, where it unwraps (R420), from the transport key, the serial number, the lane index and the wrapped key. The ephemeral
key is not held on the device, so the shared secret is open. (Log entry 22: DEDUCED) -/
@[irreducible] def netKeyOf (transport serial : List Byte) (lane : Nat) (wrapped : List Byte) : Option (List Byte) :=
  keyUnwrap ((sha512 (Config.sharedSecret transport wrapped ++ serial ++ [BitVec.ofNat 8 lane])).take 16) wrapped

end Sys2Proof.Machine
end

