-- ==== Sys2Proof/Machine/BlocksSupport.lean ====
section
/-! DEFINITION. The state of a lane's supporting blocks: interrupt controller and application interface, self-test, tallies and attic,
power manager, thermal monitor, life cycle with configuration and in-service update, as plain data. -/

namespace Sys2Proof.Machine

/-- Interrupt controller, helm pair and application interface (R326 to R349). The helm pair's threshold and depth lie in IC_THRESH; the
yard core's in its private space, `yThresh` and `yStack`. `latched` has a bit per source 112 to 117, pending until completed;
`oldTarget` the target still in effect for a source whose TARGET changed while it was pending or active (R338); `taken` the retirement
count and source of the last interrupt taken (R333); `agree` the agreement buffer, oldest value first, with the times of the reads (R332). `app` holds the owned actuators and the flags of the running application, `init` says that its init entry runs. `trap` is the exception that
the pair raised last: in user mode or not, its mcause, its mtval (R327, R340). `taskStop` says that an access fault has stopped the tick task, and
whether its missed deadline has been judged. `cycle` is what mcycle stood at at lane time `cycleAt`, `yCycleAt` where the yard core's count began,
`retired` the retirement count known last (R326). -/
structure IcS where
  halted : Bool
  haltAt : Nat
  stack : List Nat
  yThresh : Nat
  yStack : List Nat
  active : List Nat
  latched : Nat
  oldTarget : List (Nat × Nat)
  budgetEnd : Option Nat
  appBudget : Bool
  taken : Option (Nat × Nat)
  agree : List (Nat × Word)
  app : Option (Nat × Nat)
  init : Bool
  window : Bool
  abortRun : Nat
  stopped : Bool
  logCalls : Nat
  mail : Bool
  refused : List Nat
  a0 : Word
  a1 : Word
  trap : Option (Bool × Nat × Word)
  taskStop : Option Bool
  cycle : Nat
  cycleAt : Nat
  yCycleAt : Nat
  retired : Nat
  deriving DecidableEq, Repr

/-- Log entry 125: DESIGN CHOICE. -/
def IcS.reset : IcS :=
  { halted := false, haltAt := 0, stack := [], yThresh := 0, yStack := [], active := [], latched := 0, oldTarget := [], budgetEnd := none,
    appBudget := false, taken := none, agree := [], app := none, init := false, window := false, abortRun := 0, stopped := false, logCalls := 0,
    mail := false, refused := [], a0 := 0, a1 := 0, trap := none, taskStop := none,
    cycle := 0, cycleAt := 0, yCycleAt := 0, retired := 0 }

/-- The programs of R371, coded as ST_STATUS.PROG. -/
inductive Program where
  | idle
  | startUp
  | periodic
  | deep
  | direct
  deriving DecidableEq, Repr

def Program.code : Program → Nat
  | .idle => 0
  | .startUp => 1
  | .periodic => 2
  | .deep => 3
  | .direct => 4

/-- The units that the replay engine tests in the periodic program (R365). -/
def replayUnit (u : Nat) : Bool := [18, 19, 20, 25].contains u

/-- A running slice: its unit, when it began, its length in µs; of a replay slice the group that it recomputes and, once a decision tick has started,
that group's state as it was then (R365); of a signature slice the copy that runs its LBIST (R366). -/
structure SliceS where
  unit : Nat
  began : Nat
  len : Nat
  group : Nat
  inputs : Option Group
  copy : Bool
  deriving DecidableEq, Repr

/-- Sweep engine (R364 to R374). `todo` are the units that the running program has still to test, `spent` the slice time of the first
of them; `copy` the copy of each duplicated unit whose turn is next (R366); `replay` the group of the next replay slice. -/
structure StS where
  prog : Program
  todo : List Nat
  spent : Nat
  slice : Option SliceS
  unit : Nat
  abortReq : Bool
  holds : Bool
  num : Nat
  holder : Nat
  lastHeld : List Nat
  lastPass : Nat
  failed : Nat
  runFail : Bool
  passed : Bool
  cycleAt : Nat
  cycleLen : Nat
  late : Bool
  copy : Nat
  replay : Nat
  deriving DecidableEq, Repr

/-- Log entry 125: DESIGN CHOICE. -/
def StS.reset : StS :=
  { prog := .idle, todo := [], spent := 0, slice := none, unit := 0, abortReq := false, holds := false, num := 0, holder := 3,
    lastHeld := [0, 0, 0], lastPass := 0, failed := 0, runFail := false, passed := false, cycleAt := 0, cycleLen := 10, late := false,
    copy := 0, replay := 0 }

/-- Tallies, snapshots and attic (R375 to R385). A tally is listed under 64 × b + i when it is not zero, in the layout of TL_SNAP: the
count in bits [47:0], the wrap count in [55:48], the wrap flag in [56]. `latch` is a snapshot latched and not yet readable, with the
device time of its latch; `windowAt` the authority tick that the window began with, `windowLen` its ticks; `hpm` the selection of mhpmevent3 to 31. -/
structure TlS where
  live : List (Nat × Nat)
  cycle : Nat
  before : List (Nat × Nat)
  snap : List (Nat × Nat)
  prev : List (Nat × Nat)
  latch : Option (Nat × List (Nat × Nat))
  snapTime : Nat
  snapLen : Nat
  windowAt : Nat
  windowLen : Nat
  hpm : List Nat
  peekHi : Word
  atticStop : Bool
  atticFull : Bool
  occ : Nat
  deriving DecidableEq, Repr

/-- Log entry 125: DESIGN CHOICE. -/
def TlS.reset : TlS :=
  { live := [], cycle := 0, before := [], snap := [], prev := [], latch := none, snapTime := 0, snapLen := 100, windowAt := 0, windowLen := 2000,
    hpm := List.replicate 29 0, peekHi := 0, atticStop := false, atticFull := false, occ := 0 }

/-- Sleep levels, coded as PM_STATUS.LEVEL (R388). -/
inductive PowerLevel where
  | awake
  | doze
  | hold
  | cellar
  | entering
  | waking
  deriving DecidableEq, Repr

def PowerLevel.code : PowerLevel → Nat
  | .awake => 0
  | .doze => 1
  | .hold => 2
  | .cellar => 3
  | .entering => 4
  | .waking => 5

/-- The phases of a sleep entry (R390 to R396). -/
inductive EntryPhase where
  | none
  | prepare
  | drain
  | save
  | window
  deriving DecidableEq, Repr

/-- What held pads show (R395): the last level of ERR_OUT and of the veto lines, and a bit per interface whose FBC or passthrough drivers were
high-impedance. -/
structure HeldS where
  err : Bool
  next : Bool
  prev : Bool
  fbcZ : Nat
  foZ : Nat
  deriving DecidableEq, Repr

/-- Power manager (R386 to R408). `cellar` says whether the entry in progress leads to Cellar; `ask` are the blocks still to be asked,
in stop order, `acked` those that have stopped, newest first; `saved` the save area of the larder with the configuration digest;
`wakes` has bits 0 to 15 for safety inputs, 16 standby link, 17 timer, 18 supply return; `pads` a bit per domain whose pads are held and `held` what
they show. `fromDoze` says that the entry in progress began in Doze; `inHigh` since when the wake comparator of each safety input has been high, `vin`
what the cellar sees on VIN_FIELD in 0.1 V, `vinLow` since when it has been below VRET − 1.0 V in this sleep, `vinBack` that it has been so for
10 ms (R397). -/
structure PmS where
  level : PowerLevel
  fromDoze : Bool
  phase : EntryPhase
  cellar : Bool
  ask : List Nat
  acked : List Nat
  askedAt : Nat
  phaseAt : Nat
  saved : Option (List (Nat × Word) × List Byte)
  entered : Nat
  wakes : Nat
  wakeAt : Nat
  inHigh : List (Option Nat)
  vin : Nat
  vinLow : Option Nat
  vinBack : Bool
  pads : Nat
  held : HeldS
  deriving DecidableEq, Repr

/-- Log entry 125: DESIGN CHOICE. -/
def PmS.reset : PmS :=
  { level := .awake, fromDoze := false, phase := .none, cellar := false, ask := [], acked := [], askedAt := 0, phaseAt := 0, saved := none, entered := 0,
    wakes := 0, wakeAt := 0, inHigh := List.replicate 16 none, vin := 0, vinLow := none, vinBack := false, pads := 0,
    held := { err := false, next := false, prev := false, fbcZ := 0, foZ := 0 } }

/-- Thermal monitor (R402 to R406). `hist` holds the last four samples of each sensor in 0.1 °C, newest first; `read` the five readings;
`scale` the present torque limit in 1/256 of TLIM, moving from `from_` toward its target since `rampAt`. `wasReset` says that the lane has been reset since Shutdown was set (R403). -/
structure ThS where
  hist : List (List Int)
  read : List (Option Int)
  warn : Bool
  throttle : Bool
  shutdown : Bool
  wasReset : Bool
  flashOk : Bool
  scale : Rat
  from_ : Rat
  target : Rat
  rampAt : Nat
  msAt : Nat
  deriving DecidableEq, Repr

/-- Log entry 125: DESIGN CHOICE. -/
def ThS.reset : ThS :=
  { hist := [[], [], [], [], []], read := [none, none, none, none, none], warn := false, throttle := false, shutdown := false, wasReset := false,
    flashOk := false, scale := 256, from_ := 256, target := 256, rampAt := 0, msAt := 0 }

/-- The life-cycle states of R409, coded as LC_STATE.LCS. -/
inductive LifeCycle where
  | blank
  | provisioned
  | field
  | service
  | retired
  deriving DecidableEq, Repr

def LifeCycle.code : LifeCycle → Nat
  | .blank => 0
  | .provisioned => 1
  | .field => 2
  | .service => 3
  | .retired => 4

/-- What OTP holds (R409 to R414): the life-cycle state, the rollback step, the serial number, and the keys: `idKey` and `trKey` are the
private identity and transport keys as long as they are not zeroised, `idPub` and `trPub` the public keys that belong to them. -/
structure OtpS where
  lcs : LifeCycle
  step : Nat
  serial : List Byte
  vendorKey : List Byte
  idPub : List Byte
  trPub : List Byte
  idKey : Option (List Byte)
  trKey : Option (List Byte)
  integratorKey : Option (List Byte)
  deriving DecidableEq, Repr

/-- A delivered lane: Provisioned, as 0x7000 gives it by default, with its own serial number and keys. -/
def OtpS.reset : OtpS :=
  { lcs := .provisioned, step := 0, serial := Config.serialNumber, vendorKey := Config.vendorKey, idPub := publicKey Config.identityPrivate,
    trPub := publicKey Config.transportPrivate, idKey := some Config.identityPrivate, trKey := some Config.transportPrivate, integratorKey := none }

/-- The Service overlay in the cellar (R411, R415). -/
structure OverlayS where
  began : Nat
  duration : Nat
  lanes : Nat
  vendor : Bool
  deriving DecidableEq, Repr

/-- Life cycle, trust, configuration and in-service update (R409 to R431). `netKey` is the
network key unwrapped at boot (R420). `sealed`, `taken`, `bank` and `digest` describe the active
configuration; `image` is the image written to 0x7100 and `commit` the commit in progress with its begin; `op` the flash operation of
CF_OP in progress; `booted` and `loaded` that the runtime was entered and the configuration judged since the last reset or wake; the install fields follow 0x7202: `stored` is the journal,
`deepOk` and `trialBad` what the trial has shown (R428), `lostLane` that a lane has left Service meanwhile (R429).
(Log entry 95: DESIGN CHOICE) -/
structure LcS where
  otp : OtpS
  overlay : Option OverlayS
  netKey : Option (List Byte)
  challenge : Option (List Byte)
  report : List Byte
  attest : Option (Nat × List Byte)
  sealed : Bool
  taken : Bool
  bank : Nat
  digest : List Byte
  image : List Byte
  commit : Option Nat
  commitDone : Option Nat
  result : Nat
  op : Option (Nat × Nat × List Byte)
  slot : Nat
  trial : Bool
  booted : Bool
  loaded : Bool
  install : Nat
  instApp : Bool
  instSize : Nat
  instNext : Nat
  stored : List (Nat × Nat × List Byte)
  deepOk : Bool
  trialBad : Bool
  lostLane : Bool
  strapRead : Nat
  strapExpect : Nat
  deriving DecidableEq, Repr

/-- Log entry 20: DESIGN CHOICE. -/
def LcS.reset : LcS :=
  { otp := .reset, overlay := none, netKey := none, challenge := none, report := [], attest := none, sealed := false, taken := false,
    bank := 3, digest := List.replicate 64 0, image := [], commit := none, commitDone := none, result := 0, op := none, slot := 0,
    trial := false, booted := false, loaded := false, install := 0, instApp := false, instSize := 0, instNext := 0, stored := [], deepOk := false, trialBad := false, lostLane := false,
    strapRead := 0, strapExpect := 0 }

/-- The life-cycle state in force: Field under a Service overlay is Service (R411). -/
def LcS.state (s : LcS) : LifeCycle :=
  match s.otp.lcs with
  | .field => match s.overlay with
    | some _ => .service
    | none => .field
  | x => x

end Sys2Proof.Machine
end

