-- ==== Sys2Proof/Machine/Blocks.lean ====
section
/-! DEFINITION. One lane of the package: its register file, its memories and the state of each of its blocks, as plain data. Nothing
of it is shared with another lane (R19, R33). -/

namespace Sys2Proof.Machine

/-- A frame of the cross-lane links, by its class (R27). -/
inductive CxFrame where
  | vote (f : VoteFrame)
  | angle (f : AngleFrame)
  | setpoint (f : SetpointFrame)
  | key (m : KeyMsg)
  | shelf (f : ShelfFrame)
  | coord (f : CoordFrame)
  deriving DecidableEq, Repr

/-- The class in the table order of R27. -/
def CxFrame.cls : CxFrame → Nat
  | .vote _ => 0
  | .angle _ => 1
  | .setpoint _ => 2
  | .key _ => 2
  | .shelf _ => 3
  | .coord _ => 4

/-- The bytes on the wire, with header, padding and CRC (R27). -/
def CxFrame.size : CxFrame → Nat
  | .vote _ => 16
  | .angle _ => 144
  | .setpoint _ => 208
  | .key _ => 16
  | .shelf _ => 1040
  | .coord _ => 40

/-- A frame as it left on a port; `flip` is the byte that FC_XINJ has XORed with 0xFF after the CRC was formed (R359). -/
structure CxSent where
  frame : CxFrame
  flip : Option Nat
  deriving DecidableEq, Repr

/-- What the lane last put on its outputs, one entry per class of traffic (R27): the newest frame formed for both links. `onN` and `onP` are what
the newest sending of each class put on port N and on port P, in its order: a frame that FC_XINJ drops stands in neither, `held` is the first of two
that it exchanges, with its port, as long as the second has not come, and `inj` the last frame that it touched: class, port, action and byte
(R359). (Log entry 5: DESIGN CHOICE) -/
structure OutS where
  coord : Option CoordFrame
  vote : Option VoteFrame
  setpoint : Option SetpointFrame
  shelf : Option ShelfFrame
  keyMsgs : List (Nat × KeyMsg)
  angle : Option AngleFrame
  inj : Option (Nat × Nat × Nat × Nat)
  onN : List CxSent
  onP : List CxSent
  held : Option (Nat × CxFrame)
  deriving DecidableEq, Repr

def OutS.reset : OutS :=
  { coord := none, vote := none, setpoint := none, shelf := none, keyMsgs := [], angle := none, inj := none, onN := [], onP := [], held := none }

/-- One lane. `now` is its time in steps of 625 ps, `fresh` the number of open values drawn so far (the model's own counter),
`rdata` and `busErr` what the last bus access returned, `stuckEvents` the sticking events of R15, `marks` the register bits set in the last
clock cycles: time, address, bits (R13, R16, R37). (Log entry 25: DEDUCED) -/
structure Lane where
  id : LaneId
  now : Nat
  fresh : Nat
  regs : List (Nat × Word)
  mem : List Host.Cell
  rdata : Word
  busErr : Bool
  stuckEvents : Nat
  marks : List (Nat × Nat × Nat)
  sy : SyS
  ky : KyS
  cx : CxS
  fc : FcS
  stop : StopS
  cfg : CfgS
  groups : Vector Group 16
  sf : SfS
  ad : AdS
  ln : LnS
  oc : OcS
  en : EnS
  ic : IcS
  st : StS
  tl : TlS
  pm : PmS
  th : ThS
  lc : LcS
  out : OutS
  deriving DecidableEq, Repr

/-- A lane before its supplies have come up: every register at its reset value, nothing listed in its memories. -/
def Lane.reset (id : LaneId) : Lane :=
  { id := id, now := 0, fresh := 0, regs := [], mem := [], rdata := 0, busErr := false, stuckEvents := 0, marks := [], sy := .reset,
    ky := .reset, cx := .reset, fc := .reset, stop := .reset, cfg := .reset, groups := Vector.replicate 16 .reset, sf := .reset,
    ad := .reset, ln := .reset, oc := .reset, en := .reset, ic := .reset, st := .reset, tl := .reset, pm := .reset, th := .reset,
    lc := .reset, out := .reset }

end Sys2Proof.Machine
end

