-- ==== Sys2Proof/Machine/Fields.lean ====
section
/-! DEFINITION. Where every register field of the manual lies: one constant per field, from the field tables of the block chapters
(R6: the field table in the block's own chapter governs) and the register index of spec/22_register_map.md. -/

namespace Sys2Proof.Machine

/-- A register field: the block's number (R441), the register's offset in its window, the step from one entry of an array of
registers to the next (0 when there is one), the lowest bit and the width. -/
structure Fld where
  blk : Nat
  off : Nat
  stride : Nat
  lo : Nat
  wid : Nat
  deriving DecidableEq, Repr

end Sys2Proof.Machine

namespace Sys2Proof.Machine.F


/-! Block SY (21_reset_startup.md) -/

def SY_CLK_X32_USE : Fld := ⟨0, 0x000, 0, 3, 1⟩
def SY_CLK_EXTREF : Fld := ⟨0, 0x000, 0, 2, 1⟩
def SY_CLK_MAINSRC : Fld := ⟨0, 0x000, 0, 1, 1⟩
def SY_CLK_LOCK : Fld := ⟨0, 0x000, 0, 0, 1⟩
def SY_EVENT_X32_FAIL : Fld := ⟨0, 0x004, 0, 1, 1⟩
def SY_EVENT_RC_DEV : Fld := ⟨0, 0x004, 0, 0, 1⟩
def SY_RSTCAUSE_SOURCE : Fld := ⟨0, 0x008, 0, 8, 8⟩
def SY_RSTCAUSE_NOLOCK : Fld := ⟨0, 0x008, 0, 5, 1⟩
def SY_RSTCAUSE_FW : Fld := ⟨0, 0x008, 0, 4, 1⟩
def SY_RSTCAUSE_FAULT : Fld := ⟨0, 0x008, 0, 3, 1⟩
def SY_RSTCAUSE_PIN : Fld := ⟨0, 0x008, 0, 2, 1⟩
def SY_RSTCAUSE_RAIL : Fld := ⟨0, 0x008, 0, 1, 1⟩
def SY_RSTCAUSE_CELLAR : Fld := ⟨0, 0x008, 0, 0, 1⟩
def SY_CMD_UNLOCK : Fld := ⟨0, 0x00C, 0, 16, 16⟩
def SY_CMD_LRESET : Fld := ⟨0, 0x00C, 0, 0, 1⟩
def SY_TRIM_RC_TRIM : Fld := ⟨0, 0x010, 0, 8, 8⟩
def SY_TRIM_GOSC_TRIM : Fld := ⟨0, 0x010, 0, 0, 8⟩
def SY_RCMON_RCCNT : Fld := ⟨0, 0x014, 0, 0, 8⟩

/-! Block PM (19_power_thermal.md) -/

def PM_CTRL_VETO : Fld := ⟨1, 0x000, 0, 2, 1⟩
def PM_CTRL_XTAL : Fld := ⟨1, 0x000, 0, 1, 1⟩
def PM_CTRL_DOZE : Fld := ⟨1, 0x000, 0, 0, 1⟩
def PM_CMD_SLEEP : Fld := ⟨1, 0x004, 0, 2, 1⟩
def PM_CMD_LEVEL : Fld := ⟨1, 0x004, 0, 0, 2⟩
def PM_STATUS_REFUSER : Fld := ⟨1, 0x008, 0, 24, 8⟩
def PM_STATUS_REASON : Fld := ⟨1, 0x008, 0, 16, 4⟩
def PM_STATUS_WAKE_CAUSE : Fld := ⟨1, 0x008, 0, 8, 3⟩
def PM_STATUS_PADHOLD : Fld := ⟨1, 0x008, 0, 4, 4⟩
def PM_STATUS_LEVEL : Fld := ⟨1, 0x008, 0, 0, 3⟩
def PM_EVENT_DENIED : Fld := ⟨1, 0x00C, 0, 4, 1⟩
def PM_EVENT_LARDER_BAD : Fld := ⟨1, 0x00C, 0, 3, 1⟩
def PM_EVENT_ABORT : Fld := ⟨1, 0x00C, 0, 2, 1⟩
def PM_EVENT_ROLLBACK : Fld := ⟨1, 0x00C, 0, 1, 1⟩
def PM_EVENT_WOKE : Fld := ⟨1, 0x00C, 0, 0, 1⟩
def PM_WAKE_INPUT : Fld := ⟨1, 0x010, 0, 16, 16⟩
def PM_WAKE_VRET : Fld := ⟨1, 0x010, 0, 8, 8⟩
def PM_WAKE_SUPPLY : Fld := ⟨1, 0x010, 0, 1, 1⟩
def PM_WAKE_SB : Fld := ⟨1, 0x010, 0, 0, 1⟩
def PM_TIMER : Fld := ⟨1, 0x014, 0, 0, 32⟩
def PM_PADREL_HOLD : Fld := ⟨1, 0x018, 0, 0, 4⟩
def PM_CNT_ABORT_CNT : Fld := ⟨1, 0x01C, 0, 16, 16⟩
def PM_CNT_ROLLBACK_CNT : Fld := ⟨1, 0x01C, 0, 0, 16⟩
def PM_STUCK_STUCK : Fld := ⟨1, 0x020, 0, 0, 2⟩
def PM_ABORT : Fld := ⟨1, 0x024, 0, 0, 32⟩

/-! Block TH (19_power_thermal.md) -/

def TH_CFG_TRAMP : Fld := ⟨2, 0x000, 0, 8, 8⟩
def TH_CFG_TFRAC : Fld := ⟨2, 0x000, 0, 0, 8⟩
def TH_STATUS_TJ : Fld := ⟨2, 0x004, 0, 16, 16⟩
def TH_STATUS_FLASH_OK : Fld := ⟨2, 0x004, 0, 4, 1⟩
def TH_STATUS_SHUT_FLAG : Fld := ⟨2, 0x004, 0, 3, 1⟩
def TH_STATUS_SHUTDOWN : Fld := ⟨2, 0x004, 0, 2, 1⟩
def TH_STATUS_THROTTLE : Fld := ⟨2, 0x004, 0, 1, 1⟩
def TH_STATUS_WARN : Fld := ⟨2, 0x004, 0, 0, 1⟩
def TH_EVENT_FLASH_BLOCK : Fld := ⟨2, 0x008, 0, 5, 1⟩
def TH_EVENT_SHUT : Fld := ⟨2, 0x008, 0, 4, 1⟩
def TH_EVENT_THR_CLR : Fld := ⟨2, 0x008, 0, 3, 1⟩
def TH_EVENT_THR_SET : Fld := ⟨2, 0x008, 0, 2, 1⟩
def TH_EVENT_WARN_CLR : Fld := ⟨2, 0x008, 0, 1, 1⟩
def TH_EVENT_WARN_SET : Fld := ⟨2, 0x008, 0, 0, 1⟩
def TH_TEMP_PEAK : Fld := ⟨2, 0x040, 4, 16, 16⟩
def TH_TEMP_TEMP : Fld := ⟨2, 0x040, 4, 0, 16⟩

/-! Block FC (16_fault_collection.md) -/

def FC_CFG_AUTORST : Fld := ⟨3, 0x000, 0, 31, 1⟩
def FC_CFG_RECOV_WIN : Fld := ⟨3, 0x000, 0, 24, 7⟩
def FC_CFG_RECOV_N : Fld := ⟨3, 0x000, 0, 16, 8⟩
def FC_CFG_QUIET : Fld := ⟨3, 0x000, 0, 0, 14⟩
def FC_STATE : Fld := ⟨3, 0x004, 0, 0, 32⟩
def FC_LATCH : Fld := ⟨3, 0x008, 0, 0, 32⟩
def FC_NEW : Fld := ⟨3, 0x00C, 0, 0, 32⟩
def FC_EVENT_WITHDRAWN : Fld := ⟨3, 0x010, 0, 7, 1⟩
def FC_EVENT_TEMP_HOLD : Fld := ⟨3, 0x010, 0, 6, 1⟩
def FC_EVENT_LOG_LOST : Fld := ⟨3, 0x010, 0, 5, 1⟩
def FC_EVENT_INJ_DENIED : Fld := ⟨3, 0x010, 0, 4, 1⟩
def FC_EVENT_INJ_DONE : Fld := ⟨3, 0x010, 0, 3, 1⟩
def FC_EVENT_LATCHED : Fld := ⟨3, 0x010, 0, 2, 1⟩
def FC_EVENT_RECOVERED : Fld := ⟨3, 0x010, 0, 1, 1⟩
def FC_EVENT_FATAL : Fld := ⟨3, 0x010, 0, 0, 1⟩
def FC_RCNT_STUCK : Fld := ⟨3, 0x014, 0, 8, 1⟩
def FC_RCNT_COUNT : Fld := ⟨3, 0x014, 0, 0, 8⟩
def FC_CCNT0_FLASH : Fld := ⟨3, 0x018, 0, 16, 16⟩
def FC_CCNT0_SRAM : Fld := ⟨3, 0x018, 0, 0, 16⟩
def FC_CCNT1_XLINK : Fld := ⟨3, 0x01C, 0, 16, 16⟩
def FC_CCNT1_CACHE : Fld := ⟨3, 0x01C, 0, 0, 16⟩
def FC_STUCK_STUCK : Fld := ⟨3, 0x020, 0, 0, 5⟩
def FC_ERROUT_MERGED : Fld := ⟨3, 0x024, 0, 16, 16⟩
def FC_ERROUT_FORCED : Fld := ⟨3, 0x024, 0, 3, 1⟩
def FC_ERROUT_PULSE : Fld := ⟨3, 0x024, 0, 2, 1⟩
def FC_ERROUT_LEVEL : Fld := ⟨3, 0x024, 0, 1, 1⟩
def FC_ERROUT_HOLD : Fld := ⟨3, 0x024, 0, 0, 1⟩
def FC_WDR_LATCH : Fld := ⟨3, 0x028, 0, 5, 1⟩
def FC_WDR_STATE : Fld := ⟨3, 0x028, 0, 4, 1⟩
def FC_WDR_CAUSE : Fld := ⟨3, 0x028, 0, 0, 2⟩
def FC_INJ_ARM : Fld := ⟨3, 0x030, 0, 31, 1⟩
def FC_INJ_CHECKER : Fld := ⟨3, 0x030, 0, 24, 5⟩
def FC_INJ_MODE : Fld := ⟨3, 0x030, 0, 20, 2⟩
def FC_INJ_COUNT : Fld := ⟨3, 0x030, 0, 8, 8⟩
def FC_XINJ_ARM : Fld := ⟨3, 0x034, 0, 31, 1⟩
def FC_XINJ_ACTION : Fld := ⟨3, 0x034, 0, 29, 2⟩
def FC_XINJ_PORT : Fld := ⟨3, 0x034, 0, 28, 1⟩
def FC_XINJ_CLASS : Fld := ⟨3, 0x034, 0, 25, 3⟩
def FC_XINJ_OFS : Fld := ⟨3, 0x034, 0, 16, 9⟩
def FC_XINJ_COUNT : Fld := ⟨3, 0x034, 0, 8, 8⟩
def FC_LOG_LOST : Fld := ⟨3, 0x038, 0, 16, 16⟩
def FC_LOG_QUEUE : Fld := ⟨3, 0x038, 0, 0, 7⟩
def FC_TRAP_EN : Fld := ⟨3, 0x080, 4, 31, 1⟩
def FC_TRAP_VALUE : Fld := ⟨3, 0x080, 4, 30, 1⟩
def FC_TRAP_BIT : Fld := ⟨3, 0x080, 4, 25, 5⟩
def FC_TRAP_BLOCK : Fld := ⟨3, 0x080, 4, 20, 5⟩
def FC_TRAP_GROUP : Fld := ⟨3, 0x080, 4, 16, 4⟩
def FC_TRAP_OFFSET : Fld := ⟨3, 0x080, 4, 0, 12⟩

/-! Block ST (17_self_test.md) -/

def ST_CTRL_CYCLE : Fld := ⟨4, 0x000, 0, 16, 8⟩
def ST_CTRL_DIRECT : Fld := ⟨4, 0x000, 0, 2, 1⟩
def ST_CTRL_PERIODIC : Fld := ⟨4, 0x000, 0, 1, 1⟩
def ST_CMD_STEP : Fld := ⟨4, 0x004, 0, 2, 1⟩
def ST_CMD_ABORT : Fld := ⟨4, 0x004, 0, 1, 1⟩
def ST_CMD_DEEP : Fld := ⟨4, 0x004, 0, 0, 1⟩
def ST_STATUS_UNIT : Fld := ⟨4, 0x008, 0, 24, 6⟩
def ST_STATUS_TOKEN : Fld := ⟨4, 0x008, 0, 10, 1⟩
def ST_STATUS_SLICE : Fld := ⟨4, 0x008, 0, 9, 1⟩
def ST_STATUS_PROG : Fld := ⟨4, 0x008, 0, 0, 3⟩
def ST_EVENT_DENIED : Fld := ⟨4, 0x00C, 0, 6, 1⟩
def ST_EVENT_TOKEN_NEW : Fld := ⟨4, 0x00C, 0, 5, 1⟩
def ST_EVENT_ABORTED : Fld := ⟨4, 0x00C, 0, 4, 1⟩
def ST_EVENT_CYCLE_LATE : Fld := ⟨4, 0x00C, 0, 3, 1⟩
def ST_EVENT_SIG_FAIL : Fld := ⟨4, 0x00C, 0, 2, 1⟩
def ST_EVENT_UNIT_FAIL : Fld := ⟨4, 0x00C, 0, 1, 1⟩
def ST_EVENT_RUN_DONE : Fld := ⟨4, 0x00C, 0, 0, 1⟩
def ST_CNT_CYCLE_LATE : Fld := ⟨4, 0x010, 0, 16, 16⟩
def ST_CNT_UNIT_FAIL : Fld := ⟨4, 0x010, 0, 0, 16⟩
def ST_STUCK_STUCK : Fld := ⟨4, 0x014, 0, 0, 2⟩
def ST_TOKEN_NUM : Fld := ⟨4, 0x018, 0, 16, 16⟩
def ST_TOKEN_HOLDER : Fld := ⟨4, 0x018, 0, 12, 2⟩
def ST_FAILED_LO : Fld := ⟨4, 0x020, 0, 0, 32⟩
def ST_FAILED_HI : Fld := ⟨4, 0x024, 0, 0, 32⟩
def ST_SELECT_LO : Fld := ⟨4, 0x028, 0, 0, 32⟩
def ST_SELECT_HI : Fld := ⟨4, 0x02C, 0, 0, 32⟩
def ST_RUNS : Fld := ⟨4, 0x030, 0, 0, 32⟩
def ST_END_LO : Fld := ⟨4, 0x034, 0, 0, 32⟩
def ST_END_HI : Fld := ⟨4, 0x038, 0, 0, 32⟩
def ST_UNIT_STATUS : Fld := ⟨4, 0x100, 4, 30, 2⟩
def ST_UNIT_COVERAGE : Fld := ⟨4, 0x100, 4, 0, 14⟩
def ST_DUR : Fld := ⟨4, 0x200, 4, 0, 32⟩
def ST_SIG : Fld := ⟨4, 0x300, 4, 0, 32⟩

/-! Block TL (18_tallies.md) -/

def TL_CFG_WINDOW : Fld := ⟨5, 0x000, 0, 0, 16⟩
def TL_SNAPNUM : Fld := ⟨5, 0x004, 0, 0, 32⟩
def TL_EVENT_SKIP : Fld := ⟨5, 0x008, 0, 4, 1⟩
def TL_EVENT_ADROP : Fld := ⟨5, 0x008, 0, 3, 1⟩
def TL_EVENT_ATTIC_FULL : Fld := ⟨5, 0x008, 0, 2, 1⟩
def TL_EVENT_WRAP : Fld := ⟨5, 0x008, 0, 1, 1⟩
def TL_EVENT_SNAP : Fld := ⟨5, 0x008, 0, 0, 1⟩
def TL_CMD_ATTIC_CLEAR : Fld := ⟨5, 0x00C, 0, 1, 1⟩
def TL_CMD_CLEAR_WRAP : Fld := ⟨5, 0x00C, 0, 0, 1⟩
def TL_CNT_ADROP : Fld := ⟨5, 0x010, 0, 16, 16⟩
def TL_CNT_SKIP : Fld := ⟨5, 0x010, 0, 0, 16⟩
def TL_STUCK_STUCK : Fld := ⟨5, 0x014, 0, 0, 2⟩
def TL_ASAMP_AEN : Fld := ⟨5, 0x020, 0, 31, 1⟩
def TL_ASAMP_AMODE : Fld := ⟨5, 0x020, 0, 30, 1⟩
def TL_ASAMP_EVENT : Fld := ⟨5, 0x020, 0, 16, 8⟩
def TL_ASAMP_PERIOD : Fld := ⟨5, 0x020, 0, 0, 16⟩
def TL_AWP_WRAPPED : Fld := ⟨5, 0x024, 0, 31, 1⟩
def TL_AWP_INDEX : Fld := ⟨5, 0x024, 0, 0, 14⟩
def TL_ASEQ : Fld := ⟨5, 0x028, 0, 0, 32⟩
def TL_PEEK_BLOCK : Fld := ⟨5, 0x030, 0, 8, 5⟩
def TL_PEEK_INDEX : Fld := ⟨5, 0x030, 0, 0, 6⟩
def TL_PEEK_LO : Fld := ⟨5, 0x034, 0, 0, 32⟩
def TL_PEEK_HI : Fld := ⟨5, 0x038, 0, 0, 32⟩
def TL_BW : Fld := ⟨5, 0x040, 4, 0, 32⟩
def TL_TD_SHARE : Fld := ⟨5, 0x080, 4, 0, 14⟩
def TL_SNAP : Fld := ⟨5, 0x1000, 4, 0, 32⟩

/-! Block LC (20_life_cycle.md) -/

def LC_STATE_ARB : Fld := ⟨6, 0x000, 0, 16, 8⟩
def LC_STATE_SVC_LANES : Fld := ⟨6, 0x000, 0, 8, 3⟩
def LC_STATE_SVC_VENDOR : Fld := ⟨6, 0x000, 0, 7, 1⟩
def LC_STATE_NETKEY : Fld := ⟨6, 0x000, 0, 6, 1⟩
def LC_STATE_ENROLLED : Fld := ⟨6, 0x000, 0, 5, 1⟩
def LC_STATE_SEALED : Fld := ⟨6, 0x000, 0, 4, 1⟩
def LC_STATE_LCS : Fld := ⟨6, 0x000, 0, 0, 3⟩
def LC_SVC_S : Fld := ⟨6, 0x004, 0, 0, 32⟩
def LC_EVENT_KEY_FAIL : Fld := ⟨6, 0x008, 0, 6, 1⟩
def LC_EVENT_STRAP_CHANGE : Fld := ⟨6, 0x008, 0, 5, 1⟩
def LC_EVENT_SVC_END : Fld := ⟨6, 0x008, 0, 4, 1⟩
def LC_EVENT_SVC_START : Fld := ⟨6, 0x008, 0, 3, 1⟩
def LC_EVENT_TOKEN_BAD : Fld := ⟨6, 0x008, 0, 2, 1⟩
def LC_EVENT_ATTEST_DONE : Fld := ⟨6, 0x008, 0, 1, 1⟩
def LC_EVENT_CHALLENGE : Fld := ⟨6, 0x008, 0, 0, 1⟩
def LC_CNT_STRAP_CHG : Fld := ⟨6, 0x00C, 0, 16, 16⟩
def LC_CNT_TOKEN_BAD : Fld := ⟨6, 0x00C, 0, 0, 16⟩
def LC_STUCK_STUCK : Fld := ⟨6, 0x010, 0, 0, 2⟩
def LC_STRAP_MATCH : Fld := ⟨6, 0x014, 0, 16, 1⟩
def LC_STRAP_EXPECT : Fld := ⟨6, 0x014, 0, 8, 8⟩
def LC_STRAP_READ : Fld := ⟨6, 0x014, 0, 0, 8⟩

/-! Block CF (20_life_cycle.md) -/

def CF_STATUS_INSTALL : Fld := ⟨7, 0x000, 0, 28, 4⟩
def CF_STATUS_BUSY : Fld := ⟨7, 0x000, 0, 24, 1⟩
def CF_STATUS_TRIAL : Fld := ⟨7, 0x000, 0, 17, 1⟩
def CF_STATUS_SLOT : Fld := ⟨7, 0x000, 0, 16, 1⟩
def CF_STATUS_BANK : Fld := ⟨7, 0x000, 0, 8, 2⟩
def CF_STATUS_RESULT : Fld := ⟨7, 0x000, 0, 0, 8⟩
def CF_EVENT_REFUSED : Fld := ⟨7, 0x004, 0, 7, 1⟩
def CF_EVENT_TRIAL_FAIL : Fld := ⟨7, 0x004, 0, 6, 1⟩
def CF_EVENT_CONFIRMED : Fld := ⟨7, 0x004, 0, 5, 1⟩
def CF_EVENT_INSTALL_ABORT : Fld := ⟨7, 0x004, 0, 4, 1⟩
def CF_EVENT_VERIFY_FAIL : Fld := ⟨7, 0x004, 0, 3, 1⟩
def CF_EVENT_BLOCK_STORED : Fld := ⟨7, 0x004, 0, 2, 1⟩
def CF_EVENT_COMMIT_FAIL : Fld := ⟨7, 0x004, 0, 1, 1⟩
def CF_EVENT_COMMIT_DONE : Fld := ⟨7, 0x004, 0, 0, 1⟩
def CF_CNT_REFUSED : Fld := ⟨7, 0x008, 0, 16, 16⟩
def CF_CNT_VERIFY_FAIL : Fld := ⟨7, 0x008, 0, 0, 16⟩
def CF_STUCK_STUCK : Fld := ⟨7, 0x00C, 0, 0, 2⟩
def CF_SEQ0 : Fld := ⟨7, 0x010, 0, 0, 32⟩
def CF_SEQ1 : Fld := ⟨7, 0x014, 0, 0, 32⟩
def CF_NEXT : Fld := ⟨7, 0x018, 0, 0, 32⟩
def CF_ADDR : Fld := ⟨7, 0x020, 0, 0, 32⟩
def CF_SRC : Fld := ⟨7, 0x024, 0, 0, 32⟩
def CF_LEN : Fld := ⟨7, 0x028, 0, 0, 32⟩
def CF_OP_OP : Fld := ⟨7, 0x02C, 0, 0, 2⟩

/-! Block KY (03_authority.md) -/

def KY_CFG_SHADOW_TICKS : Fld := ⟨8, 0x000, 0, 16, 16⟩
def KY_CFG_DUAL_TICKS : Fld := ⟨8, 0x000, 0, 8, 4⟩
def KY_CFG_REVOKE_TICKS : Fld := ⟨8, 0x000, 0, 0, 4⟩
def KY_STATUS_EPOCH : Fld := ⟨8, 0x004, 0, 16, 16⟩
def KY_STATUS_RANK : Fld := ⟨8, 0x004, 0, 12, 2⟩
def KY_STATUS_INTERREGNUM : Fld := ⟨8, 0x004, 0, 11, 1⟩
def KY_STATUS_LEASE_LIVE : Fld := ⟨8, 0x004, 0, 10, 1⟩
def KY_STATUS_HOLDER : Fld := ⟨8, 0x004, 0, 8, 2⟩
def KY_STATUS_VT_PREV : Fld := ⟨8, 0x004, 0, 7, 1⟩
def KY_STATUS_VT_NEXT : Fld := ⟨8, 0x004, 0, 6, 1⟩
def KY_STATUS_LANE_STATE : Fld := ⟨8, 0x004, 0, 3, 3⟩
def KY_STATUS_SERVICE_LEVEL : Fld := ⟨8, 0x004, 0, 0, 3⟩
def KY_TIMER_SILENCE_US : Fld := ⟨8, 0x008, 0, 16, 16⟩
def KY_TIMER_LEASE_US : Fld := ⟨8, 0x008, 0, 0, 16⟩
def KY_CMD_BENCH : Fld := ⟨8, 0x00C, 0, 2, 1⟩
def KY_CMD_READMIT : Fld := ⟨8, 0x00C, 0, 1, 1⟩
def KY_CMD_RELEASE : Fld := ⟨8, 0x00C, 0, 0, 1⟩
def KY_EVENT_SHELF_REJECT : Fld := ⟨8, 0x010, 0, 13, 1⟩
def KY_EVENT_DUP_PD : Fld := ⟨8, 0x010, 0, 12, 1⟩
def KY_EVENT_STALE_PD : Fld := ⟨8, 0x010, 0, 11, 1⟩
def KY_EVENT_CLOCK_DEV : Fld := ⟨8, 0x010, 0, 10, 1⟩
def KY_EVENT_SHADOW_FAIL : Fld := ⟨8, 0x010, 0, 9, 1⟩
def KY_EVENT_VETO_ASSERTED : Fld := ⟨8, 0x010, 0, 8, 1⟩
def KY_EVENT_DUAL_DISAGREE : Fld := ⟨8, 0x010, 0, 7, 1⟩
def KY_EVENT_NO_MAJORITY : Fld := ⟨8, 0x010, 0, 6, 1⟩
def KY_EVENT_OUTVOTED : Fld := ⟨8, 0x010, 0, 5, 1⟩
def KY_EVENT_HOLDER_DISAGREE : Fld := ⟨8, 0x010, 0, 4, 1⟩
def KY_EVENT_CLAIMED : Fld := ⟨8, 0x010, 0, 3, 1⟩
def KY_EVENT_REVOKED : Fld := ⟨8, 0x010, 0, 2, 1⟩
def KY_EVENT_LEASE_EXPIRED : Fld := ⟨8, 0x010, 0, 1, 1⟩
def KY_EVENT_ACK_MISS : Fld := ⟨8, 0x010, 0, 0, 1⟩
def KY_AGREE_KNOWN : Fld := ⟨8, 0x014, 0, 8, 3⟩
def KY_AGREE_AGREE : Fld := ⟨8, 0x014, 0, 0, 3⟩
def KY_CNT0_ACK_MISS : Fld := ⟨8, 0x018, 0, 16, 16⟩
def KY_CNT0_DISAGREE_TICKS : Fld := ⟨8, 0x018, 0, 0, 16⟩
def KY_CNT1_STALE_PD : Fld := ⟨8, 0x01C, 0, 16, 16⟩
def KY_CNT1_DUP_PD : Fld := ⟨8, 0x01C, 0, 0, 16⟩
def KY_STUCK_STUCK : Fld := ⟨8, 0x020, 0, 0, 4⟩
def KY_CLKMON_DEV : Fld := ⟨8, 0x024, 0, 12, 1⟩
def KY_CLKMON_GCYC : Fld := ⟨8, 0x024, 0, 0, 12⟩
def KY_TOL_TOL : Fld := ⟨8, 0x040, 4, 0, 32⟩
def KY_SHELF_IN : Fld := ⟨8, 0x400, 4, 0, 32⟩
def KY_SHELF_OUT : Fld := ⟨8, 0x800, 4, 0, 32⟩

/-! Block CX (03_authority.md) -/

def CX_STATUS_REMOTE_DOWN_P : Fld := ⟨9, 0x000, 0, 3, 1⟩
def CX_STATUS_REMOTE_DOWN_N : Fld := ⟨9, 0x000, 0, 2, 1⟩
def CX_STATUS_UP_P : Fld := ⟨9, 0x000, 0, 1, 1⟩
def CX_STATUS_UP_N : Fld := ⟨9, 0x000, 0, 0, 1⟩
def CX_EVENT_CRC_P : Fld := ⟨9, 0x004, 0, 5, 1⟩
def CX_EVENT_CRC_N : Fld := ⟨9, 0x004, 0, 4, 1⟩
def CX_EVENT_UP_P : Fld := ⟨9, 0x004, 0, 3, 1⟩
def CX_EVENT_UP_N : Fld := ⟨9, 0x004, 0, 2, 1⟩
def CX_EVENT_DOWN_P : Fld := ⟨9, 0x004, 0, 1, 1⟩
def CX_EVENT_DOWN_N : Fld := ⟨9, 0x004, 0, 0, 1⟩
def CX_ERR_N_RETURNS : Fld := ⟨9, 0x008, 0, 16, 16⟩
def CX_ERR_N_CRC_ERR : Fld := ⟨9, 0x008, 0, 0, 16⟩
def CX_ERR_P_RETURNS : Fld := ⟨9, 0x00C, 0, 16, 16⟩
def CX_ERR_P_CRC_ERR : Fld := ⟨9, 0x00C, 0, 0, 16⟩
def CX_STUCK_STUCK : Fld := ⟨9, 0x010, 0, 0, 4⟩
def CX_RTT_RTT_P : Fld := ⟨9, 0x014, 0, 16, 16⟩
def CX_RTT_RTT_N : Fld := ⟨9, 0x014, 0, 0, 16⟩
def CX_LOAD_LOAD_P : Fld := ⟨9, 0x018, 0, 16, 16⟩
def CX_LOAD_LOAD_N : Fld := ⟨9, 0x018, 0, 0, 16⟩

/-! Block LG (06_leg_generator.md) -/

def LG_CTRL_NM1 : Fld := ⟨10, 0x000, 0, 12, 4⟩
def LG_CTRL_POLICY : Fld := ⟨10, 0x000, 0, 8, 2⟩
def LG_CTRL_ADAPT : Fld := ⟨10, 0x000, 0, 5, 1⟩
def LG_CTRL_QCAP : Fld := ⟨10, 0x000, 0, 4, 1⟩
def LG_CTRL_SRC : Fld := ⟨10, 0x000, 0, 2, 2⟩
def LG_CTRL_GEN_REQ : Fld := ⟨10, 0x000, 0, 1, 1⟩
def LG_CTRL_RUN : Fld := ⟨10, 0x000, 0, 0, 1⟩
def LG_STATUS_LEGS : Fld := ⟨10, 0x004, 0, 24, 8⟩
def LG_STATUS_FAULT : Fld := ⟨10, 0x004, 0, 20, 4⟩
def LG_STATUS_SILENT : Fld := ⟨10, 0x004, 0, 16, 4⟩
def LG_STATUS_PHASE : Fld := ⟨10, 0x004, 0, 12, 4⟩
def LG_STATUS_OUTSTATE : Fld := ⟨10, 0x004, 0, 9, 3⟩
def LG_STATUS_COMMIT_PEND : Fld := ⟨10, 0x004, 0, 8, 1⟩
def LG_STATUS_QCAP_ACT : Fld := ⟨10, 0x004, 0, 7, 1⟩
def LG_STATUS_PERMIT : Fld := ⟨10, 0x004, 0, 6, 1⟩
def LG_STATUS_GEN : Fld := ⟨10, 0x004, 0, 5, 1⟩
def LG_EVENT_DT_CEIL : Fld := ⟨10, 0x008, 0, 10, 1⟩
def LG_EVENT_DEFER : Fld := ⟨10, 0x008, 0, 9, 1⟩
def LG_EVENT_LEG_FAULT : Fld := ⟨10, 0x008, 0, 8, 1⟩
def LG_EVENT_SILENT : Fld := ⟨10, 0x008, 0, 7, 1⟩
def LG_EVENT_ILLEGAL : Fld := ⟨10, 0x008, 0, 6, 1⟩
def LG_EVENT_TRIP : Fld := ⟨10, 0x008, 0, 5, 1⟩
def LG_EVENT_SHORT_PULSE : Fld := ⟨10, 0x008, 0, 4, 1⟩
def LG_EVENT_PERIOD_REJ : Fld := ⟨10, 0x008, 0, 3, 1⟩
def LG_EVENT_PERIOD_ONLY : Fld := ⟨10, 0x008, 0, 2, 1⟩
def LG_EVENT_COMMIT_DONE : Fld := ⟨10, 0x008, 0, 1, 1⟩
def LG_EVENT_PERM_LOST : Fld := ⟨10, 0x008, 0, 0, 1⟩
def LG_CNT0_PERIOD_ONLY : Fld := ⟨10, 0x00C, 0, 16, 16⟩
def LG_CNT0_SHORT : Fld := ⟨10, 0x00C, 0, 0, 16⟩
def LG_CNT1_ILLEGAL : Fld := ⟨10, 0x010, 0, 16, 16⟩
def LG_CNT1_SILENT : Fld := ⟨10, 0x010, 0, 0, 16⟩
def LG_STUCK_STUCK : Fld := ⟨10, 0x014, 0, 0, 4⟩
def LG_CMD_TRIP_CLR : Fld := ⟨10, 0x018, 0, 1, 1⟩
def LG_CMD_COMMIT : Fld := ⟨10, 0x018, 0, 0, 1⟩
def LG_PERIOD_PERIOD : Fld := ⟨10, 0x020, 0, 0, 17⟩
def LG_PERIOD_ACT_VAL : Fld := ⟨10, 0x024, 0, 0, 17⟩
def LG_DUTY_DUTY : Fld := ⟨10, 0x040, 4, 0, 16⟩
def LG_DUTY_ACT_DUTY : Fld := ⟨10, 0x050, 4, 0, 16⟩
def LG_WIDTH_X : Fld := ⟨10, 0x060, 4, 0, 20⟩
def LG_ACC : Fld := ⟨10, 0x070, 4, 0, 32⟩
def LG_MINP_MINPULSE : Fld := ⟨10, 0x080, 0, 0, 13⟩
def LG_DTLIM_DT_ZC : Fld := ⟨10, 0x084, 0, 16, 13⟩
def LG_DTLIM_DT_MIN : Fld := ⟨10, 0x084, 0, 0, 13⟩
def LG_DTADP_SNS_COMP : Fld := ⟨10, 0x088, 0, 24, 8⟩
def LG_DTADP_DOWN : Fld := ⟨10, 0x088, 0, 16, 8⟩
def LG_DTADP_UP : Fld := ⟨10, 0x088, 0, 8, 8⟩
def LG_DTADP_MARGIN : Fld := ⟨10, 0x088, 0, 0, 8⟩
def LG_IZC : Fld := ⟨10, 0x08C, 0, 0, 32⟩
def LG_SIL_SIL_CLR : Fld := ⟨10, 0x090, 0, 20, 4⟩
def LG_SIL_SIL_N : Fld := ⟨10, 0x090, 0, 16, 4⟩
def LG_SIL_TSIL : Fld := ⟨10, 0x090, 0, 0, 12⟩
def LG_VSIL : Fld := ⟨10, 0x094, 0, 0, 32⟩
def LG_DTK_DT_K : Fld := ⟨10, 0x098, 0, 0, 13⟩
def LG_DTA_DT_F : Fld := ⟨10, 0x0A0, 4, 16, 13⟩
def LG_DTA_DT_R : Fld := ⟨10, 0x0A0, 4, 0, 13⟩
def LG_SENSE_CLASS : Fld := ⟨10, 0x0B0, 4, 30, 2⟩
def LG_SENSE_DIR : Fld := ⟨10, 0x0B0, 4, 29, 1⟩
def LG_SENSE_M : Fld := ⟨10, 0x0B0, 4, 0, 16⟩
def LG_VS_VAL : Fld := ⟨10, 0x0C0, 4, 0, 12⟩
def LG_CH_CTRL_XOVER : Fld := ⟨10, 0x300, 0, 24, 8⟩
def LG_CH_CTRL_OV_QUAL : Fld := ⟨10, 0x300, 0, 16, 8⟩
def LG_CH_CTRL_UV_T : Fld := ⟨10, 0x300, 0, 8, 8⟩
def LG_CH_CTRL_CH_MODE : Fld := ⟨10, 0x300, 0, 0, 2⟩
def LG_CH_STATUS_CH_PARAM : Fld := ⟨10, 0x304, 0, 11, 1⟩
def LG_CH_STATUS_UV : Fld := ⟨10, 0x304, 0, 10, 1⟩
def LG_CH_STATUS_ISO_SHORT : Fld := ⟨10, 0x304, 0, 9, 1⟩
def LG_CH_STATUS_STEP : Fld := ⟨10, 0x304, 0, 7, 2⟩
def LG_CH_STATUS_HOT : Fld := ⟨10, 0x304, 0, 6, 1⟩
def LG_CH_STATUS_CAUSE : Fld := ⟨10, 0x304, 0, 4, 2⟩
def LG_CH_STATUS_FAULT : Fld := ⟨10, 0x304, 0, 3, 1⟩
def LG_CH_STATUS_ON : Fld := ⟨10, 0x304, 0, 2, 1⟩
def LG_CH_STATUS_MODE : Fld := ⟨10, 0x304, 0, 0, 2⟩
def LG_CH_EVENT_UV_ISO : Fld := ⟨10, 0x308, 0, 6, 1⟩
def LG_CH_EVENT_UV_EVENT : Fld := ⟨10, 0x308, 0, 5, 1⟩
def LG_CH_EVENT_GROUP_OFF : Fld := ⟨10, 0x308, 0, 4, 1⟩
def LG_CH_EVENT_OV_ISO : Fld := ⟨10, 0x308, 0, 3, 1⟩
def LG_CH_EVENT_CLAMP : Fld := ⟨10, 0x308, 0, 2, 1⟩
def LG_CH_EVENT_HOT : Fld := ⟨10, 0x308, 0, 1, 1⟩
def LG_CH_EVENT_CHOP_FAULT : Fld := ⟨10, 0x308, 0, 0, 1⟩
def LG_CH_CNT_UV_CNT : Fld := ⟨10, 0x30C, 0, 16, 16⟩
def LG_CH_CNT_CLAMP_CNT : Fld := ⟨10, 0x30C, 0, 0, 16⟩
def LG_CH_STUCK_STUCK : Fld := ⟨10, 0x310, 0, 0, 2⟩
def LG_CH_TRISE_TRISE : Fld := ⟨10, 0x314, 0, 0, 16⟩
def LG_CH_VON : Fld := ⟨10, 0x320, 0, 0, 32⟩
def LG_CH_VOFF : Fld := ⟨10, 0x324, 0, 0, 32⟩
def LG_CH_VOV1 : Fld := ⟨10, 0x328, 0, 0, 32⟩
def LG_CH_VOV2 : Fld := ⟨10, 0x32C, 0, 0, 32⟩
def LG_CH_VOV3 : Fld := ⟨10, 0x330, 0, 0, 32⟩
def LG_CH_VUV : Fld := ⟨10, 0x334, 0, 0, 32⟩
def LG_CH_VUVT : Fld := ⟨10, 0x338, 0, 0, 32⟩
def LG_CH_DVR : Fld := ⟨10, 0x33C, 0, 0, 32⟩
def LG_CH_RCH : Fld := ⟨10, 0x340, 0, 0, 32⟩
def LG_CH_PCONT : Fld := ⟨10, 0x344, 0, 0, 32⟩
def LG_CH_EMAX : Fld := ⟨10, 0x348, 0, 0, 32⟩
def LG_CH_E : Fld := ⟨10, 0x34C, 0, 0, 32⟩

/-! Block TQ (04_torque_engine.md) -/

def TQ_CTRL_CAP : Fld := ⟨11, 0x000, 0, 4, 1⟩
def TQ_CTRL_INTERP : Fld := ⟨11, 0x000, 0, 3, 1⟩
def TQ_CTRL_MODE_SEL : Fld := ⟨11, 0x000, 0, 1, 2⟩
def TQ_CTRL_ENABLE : Fld := ⟨11, 0x000, 0, 0, 1⟩
def TQ_STATUS_PARAM : Fld := ⟨11, 0x004, 0, 30, 1⟩
def TQ_STATUS_EFF_SHARE : Fld := ⟨11, 0x004, 0, 20, 10⟩
def TQ_STATUS_ILIM_ACTIVE : Fld := ⟨11, 0x004, 0, 19, 1⟩
def TQ_STATUS_ISOLATED : Fld := ⟨11, 0x004, 0, 18, 1⟩
def TQ_STATUS_TRACKING : Fld := ⟨11, 0x004, 0, 17, 1⟩
def TQ_STATUS_PA_INDEX : Fld := ⟨11, 0x004, 0, 12, 5⟩
def TQ_STATUS_VECTOR : Fld := ⟨11, 0x004, 0, 9, 3⟩
def TQ_STATUS_SECTOR : Fld := ⟨11, 0x004, 0, 5, 4⟩
def TQ_STATUS_CPSI : Fld := ⟨11, 0x004, 0, 4, 1⟩
def TQ_STATUS_CT : Fld := ⟨11, 0x004, 0, 2, 2⟩
def TQ_STATUS_MODE : Fld := ⟨11, 0x004, 0, 0, 2⟩
def TQ_EVENT_ANGLE_INVALID : Fld := ⟨11, 0x008, 0, 6, 1⟩
def TQ_EVENT_DEMAND_BAD : Fld := ⟨11, 0x008, 0, 5, 1⟩
def TQ_EVENT_PARAM_ERR : Fld := ⟨11, 0x008, 0, 4, 1⟩
def TQ_EVENT_ISOLATED : Fld := ⟨11, 0x008, 0, 3, 1⟩
def TQ_EVENT_SAT : Fld := ⟨11, 0x008, 0, 2, 1⟩
def TQ_EVENT_CAP_HOLD : Fld := ⟨11, 0x008, 0, 1, 1⟩
def TQ_EVENT_HANDOVER : Fld := ⟨11, 0x008, 0, 0, 1⟩
def TQ_CNT_CAP_HOLD : Fld := ⟨11, 0x00C, 0, 16, 16⟩
def TQ_CNT_ILIM_TICKS : Fld := ⟨11, 0x00C, 0, 0, 16⟩
def TQ_STUCK_STUCK : Fld := ⟨11, 0x010, 0, 0, 2⟩
def TQ_DEMAND : Fld := ⟨11, 0x014, 0, 0, 32⟩
def TQ_SHARE_RAMP : Fld := ⟨11, 0x018, 0, 16, 6⟩
def TQ_SHARE_TARGET : Fld := ⟨11, 0x018, 0, 0, 10⟩
def TQ_TEST : Fld := ⟨11, 0x020, 0, 0, 32⟩
def TQ_TREF : Fld := ⟨11, 0x024, 0, 0, 32⟩
def TQ_FLUX : Fld := ⟨11, 0x028, 0, 0, 32⟩
def TQ_FREF : Fld := ⟨11, 0x02C, 0, 0, 32⟩
def TQ_FANG_ADV : Fld := ⟨11, 0x030, 0, 16, 16⟩
def TQ_FANG_ANG : Fld := ⟨11, 0x030, 0, 0, 16⟩
def TQ_POLES_POLES : Fld := ⟨11, 0x040, 0, 0, 6⟩
def TQ_RS : Fld := ⟨11, 0x044, 0, 0, 32⟩
def TQ_LD : Fld := ⟨11, 0x048, 0, 0, 32⟩
def TQ_LQ : Fld := ⟨11, 0x04C, 0, 0, 32⟩
def TQ_PSIPM : Fld := ⟨11, 0x050, 0, 0, 32⟩
def TQ_GEAR : Fld := ⟨11, 0x054, 0, 0, 32⟩
def TQ_PSINOM : Fld := ⟨11, 0x058, 0, 0, 32⟩
def TQ_TRATED : Fld := ⟨11, 0x05C, 0, 0, 32⟩
def TQ_WRATED : Fld := ⟨11, 0x060, 0, 0, 32⟩
def TQ_TLIM : Fld := ⟨11, 0x064, 0, 0, 32⟩
def TQ_ILIM : Fld := ⟨11, 0x068, 0, 0, 32⟩
def TQ_WC : Fld := ⟨11, 0x06C, 0, 0, 32⟩
def TQ_HT : Fld := ⟨11, 0x070, 0, 0, 32⟩
def TQ_HPSI : Fld := ⟨11, 0x074, 0, 0, 32⟩
def TQ_KPT : Fld := ⟨11, 0x078, 0, 0, 32⟩
def TQ_KIT : Fld := ⟨11, 0x07C, 0, 0, 32⟩
def TQ_KPF : Fld := ⟨11, 0x080, 0, 0, 32⟩
def TQ_KIF : Fld := ⟨11, 0x084, 0, 0, 32⟩
def TQ_PA_STEP : Fld := ⟨11, 0x088, 0, 0, 32⟩
def TQ_STAB_NEG_TNEG : Fld := ⟨11, 0x100, 4, 20, 4⟩
def TQ_STAB_POS_TNEG : Fld := ⟨11, 0x100, 4, 16, 4⟩
def TQ_STAB_NEG_TZERO : Fld := ⟨11, 0x100, 4, 12, 4⟩
def TQ_STAB_POS_TZERO : Fld := ⟨11, 0x100, 4, 8, 4⟩
def TQ_STAB_NEG_TPOS : Fld := ⟨11, 0x100, 4, 4, 4⟩
def TQ_STAB_POS_TPOS : Fld := ⟨11, 0x100, 4, 0, 4⟩
def TQ_PA_ADVANCE : Fld := ⟨11, 0x200, 4, 16, 16⟩
def TQ_PA_REDUCE : Fld := ⟨11, 0x200, 4, 0, 16⟩

/-! Block AN (05_rotor_angle.md) -/

def AN_CTRL_INJ_EN : Fld := ⟨12, 0x000, 0, 2, 1⟩
def AN_CTRL_ENC_USE : Fld := ⟨12, 0x000, 0, 1, 1⟩
def AN_CTRL_ENABLE : Fld := ⟨12, 0x000, 0, 0, 1⟩
def AN_STATUS_ANGLE : Fld := ⟨12, 0x004, 0, 16, 16⟩
def AN_STATUS_ALIGN_OK : Fld := ⟨12, 0x004, 0, 12, 1⟩
def AN_STATUS_DISAGREE : Fld := ⟨12, 0x004, 0, 11, 1⟩
def AN_STATUS_CARRIED : Fld := ⟨12, 0x004, 0, 10, 1⟩
def AN_STATUS_STARTING : Fld := ⟨12, 0x004, 0, 9, 1⟩
def AN_STATUS_POL_OK : Fld := ⟨12, 0x004, 0, 8, 1⟩
def AN_STATUS_VALID : Fld := ⟨12, 0x004, 0, 7, 1⟩
def AN_STATUS_HIGH : Fld := ⟨12, 0x004, 0, 6, 1⟩
def AN_STATUS_SOURCE : Fld := ⟨12, 0x004, 0, 0, 3⟩
def AN_EVENT_HALL_DISAGREE : Fld := ⟨12, 0x008, 0, 9, 1⟩
def AN_EVENT_PEER_STALE : Fld := ⟨12, 0x008, 0, 8, 1⟩
def AN_EVENT_NOCONS : Fld := ⟨12, 0x008, 0, 7, 1⟩
def AN_EVENT_ENC_MISALIGN : Fld := ⟨12, 0x008, 0, 6, 1⟩
def AN_EVENT_START_FAIL : Fld := ⟨12, 0x008, 0, 5, 1⟩
def AN_EVENT_POL_DONE : Fld := ⟨12, 0x008, 0, 4, 1⟩
def AN_EVENT_ROTOR_LOST : Fld := ⟨12, 0x008, 0, 3, 1⟩
def AN_EVENT_CARRIED : Fld := ⟨12, 0x008, 0, 2, 1⟩
def AN_EVENT_LOST : Fld := ⟨12, 0x008, 0, 1, 1⟩
def AN_EVENT_SOURCE_CHANGE : Fld := ⟨12, 0x008, 0, 0, 1⟩
def AN_CNT_LOST_CNT : Fld := ⟨12, 0x00C, 0, 16, 16⟩
def AN_CNT_STALE_CNT : Fld := ⟨12, 0x00C, 0, 0, 16⟩
def AN_STUCK_STUCK : Fld := ⟨12, 0x010, 0, 0, 2⟩
def AN_CONF_SEL : Fld := ⟨12, 0x014, 0, 24, 8⟩
def AN_CONF_ENC : Fld := ⟨12, 0x014, 0, 16, 8⟩
def AN_CONF_OBS : Fld := ⟨12, 0x014, 0, 8, 8⟩
def AN_CONF_INJ : Fld := ⟨12, 0x014, 0, 0, 8⟩
def AN_SPEED : Fld := ⟨12, 0x018, 0, 0, 32⟩
def AN_CONS_CONTRIB : Fld := ⟨12, 0x01C, 0, 16, 3⟩
def AN_CONS_ANGLE : Fld := ⟨12, 0x01C, 0, 0, 16⟩
def AN_CFG_DIS_TICKS : Fld := ⟨12, 0x040, 0, 24, 4⟩
def AN_CFG_INJ_LO : Fld := ⟨12, 0x040, 0, 16, 8⟩
def AN_CFG_INJ_HI : Fld := ⟨12, 0x040, 0, 8, 8⟩
def AN_CFG_CMIN : Fld := ⟨12, 0x040, 0, 0, 8⟩
def AN_WIN_ENC_WIN : Fld := ⟨12, 0x044, 0, 16, 16⟩
def AN_WIN_KC : Fld := ⟨12, 0x044, 0, 8, 8⟩
def AN_WIN_AGREE_HI : Fld := ⟨12, 0x044, 0, 0, 8⟩
def AN_INJ_VINJ : Fld := ⟨12, 0x048, 0, 16, 16⟩
def AN_INJ_FINJ : Fld := ⟨12, 0x048, 0, 0, 16⟩
def AN_POL_MARGIN : Fld := ⟨12, 0x04C, 0, 24, 8⟩
def AN_POL_PW : Fld := ⟨12, 0x04C, 0, 16, 8⟩
def AN_POL_VPOL : Fld := ⟨12, 0x04C, 0, 0, 16⟩
def AN_INJ_AMIN : Fld := ⟨12, 0x050, 0, 0, 32⟩
def AN_OBS_EMIN : Fld := ⟨12, 0x054, 0, 0, 32⟩
def AN_ENC_MULT : Fld := ⟨12, 0x058, 0, 16, 6⟩
def AN_ENC_OFFSET : Fld := ⟨12, 0x058, 0, 0, 16⟩
def AN_CMD_ALIGN_CAPTURE : Fld := ⟨12, 0x05C, 0, 0, 1⟩
def AN_ENC_CAPT_DONE : Fld := ⟨12, 0x060, 0, 16, 1⟩
def AN_ENC_CAPT_OFS : Fld := ⟨12, 0x060, 0, 0, 16⟩
def AN_PEER_N0_FLAGS : Fld := ⟨12, 0x080, 0, 24, 8⟩
def AN_PEER_N0_CONF : Fld := ⟨12, 0x080, 0, 16, 8⟩
def AN_PEER_N0_ANGLE : Fld := ⟨12, 0x080, 0, 0, 16⟩
def AN_PEER_N1 : Fld := ⟨12, 0x084, 0, 0, 32⟩
def AN_PEER_P0_FLAGS : Fld := ⟨12, 0x088, 0, 24, 8⟩
def AN_PEER_P0_CONF : Fld := ⟨12, 0x088, 0, 16, 8⟩
def AN_PEER_P0_ANGLE : Fld := ⟨12, 0x088, 0, 0, 16⟩
def AN_PEER_P1 : Fld := ⟨12, 0x08C, 0, 0, 32⟩
def AN_XCHG_AGE : Fld := ⟨12, 0xF00, 0, 16, 8⟩
def AN_XCHG_TX_NUM : Fld := ⟨12, 0xF00, 0, 0, 16⟩

/-! Block SD (08_current_sensing.md) -/

def SD_CTRL_M : Fld := ⟨13, 0x000, 0, 24, 8⟩
def SD_CTRL_MF : Fld := ⟨13, 0x000, 0, 16, 5⟩
def SD_CTRL_PHASE : Fld := ⟨13, 0x000, 0, 8, 6⟩
def SD_CTRL_ENABLE : Fld := ⟨13, 0x000, 0, 7, 1⟩
def SD_CTRL_DIV : Fld := ⟨13, 0x000, 0, 0, 6⟩
def SD_STATUS_MF_EFF : Fld := ⟨13, 0x004, 0, 16, 5⟩
def SD_STATUS_CHFAULT : Fld := ⟨13, 0x004, 0, 8, 4⟩
def SD_STATUS_PARAM : Fld := ⟨13, 0x004, 0, 5, 1⟩
def SD_STATUS_SETTLING : Fld := ⟨13, 0x004, 0, 4, 1⟩
def SD_STATUS_OC : Fld := ⟨13, 0x004, 0, 0, 3⟩
def SD_EVENT_CLIP : Fld := ⟨13, 0x008, 0, 3, 1⟩
def SD_EVENT_SUM_FAULT : Fld := ⟨13, 0x008, 0, 2, 1⟩
def SD_EVENT_CHFAULT : Fld := ⟨13, 0x008, 0, 1, 1⟩
def SD_EVENT_OC_ISO : Fld := ⟨13, 0x008, 0, 0, 1⟩
def SD_CNT_CLIP_CNT : Fld := ⟨13, 0x00C, 0, 16, 16⟩
def SD_CNT_TRIP_CNT : Fld := ⟨13, 0x00C, 0, 0, 16⟩
def SD_STUCK_STUCK : Fld := ⟨13, 0x010, 0, 0, 2⟩
def SD_OC : Fld := ⟨13, 0x014, 0, 0, 32⟩
def SD_TRIPN_TRIP_WIN : Fld := ⟨13, 0x018, 0, 16, 16⟩
def SD_TRIPN_SUM_N : Fld := ⟨13, 0x018, 0, 8, 8⟩
def SD_TRIPN_TRIP_N : Fld := ⟨13, 0x018, 0, 0, 8⟩
def SD_SUMLIM : Fld := ⟨13, 0x01C, 0, 0, 32⟩
def SD_OFS_OFFSET : Fld := ⟨13, 0x040, 4, 0, 16⟩
def SD_SCALE : Fld := ⟨13, 0x050, 4, 0, 32⟩
def SD_VAL3 : Fld := ⟨13, 0x060, 4, 0, 32⟩
def SD_VAL2 : Fld := ⟨13, 0x070, 4, 0, 32⟩

/-! Block FB (09_feedback.md) -/

def FB_CTRL_FILT : Fld := ⟨14, 0x000, 0, 20, 4⟩
def FB_CTRL_PT_MODE : Fld := ⟨14, 0x000, 0, 16, 2⟩
def FB_CTRL_DIR_INV : Fld := ⟨14, 0x000, 0, 12, 1⟩
def FB_CTRL_Z_USE : Fld := ⟨14, 0x000, 0, 11, 1⟩
def FB_CTRL_MODE : Fld := ⟨14, 0x000, 0, 1, 3⟩
def FB_CTRL_ENABLE : Fld := ⟨14, 0x000, 0, 0, 1⟩
def FB_STATUS_HALL : Fld := ⟨14, 0x004, 0, 24, 3⟩
def FB_STATUS_LINE : Fld := ⟨14, 0x004, 0, 16, 3⟩
def FB_STATUS_SPD_STATE : Fld := ⟨14, 0x004, 0, 10, 2⟩
def FB_STATUS_DIR : Fld := ⟨14, 0x004, 0, 9, 1⟩
def FB_STATUS_PT_ON : Fld := ⟨14, 0x004, 0, 5, 1⟩
def FB_STATUS_PARAM : Fld := ⟨14, 0x004, 0, 4, 1⟩
def FB_STATUS_FAULT : Fld := ⟨14, 0x004, 0, 3, 1⟩
def FB_STATUS_REF_OK : Fld := ⟨14, 0x004, 0, 2, 1⟩
def FB_STATUS_VALID : Fld := ⟨14, 0x004, 0, 1, 1⟩
def FB_EVENT_HYST : Fld := ⟨14, 0x008, 0, 15, 1⟩
def FB_EVENT_REV_WRAP : Fld := ⟨14, 0x008, 0, 14, 1⟩
def FB_EVENT_EMU_OVR : Fld := ⟨14, 0x008, 0, 13, 1⟩
def FB_EVENT_PAIR_DISAGREE : Fld := ⟨14, 0x008, 0, 12, 1⟩
def FB_EVENT_DISAGREE : Fld := ⟨14, 0x008, 0, 11, 1⟩
def FB_EVENT_FAULT : Fld := ⟨14, 0x008, 0, 10, 1⟩
def FB_EVENT_EXC_FAULT : Fld := ⟨14, 0x008, 0, 9, 1⟩
def FB_EVENT_LINE : Fld := ⟨14, 0x008, 0, 8, 1⟩
def FB_EVENT_HALL_INVALID : Fld := ⟨14, 0x008, 0, 7, 1⟩
def FB_EVENT_SSI_ERR : Fld := ⟨14, 0x008, 0, 6, 1⟩
def FB_EVENT_JUMP : Fld := ⟨14, 0x008, 0, 5, 1⟩
def FB_EVENT_AMP : Fld := ⟨14, 0x008, 0, 4, 1⟩
def FB_EVENT_SYNC_ERR : Fld := ⟨14, 0x008, 0, 3, 1⟩
def FB_EVENT_COUNT_ERR : Fld := ⟨14, 0x008, 0, 2, 1⟩
def FB_EVENT_Z_ERR : Fld := ⟨14, 0x008, 0, 1, 1⟩
def FB_EVENT_REF_SET : Fld := ⟨14, 0x008, 0, 0, 1⟩
def FB_CNT0_ERR_CNT : Fld := ⟨14, 0x00C, 0, 16, 16⟩
def FB_CNT0_AMP_CNT : Fld := ⟨14, 0x00C, 0, 0, 16⟩
def FB_CNT1_DISAG_CNT : Fld := ⟨14, 0x010, 0, 16, 16⟩
def FB_CNT1_EMU_CNT : Fld := ⟨14, 0x010, 0, 0, 16⟩
def FB_STUCK_STUCK : Fld := ⟨14, 0x014, 0, 0, 4⟩
def FB_POS_P : Fld := ⟨14, 0x018, 0, 0, 16⟩
def FB_REV : Fld := ⟨14, 0x01C, 0, 0, 32⟩
def FB_SPEED : Fld := ⟨14, 0x020, 0, 0, 32⟩
def FB_AMP_PHI : Fld := ⟨14, 0x024, 0, 16, 16⟩
def FB_AMP_AMP : Fld := ⟨14, 0x024, 0, 0, 16⟩
def FB_RAW : Fld := ⟨14, 0x028, 0, 0, 32⟩
def FB_STAMP : Fld := ⟨14, 0x02C, 0, 0, 32⟩
def FB_CPR_CPR : Fld := ⟨14, 0x040, 0, 0, 25⟩
def FB_REF_Z_N : Fld := ⟨14, 0x044, 0, 28, 4⟩
def FB_REF_Z_TOL : Fld := ⟨14, 0x044, 0, 24, 4⟩
def FB_REF_REF_POS : Fld := ⟨14, 0x044, 0, 0, 24⟩
def FB_SPD_SPD_Q : Fld := ⟨14, 0x048, 0, 24, 8⟩
def FB_SPD_SPD_WIN : Fld := ⟨14, 0x048, 0, 16, 8⟩
def FB_SPD_SPD_TO : Fld := ⟨14, 0x048, 0, 0, 16⟩
def FB_AMPW_AMP_MAX : Fld := ⟨14, 0x04C, 0, 16, 16⟩
def FB_AMPW_AMP_MIN : Fld := ⟨14, 0x04C, 0, 0, 16⟩
def FB_CHK_JUMP : Fld := ⟨14, 0x050, 0, 16, 16⟩
def FB_CHK_JUMP_N : Fld := ⟨14, 0x050, 0, 12, 4⟩
def FB_CHK_AMP_N : Fld := ⟨14, 0x050, 0, 8, 4⟩
def FB_CHK_SYNC_N : Fld := ⟨14, 0x050, 0, 4, 4⟩
def FB_CHK_SIG_N : Fld := ⟨14, 0x050, 0, 0, 4⟩
def FB_SSI_BITS : Fld := ⟨14, 0x054, 0, 24, 6⟩
def FB_SSI_ST_BITS : Fld := ⟨14, 0x054, 0, 16, 5⟩
def FB_SSI_PARITY : Fld := ⟨14, 0x054, 0, 12, 2⟩
def FB_SSI_GRAY : Fld := ⟨14, 0x054, 0, 11, 1⟩
def FB_SSI_SSI_DIV : Fld := ⟨14, 0x054, 0, 0, 8⟩
def FB_SSI2_SSI_FRAMES : Fld := ⟨14, 0x058, 0, 24, 8⟩
def FB_SSI2_TM : Fld := ⟨14, 0x058, 0, 16, 8⟩
def FB_SSI2_SSI_DLY : Fld := ⟨14, 0x058, 0, 0, 8⟩
def FB_EMU_EMU_GAP : Fld := ⟨14, 0x05C, 0, 24, 8⟩
def FB_EMU_EMU_CPR : Fld := ⟨14, 0x05C, 0, 0, 17⟩
def FB_HALL_HALL_OFS : Fld := ⟨14, 0x060, 0, 16, 16⟩
def FB_HALL_HALL_INV : Fld := ⟨14, 0x060, 0, 8, 1⟩
def FB_HALL_HPP : Fld := ⟨14, 0x060, 0, 0, 8⟩
def FB_DISAG : Fld := ⟨14, 0x064, 0, 0, 32⟩
def FB_DISN_DIS_N : Fld := ⟨14, 0x068, 0, 0, 4⟩
def FB_CMD_SET_REF : Fld := ⟨14, 0x06C, 0, 0, 1⟩
def FB_EXC_EXC_EN : Fld := ⟨14, 0xF00, 0, 8, 1⟩
def FB_EXC_EXC_AMP : Fld := ⟨14, 0xF00, 0, 0, 8⟩
def FB_EXC_MON_EXC_FAULT : Fld := ⟨14, 0xF04, 0, 17, 1⟩
def FB_EXC_MON_EXC_OK : Fld := ⟨14, 0xF04, 0, 16, 1⟩
def FB_EXC_MON_AMP : Fld := ⟨14, 0xF04, 0, 0, 16⟩

/-! Block AD (08_current_sensing.md) -/

def AD_CTRL_EXC_PHASE : Fld := ⟨15, 0x000, 0, 16, 8⟩
def AD_CTRL_EXC_N : Fld := ⟨15, 0x000, 0, 8, 5⟩
def AD_CTRL_ENABLE : Fld := ⟨15, 0x000, 0, 0, 4⟩
def AD_GAIN : Fld := ⟨15, 0x004, 0, 0, 32⟩
def AD_EVENT_DAC_DENIED : Fld := ⟨15, 0x008, 0, 4, 1⟩
def AD_EVENT_RANGE : Fld := ⟨15, 0x008, 0, 0, 4⟩
def AD_HK : Fld := ⟨15, 0x040, 4, 0, 32⟩
def AD_HKRES_ENTRY : Fld := ⟨15, 0x080, 4, 16, 7⟩
def AD_HKRES_CODE : Fld := ⟨15, 0x080, 4, 0, 16⟩
def AD_FE_FRAME : Fld := ⟨15, 0x200, 4, 16, 16⟩
def AD_FE_CODE : Fld := ⟨15, 0x200, 4, 0, 16⟩
def AD_DAC_INPUT : Fld := ⟨15, 0x300, 0, 18, 5⟩
def AD_DAC_ROUTE : Fld := ⟨15, 0x300, 0, 16, 2⟩
def AD_DAC_CODE : Fld := ⟨15, 0x300, 0, 0, 16⟩
def AD_CAL_GAIN : Fld := ⟨15, 0x310, 4, 16, 16⟩
def AD_CAL_OFFSET : Fld := ⟨15, 0x310, 4, 0, 16⟩

/-! Block SF (10_safety_io.md) -/

def SF_CTRL_SS12 : Fld := ⟨16, 0x000, 0, 8, 4⟩
def SF_CTRL_SS_EN : Fld := ⟨16, 0x000, 0, 4, 4⟩
def SF_CTRL_PS_EN : Fld := ⟨16, 0x000, 0, 0, 4⟩
def SF_STATUS_FILTERED : Fld := ⟨16, 0x004, 0, 16, 16⟩
def SF_STATUS_RAW : Fld := ⟨16, 0x004, 0, 0, 16⟩
def SF_SUPPLY_SS_OFF : Fld := ⟨16, 0x008, 0, 12, 4⟩
def SF_SUPPLY_PS_OFF : Fld := ⟨16, 0x008, 0, 8, 4⟩
def SF_SUPPLY_SS_LIM : Fld := ⟨16, 0x008, 0, 4, 4⟩
def SF_SUPPLY_PS_LIM : Fld := ⟨16, 0x008, 0, 0, 4⟩
def SF_FAULT_CROSS : Fld := ⟨16, 0x00C, 0, 16, 16⟩
def SF_FAULT_STUCK : Fld := ⟨16, 0x00C, 0, 0, 16⟩
def SF_EVENT_CHANGE : Fld := ⟨16, 0x010, 0, 5, 1⟩
def SF_EVENT_STOP_ACTIVE : Fld := ⟨16, 0x010, 0, 4, 1⟩
def SF_EVENT_FAULT_CLR : Fld := ⟨16, 0x010, 0, 3, 1⟩
def SF_EVENT_CROSS : Fld := ⟨16, 0x010, 0, 2, 1⟩
def SF_EVENT_STUCK : Fld := ⟨16, 0x010, 0, 1, 1⟩
def SF_EVENT_SUPPLY_FAULT : Fld := ⟨16, 0x010, 0, 0, 1⟩
def SF_CNT_SUPPLY_TRIP : Fld := ⟨16, 0x014, 0, 16, 16⟩
def SF_CNT_TEST_FAIL : Fld := ⟨16, 0x014, 0, 0, 16⟩
def SF_STUCK_STUCK : Fld := ⟨16, 0x018, 0, 0, 2⟩
def SF_IN_FILT : Fld := ⟨16, 0x040, 4, 8, 4⟩
def SF_IN_SOURCE : Fld := ⟨16, 0x040, 4, 4, 3⟩
def SF_IN_FUNC : Fld := ⟨16, 0x040, 4, 0, 2⟩

/-! Block EG (10_safety_io.md) -/

def EG_CTRL_KIND : Fld := ⟨17, 0x000, 0, 4, 2⟩
def EG_CTRL_BRK_NEG : Fld := ⟨17, 0x000, 0, 3, 1⟩
def EG_STATUS_VOTERS : Fld := ⟨17, 0x004, 0, 8, 3⟩
def EG_STATUS_CEILING : Fld := ⟨17, 0x004, 0, 7, 1⟩
def EG_STATUS_RATE_SET : Fld := ⟨17, 0x004, 0, 6, 1⟩
def EG_STATUS_RATE_CLAMP : Fld := ⟨17, 0x004, 0, 5, 1⟩
def EG_STATUS_PARAM : Fld := ⟨17, 0x004, 0, 4, 1⟩
def EG_EVENT_DUTY_BLOCK : Fld := ⟨17, 0x008, 0, 7, 1⟩
def EG_EVENT_GUARD_OFF : Fld := ⟨17, 0x008, 0, 6, 1⟩
def EG_EVENT_SW_HOLD : Fld := ⟨17, 0x008, 0, 5, 1⟩
def EG_EVENT_CEIL_START : Fld := ⟨17, 0x008, 0, 4, 1⟩
def EG_EVENT_RATE : Fld := ⟨17, 0x008, 0, 3, 1⟩
def EG_EVENT_SLEW : Fld := ⟨17, 0x008, 0, 2, 1⟩
def EG_EVENT_DEMAND : Fld := ⟨17, 0x008, 0, 1, 1⟩
def EG_CNT0_SW_HOLD : Fld := ⟨17, 0x00C, 0, 16, 16⟩
def EG_CNT0_SLEW : Fld := ⟨17, 0x00C, 0, 0, 16⟩
def EG_CNT1_RATE : Fld := ⟨17, 0x010, 0, 16, 16⟩
def EG_CNT1_DEMAND : Fld := ⟨17, 0x010, 0, 0, 16⟩
def EG_STUCK_STUCK : Fld := ⟨17, 0x014, 0, 0, 4⟩
def EG_CEIL : Fld := ⟨17, 0x018, 0, 0, 32⟩
def EG_TMAX : Fld := ⟨17, 0x040, 0, 0, 32⟩
def EG_SLEW : Fld := ⟨17, 0x044, 0, 0, 32⟩
def EG_RATE_F : Fld := ⟨17, 0x048, 0, 0, 32⟩
def EG_RATE_R : Fld := ⟨17, 0x04C, 0, 0, 32⟩
def EG_FBK : Fld := ⟨17, 0x050, 0, 0, 32⟩
def EG_OC : Fld := ⟨17, 0x054, 0, 0, 32⟩
def EG_OV : Fld := ⟨17, 0x058, 0, 0, 32⟩
def EG_SW_SW_INT : Fld := ⟨17, 0x05C, 0, 16, 16⟩
def EG_SW_SW_BURST : Fld := ⟨17, 0x05C, 0, 0, 8⟩
def EG_BRK_BRK_TMAX : Fld := ⟨17, 0x060, 0, 0, 14⟩
def EG_VOTE_OWN_VOTE : Fld := ⟨17, 0xF00, 0, 0, 16⟩
def EG_VOTE_N_FRESH : Fld := ⟨17, 0xF04, 0, 31, 1⟩
def EG_VOTE_N_STOP : Fld := ⟨17, 0xF04, 0, 30, 1⟩
def EG_VOTE_N_SEQ : Fld := ⟨17, 0xF04, 0, 16, 12⟩
def EG_VOTE_N_VOTES : Fld := ⟨17, 0xF04, 0, 0, 16⟩
def EG_VOTE_P_FRESH : Fld := ⟨17, 0xF08, 0, 31, 1⟩
def EG_VOTE_P_STOP : Fld := ⟨17, 0xF08, 0, 30, 1⟩
def EG_VOTE_P_SEQ : Fld := ⟨17, 0xF08, 0, 16, 12⟩
def EG_VOTE_P_VOTES : Fld := ⟨17, 0xF08, 0, 0, 16⟩

/-! Block LN (11_lane_network.md) -/

def LN_CFG_ETHERTYPE : Fld := ⟨18, 0x000, 0, 16, 16⟩
def LN_CFG_NODE : Fld := ⟨18, 0x000, 0, 8, 6⟩
def LN_CFG_CMAC : Fld := ⟨18, 0x000, 0, 6, 1⟩
def LN_CFG_TERM : Fld := ⟨18, 0x000, 0, 4, 2⟩
def LN_CFG_ENABLE : Fld := ⟨18, 0x000, 0, 0, 2⟩
def LN_STATUS_CYCLE : Fld := ⟨18, 0x004, 0, 16, 16⟩
def LN_STATUS_NIT : Fld := ⟨18, 0x004, 0, 15, 1⟩
def LN_STATUS_PARAM : Fld := ⟨18, 0x004, 0, 14, 1⟩
def LN_STATUS_SLOT : Fld := ⟨18, 0x004, 0, 8, 6⟩
def LN_STATUS_MODE : Fld := ⟨18, 0x004, 0, 6, 2⟩
def LN_STATUS_LATCHED : Fld := ⟨18, 0x004, 0, 4, 2⟩
def LN_STATUS_LEARNING : Fld := ⟨18, 0x004, 0, 2, 2⟩
def LN_STATUS_LOST : Fld := ⟨18, 0x004, 0, 0, 2⟩
def LN_EVENT_COPY_ERR : Fld := ⟨18, 0x008, 0, 13, 1⟩
def LN_EVENT_INJ_DONE : Fld := ⟨18, 0x008, 0, 12, 1⟩
def LN_EVENT_INJ_DENIED : Fld := ⟨18, 0x008, 0, 11, 1⟩
def LN_EVENT_HOP_LIMIT : Fld := ⟨18, 0x008, 0, 10, 1⟩
def LN_EVENT_COLLISION : Fld := ⟨18, 0x008, 0, 9, 1⟩
def LN_EVENT_STALE_TX : Fld := ⟨18, 0x008, 0, 8, 1⟩
def LN_EVENT_PORT_BACK : Fld := ⟨18, 0x008, 0, 7, 1⟩
def LN_EVENT_PORT_LOST : Fld := ⟨18, 0x008, 0, 6, 1⟩
def LN_EVENT_LATCH : Fld := ⟨18, 0x008, 0, 5, 1⟩
def LN_EVENT_VIOLATION : Fld := ⟨18, 0x008, 0, 4, 1⟩
def LN_EVENT_RX_ERR : Fld := ⟨18, 0x008, 0, 3, 1⟩
def LN_EVENT_MISS : Fld := ⟨18, 0x008, 0, 2, 1⟩
def LN_EVENT_TX_IRQ : Fld := ⟨18, 0x008, 0, 1, 1⟩
def LN_EVENT_RX_IRQ : Fld := ⟨18, 0x008, 0, 0, 1⟩
def LN_CMD_REOPEN : Fld := ⟨18, 0x00C, 0, 0, 2⟩
def LN_GUARD_GV_WIN : Fld := ⟨18, 0x010, 0, 16, 8⟩
def LN_GUARD_GV_N : Fld := ⟨18, 0x010, 0, 8, 4⟩
def LN_PORTTO_PORT_BACK : Fld := ⟨18, 0x014, 0, 8, 8⟩
def LN_PORTTO_PORT_TO : Fld := ⟨18, 0x014, 0, 0, 8⟩
def LN_RXLOCK_LOCK : Fld := ⟨18, 0x018, 0, 7, 1⟩
def LN_RXLOCK_PORT : Fld := ⟨18, 0x018, 0, 6, 1⟩
def LN_RXLOCK_SLOT : Fld := ⟨18, 0x018, 0, 0, 6⟩
def LN_ERR0_CRC_ERR : Fld := ⟨18, 0x020, 16, 16, 16⟩
def LN_ERR0_FCS_ERR : Fld := ⟨18, 0x020, 16, 0, 16⟩
def LN_ERR1_TIMING : Fld := ⟨18, 0x024, 16, 16, 16⟩
def LN_ERR1_MISMATCH : Fld := ⟨18, 0x024, 16, 0, 16⟩
def LN_ERR2_CMAC_ERR : Fld := ⟨18, 0x028, 16, 16, 16⟩
def LN_ERR2_MISS : Fld := ⟨18, 0x028, 16, 0, 16⟩
def LN_ERR3_VIOLATION : Fld := ⟨18, 0x02C, 16, 16, 16⟩
def LN_ERR3_COLLISION : Fld := ⟨18, 0x02C, 16, 0, 16⟩
def LN_STUCK_STUCK : Fld := ⟨18, 0x040, 0, 0, 16⟩
def LN_TXCOMMIT0 : Fld := ⟨18, 0x048, 0, 0, 32⟩
def LN_TXCOMMIT1 : Fld := ⟨18, 0x04C, 0, 0, 32⟩
def LN_INJ_ARM : Fld := ⟨18, 0x060, 0, 31, 1⟩
def LN_INJ_ACTION : Fld := ⟨18, 0x060, 0, 29, 2⟩
def LN_INJ_PORT : Fld := ⟨18, 0x060, 0, 28, 1⟩
def LN_INJ_SLOT : Fld := ⟨18, 0x060, 0, 22, 6⟩
def LN_INJ_SLOT2 : Fld := ⟨18, 0x060, 0, 16, 6⟩
def LN_INJ_CYCLES : Fld := ⟨18, 0x060, 0, 8, 8⟩
def LN_INJ2_FCS_KEEP : Fld := ⟨18, 0x064, 0, 16, 1⟩
def LN_INJ2_OFS : Fld := ⟨18, 0x064, 0, 0, 11⟩
def LN_CYC_NSLOT : Fld := ⟨18, 0x400, 1024, 16, 7⟩
def LN_CYC_CYCLE_LEN : Fld := ⟨18, 0x400, 1024, 0, 14⟩
def LN_SLEN0_LEN : Fld := ⟨18, 0x500, 4, 0, 14⟩
def LN_SLOT0_SRC_SLOT : Fld := ⟨18, 0x600, 4, 26, 6⟩
def LN_SLOT0_KIND : Fld := ⟨18, 0x600, 4, 22, 4⟩
def LN_SLOT0_IRQ : Fld := ⟨18, 0x600, 4, 21, 1⟩
def LN_SLOT0_ACTION : Fld := ⟨18, 0x600, 4, 18, 3⟩
def LN_SLOT0_NODE : Fld := ⟨18, 0x600, 4, 11, 6⟩
def LN_SLOT0_LEN : Fld := ⟨18, 0x600, 4, 0, 11⟩
def LN_SLEN1_LEN : Fld := ⟨18, 0x900, 4, 0, 14⟩
def LN_SLOT1_SRC_SLOT : Fld := ⟨18, 0xA00, 4, 26, 6⟩
def LN_SLOT1_KIND : Fld := ⟨18, 0xA00, 4, 22, 4⟩
def LN_SLOT1_IRQ : Fld := ⟨18, 0xA00, 4, 21, 1⟩
def LN_SLOT1_ACTION : Fld := ⟨18, 0xA00, 4, 18, 3⟩
def LN_SLOT1_NODE : Fld := ⟨18, 0xA00, 4, 11, 6⟩
def LN_SLOT1_LEN : Fld := ⟨18, 0xA00, 4, 0, 11⟩
def LN_SLEN2_LEN : Fld := ⟨18, 0xD00, 4, 0, 14⟩
def LN_SLOT2_SRC_SLOT : Fld := ⟨18, 0xE00, 4, 26, 6⟩
def LN_SLOT2_KIND : Fld := ⟨18, 0xE00, 4, 22, 4⟩
def LN_SLOT2_IRQ : Fld := ⟨18, 0xE00, 4, 21, 1⟩
def LN_SLOT2_ACTION : Fld := ⟨18, 0xE00, 4, 18, 3⟩
def LN_SLOT2_NODE : Fld := ⟨18, 0xE00, 4, 11, 6⟩
def LN_SLOT2_LEN : Fld := ⟨18, 0xE00, 4, 0, 11⟩
def LN_SLEN3_LEN : Fld := ⟨18, 0x1100, 4, 0, 14⟩
def LN_SLOT3_SRC_SLOT : Fld := ⟨18, 0x1200, 4, 26, 6⟩
def LN_SLOT3_KIND : Fld := ⟨18, 0x1200, 4, 22, 4⟩
def LN_SLOT3_IRQ : Fld := ⟨18, 0x1200, 4, 21, 1⟩
def LN_SLOT3_ACTION : Fld := ⟨18, 0x1200, 4, 18, 3⟩
def LN_SLOT3_NODE : Fld := ⟨18, 0x1200, 4, 11, 6⟩
def LN_SLOT3_LEN : Fld := ⟨18, 0x1200, 4, 0, 11⟩
def LN_TCFG_HOLD : Fld := ⟨18, 0x1400, 0, 24, 8⟩
def LN_TCFG_SRC_TO : Fld := ⟨18, 0x1400, 0, 16, 8⟩
def LN_TCFG_MALLOW : Fld := ⟨18, 0x1400, 0, 12, 4⟩
def LN_TCFG_RANK : Fld := ⟨18, 0x1400, 0, 0, 3⟩
def LN_TSTATUS_SRC : Fld := ⟨18, 0x1404, 0, 24, 6⟩
def LN_TSTATUS_REF : Fld := ⟨18, 0x1404, 0, 16, 6⟩
def LN_TSTATUS_REF_RANK : Fld := ⟨18, 0x1404, 0, 13, 3⟩
def LN_TSTATUS_JOIN_WAIT : Fld := ⟨18, 0x1404, 0, 12, 1⟩
def LN_TSTATUS_MPEND : Fld := ⟨18, 0x1404, 0, 11, 1⟩
def LN_TSTATUS_HOLDOVER : Fld := ⟨18, 0x1404, 0, 10, 1⟩
def LN_TSTATUS_DEPTH : Fld := ⟨18, 0x1404, 0, 8, 2⟩
def LN_TSTATUS_STATE : Fld := ⟨18, 0x1404, 0, 0, 3⟩
def LN_TEVENT_TOPO_OK : Fld := ⟨18, 0x1408, 0, 12, 1⟩
def LN_TEVENT_TOPO_ERR : Fld := ⟨18, 0x1408, 0, 11, 1⟩
def LN_TEVENT_DELAY_BAD : Fld := ⟨18, 0x1408, 0, 10, 1⟩
def LN_TEVENT_MODE_REJOIN : Fld := ⟨18, 0x1408, 0, 9, 1⟩
def LN_TEVENT_MODE_ABORT : Fld := ⟨18, 0x1408, 0, 8, 1⟩
def LN_TEVENT_MODE_SWITCH : Fld := ⟨18, 0x1408, 0, 7, 1⟩
def LN_TEVENT_HOLDOVER : Fld := ⟨18, 0x1408, 0, 6, 1⟩
def LN_TEVENT_REF_TAKEN : Fld := ⟨18, 0x1408, 0, 5, 1⟩
def LN_TEVENT_SRC_CHANGE : Fld := ⟨18, 0x1408, 0, 4, 1⟩
def LN_TEVENT_CS_YIELD : Fld := ⟨18, 0x1408, 0, 3, 1⟩
def LN_TEVENT_CS_COLLIDE : Fld := ⟨18, 0x1408, 0, 2, 1⟩
def LN_TEVENT_TIME_STEP : Fld := ⟨18, 0x1408, 0, 1, 1⟩
def LN_TEVENT_STATE_CHANGE : Fld := ⟨18, 0x1408, 0, 0, 1⟩
def LN_TIME_LO : Fld := ⟨18, 0x1410, 0, 0, 32⟩
def LN_TIME_HI : Fld := ⟨18, 0x1414, 0, 0, 32⟩
def LN_CYC_LO : Fld := ⟨18, 0x1418, 0, 0, 32⟩
def LN_CYC_HI_VAL : Fld := ⟨18, 0x141C, 0, 0, 16⟩
def LN_OFS : Fld := ⟨18, 0x1420, 0, 0, 32⟩
def LN_RATE : Fld := ⟨18, 0x1424, 0, 0, 32⟩
def LN_DLYDEF_DLY : Fld := ⟨18, 0x1428, 0, 0, 16⟩
def LN_MREQ_GO : Fld := ⟨18, 0x1430, 0, 2, 1⟩
def LN_MREQ_MODE : Fld := ⟨18, 0x1430, 0, 0, 2⟩
def LN_MRES_NUM : Fld := ⟨18, 0x1434, 0, 8, 8⟩
def LN_MRES_MODE : Fld := ⟨18, 0x1434, 0, 4, 2⟩
def LN_MRES_RESULT : Fld := ⟨18, 0x1434, 0, 0, 2⟩
def LN_TCNT_MODE_FAIL : Fld := ⟨18, 0x1440, 0, 16, 16⟩
def LN_TCNT_SRC_LOSS : Fld := ⟨18, 0x1440, 0, 0, 16⟩
def LN_TSTUCK_STUCK : Fld := ⟨18, 0x1444, 0, 0, 2⟩
def LN_NBR : Fld := ⟨18, 0x1480, 4, 0, 32⟩
def LN_DLY_P0_MEASURED : Fld := ⟨18, 0x1504, 4, 31, 1⟩
def LN_DLY_P0_DELAY : Fld := ⟨18, 0x1504, 4, 0, 16⟩
def LN_DLY_P1_MEASURED : Fld := ⟨18, 0x1604, 4, 31, 1⟩
def LN_DLY_P1_DELAY : Fld := ⟨18, 0x1604, 4, 0, 16⟩
def LN_TOPO_P1_USED : Fld := ⟨18, 0x1804, 4, 7, 1⟩
def LN_TOPO_SEG1 : Fld := ⟨18, 0x1804, 4, 4, 3⟩
def LN_TOPO_P0_USED : Fld := ⟨18, 0x1804, 4, 3, 1⟩
def LN_TOPO_SEG0 : Fld := ⟨18, 0x1804, 4, 0, 3⟩

/-! Block OC (13_object_channel.md) -/

def OC_CFG_BASE : Fld := ⟨19, 0x000, 0, 24, 5⟩
def OC_CFG_NODE : Fld := ⟨19, 0x000, 0, 16, 6⟩
def OC_CFG_FD : Fld := ⟨19, 0x000, 0, 3, 1⟩
def OC_CFG_BRS : Fld := ⟨19, 0x000, 0, 2, 1⟩
def OC_CFG_TDC_EN : Fld := ⟨19, 0x000, 0, 1, 1⟩
def OC_CFG_ENABLE : Fld := ⟨19, 0x000, 0, 0, 1⟩
def OC_STATUS_TEC : Fld := ⟨19, 0x004, 0, 24, 8⟩
def OC_STATUS_REC : Fld := ⟨19, 0x004, 0, 16, 8⟩
def OC_STATUS_XFERS : Fld := ⟨19, 0x004, 0, 12, 4⟩
def OC_STATUS_INPROG : Fld := ⟨19, 0x004, 0, 8, 4⟩
def OC_STATUS_PARAM : Fld := ⟨19, 0x004, 0, 4, 1⟩
def OC_STATUS_BUS : Fld := ⟨19, 0x004, 0, 2, 2⟩
def OC_STATUS_ON : Fld := ⟨19, 0x004, 0, 0, 1⟩
def OC_EVENT_XFER_TIMEOUT : Fld := ⟨19, 0x008, 0, 6, 1⟩
def OC_EVENT_XFER_CLOSED : Fld := ⟨19, 0x008, 0, 5, 1⟩
def OC_EVENT_NO_RESOURCE : Fld := ⟨19, 0x008, 0, 4, 1⟩
def OC_EVENT_DUP : Fld := ⟨19, 0x008, 0, 3, 1⟩
def OC_EVENT_RX_DISCARD : Fld := ⟨19, 0x008, 0, 2, 1⟩
def OC_EVENT_TX_ABORT : Fld := ⟨19, 0x008, 0, 1, 1⟩
def OC_EVENT_BUS_OFF : Fld := ⟨19, 0x008, 0, 0, 1⟩
def OC_CNT0_TX_ABORT : Fld := ⟨19, 0x00C, 0, 16, 16⟩
def OC_CNT0_BUS_OFF : Fld := ⟨19, 0x00C, 0, 0, 16⟩
def OC_CNT1_DUP : Fld := ⟨19, 0x010, 0, 16, 16⟩
def OC_CNT1_RX_DISCARD : Fld := ⟨19, 0x010, 0, 0, 16⟩
def OC_STUCK_STUCK : Fld := ⟨19, 0x014, 0, 0, 4⟩
def OC_TIME_XFER_TO : Fld := ⟨19, 0x018, 0, 16, 16⟩
def OC_TIME_RETX_BUDGET : Fld := ⟨19, 0x018, 0, 0, 16⟩
def OC_NBT_NSJW : Fld := ⟨19, 0x020, 0, 25, 7⟩
def OC_NBT_NTSEG1 : Fld := ⟨19, 0x020, 0, 16, 9⟩
def OC_NBT_NTSEG2 : Fld := ⟨19, 0x020, 0, 9, 7⟩
def OC_NBT_NBRP : Fld := ⟨19, 0x020, 0, 0, 9⟩
def OC_DBT_DSJW : Fld := ⟨19, 0x024, 0, 24, 4⟩
def OC_DBT_DTSEG1 : Fld := ⟨19, 0x024, 0, 16, 5⟩
def OC_DBT_DTSEG2 : Fld := ⟨19, 0x024, 0, 8, 4⟩
def OC_DBT_DBRP : Fld := ⟨19, 0x024, 0, 0, 5⟩
def OC_TDC_TDCO : Fld := ⟨19, 0x028, 0, 0, 7⟩

/-! Block EN (13_object_channel.md) -/

def EN_CFG_ETHERTYPE : Fld := ⟨20, 0x000, 0, 16, 16⟩
def EN_CFG_ROLE : Fld := ⟨20, 0x000, 0, 8, 1⟩
def EN_CFG_ENABLE : Fld := ⟨20, 0x000, 0, 0, 1⟩
def EN_STATUS_SQI : Fld := ⟨20, 0x004, 0, 8, 3⟩
def EN_STATUS_INSTALL : Fld := ⟨20, 0x004, 0, 3, 1⟩
def EN_STATUS_MASTER : Fld := ⟨20, 0x004, 0, 1, 1⟩
def EN_STATUS_LINK : Fld := ⟨20, 0x004, 0, 0, 1⟩
def EN_EVENT_BLOCK_BAD : Fld := ⟨20, 0x008, 0, 5, 1⟩
def EN_EVENT_BLOCK_DONE : Fld := ⟨20, 0x008, 0, 4, 1⟩
def EN_EVENT_CRC_ERR : Fld := ⟨20, 0x008, 0, 3, 1⟩
def EN_EVENT_RX_DROP : Fld := ⟨20, 0x008, 0, 2, 1⟩
def EN_EVENT_LINK_DOWN : Fld := ⟨20, 0x008, 0, 1, 1⟩
def EN_EVENT_LINK_UP : Fld := ⟨20, 0x008, 0, 0, 1⟩
def EN_CNT_RX_DROP : Fld := ⟨20, 0x00C, 0, 16, 16⟩
def EN_CNT_CRC_ERR : Fld := ⟨20, 0x00C, 0, 0, 16⟩
def EN_STUCK_STUCK : Fld := ⟨20, 0x010, 0, 0, 2⟩
def EN_STREAM_RATE : Fld := ⟨20, 0x014, 0, 16, 7⟩
def EN_STREAM_OUT_EN : Fld := ⟨20, 0x014, 0, 0, 3⟩
def EN_DST_LO : Fld := ⟨20, 0x018, 0, 0, 32⟩
def EN_DST_HI_DST : Fld := ⟨20, 0x01C, 0, 0, 16⟩

/-! Block SB (19_power_thermal.md) -/

def SB_CFG_ADDR : Fld := ⟨21, 0x000, 0, 8, 7⟩
def SB_CFG_ENABLE : Fld := ⟨21, 0x000, 0, 0, 1⟩
def SB_STATUS_PARAM : Fld := ⟨21, 0x004, 0, 16, 1⟩
def SB_STATUS_BYTE1 : Fld := ⟨21, 0x004, 0, 8, 8⟩
def SB_STATUS_BYTE0 : Fld := ⟨21, 0x004, 0, 0, 8⟩
def SB_EVENT_WINDOW_NACK : Fld := ⟨21, 0x008, 0, 1, 1⟩
def SB_EVENT_MATCH : Fld := ⟨21, 0x008, 0, 0, 1⟩

/-! Block IC (15_compute.md) -/

def IC_CTRL_EN_Y : Fld := ⟨22, 0x000, 0, 1, 1⟩
def IC_CTRL_EN_H : Fld := ⟨22, 0x000, 0, 0, 1⟩
def IC_CLAIM_VALID : Fld := ⟨22, 0x004, 0, 31, 1⟩
def IC_CLAIM_LEVEL : Fld := ⟨22, 0x004, 0, 8, 3⟩
def IC_CLAIM_SOURCE : Fld := ⟨22, 0x004, 0, 0, 8⟩
def IC_THRESH_DEPTH : Fld := ⟨22, 0x008, 0, 4, 3⟩
def IC_THRESH_THRESH : Fld := ⟨22, 0x008, 0, 0, 3⟩
def IC_VTAB_BASE : Fld := ⟨22, 0x00C, 0, 10, 22⟩
def IC_VECTOR : Fld := ⟨22, 0x010, 0, 0, 32⟩
def IC_BUDGET_RUN : Fld := ⟨22, 0x014, 0, 31, 1⟩
def IC_BUDGET_COUNT : Fld := ⟨22, 0x014, 0, 0, 24⟩
def IC_YARD_FW_CNT : Fld := ⟨22, 0x018, 0, 16, 16⟩
def IC_YARD_FW_STUCK : Fld := ⟨22, 0x018, 0, 4, 1⟩
def IC_YARD_FW_ERR : Fld := ⟨22, 0x018, 0, 3, 1⟩
def IC_YARD_DOORBELL_Y : Fld := ⟨22, 0x018, 0, 2, 1⟩
def IC_YARD_YRESET : Fld := ⟨22, 0x018, 0, 1, 1⟩
def IC_YARD_YRUN : Fld := ⟨22, 0x018, 0, 0, 1⟩
def IC_PEND : Fld := ⟨22, 0x040, 4, 0, 32⟩
def IC_SRC_SWSET : Fld := ⟨22, 0x400, 4, 24, 1⟩
def IC_SRC_ACTIVE : Fld := ⟨22, 0x400, 4, 17, 1⟩
def IC_SRC_PEND : Fld := ⟨22, 0x400, 4, 16, 1⟩
def IC_SRC_TARGET : Fld := ⟨22, 0x400, 4, 8, 1⟩
def IC_SRC_LEVEL : Fld := ⟨22, 0x400, 4, 0, 3⟩

end Sys2Proof.Machine.F
end

