-- ==== Sys2Proof/Machine/RegTable.lean ====
section
/-! DEFINITION. What every register of the manual does on an access: its access codes bit by bit (R11), its sticking counters (R15)
and its reset value (R445), one row per register or array of registers, block by block in the order of R441. -/

namespace Sys2Proof.Machine

/-- A sticking counter inside a register word (R15): its lowest bit and width, and the word offset and bit of its stuck flag. -/
structure CntRow where
  lo : Nat
  wid : Nat
  stuckOff : Nat
  stuckBit : Nat
  deriving DecidableEq, Repr

/-- A register, or an array of `count` registers `stride` bytes apart: where it lies in the block's window, whether it stands in
every group's window (1), in group 0's alone (2) or once per lane (0), its reset value, the bits written by each access code
(bits of no mask are read only, reserved or act without being stored), its counters, and array entries with a reset value of
their own; `named` masks the bits that any field takes, the others being reserved (R317); `wo`: every field is write only. -/
structure RegRow where
  off : Nat
  count : Nat
  stride : Nat
  grp : Nat
  reset : Nat
  rw : Nat
  rwl : Nat
  w1c : Nat
  w1s : Nat
  cnts : List CntRow
  resets : List (Nat × Nat)
  named : Nat
  wo : Bool
  deriving DecidableEq, Repr

/-- The registers of block SY. -/
def regRowsSY : List RegRow := [
  -- SY_CLK
  ⟨0x000, 1, 4, 0, 0x00000000, 0x00000000, 0x00000000, 0x00000000, 0x00000000, [], [], 0x0000000F, false⟩,
  -- SY_EVENT
  ⟨0x004, 1, 4, 0, 0x00000000, 0x00000000, 0x00000000, 0x00000003, 0x00000000, [], [], 0x00000003, false⟩,
  -- SY_RSTCAUSE
  ⟨0x008, 1, 4, 0, 0x0000FF01, 0x00000000, 0x00000000, 0x0000003F, 0x00000000, [], [], 0x0000FF3F, false⟩,
  -- SY_CMD
  ⟨0x00C, 1, 4, 0, 0x00000000, 0x00000000, 0x00000000, 0x00000000, 0x00000000, [], [], 0xFFFF0001, true⟩,
  -- SY_TRIM
  ⟨0x010, 1, 4, 0, 0x00008080, 0x00000000, 0x0000FFFF, 0x00000000, 0x00000000, [], [], 0x0000FFFF, false⟩,
  -- SY_RCMON
  ⟨0x014, 1, 4, 0, 0x00000000, 0x00000000, 0x00000000, 0x00000000, 0x00000000, [], [], 0x000000FF, false⟩]

/-- The registers of block PM. -/
def regRowsPM : List RegRow := [
  -- PM_CTRL
  ⟨0x000, 1, 4, 0, 0x00000000, 0x00000005, 0x00000002, 0x00000000, 0x00000000, [], [], 0x00000007, false⟩,
  -- PM_CMD
  ⟨0x004, 1, 4, 0, 0x00000000, 0x00000000, 0x00000000, 0x00000000, 0x00000000, [], [], 0x00000007, true⟩,
  -- PM_STATUS
  ⟨0x008, 1, 4, 0, 0xFF000000, 0x00000000, 0x00000000, 0x00000000, 0x00000000, [], [], 0xFF0F07F7, false⟩,
  -- PM_EVENT
  ⟨0x00C, 1, 4, 0, 0x00000000, 0x00000000, 0x00000000, 0x0000001F, 0x00000000, [], [], 0x0000001F, false⟩,
  -- PM_WAKE
  ⟨0x010, 1, 4, 0, 0x00002D00, 0xFFFFFF03, 0x00000000, 0x00000000, 0x00000000, [], [], 0xFFFFFF03, false⟩,
  -- PM_TIMER
  ⟨0x014, 1, 4, 0, 0x00000000, 0xFFFFFFFF, 0x00000000, 0x00000000, 0x00000000, [], [], 0xFFFFFFFF, false⟩,
  -- PM_PADREL
  ⟨0x018, 1, 4, 0, 0x00000000, 0x00000000, 0x00000000, 0x0000000F, 0x00000000, [], [], 0x0000000F, false⟩,
  -- PM_CNT
  ⟨0x01C, 1, 4, 0, 0x00000000, 0x00000000, 0x00000000, 0x00000000, 0x00000000, [⟨16, 16, 0x020, 1⟩, ⟨0, 16, 0x020, 0⟩], [], 0xFFFFFFFF, false⟩,
  -- PM_STUCK
  ⟨0x020, 1, 4, 0, 0x00000000, 0x00000000, 0x00000000, 0x00000000, 0x00000000, [], [], 0x00000003, false⟩,
  -- PM_ABORT
  ⟨0x024, 1, 4, 0, 0x00000000, 0x00000000, 0x00000000, 0x00000000, 0x00000000, [], [], 0xFFFFFFFF, false⟩]

/-- The registers of block TH. -/
def regRowsTH : List RegRow := [
  -- TH_CFG
  ⟨0x000, 1, 4, 0, 0x00000A80, 0x00000000, 0x0000FFFF, 0x00000000, 0x00000000, [], [], 0x0000FFFF, false⟩,
  -- TH_STATUS
  ⟨0x004, 1, 4, 0, 0x00000000, 0x00000000, 0x00000000, 0x00000008, 0x00000000, [], [], 0xFFFF001F, false⟩,
  -- TH_EVENT
  ⟨0x008, 1, 4, 0, 0x00000000, 0x00000000, 0x00000000, 0x0000003F, 0x00000000, [], [], 0x0000003F, false⟩,
  -- TH_TEMP
  ⟨0x040, 5, 4, 0, 0x80000000, 0x00000000, 0x00000000, 0x00000000, 0x00000000, [], [], 0xFFFFFFFF, false⟩]

/-- The registers of block FC. (Log entry 26: DEDUCED) -/
def regRowsFC : List RegRow := [
  -- FC_CFG
  ⟨0x000, 1, 4, 0, 0xE4080064, 0x00000000, 0xFFFF3FFF, 0x00000000, 0x00000000, [], [], 0xFFFF3FFF, false⟩,
  -- FC_STATE
  ⟨0x004, 1, 4, 0, 0x00000000, 0x00000000, 0x00000000, 0x00000000, 0x00000000, [], [], 0xFFFFFFFF, false⟩,
  -- FC_LATCH
  ⟨0x008, 1, 4, 0, 0x00000000, 0x00000000, 0x00000000, 0x00000000, 0x00000000, [], [], 0xFFFFFFFF, false⟩,
  -- FC_NEW
  ⟨0x00C, 1, 4, 0, 0x00000000, 0x00000000, 0x00000000, 0xFFFFFFFF, 0x00000000, [], [], 0xFFFFFFFF, false⟩,
  -- FC_EVENT
  ⟨0x010, 1, 4, 0, 0x00000000, 0x00000000, 0x00000000, 0x000000FF, 0x00000000, [], [], 0x000000FF, false⟩,
  -- FC_RCNT
  ⟨0x014, 1, 4, 0, 0x00000000, 0x00000000, 0x00000000, 0x00000000, 0x00000000, [⟨0, 8, 0x014, 8⟩], [], 0x000001FF, false⟩,
  -- FC_CCNT0
  ⟨0x018, 1, 4, 0, 0x00000000, 0x00000000, 0x00000000, 0x00000000, 0x00000000, [⟨16, 16, 0x020, 1⟩, ⟨0, 16, 0x020, 0⟩], [], 0xFFFFFFFF, false⟩,
  -- FC_CCNT1
  ⟨0x01C, 1, 4, 0, 0x00000000, 0x00000000, 0x00000000, 0x00000000, 0x00000000, [⟨16, 16, 0x020, 3⟩, ⟨0, 16, 0x020, 2⟩], [], 0xFFFFFFFF, false⟩,
  -- FC_STUCK
  ⟨0x020, 1, 4, 0, 0x00000000, 0x00000000, 0x00000000, 0x00000000, 0x00000000, [], [], 0x0000001F, false⟩,
  -- FC_ERROUT
  ⟨0x024, 1, 4, 0, 0x00000001, 0x00000001, 0x00000000, 0x00000000, 0x00000000, [⟨16, 16, 0x020, 4⟩], [], 0xFFFF000F, false⟩,
  -- FC_WDR
  ⟨0x028, 1, 4, 0, 0x00000000, 0x00000000, 0x00000000, 0x00000000, 0x00000000, [], [], 0x00000033, false⟩,
  -- FC_INJ
  ⟨0x030, 1, 4, 0, 0x00000000, 0x9F30FF00, 0x00000000, 0x00000000, 0x00000000, [], [], 0x9F30FF00, false⟩,
  -- FC_XINJ
  ⟨0x034, 1, 4, 0, 0x00000000, 0xFFFFFF00, 0x00000000, 0x00000000, 0x00000000, [], [], 0xFFFFFF00, false⟩,
  -- FC_LOG
  ⟨0x038, 1, 4, 0, 0x00000000, 0x00000000, 0x00000000, 0x00000000, 0x00000000, [⟨16, 16, 0xFFC, 0⟩], [], 0xFFFF007F, false⟩,
  -- FC_TRAP
  ⟨0x080, 8, 4, 0, 0x00000000, 0xFFFF0FFF, 0x00000000, 0x00000000, 0x00000000, [], [], 0xFFFF0FFF, false⟩]

/-- The registers of block ST. -/
def regRowsST : List RegRow := [
  -- ST_CTRL
  ⟨0x000, 1, 4, 0, 0x000A0000, 0x00FF0006, 0x00000000, 0x00000000, 0x00000000, [], [], 0x00FF0006, false⟩,
  -- ST_CMD
  ⟨0x004, 1, 4, 0, 0x00000000, 0x00000000, 0x00000000, 0x00000000, 0x00000000, [], [], 0x00000007, true⟩,
  -- ST_STATUS
  ⟨0x008, 1, 4, 0, 0x00000000, 0x00000000, 0x00000000, 0x00000000, 0x00000000, [], [], 0x3F000607, false⟩,
  -- ST_EVENT
  ⟨0x00C, 1, 4, 0, 0x00000000, 0x00000000, 0x00000000, 0x0000007F, 0x00000000, [], [], 0x0000007F, false⟩,
  -- ST_CNT
  ⟨0x010, 1, 4, 0, 0x00000000, 0x00000000, 0x00000000, 0x00000000, 0x00000000, [⟨16, 16, 0x014, 1⟩, ⟨0, 16, 0x014, 0⟩], [], 0xFFFFFFFF, false⟩,
  -- ST_STUCK
  ⟨0x014, 1, 4, 0, 0x00000000, 0x00000000, 0x00000000, 0x00000000, 0x00000000, [], [], 0x00000003, false⟩,
  -- ST_TOKEN
  ⟨0x018, 1, 4, 0, 0x00003000, 0x00000000, 0x00000000, 0x00000000, 0x00000000, [], [], 0xFFFF3000, false⟩,
  -- ST_FAILED_LO
  ⟨0x020, 1, 4, 0, 0x00000000, 0x00000000, 0x00000000, 0x00000000, 0x00000000, [], [], 0xFFFFFFFF, false⟩,
  -- ST_FAILED_HI
  ⟨0x024, 1, 4, 0, 0x00000000, 0x00000000, 0x00000000, 0x00000000, 0x00000000, [], [], 0xFFFFFFFF, false⟩,
  -- ST_SELECT_LO
  ⟨0x028, 1, 4, 0, 0x00000000, 0xFFFFFFFF, 0x00000000, 0x00000000, 0x00000000, [], [], 0xFFFFFFFF, false⟩,
  -- ST_SELECT_HI
  ⟨0x02C, 1, 4, 0, 0x00000000, 0xFFFFFFFF, 0x00000000, 0x00000000, 0x00000000, [], [], 0xFFFFFFFF, false⟩,
  -- ST_RUNS
  ⟨0x030, 1, 4, 0, 0x00000000, 0x00000000, 0x00000000, 0x00000000, 0x00000000, [], [], 0xFFFFFFFF, false⟩,
  -- ST_END_LO
  ⟨0x034, 1, 4, 0, 0x00000000, 0x00000000, 0x00000000, 0x00000000, 0x00000000, [], [], 0xFFFFFFFF, false⟩,
  -- ST_END_HI
  ⟨0x038, 1, 4, 0, 0x00000000, 0x00000000, 0x00000000, 0x00000000, 0x00000000, [], [], 0xFFFFFFFF, false⟩,
  -- ST_UNIT
  ⟨0x100, 64, 4, 0, 0x00000000, 0x00000000, 0x00000000, 0x00000000, 0x00000000, [], [], 0xC0003FFF, false⟩,
  -- ST_DUR
  ⟨0x200, 64, 4, 0, 0x00000000, 0x00000000, 0x00000000, 0x00000000, 0x00000000, [], [], 0xFFFFFFFF, false⟩,
  -- ST_SIG
  ⟨0x300, 64, 4, 0, 0x00000000, 0x00000000, 0x00000000, 0x00000000, 0x00000000, [], [], 0xFFFFFFFF, false⟩]

/-- The registers of block TL. -/
def regRowsTL : List RegRow := [
  -- TL_CFG
  ⟨0x000, 1, 4, 0, 0x00000064, 0x0000FFFF, 0x00000000, 0x00000000, 0x00000000, [], [], 0x0000FFFF, false⟩,
  -- TL_SNAPNUM
  ⟨0x004, 1, 4, 0, 0x00000000, 0x00000000, 0x00000000, 0x00000000, 0x00000000, [], [], 0xFFFFFFFF, false⟩,
  -- TL_EVENT
  ⟨0x008, 1, 4, 0, 0x00000000, 0x00000000, 0x00000000, 0x0000001F, 0x00000000, [], [], 0x0000001F, false⟩,
  -- TL_CMD
  ⟨0x00C, 1, 4, 0, 0x00000000, 0x00000000, 0x00000000, 0x00000000, 0x00000000, [], [], 0x00000003, true⟩,
  -- TL_CNT
  ⟨0x010, 1, 4, 0, 0x00000000, 0x00000000, 0x00000000, 0x00000000, 0x00000000, [⟨16, 16, 0x014, 1⟩, ⟨0, 16, 0x014, 0⟩], [], 0xFFFFFFFF, false⟩,
  -- TL_STUCK
  ⟨0x014, 1, 4, 0, 0x00000000, 0x00000000, 0x00000000, 0x00000000, 0x00000000, [], [], 0x00000003, false⟩,
  -- TL_ASAMP
  ⟨0x020, 1, 4, 0, 0x00000001, 0xC0FFFFFF, 0x00000000, 0x00000000, 0x00000000, [], [], 0xC0FFFFFF, false⟩,
  -- TL_AWP
  ⟨0x024, 1, 4, 0, 0x00000000, 0x00000000, 0x00000000, 0x00000000, 0x00000000, [], [], 0x80003FFF, false⟩,
  -- TL_ASEQ
  ⟨0x028, 1, 4, 0, 0x00000000, 0x00000000, 0x00000000, 0x00000000, 0x00000000, [], [], 0xFFFFFFFF, false⟩,
  -- TL_PEEK
  ⟨0x030, 1, 4, 0, 0x00000000, 0x00001F3F, 0x00000000, 0x00000000, 0x00000000, [], [], 0x00001F3F, false⟩,
  -- TL_PEEK_LO
  ⟨0x034, 1, 4, 0, 0x00000000, 0x00000000, 0x00000000, 0x00000000, 0x00000000, [], [], 0xFFFFFFFF, false⟩,
  -- TL_PEEK_HI
  ⟨0x038, 1, 4, 0, 0x00000000, 0x00000000, 0x00000000, 0x00000000, 0x00000000, [], [], 0xFFFFFFFF, false⟩,
  -- TL_BW
  ⟨0x040, 10, 4, 0, 0x00000000, 0x00000000, 0x00000000, 0x00000000, 0x00000000, [], [], 0xFFFFFFFF, false⟩,
  -- TL_TD
  ⟨0x080, 8, 4, 0, 0x00000000, 0x00000000, 0x00000000, 0x00000000, 0x00000000, [], [], 0x00003FFF, false⟩,
  -- TL_SNAP
  ⟨0x1000, 2944, 4, 0, 0x00000000, 0x00000000, 0x00000000, 0x00000000, 0x00000000, [], [], 0xFFFFFFFF, false⟩]

/-- The registers of block LC. -/
def regRowsLC : List RegRow := [
  -- LC_STATE
  ⟨0x000, 1, 4, 0, 0x00000000, 0x00000000, 0x00000000, 0x00000000, 0x00000000, [], [], 0x00FF07F7, false⟩,
  -- LC_SVC
  ⟨0x004, 1, 4, 0, 0x00000000, 0x00000000, 0x00000000, 0x00000000, 0x00000000, [], [], 0xFFFFFFFF, false⟩,
  -- LC_EVENT
  ⟨0x008, 1, 4, 0, 0x00000000, 0x00000000, 0x00000000, 0x0000007F, 0x00000000, [], [], 0x0000007F, false⟩,
  -- LC_CNT
  ⟨0x00C, 1, 4, 0, 0x00000000, 0x00000000, 0x00000000, 0x00000000, 0x00000000, [⟨16, 16, 0x010, 1⟩, ⟨0, 16, 0x010, 0⟩], [], 0xFFFFFFFF, false⟩,
  -- LC_STUCK
  ⟨0x010, 1, 4, 0, 0x00000000, 0x00000000, 0x00000000, 0x00000000, 0x00000000, [], [], 0x00000003, false⟩,
  -- LC_STRAP
  ⟨0x014, 1, 4, 0, 0x00000000, 0x00000000, 0x00000000, 0x00000000, 0x00000000, [], [], 0x0001FFFF, false⟩]

/-- The registers of block CF. -/
def regRowsCF : List RegRow := [
  -- CF_STATUS
  ⟨0x000, 1, 4, 0, 0x00000300, 0x00000000, 0x00000000, 0x00000000, 0x00000000, [], [], 0xF10303FF, false⟩,
  -- CF_EVENT
  ⟨0x004, 1, 4, 0, 0x00000000, 0x00000000, 0x00000000, 0x000000FF, 0x00000000, [], [], 0x000000FF, false⟩,
  -- CF_CNT
  ⟨0x008, 1, 4, 0, 0x00000000, 0x00000000, 0x00000000, 0x00000000, 0x00000000, [⟨16, 16, 0x00C, 1⟩, ⟨0, 16, 0x00C, 0⟩], [], 0xFFFFFFFF, false⟩,
  -- CF_STUCK
  ⟨0x00C, 1, 4, 0, 0x00000000, 0x00000000, 0x00000000, 0x00000000, 0x00000000, [], [], 0x00000003, false⟩,
  -- CF_SEQ0
  ⟨0x010, 1, 4, 0, 0xFFFFFFFF, 0x00000000, 0x00000000, 0x00000000, 0x00000000, [], [], 0xFFFFFFFF, false⟩,
  -- CF_SEQ1
  ⟨0x014, 1, 4, 0, 0xFFFFFFFF, 0x00000000, 0x00000000, 0x00000000, 0x00000000, [], [], 0xFFFFFFFF, false⟩,
  -- CF_NEXT
  ⟨0x018, 1, 4, 0, 0x00000000, 0x00000000, 0x00000000, 0x00000000, 0x00000000, [], [], 0xFFFFFFFF, false⟩,
  -- CF_ADDR
  ⟨0x020, 1, 4, 0, 0x00000000, 0xFFFFFFFF, 0x00000000, 0x00000000, 0x00000000, [], [], 0xFFFFFFFF, false⟩,
  -- CF_SRC
  ⟨0x024, 1, 4, 0, 0x00000000, 0xFFFFFFFF, 0x00000000, 0x00000000, 0x00000000, [], [], 0xFFFFFFFF, false⟩,
  -- CF_LEN
  ⟨0x028, 1, 4, 0, 0x00000000, 0xFFFFFFFF, 0x00000000, 0x00000000, 0x00000000, [], [], 0xFFFFFFFF, false⟩,
  -- CF_OP
  ⟨0x02C, 1, 4, 0, 0x00000000, 0x00000000, 0x00000000, 0x00000000, 0x00000000, [], [], 0x00000003, true⟩]

/-- The registers of block KY. -/
def regRowsKY : List RegRow := [
  -- KY_CFG
  ⟨0x000, 1, 4, 0, 0x07D00402, 0x00000000, 0xFFFF0F0F, 0x00000000, 0x00000000, [], [], 0xFFFF0F0F, false⟩,
  -- KY_STATUS
  ⟨0x004, 1, 4, 0, 0x00003B08, 0x00000000, 0x00000000, 0x00000000, 0x00000000, [], [], 0xFFFF3FFF, false⟩,
  -- KY_TIMER
  ⟨0x008, 1, 4, 0, 0x00000000, 0x00000000, 0x00000000, 0x00000000, 0x00000000, [], [], 0xFFFFFFFF, false⟩,
  -- KY_CMD
  ⟨0x00C, 1, 4, 0, 0x00000000, 0x00000000, 0x00000000, 0x00000000, 0x00000000, [], [], 0x00000007, true⟩,
  -- KY_EVENT
  ⟨0x010, 1, 4, 0, 0x00000000, 0x00000000, 0x00000000, 0x00003FFF, 0x00000000, [], [], 0x00003FFF, false⟩,
  -- KY_AGREE
  ⟨0x014, 1, 4, 0, 0x00000000, 0x00000000, 0x00000000, 0x00000000, 0x00000000, [], [], 0x00000707, false⟩,
  -- KY_CNT0
  ⟨0x018, 1, 4, 0, 0x00000000, 0x00000000, 0x00000000, 0x00000000, 0x00000000, [⟨16, 16, 0x020, 1⟩, ⟨0, 16, 0x020, 0⟩], [], 0xFFFFFFFF, false⟩,
  -- KY_CNT1
  ⟨0x01C, 1, 4, 0, 0x00000000, 0x00000000, 0x00000000, 0x00000000, 0x00000000, [⟨16, 16, 0x020, 3⟩, ⟨0, 16, 0x020, 2⟩], [], 0xFFFFFFFF, false⟩,
  -- KY_STUCK
  ⟨0x020, 1, 4, 0, 0x00000000, 0x00000000, 0x00000000, 0x00000000, 0x00000000, [], [], 0x0000000F, false⟩,
  -- KY_CLKMON
  ⟨0x024, 1, 4, 0, 0x00000000, 0x00000000, 0x00000000, 0x00000000, 0x00000000, [], [], 0x00001FFF, false⟩,
  -- KY_TOL
  ⟨0x040, 16, 4, 0, 0x3F800000, 0x00000000, 0xFFFFFFFF, 0x00000000, 0x00000000, [], [], 0xFFFFFFFF, false⟩,
  -- KY_SHELF_IN
  ⟨0x400, 256, 4, 0, 0x00000000, 0x00000000, 0x00000000, 0x00000000, 0x00000000, [], [], 0xFFFFFFFF, false⟩,
  -- KY_SHELF_OUT
  ⟨0x800, 256, 4, 0, 0x00000000, 0xFFFFFFFF, 0x00000000, 0x00000000, 0x00000000, [], [], 0xFFFFFFFF, false⟩]

/-- The registers of block CX. -/
def regRowsCX : List RegRow := [
  -- CX_STATUS
  ⟨0x000, 1, 4, 0, 0x00000000, 0x00000000, 0x00000000, 0x00000000, 0x00000000, [], [], 0x0000000F, false⟩,
  -- CX_EVENT
  ⟨0x004, 1, 4, 0, 0x00000000, 0x00000000, 0x00000000, 0x0000003F, 0x00000000, [], [], 0x0000003F, false⟩,
  -- CX_ERR_N
  ⟨0x008, 1, 4, 0, 0x00000000, 0x00000000, 0x00000000, 0x00000000, 0x00000000, [⟨16, 16, 0x010, 1⟩, ⟨0, 16, 0x010, 0⟩], [], 0xFFFFFFFF, false⟩,
  -- CX_ERR_P
  ⟨0x00C, 1, 4, 0, 0x00000000, 0x00000000, 0x00000000, 0x00000000, 0x00000000, [⟨16, 16, 0x010, 3⟩, ⟨0, 16, 0x010, 2⟩], [], 0xFFFFFFFF, false⟩,
  -- CX_STUCK
  ⟨0x010, 1, 4, 0, 0x00000000, 0x00000000, 0x00000000, 0x00000000, 0x00000000, [], [], 0x0000000F, false⟩,
  -- CX_RTT
  ⟨0x014, 1, 4, 0, 0x00000000, 0x00000000, 0x00000000, 0x00000000, 0x00000000, [], [], 0xFFFFFFFF, false⟩,
  -- CX_LOAD
  ⟨0x018, 1, 4, 0, 0x00000000, 0x00000000, 0x00000000, 0x00000000, 0x00000000, [], [], 0xFFFFFFFF, false⟩]

/-- The registers of block LG. -/
def regRowsLG0 : List RegRow := [
  -- LG_CTRL
  ⟨0x000, 1, 4, 1, 0x00000020, 0x0000F013, 0x0000032C, 0x00000000, 0x00000000, [], [], 0x0000F33F, false⟩,
  -- LG_STATUS
  ⟨0x004, 1, 4, 1, 0x00000C00, 0x00000000, 0x00000000, 0x00000000, 0x00000000, [], [], 0xFFFFFFE0, false⟩,
  -- LG_EVENT
  ⟨0x008, 1, 4, 1, 0x00000000, 0x00000000, 0x00000000, 0x000007FF, 0x00000000, [], [], 0x000007FF, false⟩,
  -- LG_CNT0
  ⟨0x00C, 1, 4, 1, 0x00000000, 0x00000000, 0x00000000, 0x00000000, 0x00000000, [⟨16, 16, 0x014, 1⟩, ⟨0, 16, 0x014, 0⟩], [], 0xFFFFFFFF, false⟩,
  -- LG_CNT1
  ⟨0x010, 1, 4, 1, 0x00000000, 0x00000000, 0x00000000, 0x00000000, 0x00000000, [⟨16, 16, 0x014, 3⟩, ⟨0, 16, 0x014, 2⟩], [], 0xFFFFFFFF, false⟩,
  -- LG_STUCK
  ⟨0x014, 1, 4, 1, 0x00000000, 0x00000000, 0x00000000, 0x00000000, 0x00000000, [], [], 0x0000000F, false⟩,
  -- LG_CMD
  ⟨0x018, 1, 4, 1, 0x00000000, 0x00000000, 0x00000000, 0x00000000, 0x00000000, [], [], 0x00000003, true⟩,
  -- LG_PERIOD
  ⟨0x020, 1, 4, 1, 0x00002710, 0x0001FFFF, 0x00000000, 0x00000000, 0x00000000, [], [], 0x0001FFFF, false⟩,
  -- LG_PERIOD_ACT
  ⟨0x024, 1, 4, 1, 0x00002710, 0x00000000, 0x00000000, 0x00000000, 0x00000000, [], [], 0x0001FFFF, false⟩,
  -- LG_DUTY
  ⟨0x040, 3, 4, 1, 0x00008000, 0x0000FFFF, 0x00000000, 0x00000000, 0x00000000, [], [], 0x0000FFFF, false⟩,
  -- LG_DUTY_ACT
  ⟨0x050, 3, 4, 1, 0x00008000, 0x00000000, 0x00000000, 0x00000000, 0x00000000, [], [], 0x0000FFFF, false⟩,
  -- LG_WIDTH
  ⟨0x060, 3, 4, 1, 0x00000000, 0x00000000, 0x00000000, 0x00000000, 0x00000000, [], [], 0x000FFFFF, false⟩,
  -- LG_ACC
  ⟨0x070, 3, 4, 1, 0x00000000, 0x00000000, 0x00000000, 0x00000000, 0x00000000, [], [], 0xFFFFFFFF, false⟩,
  -- LG_MINP
  ⟨0x080, 1, 4, 1, 0x00000140, 0x00000000, 0x00001FFF, 0x00000000, 0x00000000, [], [], 0x00001FFF, false⟩,
  -- LG_DTLIM
  ⟨0x084, 1, 4, 1, 0x032000A0, 0x00000000, 0x1FFF1FFF, 0x00000000, 0x00000000, [], [], 0x1FFF1FFF, false⟩,
  -- LG_DTADP
  ⟨0x088, 1, 4, 1, 0x00021020, 0x00000000, 0xFFFFFFFF, 0x00000000, 0x00000000, [], [], 0xFFFFFFFF, false⟩,
  -- LG_IZC
  ⟨0x08C, 1, 4, 1, 0x3F000000, 0x00000000, 0xFFFFFFFF, 0x00000000, 0x00000000, [], [], 0xFFFFFFFF, false⟩,
  -- LG_SIL
  ⟨0x090, 1, 4, 1, 0x00430320, 0x00000000, 0x00FF0FFF, 0x00000000, 0x00000000, [], [], 0x00FF0FFF, false⟩,
  -- LG_VSIL
  ⟨0x094, 1, 4, 1, 0x40A00000, 0x00000000, 0xFFFFFFFF, 0x00000000, 0x00000000, [], [], 0xFFFFFFFF, false⟩,
  -- LG_DTK
  ⟨0x098, 1, 4, 1, 0x000000A0, 0x00000000, 0x00001FFF, 0x00000000, 0x00000000, [], [], 0x00001FFF, false⟩,
  -- LG_DTA
  ⟨0x0A0, 4, 4, 1, 0x03200320, 0x00000000, 0x00000000, 0x00000000, 0x00000000, [], [(3, 0x00A000A0)], 0x1FFF1FFF, false⟩,
  -- LG_SENSE
  ⟨0x0B0, 4, 4, 1, 0xC0000000, 0x00000000, 0x00000000, 0x00000000, 0x00000000, [], [], 0xE000FFFF, false⟩,
  -- LG_VS
  ⟨0x0C0, 3, 4, 1, 0x00000000, 0x00000000, 0x00000000, 0x00000000, 0x00000000, [], [], 0x00000FFF, false⟩,
  -- LG_CH_CTRL
  ⟨0x300, 1, 4, 1, 0xE60A0A01, 0x00000000, 0xFFFFFF03, 0x00000000, 0x00000000, [], [], 0xFFFFFF03, false⟩,
  -- LG_CH_STATUS
  ⟨0x304, 1, 4, 1, 0x00000801, 0x00000000, 0x00000000, 0x00000000, 0x00000000, [], [], 0x00000FFF, false⟩,
  -- LG_CH_EVENT
  ⟨0x308, 1, 4, 1, 0x00000000, 0x00000000, 0x00000000, 0x0000007F, 0x00000000, [], [], 0x0000007F, false⟩,
  -- LG_CH_CNT
  ⟨0x30C, 1, 4, 1, 0x00000000, 0x00000000, 0x00000000, 0x00000000, 0x00000000, [⟨16, 16, 0x310, 1⟩, ⟨0, 16, 0x310, 0⟩], [], 0xFFFFFFFF, false⟩,
  -- LG_CH_STUCK
  ⟨0x310, 1, 4, 1, 0x00000000, 0x00000000, 0x00000000, 0x00000000, 0x00000000, [], [], 0x00000003, false⟩,
  -- LG_CH_TRISE
  ⟨0x314, 1, 4, 1, 0x000000C8, 0x00000000, 0x0000FFFF, 0x00000000, 0x00000000, [], [], 0x0000FFFF, false⟩,
  -- LG_CH_VON
  ⟨0x320, 1, 4, 1, 0x00000000, 0x00000000, 0xFFFFFFFF, 0x00000000, 0x00000000, [], [], 0xFFFFFFFF, false⟩,
  -- LG_CH_VOFF
  ⟨0x324, 1, 4, 1, 0x00000000, 0x00000000, 0xFFFFFFFF, 0x00000000, 0x00000000, [], [], 0xFFFFFFFF, false⟩,
  -- LG_CH_VOV1
  ⟨0x328, 1, 4, 1, 0x00000000, 0x00000000, 0xFFFFFFFF, 0x00000000, 0x00000000, [], [], 0xFFFFFFFF, false⟩,
  -- LG_CH_VOV2
  ⟨0x32C, 1, 4, 1, 0x00000000, 0x00000000, 0xFFFFFFFF, 0x00000000, 0x00000000, [], [], 0xFFFFFFFF, false⟩,
  -- LG_CH_VOV3
  ⟨0x330, 1, 4, 1, 0x00000000, 0x00000000, 0xFFFFFFFF, 0x00000000, 0x00000000, [], [], 0xFFFFFFFF, false⟩,
  -- LG_CH_VUV
  ⟨0x334, 1, 4, 1, 0x00000000, 0x00000000, 0xFFFFFFFF, 0x00000000, 0x00000000, [], [], 0xFFFFFFFF, false⟩,
  -- LG_CH_VUVT
  ⟨0x338, 1, 4, 1, 0x00000000, 0x00000000, 0xFFFFFFFF, 0x00000000, 0x00000000, [], [], 0xFFFFFFFF, false⟩,
  -- LG_CH_DVR
  ⟨0x33C, 1, 4, 1, 0x00000000, 0x00000000, 0xFFFFFFFF, 0x00000000, 0x00000000, [], [], 0xFFFFFFFF, false⟩,
  -- LG_CH_RCH
  ⟨0x340, 1, 4, 1, 0x00000000, 0x00000000, 0xFFFFFFFF, 0x00000000, 0x00000000, [], [], 0xFFFFFFFF, false⟩,
  -- LG_CH_PCONT
  ⟨0x344, 1, 4, 1, 0x00000000, 0x00000000, 0xFFFFFFFF, 0x00000000, 0x00000000, [], [], 0xFFFFFFFF, false⟩,
  -- LG_CH_EMAX
  ⟨0x348, 1, 4, 1, 0x00000000, 0x00000000, 0xFFFFFFFF, 0x00000000, 0x00000000, [], [], 0xFFFFFFFF, false⟩]

/-- The registers of block LG. -/
def regRowsLG1 : List RegRow := [
  -- LG_CH_E
  ⟨0x34C, 1, 4, 1, 0x00000000, 0x00000000, 0x00000000, 0x00000000, 0x00000000, [], [], 0xFFFFFFFF, false⟩]

/-- The registers of block LG. -/
def regRowsLG : List RegRow := regRowsLG0 ++ regRowsLG1

/-- The registers of block TQ. -/
def regRowsTQ : List RegRow := [
  -- TQ_CTRL
  ⟨0x000, 1, 4, 1, 0x00000000, 0x00000011, 0x0000000E, 0x00000000, 0x00000000, [], [], 0x0000001F, false⟩,
  -- TQ_STATUS
  ⟨0x004, 1, 4, 1, 0x40020010, 0x00000000, 0x00000000, 0x00000000, 0x00000000, [], [], 0x7FFFFFFF, false⟩,
  -- TQ_EVENT
  ⟨0x008, 1, 4, 1, 0x00000000, 0x00000000, 0x00000000, 0x0000007F, 0x00000000, [], [], 0x0000007F, false⟩,
  -- TQ_CNT
  ⟨0x00C, 1, 4, 1, 0x00000000, 0x00000000, 0x00000000, 0x00000000, 0x00000000, [⟨16, 16, 0x010, 1⟩, ⟨0, 16, 0x010, 0⟩], [], 0xFFFFFFFF, false⟩,
  -- TQ_STUCK
  ⟨0x010, 1, 4, 1, 0x00000000, 0x00000000, 0x00000000, 0x00000000, 0x00000000, [], [], 0x00000003, false⟩,
  -- TQ_DEMAND
  ⟨0x014, 1, 4, 1, 0x00000000, 0xFFFFFFFF, 0x00000000, 0x00000000, 0x00000000, [], [], 0xFFFFFFFF, false⟩,
  -- TQ_SHARE
  ⟨0x018, 1, 4, 1, 0x00080100, 0x000003FF, 0x003F0000, 0x00000000, 0x00000000, [], [], 0x003F03FF, false⟩,
  -- TQ_TEST
  ⟨0x020, 1, 4, 1, 0x00000000, 0x00000000, 0x00000000, 0x00000000, 0x00000000, [], [], 0xFFFFFFFF, false⟩,
  -- TQ_TREF
  ⟨0x024, 1, 4, 1, 0x00000000, 0x00000000, 0x00000000, 0x00000000, 0x00000000, [], [], 0xFFFFFFFF, false⟩,
  -- TQ_FLUX
  ⟨0x028, 1, 4, 1, 0x00000000, 0x00000000, 0x00000000, 0x00000000, 0x00000000, [], [], 0xFFFFFFFF, false⟩,
  -- TQ_FREF
  ⟨0x02C, 1, 4, 1, 0x00000000, 0x00000000, 0x00000000, 0x00000000, 0x00000000, [], [], 0xFFFFFFFF, false⟩,
  -- TQ_FANG
  ⟨0x030, 1, 4, 1, 0x00000000, 0x00000000, 0x00000000, 0x00000000, 0x00000000, [], [], 0xFFFFFFFF, false⟩,
  -- TQ_POLES
  ⟨0x040, 1, 4, 1, 0x00000000, 0x00000000, 0x0000003F, 0x00000000, 0x00000000, [], [], 0x0000003F, false⟩,
  -- TQ_RS
  ⟨0x044, 1, 4, 1, 0x00000000, 0x00000000, 0xFFFFFFFF, 0x00000000, 0x00000000, [], [], 0xFFFFFFFF, false⟩,
  -- TQ_LD
  ⟨0x048, 1, 4, 1, 0x00000000, 0x00000000, 0xFFFFFFFF, 0x00000000, 0x00000000, [], [], 0xFFFFFFFF, false⟩,
  -- TQ_LQ
  ⟨0x04C, 1, 4, 1, 0x00000000, 0x00000000, 0xFFFFFFFF, 0x00000000, 0x00000000, [], [], 0xFFFFFFFF, false⟩,
  -- TQ_PSIPM
  ⟨0x050, 1, 4, 1, 0x00000000, 0x00000000, 0xFFFFFFFF, 0x00000000, 0x00000000, [], [], 0xFFFFFFFF, false⟩,
  -- TQ_GEAR
  ⟨0x054, 1, 4, 1, 0x00000000, 0x00000000, 0xFFFFFFFF, 0x00000000, 0x00000000, [], [], 0xFFFFFFFF, false⟩,
  -- TQ_PSINOM
  ⟨0x058, 1, 4, 1, 0x00000000, 0x00000000, 0xFFFFFFFF, 0x00000000, 0x00000000, [], [], 0xFFFFFFFF, false⟩,
  -- TQ_TRATED
  ⟨0x05C, 1, 4, 1, 0x00000000, 0x00000000, 0xFFFFFFFF, 0x00000000, 0x00000000, [], [], 0xFFFFFFFF, false⟩,
  -- TQ_WRATED
  ⟨0x060, 1, 4, 1, 0x00000000, 0x00000000, 0xFFFFFFFF, 0x00000000, 0x00000000, [], [], 0xFFFFFFFF, false⟩,
  -- TQ_TLIM
  ⟨0x064, 1, 4, 1, 0x00000000, 0x00000000, 0xFFFFFFFF, 0x00000000, 0x00000000, [], [], 0xFFFFFFFF, false⟩,
  -- TQ_ILIM
  ⟨0x068, 1, 4, 1, 0x00000000, 0x00000000, 0xFFFFFFFF, 0x00000000, 0x00000000, [], [], 0xFFFFFFFF, false⟩,
  -- TQ_WC
  ⟨0x06C, 1, 4, 1, 0x00000000, 0x00000000, 0xFFFFFFFF, 0x00000000, 0x00000000, [], [], 0xFFFFFFFF, false⟩,
  -- TQ_HT
  ⟨0x070, 1, 4, 1, 0x00000000, 0x00000000, 0xFFFFFFFF, 0x00000000, 0x00000000, [], [], 0xFFFFFFFF, false⟩,
  -- TQ_HPSI
  ⟨0x074, 1, 4, 1, 0x00000000, 0x00000000, 0xFFFFFFFF, 0x00000000, 0x00000000, [], [], 0xFFFFFFFF, false⟩,
  -- TQ_KPT
  ⟨0x078, 1, 4, 1, 0x00000000, 0x00000000, 0xFFFFFFFF, 0x00000000, 0x00000000, [], [], 0xFFFFFFFF, false⟩,
  -- TQ_KIT
  ⟨0x07C, 1, 4, 1, 0x00000000, 0x00000000, 0xFFFFFFFF, 0x00000000, 0x00000000, [], [], 0xFFFFFFFF, false⟩,
  -- TQ_KPF
  ⟨0x080, 1, 4, 1, 0x00000000, 0x00000000, 0xFFFFFFFF, 0x00000000, 0x00000000, [], [], 0xFFFFFFFF, false⟩,
  -- TQ_KIF
  ⟨0x084, 1, 4, 1, 0x00000000, 0x00000000, 0xFFFFFFFF, 0x00000000, 0x00000000, [], [], 0xFFFFFFFF, false⟩,
  -- TQ_PA_STEP
  ⟨0x088, 1, 4, 1, 0x00000000, 0x00000000, 0xFFFFFFFF, 0x00000000, 0x00000000, [], [], 0xFFFFFFFF, false⟩,
  -- TQ_STAB
  ⟨0x100, 12, 4, 1, 0x00008800, 0x00000000, 0x00FFFFFF, 0x00000000, 0x00000000, [], [(0, 0x00568832), (1, 0x00518842), (2, 0x00618843), (3, 0x00628853), (4, 0x00128854), (5, 0x00138864), (6, 0x00238865), (7, 0x00248815), (8, 0x00348816), (9, 0x00358826), (10, 0x00458821), (11, 0x00468831)], 0x00FFFFFF, false⟩,
  -- TQ_PA
  ⟨0x200, 32, 4, 1, 0x00000000, 0x00000000, 0xFFFFFFFF, 0x00000000, 0x00000000, [], [], 0xFFFFFFFF, false⟩]

/-- The registers of block AN. -/
def regRowsAN : List RegRow := [
  -- AN_CTRL
  ⟨0x000, 1, 4, 1, 0x00000004, 0x00000001, 0x00000006, 0x00000000, 0x00000000, [], [], 0x00000007, false⟩,
  -- AN_STATUS
  ⟨0x004, 1, 4, 1, 0x00000000, 0x00000000, 0x00000000, 0x00000000, 0x00000000, [], [], 0xFFFF1FC7, false⟩,
  -- AN_EVENT
  ⟨0x008, 1, 4, 1, 0x00000000, 0x00000000, 0x00000000, 0x000003FF, 0x00000000, [], [], 0x000003FF, false⟩,
  -- AN_CNT
  ⟨0x00C, 1, 4, 1, 0x00000000, 0x00000000, 0x00000000, 0x00000000, 0x00000000, [⟨16, 16, 0x010, 1⟩, ⟨0, 16, 0x010, 0⟩], [], 0xFFFFFFFF, false⟩,
  -- AN_STUCK
  ⟨0x010, 1, 4, 1, 0x00000000, 0x00000000, 0x00000000, 0x00000000, 0x00000000, [], [], 0x00000003, false⟩,
  -- AN_CONF
  ⟨0x014, 1, 4, 1, 0x00000000, 0x00000000, 0x00000000, 0x00000000, 0x00000000, [], [], 0xFFFFFFFF, false⟩,
  -- AN_SPEED
  ⟨0x018, 1, 4, 1, 0x00000000, 0x00000000, 0x00000000, 0x00000000, 0x00000000, [], [], 0xFFFFFFFF, false⟩,
  -- AN_CONS
  ⟨0x01C, 1, 4, 1, 0x00000000, 0x00000000, 0x00000000, 0x00000000, 0x00000000, [], [], 0x0007FFFF, false⟩,
  -- AN_CFG
  ⟨0x040, 1, 4, 1, 0x020D1440, 0x00000000, 0x0FFFFFFF, 0x00000000, 0x00000000, [], [], 0x0FFFFFFF, false⟩,
  -- AN_WIN
  ⟨0x044, 1, 4, 1, 0x071C2004, 0x00000000, 0xFFFFFFFF, 0x00000000, 0x00000000, [], [], 0xFFFFFFFF, false⟩,
  -- AN_INJ
  ⟨0x048, 1, 4, 1, 0x01F403E8, 0x00000000, 0xFFFFFFFF, 0x00000000, 0x00000000, [], [], 0xFFFFFFFF, false⟩,
  -- AN_POL
  ⟨0x04C, 1, 4, 1, 0x056407D0, 0x00000000, 0xFFFFFFFF, 0x00000000, 0x00000000, [], [], 0xFFFFFFFF, false⟩,
  -- AN_INJ_AMIN
  ⟨0x050, 1, 4, 1, 0x3F000000, 0x00000000, 0xFFFFFFFF, 0x00000000, 0x00000000, [], [], 0xFFFFFFFF, false⟩,
  -- AN_OBS_EMIN
  ⟨0x054, 1, 4, 1, 0x40000000, 0x00000000, 0xFFFFFFFF, 0x00000000, 0x00000000, [], [], 0xFFFFFFFF, false⟩,
  -- AN_ENC
  ⟨0x058, 1, 4, 1, 0x00010000, 0x00000000, 0x003FFFFF, 0x00000000, 0x00000000, [], [], 0x003FFFFF, false⟩,
  -- AN_CMD
  ⟨0x05C, 1, 4, 1, 0x00000000, 0x00000000, 0x00000000, 0x00000000, 0x00000000, [], [], 0x00000001, true⟩,
  -- AN_ENC_CAPT
  ⟨0x060, 1, 4, 1, 0x00000000, 0x00000000, 0x00000000, 0x00000000, 0x00000000, [], [], 0x0001FFFF, false⟩,
  -- AN_PEER_N0
  ⟨0x080, 1, 4, 1, 0x00000000, 0x00000000, 0x00000000, 0x00000000, 0x00000000, [], [], 0xFFFFFFFF, false⟩,
  -- AN_PEER_N1
  ⟨0x084, 1, 4, 1, 0x00000000, 0x00000000, 0x00000000, 0x00000000, 0x00000000, [], [], 0xFFFFFFFF, false⟩,
  -- AN_PEER_P0
  ⟨0x088, 1, 4, 1, 0x00000000, 0x00000000, 0x00000000, 0x00000000, 0x00000000, [], [], 0xFFFFFFFF, false⟩,
  -- AN_PEER_P1
  ⟨0x08C, 1, 4, 1, 0x00000000, 0x00000000, 0x00000000, 0x00000000, 0x00000000, [], [], 0xFFFFFFFF, false⟩,
  -- AN_XCHG
  ⟨0xF00, 1, 4, 2, 0x00000000, 0x00000000, 0x00000000, 0x00000000, 0x00000000, [], [], 0x00FFFFFF, false⟩]

/-- The registers of block SD. -/
def regRowsSD : List RegRow := [
  -- SD_CTRL
  ⟨0x000, 1, 4, 1, 0x400C020A, 0x00000080, 0xFF1F3F3F, 0x00000000, 0x00000000, [], [], 0xFF1F3FBF, false⟩,
  -- SD_STATUS
  ⟨0x004, 1, 4, 1, 0x000C0030, 0x00000000, 0x00000000, 0x00000000, 0x00000000, [], [], 0x001F0F37, false⟩,
  -- SD_EVENT
  ⟨0x008, 1, 4, 1, 0x00000000, 0x00000000, 0x00000000, 0x0000000F, 0x00000000, [], [], 0x0000000F, false⟩,
  -- SD_CNT
  ⟨0x00C, 1, 4, 1, 0x00000000, 0x00000000, 0x00000000, 0x00000000, 0x00000000, [⟨16, 16, 0x010, 1⟩, ⟨0, 16, 0x010, 0⟩], [], 0xFFFFFFFF, false⟩,
  -- SD_STUCK
  ⟨0x010, 1, 4, 1, 0x00000000, 0x00000000, 0x00000000, 0x00000000, 0x00000000, [], [], 0x00000003, false⟩,
  -- SD_OC
  ⟨0x014, 1, 4, 1, 0x00000000, 0x00000000, 0xFFFFFFFF, 0x00000000, 0x00000000, [], [], 0xFFFFFFFF, false⟩,
  -- SD_TRIPN
  ⟨0x018, 1, 4, 1, 0x00640803, 0x00000000, 0xFFFFFFFF, 0x00000000, 0x00000000, [], [], 0xFFFFFFFF, false⟩,
  -- SD_SUMLIM
  ⟨0x01C, 1, 4, 1, 0x00000000, 0x00000000, 0xFFFFFFFF, 0x00000000, 0x00000000, [], [], 0xFFFFFFFF, false⟩,
  -- SD_OFS
  ⟨0x040, 4, 4, 1, 0x00000000, 0x00000000, 0x0000FFFF, 0x00000000, 0x00000000, [], [], 0x0000FFFF, false⟩,
  -- SD_SCALE
  ⟨0x050, 4, 4, 1, 0x00000000, 0x00000000, 0xFFFFFFFF, 0x00000000, 0x00000000, [], [], 0xFFFFFFFF, false⟩,
  -- SD_VAL3
  ⟨0x060, 4, 4, 1, 0x00000000, 0x00000000, 0x00000000, 0x00000000, 0x00000000, [], [], 0xFFFFFFFF, false⟩,
  -- SD_VAL2
  ⟨0x070, 4, 4, 1, 0x00000000, 0x00000000, 0x00000000, 0x00000000, 0x00000000, [], [], 0xFFFFFFFF, false⟩]

/-- The registers of block FB. -/
def regRowsFB : List RegRow := [
  -- FB_CTRL
  ⟨0x000, 1, 4, 1, 0x00200000, 0x00000001, 0x00F3180E, 0x00000000, 0x00000000, [], [], 0x00F3180F, false⟩,
  -- FB_STATUS
  ⟨0x004, 1, 4, 1, 0x07000000, 0x00000000, 0x00000000, 0x00000000, 0x00000000, [], [], 0x07070E3E, false⟩,
  -- FB_EVENT
  ⟨0x008, 1, 4, 1, 0x00000000, 0x00000000, 0x00000000, 0x0000FFFF, 0x00000000, [], [], 0x0000FFFF, false⟩,
  -- FB_CNT0
  ⟨0x00C, 1, 4, 1, 0x00000000, 0x00000000, 0x00000000, 0x00000000, 0x00000000, [⟨16, 16, 0x014, 1⟩, ⟨0, 16, 0x014, 0⟩], [], 0xFFFFFFFF, false⟩,
  -- FB_CNT1
  ⟨0x010, 1, 4, 1, 0x00000000, 0x00000000, 0x00000000, 0x00000000, 0x00000000, [⟨16, 16, 0x014, 3⟩, ⟨0, 16, 0x014, 2⟩], [], 0xFFFFFFFF, false⟩,
  -- FB_STUCK
  ⟨0x014, 1, 4, 1, 0x00000000, 0x00000000, 0x00000000, 0x00000000, 0x00000000, [], [], 0x0000000F, false⟩,
  -- FB_POS
  ⟨0x018, 1, 4, 1, 0x00000000, 0x00000000, 0x00000000, 0x00000000, 0x00000000, [], [], 0x0000FFFF, false⟩,
  -- FB_REV
  ⟨0x01C, 1, 4, 1, 0x00000000, 0x00000000, 0x00000000, 0x00000000, 0x00000000, [], [], 0xFFFFFFFF, false⟩,
  -- FB_SPEED
  ⟨0x020, 1, 4, 1, 0x00000000, 0x00000000, 0x00000000, 0x00000000, 0x00000000, [], [], 0xFFFFFFFF, false⟩,
  -- FB_AMP
  ⟨0x024, 1, 4, 1, 0x00000000, 0x00000000, 0x00000000, 0x00000000, 0x00000000, [], [], 0xFFFFFFFF, false⟩,
  -- FB_RAW
  ⟨0x028, 1, 4, 1, 0x00000000, 0x00000000, 0x00000000, 0x00000000, 0x00000000, [], [], 0xFFFFFFFF, false⟩,
  -- FB_STAMP
  ⟨0x02C, 1, 4, 1, 0x00000000, 0x00000000, 0x00000000, 0x00000000, 0x00000000, [], [], 0xFFFFFFFF, false⟩,
  -- FB_CPR
  ⟨0x040, 1, 4, 1, 0x00001000, 0x00000000, 0x01FFFFFF, 0x00000000, 0x00000000, [], [], 0x01FFFFFF, false⟩,
  -- FB_REF
  ⟨0x044, 1, 4, 1, 0x31000000, 0x00000000, 0xFFFFFFFF, 0x00000000, 0x00000000, [], [], 0xFFFFFFFF, false⟩,
  -- FB_SPD
  ⟨0x048, 1, 4, 1, 0x040A00C8, 0x00000000, 0xFFFFFFFF, 0x00000000, 0x00000000, [], [], 0xFFFFFFFF, false⟩,
  -- FB_AMPW
  ⟨0x04C, 1, 4, 1, 0x66661999, 0x00000000, 0xFFFFFFFF, 0x00000000, 0x00000000, [], [], 0xFFFFFFFF, false⟩,
  -- FB_CHK
  ⟨0x050, 1, 4, 1, 0x08002323, 0x00000000, 0xFFFFFFFF, 0x00000000, 0x00000000, [], [], 0xFFFFFFFF, false⟩,
  -- FB_SSI
  ⟨0x054, 1, 4, 1, 0x190D080A, 0x00000000, 0x3F1F38FF, 0x00000000, 0x00000000, [], [], 0x3F1F38FF, false⟩,
  -- FB_SSI2
  ⟨0x058, 1, 4, 1, 0x0A140000, 0x00000000, 0xFFFF00FF, 0x00000000, 0x00000000, [], [], 0xFFFF00FF, false⟩,
  -- FB_EMU
  ⟨0x05C, 1, 4, 1, 0x14001000, 0x00000000, 0xFF01FFFF, 0x00000000, 0x00000000, [], [], 0xFF01FFFF, false⟩,
  -- FB_HALL
  ⟨0x060, 1, 4, 1, 0x00000001, 0x00000000, 0xFFFF01FF, 0x00000000, 0x00000000, [], [], 0xFFFF01FF, false⟩,
  -- FB_DISAG
  ⟨0x064, 1, 4, 1, 0x40A00000, 0x00000000, 0xFFFFFFFF, 0x00000000, 0x00000000, [], [], 0xFFFFFFFF, false⟩,
  -- FB_DISN
  ⟨0x068, 1, 4, 1, 0x00000004, 0x00000000, 0x0000000F, 0x00000000, 0x00000000, [], [], 0x0000000F, false⟩,
  -- FB_CMD
  ⟨0x06C, 1, 4, 1, 0x00000000, 0x00000000, 0x00000000, 0x00000000, 0x00000000, [], [], 0x00000001, true⟩,
  -- FB_EXC
  ⟨0xF00, 1, 4, 2, 0x00000032, 0x00000000, 0x000001FF, 0x00000000, 0x00000000, [], [], 0x000001FF, false⟩,
  -- FB_EXC_MON
  ⟨0xF04, 1, 4, 2, 0x00000000, 0x00000000, 0x00000000, 0x00000000, 0x00000000, [], [], 0x0003FFFF, false⟩]

/-- The registers of block AD. -/
def regRowsAD : List RegRow := [
  -- AD_CTRL
  ⟨0x000, 1, 4, 0, 0x00000A00, 0x0000000F, 0x00FF1F00, 0x00000000, 0x00000000, [], [], 0x00FF1F0F, false⟩,
  -- AD_GAIN
  ⟨0x004, 1, 4, 0, 0x00000000, 0x00000000, 0xFFFFFFFF, 0x00000000, 0x00000000, [], [], 0xFFFFFFFF, false⟩,
  -- AD_EVENT
  ⟨0x008, 1, 4, 0, 0x00000000, 0x00000000, 0x00000000, 0x0000001F, 0x00000000, [], [], 0x0000001F, false⟩,
  -- AD_HK
  ⟨0x040, 16, 4, 0, 0x00000000, 0xFFFFFFFF, 0x00000000, 0x00000000, 0x00000000, [], [(0, 0x04030100), (1, 0x00870605), (4, 0x04030100), (5, 0x00870605), (8, 0x04030100), (9, 0x00870605), (12, 0x04030100), (13, 0x00870605)], 0xFFFFFFFF, false⟩,
  -- AD_HKRES
  ⟨0x080, 64, 4, 0, 0x00000000, 0x00000000, 0x00000000, 0x00000000, 0x00000000, [], [], 0x007FFFFF, false⟩,
  -- AD_FE
  ⟨0x200, 32, 4, 0, 0x00000000, 0x00000000, 0x00000000, 0x00000000, 0x00000000, [], [], 0xFFFFFFFF, false⟩,
  -- AD_DAC
  ⟨0x300, 1, 4, 0, 0x00000000, 0x007FFFFF, 0x00000000, 0x00000000, 0x00000000, [], [], 0x007FFFFF, false⟩,
  -- AD_CAL
  ⟨0x310, 4, 4, 0, 0x80000000, 0x00000000, 0xFFFFFFFF, 0x00000000, 0x00000000, [], [], 0xFFFFFFFF, false⟩]

/-- The registers of block SF. -/
def regRowsSF : List RegRow := [
  -- SF_CTRL
  ⟨0x000, 1, 4, 0, 0x00000000, 0x000000FF, 0x00000F00, 0x00000000, 0x00000000, [], [], 0x00000FFF, false⟩,
  -- SF_STATUS
  ⟨0x004, 1, 4, 0, 0x00000000, 0x00000000, 0x00000000, 0x00000000, 0x00000000, [], [], 0xFFFFFFFF, false⟩,
  -- SF_SUPPLY
  ⟨0x008, 1, 4, 0, 0x00000000, 0x00000000, 0x00000000, 0x00000000, 0x00000000, [], [], 0x0000FFFF, false⟩,
  -- SF_FAULT
  ⟨0x00C, 1, 4, 0, 0x00000000, 0x00000000, 0x00000000, 0x00000000, 0x00000000, [], [], 0xFFFFFFFF, false⟩,
  -- SF_EVENT
  ⟨0x010, 1, 4, 0, 0x00000000, 0x00000000, 0x00000000, 0x0000003F, 0x00000000, [], [], 0x0000003F, false⟩,
  -- SF_CNT
  ⟨0x014, 1, 4, 0, 0x00000000, 0x00000000, 0x00000000, 0x00000000, 0x00000000, [⟨16, 16, 0x018, 1⟩, ⟨0, 16, 0x018, 0⟩], [], 0xFFFFFFFF, false⟩,
  -- SF_STUCK
  ⟨0x018, 1, 4, 0, 0x00000000, 0x00000000, 0x00000000, 0x00000000, 0x00000000, [], [], 0x00000003, false⟩,
  -- SF_IN
  ⟨0x040, 16, 4, 0, 0x00000540, 0x00000000, 0x00000F73, 0x00000000, 0x00000000, [], [], 0x00000F73, false⟩]

/-- The registers of block EG. -/
def regRowsEG : List RegRow := [
  -- EG_CTRL
  ⟨0x000, 1, 4, 1, 0x00000000, 0x00000000, 0x00000038, 0x00000000, 0x00000000, [], [], 0x00000038, false⟩,
  -- EG_STATUS
  ⟨0x004, 1, 4, 1, 0x00000010, 0x00000000, 0x00000000, 0x00000000, 0x00000000, [], [], 0x000007F0, false⟩,
  -- EG_EVENT
  ⟨0x008, 1, 4, 1, 0x00000000, 0x00000000, 0x00000000, 0x000000FE, 0x00000000, [], [], 0x000000FE, false⟩,
  -- EG_CNT0
  ⟨0x00C, 1, 4, 1, 0x00000000, 0x00000000, 0x00000000, 0x00000000, 0x00000000, [⟨16, 16, 0x014, 1⟩, ⟨0, 16, 0x014, 0⟩], [], 0xFFFFFFFF, false⟩,
  -- EG_CNT1
  ⟨0x010, 1, 4, 1, 0x00000000, 0x00000000, 0x00000000, 0x00000000, 0x00000000, [⟨16, 16, 0x014, 3⟩, ⟨0, 16, 0x014, 2⟩], [], 0xFFFFFFFF, false⟩,
  -- EG_STUCK
  ⟨0x014, 1, 4, 1, 0x00000000, 0x00000000, 0x00000000, 0x00000000, 0x00000000, [], [], 0x0000000F, false⟩,
  -- EG_CEIL
  ⟨0x018, 1, 4, 1, 0x00000000, 0x00000000, 0x00000000, 0x00000000, 0x00000000, [], [], 0xFFFFFFFF, false⟩,
  -- EG_TMAX
  ⟨0x040, 1, 4, 1, 0x00000000, 0x00000000, 0xFFFFFFFF, 0x00000000, 0x00000000, [], [], 0xFFFFFFFF, false⟩,
  -- EG_SLEW
  ⟨0x044, 1, 4, 1, 0x00000000, 0x00000000, 0xFFFFFFFF, 0x00000000, 0x00000000, [], [], 0xFFFFFFFF, false⟩,
  -- EG_RATE_F
  ⟨0x048, 1, 4, 1, 0x00000000, 0x00000000, 0xFFFFFFFF, 0x00000000, 0x00000000, [], [], 0xFFFFFFFF, false⟩,
  -- EG_RATE_R
  ⟨0x04C, 1, 4, 1, 0x00000000, 0x00000000, 0xFFFFFFFF, 0x00000000, 0x00000000, [], [], 0xFFFFFFFF, false⟩,
  -- EG_FBK
  ⟨0x050, 1, 4, 1, 0x00000000, 0x00000000, 0xFFFFFFFF, 0x00000000, 0x00000000, [], [], 0xFFFFFFFF, false⟩,
  -- EG_OC
  ⟨0x054, 1, 4, 1, 0x00000000, 0x00000000, 0xFFFFFFFF, 0x00000000, 0x00000000, [], [], 0xFFFFFFFF, false⟩,
  -- EG_OV
  ⟨0x058, 1, 4, 1, 0x00000000, 0x00000000, 0xFFFFFFFF, 0x00000000, 0x00000000, [], [], 0xFFFFFFFF, false⟩,
  -- EG_SW
  ⟨0x05C, 1, 4, 1, 0x03E80004, 0x00000000, 0xFFFF00FF, 0x00000000, 0x00000000, [], [], 0xFFFF00FF, false⟩,
  -- EG_BRK
  ⟨0x060, 1, 4, 1, 0x00000BB8, 0x00000000, 0x00003FFF, 0x00000000, 0x00000000, [], [], 0x00003FFF, false⟩,
  -- EG_VOTE_OWN
  ⟨0xF00, 1, 4, 2, 0x00000000, 0x0000FFFF, 0x00000000, 0x00000000, 0x00000000, [], [], 0x0000FFFF, false⟩,
  -- EG_VOTE_N
  ⟨0xF04, 1, 4, 2, 0x00000000, 0x00000000, 0x00000000, 0x00000000, 0x00000000, [], [], 0xCFFFFFFF, false⟩,
  -- EG_VOTE_P
  ⟨0xF08, 1, 4, 2, 0x00000000, 0x00000000, 0x00000000, 0x00000000, 0x00000000, [], [], 0xCFFFFFFF, false⟩]

/-- The registers of block LN. -/
def regRowsLN0 : List RegRow := [
  -- LN_CFG
  ⟨0x000, 1, 4, 0, 0x88B50000, 0x00000003, 0xFFFF3F70, 0x00000000, 0x00000000, [], [], 0xFFFF3F73, false⟩,
  -- LN_STATUS
  ⟨0x004, 1, 4, 0, 0x0000400F, 0x00000000, 0x00000000, 0x00000000, 0x00000000, [], [], 0xFFFFFFFF, false⟩,
  -- LN_EVENT
  ⟨0x008, 1, 4, 0, 0x00000000, 0x00000000, 0x00000000, 0x00003FFF, 0x00000000, [], [], 0x00003FFF, false⟩,
  -- LN_CMD
  ⟨0x00C, 1, 4, 0, 0x00000000, 0x00000000, 0x00000000, 0x00000000, 0x00000000, [], [], 0x00000003, true⟩,
  -- LN_GUARD
  ⟨0x010, 1, 4, 0, 0x00100300, 0x00000000, 0x00FF0F00, 0x00000000, 0x00000000, [], [], 0x00FF0F00, false⟩,
  -- LN_PORTTO
  ⟨0x014, 1, 4, 0, 0x00000408, 0x00000000, 0x0000FFFF, 0x00000000, 0x00000000, [], [], 0x0000FFFF, false⟩,
  -- LN_RXLOCK
  ⟨0x018, 1, 4, 0, 0x00000000, 0x000000FF, 0x00000000, 0x00000000, 0x00000000, [], [], 0x000000FF, false⟩,
  -- LN_ERR0
  ⟨0x020, 1, 16, 0, 0x00000000, 0x00000000, 0x00000000, 0x00000000, 0x00000000, [⟨16, 16, 0x040, 1⟩, ⟨0, 16, 0x040, 0⟩], [], 0xFFFFFFFF, false⟩,
  -- LN_ERR0
  ⟨0x030, 1, 16, 0, 0x00000000, 0x00000000, 0x00000000, 0x00000000, 0x00000000, [⟨16, 16, 0x040, 9⟩, ⟨0, 16, 0x040, 8⟩], [], 0xFFFFFFFF, false⟩,
  -- LN_ERR1
  ⟨0x024, 1, 16, 0, 0x00000000, 0x00000000, 0x00000000, 0x00000000, 0x00000000, [⟨16, 16, 0x040, 3⟩, ⟨0, 16, 0x040, 2⟩], [], 0xFFFFFFFF, false⟩,
  -- LN_ERR1
  ⟨0x034, 1, 16, 0, 0x00000000, 0x00000000, 0x00000000, 0x00000000, 0x00000000, [⟨16, 16, 0x040, 11⟩, ⟨0, 16, 0x040, 10⟩], [], 0xFFFFFFFF, false⟩,
  -- LN_ERR2
  ⟨0x028, 1, 16, 0, 0x00000000, 0x00000000, 0x00000000, 0x00000000, 0x00000000, [⟨16, 16, 0x040, 5⟩, ⟨0, 16, 0x040, 4⟩], [], 0xFFFFFFFF, false⟩,
  -- LN_ERR2
  ⟨0x038, 1, 16, 0, 0x00000000, 0x00000000, 0x00000000, 0x00000000, 0x00000000, [⟨16, 16, 0x040, 13⟩, ⟨0, 16, 0x040, 12⟩], [], 0xFFFFFFFF, false⟩,
  -- LN_ERR3
  ⟨0x02C, 1, 16, 0, 0x00000000, 0x00000000, 0x00000000, 0x00000000, 0x00000000, [⟨16, 16, 0x040, 7⟩, ⟨0, 16, 0x040, 6⟩], [], 0xFFFFFFFF, false⟩,
  -- LN_ERR3
  ⟨0x03C, 1, 16, 0, 0x00000000, 0x00000000, 0x00000000, 0x00000000, 0x00000000, [⟨16, 16, 0x040, 15⟩, ⟨0, 16, 0x040, 14⟩], [], 0xFFFFFFFF, false⟩,
  -- LN_STUCK
  ⟨0x040, 1, 4, 0, 0x00000000, 0x00000000, 0x00000000, 0x00000000, 0x00000000, [], [], 0x0000FFFF, false⟩,
  -- LN_TXCOMMIT0
  ⟨0x048, 1, 4, 0, 0x00000000, 0x00000000, 0x00000000, 0x00000000, 0xFFFFFFFF, [], [], 0xFFFFFFFF, false⟩,
  -- LN_TXCOMMIT1
  ⟨0x04C, 1, 4, 0, 0x00000000, 0x00000000, 0x00000000, 0x00000000, 0xFFFFFFFF, [], [], 0xFFFFFFFF, false⟩,
  -- LN_INJ
  ⟨0x060, 1, 4, 0, 0x00000000, 0xFFFFFF00, 0x00000000, 0x00000000, 0x00000000, [], [], 0xFFFFFF00, false⟩,
  -- LN_INJ2
  ⟨0x064, 1, 4, 0, 0x00000000, 0x000107FF, 0x00000000, 0x00000000, 0x00000000, [], [], 0x000107FF, false⟩,
  -- LN_CYC
  ⟨0x400, 4, 1024, 0, 0x000003E8, 0x00000000, 0x007F3FFF, 0x00000000, 0x00000000, [], [], 0x007F3FFF, false⟩,
  -- LN_SLEN0
  ⟨0x500, 64, 4, 0, 0x00000000, 0x00000000, 0x00003FFF, 0x00000000, 0x00000000, [], [], 0x00003FFF, false⟩,
  -- LN_SLOT0
  ⟨0x600, 128, 4, 0, 0x00000000, 0x00000000, 0xFFFDFFFF, 0x00000000, 0x00000000, [], [], 0xFFFDFFFF, false⟩,
  -- LN_SLEN1
  ⟨0x900, 64, 4, 0, 0x00000000, 0x00000000, 0x00003FFF, 0x00000000, 0x00000000, [], [], 0x00003FFF, false⟩,
  -- LN_SLOT1
  ⟨0xA00, 128, 4, 0, 0x00000000, 0x00000000, 0xFFFDFFFF, 0x00000000, 0x00000000, [], [], 0xFFFDFFFF, false⟩,
  -- LN_SLEN2
  ⟨0xD00, 64, 4, 0, 0x00000000, 0x00000000, 0x00003FFF, 0x00000000, 0x00000000, [], [], 0x00003FFF, false⟩,
  -- LN_SLOT2
  ⟨0xE00, 128, 4, 0, 0x00000000, 0x00000000, 0xFFFDFFFF, 0x00000000, 0x00000000, [], [], 0xFFFDFFFF, false⟩,
  -- LN_SLEN3
  ⟨0x1100, 64, 4, 0, 0x00000000, 0x00000000, 0x00003FFF, 0x00000000, 0x00000000, [], [], 0x00003FFF, false⟩,
  -- LN_SLOT3
  ⟨0x1200, 128, 4, 0, 0x00000000, 0x00000000, 0xFFFDFFFF, 0x00000000, 0x00000000, [], [], 0xFFFDFFFF, false⟩,
  -- LN_TCFG
  ⟨0x1400, 1, 4, 0, 0x40100000, 0x00000000, 0xFFFFF007, 0x00000000, 0x00000000, [], [], 0xFFFFF007, false⟩,
  -- LN_TSTATUS
  ⟨0x1404, 1, 4, 0, 0x00000000, 0x00000000, 0x00000000, 0x00000000, 0x00000000, [], [], 0x3F3FFF07, false⟩,
  -- LN_TEVENT
  ⟨0x1408, 1, 4, 0, 0x00000000, 0x00000000, 0x00000000, 0x00001FFF, 0x00000000, [], [], 0x00001FFF, false⟩,
  -- LN_TIME_LO
  ⟨0x1410, 1, 4, 0, 0x00000000, 0x00000000, 0x00000000, 0x00000000, 0x00000000, [], [], 0xFFFFFFFF, false⟩,
  -- LN_TIME_HI
  ⟨0x1414, 1, 4, 0, 0x00000000, 0x00000000, 0x00000000, 0x00000000, 0x00000000, [], [], 0xFFFFFFFF, false⟩,
  -- LN_CYC_LO
  ⟨0x1418, 1, 4, 0, 0x00000000, 0x00000000, 0x00000000, 0x00000000, 0x00000000, [], [], 0xFFFFFFFF, false⟩,
  -- LN_CYC_HI
  ⟨0x141C, 1, 4, 0, 0x00000000, 0x00000000, 0x00000000, 0x00000000, 0x00000000, [], [], 0x0000FFFF, false⟩,
  -- LN_OFS
  ⟨0x1420, 1, 4, 0, 0x00000000, 0x00000000, 0x00000000, 0x00000000, 0x00000000, [], [], 0xFFFFFFFF, false⟩,
  -- LN_RATE
  ⟨0x1424, 1, 4, 0, 0x00000000, 0x00000000, 0x00000000, 0x00000000, 0x00000000, [], [], 0xFFFFFFFF, false⟩,
  -- LN_DLYDEF
  ⟨0x1428, 1, 4, 0, 0x00000064, 0x00000000, 0x0000FFFF, 0x00000000, 0x00000000, [], [], 0x0000FFFF, false⟩,
  -- LN_MREQ
  ⟨0x1430, 1, 4, 0, 0x00000000, 0x00000000, 0x00000000, 0x00000000, 0x00000000, [], [], 0x00000007, true⟩]

/-- The registers of block LN. -/
def regRowsLN1 : List RegRow := [
  -- LN_MRES
  ⟨0x1434, 1, 4, 0, 0x00000000, 0x00000000, 0x00000000, 0x00000000, 0x00000000, [], [], 0x0000FF33, false⟩,
  -- LN_TCNT
  ⟨0x1440, 1, 4, 0, 0x00000000, 0x00000000, 0x00000000, 0x00000000, 0x00000000, [⟨16, 16, 0x1444, 1⟩, ⟨0, 16, 0x1444, 0⟩], [], 0xFFFFFFFF, false⟩,
  -- LN_TSTUCK
  ⟨0x1444, 1, 4, 0, 0x00000000, 0x00000000, 0x00000000, 0x00000000, 0x00000000, [], [], 0x00000003, false⟩,
  -- LN_NBR
  ⟨0x1480, 4, 4, 0, 0x00000000, 0x00000000, 0x00000000, 0x00000000, 0x00000000, [], [], 0xFFFFFFFF, false⟩,
  -- LN_DLY_P0
  ⟨0x1504, 48, 4, 0, 0x00000064, 0x00000000, 0x00000000, 0x00000000, 0x00000000, [], [], 0x8000FFFF, false⟩,
  -- LN_DLY_P1
  ⟨0x1604, 48, 4, 0, 0x00000064, 0x00000000, 0x00000000, 0x00000000, 0x00000000, [], [], 0x8000FFFF, false⟩,
  -- LN_TOPO
  ⟨0x1804, 48, 4, 0, 0x00000000, 0x00000000, 0x000000FF, 0x00000000, 0x00000000, [], [], 0x000000FF, false⟩]

/-- The registers of block LN. -/
def regRowsLN : List RegRow := regRowsLN0 ++ regRowsLN1

/-- The registers of block OC. -/
def regRowsOC : List RegRow := [
  -- OC_CFG
  ⟨0x000, 1, 4, 0, 0x1800000E, 0x00000001, 0x1F3F000E, 0x00000000, 0x00000000, [], [], 0x1F3F000F, false⟩,
  -- OC_STATUS
  ⟨0x004, 1, 4, 0, 0x00000010, 0x00000000, 0x00000000, 0x00000000, 0x00000000, [], [], 0xFFFFFF1D, false⟩,
  -- OC_EVENT
  ⟨0x008, 1, 4, 0, 0x00000000, 0x00000000, 0x00000000, 0x0000007F, 0x00000000, [], [], 0x0000007F, false⟩,
  -- OC_CNT0
  ⟨0x00C, 1, 4, 0, 0x00000000, 0x00000000, 0x00000000, 0x00000000, 0x00000000, [⟨16, 16, 0x014, 1⟩, ⟨0, 16, 0x014, 0⟩], [], 0xFFFFFFFF, false⟩,
  -- OC_CNT1
  ⟨0x010, 1, 4, 0, 0x00000000, 0x00000000, 0x00000000, 0x00000000, 0x00000000, [⟨16, 16, 0x014, 3⟩, ⟨0, 16, 0x014, 2⟩], [], 0xFFFFFFFF, false⟩,
  -- OC_STUCK
  ⟨0x014, 1, 4, 0, 0x00000000, 0x00000000, 0x00000000, 0x00000000, 0x00000000, [], [], 0x0000000F, false⟩,
  -- OC_TIME
  ⟨0x018, 1, 4, 0, 0x03E800C8, 0x00000000, 0xFFFFFFFF, 0x00000000, 0x00000000, [], [], 0xFFFFFFFF, false⟩,
  -- OC_NBT
  ⟨0x020, 1, 4, 0, 0x1E3E1E00, 0x00000000, 0xFFFFFFFF, 0x00000000, 0x00000000, [], [], 0xFFFFFFFF, false⟩,
  -- OC_DBT
  ⟨0x024, 1, 4, 0, 0x030E0300, 0x00000000, 0x0F1F0F1F, 0x00000000, 0x00000000, [], [], 0x0F1F0F1F, false⟩,
  -- OC_TDC
  ⟨0x028, 1, 4, 0, 0x00000010, 0x00000000, 0x0000007F, 0x00000000, 0x00000000, [], [], 0x0000007F, false⟩]

/-- The registers of block EN. -/
def regRowsEN : List RegRow := [
  -- EN_CFG
  ⟨0x000, 1, 4, 0, 0x88B50000, 0x00000001, 0xFFFF0100, 0x00000000, 0x00000000, [], [], 0xFFFF0101, false⟩,
  -- EN_STATUS
  ⟨0x004, 1, 4, 0, 0x00000000, 0x00000000, 0x00000000, 0x00000000, 0x00000000, [], [], 0x0000070B, false⟩,
  -- EN_EVENT
  ⟨0x008, 1, 4, 0, 0x00000000, 0x00000000, 0x00000000, 0x0000003F, 0x00000000, [], [], 0x0000003F, false⟩,
  -- EN_CNT
  ⟨0x00C, 1, 4, 0, 0x00000000, 0x00000000, 0x00000000, 0x00000000, 0x00000000, [⟨16, 16, 0x010, 1⟩, ⟨0, 16, 0x010, 0⟩], [], 0xFFFFFFFF, false⟩,
  -- EN_STUCK
  ⟨0x010, 1, 4, 0, 0x00000000, 0x00000000, 0x00000000, 0x00000000, 0x00000000, [], [], 0x00000003, false⟩,
  -- EN_STREAM
  ⟨0x014, 1, 4, 0, 0x00280000, 0x007F0007, 0x00000000, 0x00000000, 0x00000000, [], [], 0x007F0007, false⟩,
  -- EN_DST_LO
  ⟨0x018, 1, 4, 0, 0xFFFFFFFF, 0xFFFFFFFF, 0x00000000, 0x00000000, 0x00000000, [], [], 0xFFFFFFFF, false⟩,
  -- EN_DST_HI
  ⟨0x01C, 1, 4, 0, 0x0000FFFF, 0x0000FFFF, 0x00000000, 0x00000000, 0x00000000, [], [], 0x0000FFFF, false⟩]

/-- The registers of block SB. -/
def regRowsSB : List RegRow := [
  -- SB_CFG
  ⟨0x000, 1, 4, 0, 0x00000000, 0x00000001, 0x00007F00, 0x00000000, 0x00000000, [], [], 0x00007F01, false⟩,
  -- SB_STATUS
  ⟨0x004, 1, 4, 0, 0x00010000, 0x00000000, 0x00000000, 0x00000000, 0x00000000, [], [], 0x0001FFFF, false⟩,
  -- SB_EVENT
  ⟨0x008, 1, 4, 0, 0x00000000, 0x00000000, 0x00000000, 0x00000003, 0x00000000, [], [], 0x00000003, false⟩]

/-- The registers of block IC. -/
def regRowsIC : List RegRow := [
  -- IC_CTRL
  ⟨0x000, 1, 4, 0, 0x00000000, 0x00000003, 0x00000000, 0x00000000, 0x00000000, [], [], 0x00000003, false⟩,
  -- IC_CLAIM
  ⟨0x004, 1, 4, 0, 0x00000000, 0x000000FF, 0x00000000, 0x00000000, 0x00000000, [], [], 0x800007FF, false⟩,
  -- IC_THRESH
  ⟨0x008, 1, 4, 0, 0x00000000, 0x00000007, 0x00000000, 0x00000000, 0x00000000, [], [], 0x00000077, false⟩,
  -- IC_VTAB
  ⟨0x00C, 1, 4, 0, 0x00000000, 0xFFFFFC00, 0x00000000, 0x00000000, 0x00000000, [], [], 0xFFFFFC00, false⟩,
  -- IC_VECTOR
  ⟨0x010, 1, 4, 0, 0x00000000, 0x00000000, 0x00000000, 0x00000000, 0x00000000, [], [], 0xFFFFFFFF, false⟩,
  -- IC_BUDGET
  ⟨0x014, 1, 4, 0, 0x00000000, 0x00FFFFFF, 0x00000000, 0x00000000, 0x00000000, [], [], 0x80FFFFFF, false⟩,
  -- IC_YARD
  ⟨0x018, 1, 4, 0, 0x00000000, 0x00000001, 0x00000000, 0x00000008, 0x00000004, [⟨16, 16, 0x018, 4⟩], [], 0xFFFF001F, false⟩,
  -- IC_PEND
  ⟨0x040, 8, 4, 0, 0x00000000, 0x00000000, 0x00000000, 0x00000000, 0x00000000, [], [], 0xFFFFFFFF, false⟩,
  -- IC_SRC
  ⟨0x400, 256, 4, 0, 0x00000000, 0x00000107, 0x00000000, 0x00000000, 0x01000000, [], [], 0x01030107, false⟩]

/-- The registers of block `b`, by its number in R441. -/
def regRows (b : Nat) : List RegRow :=
  match b with
  | 0 => regRowsSY
  | 1 => regRowsPM
  | 2 => regRowsTH
  | 3 => regRowsFC
  | 4 => regRowsST
  | 5 => regRowsTL
  | 6 => regRowsLC
  | 7 => regRowsCF
  | 8 => regRowsKY
  | 9 => regRowsCX
  | 10 => regRowsLG
  | 11 => regRowsTQ
  | 12 => regRowsAN
  | 13 => regRowsSD
  | 14 => regRowsFB
  | 15 => regRowsAD
  | 16 => regRowsSF
  | 17 => regRowsEG
  | 18 => regRowsLN
  | 19 => regRowsOC
  | 20 => regRowsEN
  | 21 => regRowsSB
  | 22 => regRowsIC
  | _ => []

end Sys2Proof.Machine
end

