-- ==== Sys2Proof/Machine/Sparse.lean ====
section
/-! DEFINITION. Sparse stores: a list of (key, value) pairs with strictly rising keys and no entry equal to what an unlisted key
reads as, so that equal stores are equal lists. The register file and the memories are kept so. -/

namespace Sys2Proof.Machine

/-- The value at key `a`, `d` where it is not listed. -/
def cellGet {V : Type} (d : V) : List (Nat × V) → Nat → V
  | [], _ => d
  | c :: cs, a => if c.1 = a then c.2 else cellGet d cs a

/-- Every entry of key `a` taken out. -/
def cellDrop {V : Type} (m : List (Nat × V)) (a : Nat) : List (Nat × V) :=
  m.filter (fun c => decide (c.1 ≠ a))

/-- An entry put in at its place in the rising order of keys. -/
def cellIns {V : Type} (a : Nat) (v : V) : List (Nat × V) → List (Nat × V)
  | [] => [(a, v)]
  | c :: cs => if c.1 < a then c :: cellIns a v cs else (a, v) :: c :: cs

/-- Key `a` set to `v`; a value equal to what an unlisted key reads as, `d`, takes the entry out. -/
def cellSet {V : Type} [DecidableEq V] (d : V) (m : List (Nat × V)) (a : Nat) (v : V) : List (Nat × V) :=
  if v = d then cellDrop m a else cellIns a v (cellDrop m a)

/-- The keys rise strictly. -/
def cellRising {V : Type} : List (Nat × V) → Bool
  | [] => true
  | [_] => true
  | c :: c' :: cs => decide (c.1 < c'.1) && cellRising (c' :: cs)

/-- The canonical form: the keys rise strictly and no entry holds what its key reads as when unlisted. -/
def cellWf {V : Type} [DecidableEq V] (d : Nat → V) (m : List (Nat × V)) : Bool :=
  cellRising m && m.all (fun c => decide (c.2 ≠ d c.1))

end Sys2Proof.Machine
end

