-- ==== Sys2Proof/Machine/Ops.lean ====
section
/-! DEFINITION. The named operations over a lane's registers and memories: reading and writing register fields, events, sticking
counters (R11 to R16), free values, groups, and the byte memories behind the register windows (R335, R336). -/

namespace Sys2Proof.Machine

/-! ### Where a register lies (R441) -/

/-- The blocks that have one window per group. -/
def grouped (b : Nat) : Bool := b == 10 || b == 11 || b == 12 || b == 13 || b == 14 || b == 17

/-- The size of a block's window. -/
def windowSize (b : Nat) : Nat := if grouped b then 0x10000 else if b = 5 then 0x4000 else if b = 18 then 0x2000 else 0x1000

/-- The base of block `b`. -/
def blockBase (b : Nat) : Nat := 0x40000000 + 0x10000 * b

/-- The address of a field's register in group `g`, array index `k`. -/
def Fld.addr (f : Fld) (g k : Nat) : Nat := blockBase f.blk + 0x1000 * g + f.off + f.stride * k

/-- The block, group and offset of a peripheral address. -/
def blockOf (a : Nat) : Nat := (a - 0x40000000) / 0x10000
def groupOf (a : Nat) : Fin 16 := if grouped (blockOf a) then ⟨(a % 0x10000) / 0x1000 % 16, Nat.mod_lt _ (by decide)⟩ else 0
def offsetOf (a : Nat) : Nat := if grouped (blockOf a) then a % 0x1000 else a % 0x10000

/-- The row of block `b` that holds offset `o` of the window of group `g`, with the array index. -/
def findRow (g o : Nat) : List RegRow → Option (RegRow × Nat)
  | [] => none
  | r :: rs =>
    if r.off ≤ o ∧ (o - r.off) % r.stride = 0 ∧ (o - r.off) / r.stride < r.count ∧ ¬ (r.grp = 2 ∧ g ≠ 0)
    then some (r, (o - r.off) / r.stride) else findRow g o rs

/-- Which register lies at address `a`: its row and its array index; none where no register is defined. -/
def regAt (a : Nat) : Option (RegRow × Nat) :=
  if a < 0x40000000 then none else
  let b := (a - 0x40000000) / 0x10000
  let o := (a - 0x40000000) % 0x10000
  if grouped b then findRow (o / 0x1000) (o % 0x1000) (regRows b) else findRow 0 o (regRows b)

/-- The reset value of the register at address `a` (R445); AN_INJ has a value of its own in each lane. -/
def resetWord (id : LaneId) (a : Nat) : Word :=
  match regAt a with
  | none => 0
  | some (r, k) =>
    if (a - 0x40000000) / 0x10000 = 12 ∧ r.off = 0x48 then
      (match id with
      | .A => 0x01F403E8
      | .B => 0x01F40514
      | .C => 0x01F406A4)
    else BitVec.ofNat 32 (match r.resets.find? (fun c => c.1 == k) with
      | some c => c.2
      | none => r.reset)

/-! ### Words and fields -/

/-- The stored word at a register address. -/
def Lane.reg (L : Lane) (a : Nat) : Word := cellGet (resetWord L.id a) L.regs a

/-- A register word stored. -/
def Lane.setReg (L : Lane) (a : Nat) (w : Word) : Lane := { L with regs := cellSet (resetWord L.id a) L.regs a w }

/-- The value of a field in a word. -/
def Fld.get (f : Fld) (w : Word) : Nat := w.toNat / 2 ^ f.lo % 2 ^ f.wid

/-- A word with a field set. -/
def Fld.put (f : Fld) (w : Word) (v : Nat) : Word :=
  BitVec.ofNat 32 (w.toNat / 2 ^ (f.lo + f.wid) * 2 ^ (f.lo + f.wid) + v % 2 ^ f.wid * 2 ^ f.lo + w.toNat % 2 ^ f.lo)

/-- A field of a lane register: group `g` and array index `k` where the register has them. -/
def Lane.fld (L : Lane) (f : Fld) (g : Nat := 0) (k : Nat := 0) : Nat := f.get (L.reg (f.addr g k))

/-- A one-bit field. -/
def Lane.flag (L : Lane) (f : Fld) (g : Nat := 0) (k : Nat := 0) : Bool := L.fld f g k != 0

/-- A field set to a value. -/
def Lane.setFld (L : Lane) (f : Fld) (v : Nat) (g : Nat := 0) (k : Nat := 0) : Lane :=
  L.setReg (f.addr g k) (f.put (L.reg (f.addr g k)) v)

/-- A whole word of a register. -/
def Lane.word (L : Lane) (f : Fld) (g : Nat := 0) (k : Nat := 0) : Word := L.reg (f.addr g k)

/-- A whole word set. -/
def Lane.setWord (L : Lane) (f : Fld) (w : Word) (g : Nat := 0) (k : Nat := 0) : Lane := L.setReg (f.addr g k) w

/-- `f` when `c` holds, else nothing. -/
def Lane.when (L : Lane) (c : Bool) (f : Lane → Lane) : Lane := if c then f L else L

/-- A register that lies in the cellar (R443) and follows its 1 MHz clock; every other one follows the 200 MHz clock. -/
def cellarReg (a : Nat) : Bool :=
  blockOf a == 1 || blockOf a == 21 || (blockOf a == 0 && offsetOf a == 0x08) || (blockOf a == 2 && offsetOf a == 0x04)

/-- The clock cycle of a register that a time lies in (R13, R37). (Log entry 143: DEDUCED) -/
def cycleAt (a t : Nat) : Nat := if cellarReg a then t / us 1 else t / 8

/-- Bits of a register set by the hardware or asked for through W1S now, kept as long as a cycle can last. (Log entry 143: DEDUCED) -/
def Lane.note (L : Lane) (a m : Nat) : Lane :=
  { L with marks := (L.now, a, m) :: L.marks.filter (fun c => decide (c.1 / us 1 = L.now / us 1)) }

/-- The bits of a register that were so set in the cycle that runs now (R13, R16, R37). (Log entry 143: DEDUCED) -/
def Lane.setNow (L : Lane) (a : Nat) : Nat :=
  (L.marks.filter (fun c => decide (c.2.1 = a ∧ cycleAt a c.1 = cycleAt a L.now))).foldl (fun (n : Nat) c => n ||| c.2.2) 0

/-- A hardware event sets its bit (R11, R13). -/
def Lane.raise (L : Lane) (f : Fld) (g : Nat := 0) : Lane := (L.setFld f 1 g).note (f.addr g 0) (2 ^ f.lo)

/-- A hardware event sets bit `i` of a wider event field. -/
def Lane.raiseBit (L : Lane) (f : Fld) (i : Nat) (g : Nat := 0) : Lane :=
  (L.setFld f (putBit (L.fld f g) i true) g).note (f.addr g 0) (2 ^ (f.lo + i))

/-- An error or violation counter takes one more (R15): it sticks at its largest value, sets its stuck flag and, with sixteen bits, raises
one event; a stuck counter stays as it is (R16). (Log entries 25: DEDUCED, 26: DEDUCED) -/
def Lane.bump (L : Lane) (f : Fld) (g : Nat := 0) (k : Nat := 0) : Lane :=
  let v := L.fld f g k
  let L := L.note (f.addr g k) ((2 ^ f.wid - 1) * 2 ^ f.lo)
  if v = 2 ^ f.wid - 1 then L else
  let L := L.setFld f (v + 1) g k
  if v + 1 < 2 ^ f.wid - 1 then L else
  match regAt (f.addr g k) with
  | none => L
  | some (r, _) =>
    match r.cnts.find? (fun c => c.lo == f.lo) with
    | none => L
    | some c =>
      let a := blockBase f.blk + 0x1000 * g + c.stuckOff
      { L.setReg a (BitVec.ofNat 32 (putBit (L.reg a).toNat c.stuckBit true)) with stuckEvents := L.stuckEvents + (if f.wid = 8 then 0 else 1) }

/-! ### Tallies (R15, R375) -/

/-- The indices that block `b` has tallies at, as ranges. (Log entry 24: DESIGN CHOICE) -/
def tallyRanges (b : Nat) : List (Nat × Nat) :=
  match b with
  | 0 => [(0, 2), (8, 11)]
  | 1 => [(0, 5)]
  | 2 => [(0, 3)]
  | 3 => [(0, 31)]
  | 4 => [(0, 2)]
  | 5 => [(0, 28), (32, 39)]
  | 6 => [(0, 4)]
  | 7 => [(0, 2)]
  | 8 => [(0, 5)]
  | 9 => [(0, 7)]
  | 10 => [(0, 63)]
  | 11 => [(0, 47)]
  | 12 => [(0, 31)]
  | 13 => [(0, 31)]
  | 14 => [(0, 31)]
  | 15 => [(0, 3)]
  | 16 => [(0, 19)]
  | 17 => [(0, 47)]
  | 18 => [(0, 10)]
  | 19 => [(0, 4)]
  | 20 => [(0, 3)]
  | 21 => [(0, 2)]
  | 22 => [(1, 7), (9, 15)]
  | _ => []

/-- A tally that exists. -/
def tallyValid (b i : Nat) : Bool := (tallyRanges b).any (fun r => decide (r.1 ≤ i) && decide (i ≤ r.2))

/-- The count, wrap count and wrap flag of a tally as one number, in the layout of TL_SNAP. -/
def Lane.tallyWord (L : Lane) (b i : Nat) : Nat := cellGet 0 L.tl.live (64 * b + i)

def Lane.setTally (L : Lane) (b i v : Nat) : Lane := { L with tl := { L.tl with live := cellSet 0 L.tl.live (64 * b + i) v } }

/-- The tallies that have counted in the cycle that runs now, each with its word as that cycle began (R376, R378, R381).
(Log entry 143: DEDUCED) -/
def Lane.tallyBefore (L : Lane) : List (Nat × Nat) := if L.tl.cycle = L.now / 8 then L.tl.before else []

/-- The word of a tally as the present cycle began is kept before the first count in it. (Log entry 143: DEDUCED) -/
def Lane.tallyMark (L : Lane) (b i : Nat) : Lane :=
  let k := 64 * b + i
  let was := L.tallyBefore
  { L with tl := { L.tl with cycle := L.now / 8, before := if was.any (fun c => c.1 == k) then was else (k, L.tallyWord b i) :: was } }

/-- What a tally has counted in the present cycle. -/
def Lane.tallyNow (L : Lane) (b i : Nat) : Nat :=
  match L.tallyBefore.find? (fun c => c.1 == 64 * b + i) with
  | some c => (L.tallyWord b i % 2 ^ 48 + 2 ^ 48 - c.2 % 2 ^ 48) % 2 ^ 48
  | none => 0

/-- `n` more on one tally: at its largest value it wraps, sets its wrap flag, raises one event and counts the wrap, up to 255. -/
def Lane.tallyOne (L : Lane) (b i n : Nat) : Lane :=
  let L := L.tallyMark b i
  let w := L.tallyWord b i
  let v := w % 2 ^ 48 + n
  if v < 2 ^ 48 then L.setTally b i (w + n) else
  let c := w / 2 ^ 48 % 256
  (L.setTally b i (v % 2 ^ 48 + 2 ^ 48 * (if c = 255 then 255 else c + 1) + 2 ^ 56)).raise F.TL_EVENT_WRAP

/-- An event counted in tally `i` of block `b`, and in every core counter that selects it, and in those that select such a counter, at most `f` counters
one behind the other (R381). -/
def Lane.tallyFrom : Nat → Lane → Nat → Nat → Nat → Lane
  | 0, L, b, i, n => L.tallyOne b i n
  | f + 1, L, b, i, n =>
    (List.range 29).foldl (fun (M : Lane) k => if L.tl.hpm.getD k 0 = 256 * b + i then M.tallyFrom f 5 k n else M) (L.tallyOne b i n)

/-- An event counted in tally `i` of block `b`, and in every core counter that it reaches (R381). -/
def Lane.tally (L : Lane) (b i : Nat) (n : Nat := 1) : Lane := if n = 0 then L else L.tallyFrom 29 b i n

/-! ### Open values: a fresh one for every draw -/

def Lane.drawWord (L : Lane) : Word × Lane := (Config.freeWord L.fresh, { L with fresh := L.fresh + 1 })
/-- Log entry 15: DESIGN CHOICE. -/
def Lane.drawNat (L : Lane) : Nat × Lane := (Config.freeNat L.fresh, { L with fresh := L.fresh + 1 })
def Lane.drawBool (L : Lane) : Bool × Lane := (Config.freeBool L.fresh, { L with fresh := L.fresh + 1 })
/-- Log entry 15: DESIGN CHOICE. -/
def Lane.drawBytes (L : Lane) : List Byte × Lane := (Config.freeBytes L.fresh, { L with fresh := L.fresh + 1 })

/-- An outbound stream of the 100BASE-T1 port runs (R302). -/
def Lane.streamOn (L : Lane) (s : Nat) : Bool := L.flag F.EN_CFG_ENABLE && bit (L.fld F.EN_STREAM_OUT_EN) (s - 1)

/-! ### Groups, legs, links -/

def Lane.grp (L : Lane) (g : Fin 16) : Group := L.groups[g]

def Lane.setGrp (L : Lane) (g : Fin 16) (x : Group) : Lane := { L with groups := L.groups.set g x }

def Lane.updTq (L : Lane) (g : Fin 16) (f : TqS → TqS) : Lane := L.setGrp g { L.grp g with tq := f (L.grp g).tq }
def Lane.updAn (L : Lane) (g : Fin 16) (f : AnS → AnS) : Lane := L.setGrp g { L.grp g with an := f (L.grp g).an }
def Lane.updLg (L : Lane) (g : Fin 16) (f : LgS → LgS) : Lane := L.setGrp g { L.grp g with lg := f (L.grp g).lg }
def Lane.updCh (L : Lane) (g : Fin 16) (f : ChS → ChS) : Lane := L.setGrp g { L.grp g with ch := f (L.grp g).ch }
def Lane.updSd (L : Lane) (g : Fin 16) (f : SdS → SdS) : Lane := L.setGrp g { L.grp g with sd := f (L.grp g).sd }
def Lane.updFb (L : Lane) (g : Fin 16) (f : FbS → FbS) : Lane := L.setGrp g { L.grp g with fb := f (L.grp g).fb }
def Lane.updEg (L : Lane) (g : Fin 16) (f : EgS → EgS) : Lane := L.setGrp g { L.grp g with eg := f (L.grp g).eg }

def Lane.leg (L : Lane) (g : Fin 16) (k : Fin 4) : LegS := (L.grp g).lg.legs[k]

def Lane.updLeg (L : Lane) (g : Fin 16) (k : Fin 4) (f : LegS → LegS) : Lane :=
  L.updLg g (fun s => { s with legs := s.legs.set k (f s.legs[k]) })

/-- The same for every group in rising order. -/
def Lane.eachGroup (L : Lane) (f : Lane → Fin 16 → Lane) : Lane := (List.finRange 16).foldl f L

def Lane.link (L : Lane) : Port → LinkS
  | .N => L.cx.n
  | .P => L.cx.p

def Lane.setLink (L : Lane) (p : Port) (k : LinkS) : Lane :=
  match p with
  | .N => { L with cx := { L.cx with n := k } }
  | .P => { L with cx := { L.cx with p := k } }

/-- The port toward another lane. -/
def Lane.portTo (L : Lane) (o : LaneId) : Port := if o = L.id.next then .N else .P

/-! ### Byte memories (R335) -/

/-- What a byte that nothing has written reads as: erased flash reads 0xFF; the SRAMs read 0 after power-on (a choice of the model).
(Log entry 18: DESIGN CHOICE) -/
def memDefault (a : Nat) : Byte := if 0x08000000 ≤ a ∧ a < 0x09800000 then 0xFF else 0

/-- The canonical form of a memory. -/
def Memory.wf (m : List Host.Cell) : Bool := cellWf memDefault m

/-- The byte at an address. -/
def Lane.byte (L : Lane) (a : Nat) : Byte := cellGet (memDefault a) L.mem a

/-- A byte stored. -/
def Lane.setByte (L : Lane) (a : Nat) (b : Byte) : Lane := { L with mem := cellSet (memDefault a) L.mem a b }

/-- Bytes stored from an address upward. -/
def Lane.setBytes (L : Lane) (a : Nat) : List Byte → Lane
  | [] => L
  | b :: bs => (L.setByte a b).setBytes (a + 1) bs

/-- A range of RAM that reads 0 again. -/
def Lane.clearRange (L : Lane) (a n : Nat) : Lane := { L with mem := L.mem.filter (fun c => decide (c.1 < a) || decide (a + n ≤ c.1)) }

/-- `n` bytes from an address upward. -/
def Lane.bytes (L : Lane) (a n : Nat) : List Byte := (List.range n).map (fun i => L.byte (a + i))

/-- Bytes read as a number, the lowest address least significant. -/
def leNat : List Byte → Nat
  | [] => 0
  | b :: bs => b.toNat + 256 * leNat bs

/-- A number as `n` bytes, least significant first. -/
def leBytes : Nat → Nat → List Byte
  | 0, _ => []
  | n + 1, v => BitVec.ofNat 8 v :: leBytes n (v / 256)

/-- A little-endian word in memory. -/
def Lane.memWord (L : Lane) (a : Nat) : Word := BitVec.ofNat 32 (leNat (L.bytes a 4))

def Lane.setMemWord (L : Lane) (a : Nat) (w : Word) : Lane := L.setBytes a (leBytes 4 w.toNat)

/-- The memory ranges of R335 below the peripheral windows. -/
def memMapped (a : Nat) : Bool :=
  decide (a < 0x10000 ∨ (0x08000000 ≤ a ∧ a < 0x09800000) ∨ (0x20000000 ≤ a ∧ a < 0x20300000) ∨ (0x21000000 ≤ a ∧ a < 0x21100000)
    ∨ (0x22000000 ≤ a ∧ a < 0x22100000) ∨ (0x23000000 ≤ a ∧ a < 0x23080000) ∨ (0x24000000 ≤ a ∧ a < 0x24040000)
    ∨ (0x25000000 ≤ a ∧ a < 0x25040000))

/-- The ranges a bus write cannot change: boot ROM and flash (R336). -/
def memReadOnly (a : Nat) : Bool := decide (a < 0x10000 ∨ (0x08000000 ≤ a ∧ a < 0x09800000))

/-! ### What runs (R386 to R391) -/

/-- The supply domains of R386, as far as a sleep level or a reset tells them apart. -/
inductive Domain where
  | drive
  | field
  | core
  | link
  deriving DecidableEq, Repr

/-- The pads of a domain are held (R395): its outputs stay, its inputs deliver nothing. -/
def Lane.padsHeld (L : Lane) : Domain → Bool
  | .core => bit L.pm.pads 0
  | .drive => bit L.pm.pads 1
  | .link => bit L.pm.pads 2
  | .field => bit L.pm.pads 3

/-- The drive domain rests as in Doze (R387): in Doze, and in a sleep entry that began there. (Log entry 108: DEDUCED) -/
def Lane.dozing (L : Lane) : Bool := L.pm.level == .doze || (L.pm.level == .entering && L.pm.fromDoze)

/-- The link domain runs alone (R389): in Hold, in the final window before it and while the lane wakes from it. -/
def Lane.linkSleeps (L : Lane) : Bool :=
  !L.pm.cellar && (L.pm.level == .hold || L.pm.level == .waking || L.pm.phase == .window)

/-- A domain is powered: at Hold the link domain alone, at Cellar none of these, and so while the lane wakes and in the final window.
(Log entry 8: DEDUCED) -/
def Lane.powered (L : Lane) (d : Domain) : Bool :=
  let off := d != .link || L.pm.cellar
  match L.pm.level with
  | .hold => d == .link
  | .cellar => false
  | .waking => !off
  | .entering => L.pm.phase != .window || !off
  | _ => true

/-- Block `b` of a domain runs: out of reset, powered, not stopped by a sleep entry (0x20 is the helm pair, 0x21 the yard core).
(Log entry 8: DEDUCED) -/
def Lane.acts (L : Lane) (d : Domain) (b : Nat) : Bool := !L.sy.resetHeld && L.powered d && !(L.pm.acked.contains b)

end Sys2Proof.Machine
end

