-- ==== Sys2Proof/Machine/Wire.lean ====
section
/-! DEFINITION. What travels as bytes: the CRC-32C (R246), and the frames of the cross-lane links with their payloads (R27, R28, R88, R132,
R238, R465) and of the lane network (R244 to R247). The setpoint frame has no layout of its own in the manual. -/

namespace Sys2Proof.Machine

/-- One byte. -/
def byteOf (n : Nat) : List Byte := [BitVec.ofNat 8 n]

/-- Bytes cut or filled up with zeros to `n`. -/
def padTo (n : Nat) (bs : List Byte) : List Byte := (bs ++ List.replicate n 0).take n

/-- A reflected CRC bit by bit: `p` is the polynomial reversed. -/
def crcBit (p c : Nat) : Nat := if c % 2 = 1 then (c / 2) ^^^ p else c / 2
def crcByte (p c : Nat) (b : Byte) : Nat :=
  crcBit p (crcBit p (crcBit p (crcBit p (crcBit p (crcBit p (crcBit p (crcBit p (c ^^^ b.toNat))))))))
def crcWord (p : Nat) (bs : List Byte) : Word := BitVec.ofNat 32 ((bs.foldl (crcByte p) 0xFFFFFFFF) ^^^ 0xFFFFFFFF)

/-- The CRC-32C of R246. -/
def crc32c (bs : List Byte) : Word := crcWord 0x82F63B78 bs

/-- The CRC-32 of IEEE 802.3, the FCS of a lane-network frame (R244). -/
def crc32 (bs : List Byte) : Word := crcWord 0xEDB88320 bs

/-- Truth values as the bits of a number, the first the lowest. -/
def bitsOf : List Bool → Nat
  | [] => 0
  | b :: bs => b2n b + 2 * bitsOf bs

/-! ### Payloads of the cross-lane links -/

/-- The coordination frame (R28): 32 bytes. -/
def coordBytes (f : CoordFrame) : List Byte :=
  leBytes 2 f.seq ++ byteOf f.sender
    ++ byteOf (f.state % 8 + 8 * bitsOf [f.toCellar, f.noToken, f.testPassed, f.runComplete])
    ++ leBytes 2 f.tokenNum ++ byteOf (f.tokenHolder % 4 + 4 * (f.tokenPass % 4)) ++ byteOf 0
    ++ (List.range 3).flatMap (fun i => leBytes 2 (f.lastHeld.getD i 0))
    ++ byteOf (f.votes % 8) ++ byteOf (bitsOf [f.downN, f.downP, f.downFar]) ++ leBytes 2 0
    ++ byteOf (bitsOf [f.start, f.stop, f.standstill, f.motionGrant, f.standCond, f.delivering]) ++ byteOf 0
    ++ padTo 8 f.digest ++ leBytes 2 f.epoch ++ leBytes 2 0

/-- The vote frame (R238): 8 bytes. -/
def voteBytes (f : VoteFrame) : List Byte :=
  leBytes 2 f.release ++ leBytes 2 (f.seq % 4096 + 4096 * b2n f.stop + 8192 * (f.against % 8)) ++ leBytes 2 f.live ++ leBytes 2 f.capable

/-- What an angle frame says of one star: 8 bytes. -/
def angleEntryBytes (e : AngleEntry) : List Byte :=
  leBytes 2 e.angle ++ leBytes 4 e.speed.toNat ++ byteOf e.conf ++ byteOf e.flags

/-- The angle frame (R132): 136 bytes. -/
def angleBytes (f : AngleFrame) : List Byte :=
  leBytes 2 f.num ++ byteOf f.sender ++ byteOf f.age ++ leBytes 4 0 ++ padTo 128 (f.stars.flatMap angleEntryBytes)

/-- The key message (R465): 8 bytes. -/
def keyBytes (m : KeyMsg) : List Byte :=
  byteOf m.kind ++ byteOf m.sender ++ leBytes 2 m.epoch ++ leBytes 2 m.number ++ byteOf m.named ++ byteOf 0

/-- The shelf frame (R88): a header of 8 bytes and 256 words. -/
def shelfBytes (f : ShelfFrame) : List Byte :=
  leBytes 4 f.tick ++ leBytes 2 f.epoch ++ leBytes 2 f.count ++ (List.range 256).flatMap (fun i => leBytes 4 (f.words.getD i 0).toNat)

/-- A cross-lane frame of class `cls` in the table order of R27: header, payload, padding, and the CRC over all of them. -/
def linkFrameBytes (cls : Nat) (payload : List Byte) : List Byte :=
  let body := byteOf cls ++ byteOf 0 ++ leBytes 2 payload.length ++ payload
  let body := body ++ List.replicate (12 - body.length) 0
  body ++ leBytes 4 (crc32c body).toNat

/-- The payload of a frame. (Log entry 209: DESIGN CHOICE) -/
def CxFrame.payload : CxFrame → List Byte
  | .vote f => voteBytes f
  | .angle f => angleBytes f
  | .setpoint f => padTo 200 (Config.setpointPayload f.epoch f.torque f.release f.agreeNext f.agreePrev f.position f.valid)
  | .key m => keyBytes m
  | .shelf f => shelfBytes f
  | .coord f => coordBytes f

/-- The bytes of a frame as a port sends it. -/
def CxSent.bytes (w : CxSent) : List Byte :=
  let bs := linkFrameBytes w.frame.cls w.frame.payload
  match w.flip with
  | none => bs
  | some i => bs.set i (bs.getD i 0 ^^^ 0xFF)

/-! ### Frames of the lane network (R244 to R247) -/

/-- Bytes of a frame from destination to FCS with `len` data bytes. -/
def frameBytes (len : Nat) (cmac : Bool) : Nat := max 60 (36 + len + (if cmac then 4 else 0)) + 4

/-- The destination address of lane network `net`. -/
def lnDest (net : Nat) : List Byte := [0x03, 0x47, 0x56, 0x00, 0x00, BitVec.ofNat 8 net]

/-- The source address of port `p` of a node. -/
def lnSource (net node p : Nat) : List Byte := [0x02, 0x47, 0x56, BitVec.ofNat 8 net, BitVec.ofNat 8 node, BitVec.ofNat 8 p]

/-- Byte 16 with the hop count and the relayed flag taken as 0 (R246, R247). -/
def flagsCovered (b : Byte) : Byte := b &&& 0xD3

/-- The bytes of a frame from 14 to `n` − 1 as its CRC-32C and its CMAC cover them. -/
def lnCovered (bs : List Byte) (n : Nat) : List Byte := ((bs.set 16 (flagsCovered (bs.getD 16 0))).take n).drop 14

/-- The FCS, least significant byte first. -/
def fcsOf (bs : List Byte) : List Byte := leBytes 4 (crc32 bs).toNat

/-- A frame with its FCS formed anew. -/
def refcs (bs : List Byte) : List Byte := bs.take (bs.length - 4) ++ fcsOf (bs.take (bs.length - 4))

/-- The CMAC of a frame up to and including its CRC-32C, under key `key`, with `hi` as the high part of the cycle counter (R247): the leftmost
32 bits of the AES-128 CMAC. -/
def lnCmacOf (key : Option (List Byte)) (hi : Nat) (bs : List Byte) : List Byte :=
  let input := leBytes 4 hi ++ lnCovered bs bs.length
  match key with
  | some k => (aesCmac k input).take 4
  | none => padTo 4 (Config.keylessCmac input)

/-- A frame from its bytes 0 to 31 + L: the CRC-32C, the CMAC where a key is given, the pad and the FCS. -/
def lnSeal (mac : Option (Option (List Byte) × Nat)) (body : List Byte) : List Byte :=
  let bs := body ++ leBytes 4 (crc32c (lnCovered body body.length)).toNat
  let bs := match mac with
    | some k => bs ++ lnCmacOf k.1 k.2 bs
    | none => bs
  let bs := bs ++ List.replicate (60 - bs.length) 0
  bs ++ fcsOf bs

/-- A relayed frame: one hop more, the relayed flag, the FCS formed anew (R252). -/
def relayBytes (bs : List Byte) : List Byte :=
  let b := bs.getD 16 0
  refcs (bs.set 16 ((b &&& 0xD3) ||| 0x20 ||| BitVec.ofNat 8 (4 * ((b.toNat / 4 + 1) % 4))))

end Sys2Proof.Machine

namespace Sys2Proof

/-! ### What a received frame says (R244) -/

open Machine

/-- Byte `i` of a frame. -/
def LnFrame.at (f : LnFrame) (i : Nat) : Nat := (f.bytes.getD i 0).toNat
/-- A little-endian field. -/
def LnFrame.le (f : LnFrame) (i n : Nat) : Nat := leNat ((f.bytes.drop i).take n)
/-- The frame goes to lane network `net`, by its destination and its flags. -/
def LnFrame.onNet (f : LnFrame) (net : Nat) : Bool := f.bytes.take 6 == lnDest net && f.at 16 % 4 == net
def LnFrame.etherType (f : LnFrame) : Nat := 256 * f.at 12 + f.at 13
def LnFrame.version (f : LnFrame) : Nat := f.at 14 % 16
def LnFrame.kind (f : LnFrame) : Nat := f.at 14 / 16
def LnFrame.source (f : LnFrame) : Nat := f.at 15
def LnFrame.hop (f : LnFrame) : Nat := f.at 16 / 4 % 4
def LnFrame.cmac (f : LnFrame) : Bool := bit (f.at 16) 4
def LnFrame.relayed (f : LnFrame) : Bool := bit (f.at 16) 5
def LnFrame.isNew (f : LnFrame) : Bool := bit (f.at 16) 6
def LnFrame.slot (f : LnFrame) : Nat := f.at 17
def LnFrame.cycle (f : LnFrame) : Nat := f.le 18 2
def LnFrame.len (f : LnFrame) : Nat := f.le 20 2
def LnFrame.mode (f : LnFrame) : Nat := f.at 22
def LnFrame.action (f : LnFrame) : Nat := f.le 24 8
def LnFrame.data (f : LnFrame) : List Byte := (f.bytes.drop 32).take f.len

/-- Check 1 of R254: the FCS, the size, the end delimiter. -/
def LnFrame.fcsOk (f : LnFrame) : Bool :=
  f.endOk && decide (64 ≤ f.bytes.length) && decide (f.bytes.length ≤ 1518) && refcs f.bytes == f.bytes

/-- Check 6: the CRC-32C. -/
def LnFrame.crcOk (f : LnFrame) : Bool :=
  (f.bytes.drop (32 + f.len)).take 4 == leBytes 4 (crc32c (lnCovered f.bytes (32 + f.len))).toNat

/-- The CMAC of the frame is the one of key `key` and high part `hi` (R247). -/
def LnFrame.cmacOk (f : LnFrame) (key : Option (List Byte)) (hi : Nat) : Bool :=
  (f.bytes.drop (36 + f.len)).take 4 == lnCmacOf key hi (f.bytes.take (36 + f.len))

end Sys2Proof
end

