-- ==== Sys2Proof/Machine/Operands.lean ====
section
/-! DEFINITION. The settings as they act: what each configuration field means when its value lies outside its range, as the field
tables state, and the parameter checks that are evaluated continuously from the registers (TQ, SD, LG_CH and EG PARAM). -/

namespace Sys2Proof.Machine

/-- A field whose value 0 acts as 1. -/
def Lane.fld1 (L : Lane) (f : Fld) (g : Nat := 0) (k : Nat := 0) : Nat := let v := L.fld f g k; if v = 0 then 1 else v

/-- A field held between two limits. (Log entry 27: DEDUCED) -/
def Lane.fldIn (L : Lane) (f : Fld) (lo hi : Nat) (g : Nat := 0) (k : Nat := 0) : Nat := clampN lo hi (L.fld f g k)

/-- The exact value of a register that holds an F32 quantity. -/
def Lane.f32 (L : Lane) (f : Fld) (g : Nat := 0) (k : Nat := 0) : Rat := f32val (L.word f g k)

/-- A result shown in a register as F32. -/
def Lane.setF32 (L : Lane) (f : Fld) (x : Rat) (g : Nat := 0) (k : Nat := 0) : Lane := L.setWord f (f32of x) g k

/-! ### Key block (03_authority.md) -/

def Lane.revokeTicks (L : Lane) : Nat := let v := L.fld F.KY_CFG_REVOKE_TICKS; if v ≤ 1 then 2 else if 5 ≤ v then 4 else v
def Lane.dualTicks (L : Lane) : Nat := let v := L.fld F.KY_CFG_DUAL_TICKS; if v ≤ 1 then 2 else v
def Lane.shadowTicks (L : Lane) : Nat := L.fldIn F.KY_CFG_SHADOW_TICKS 100 60000
/-- KY_TOL: zero, negative, infinite or NaN values act as 1.0 N·m. -/
def Lane.tolerance (L : Lane) (n : Nat) : Rat := f32posOr (L.word F.KY_TOL_TOL 0 n) 1

/-! ### Torque engine (04_torque_engine.md) -/

def Lane.poles (L : Lane) (g : Nat) : Nat := let v := L.fld F.TQ_POLES_POLES g; if 32 < v then 32 else v
def Lane.gear (L : Lane) (g : Nat) : Rat := L.f32 F.TQ_GEAR g
def Lane.tqMode (L : Lane) (g : Nat) : Nat := let v := L.fld F.TQ_CTRL_MODE_SEL g; if v = 3 then 0 else v
def Lane.ramp (L : Lane) (g : Nat) : Nat := L.fld1 F.TQ_SHARE_RAMP g
def Lane.shareTarget (L : Lane) (g : Nat) : Nat := let v := L.fld F.TQ_SHARE_TARGET g; if 768 < v then 768 else v
def Lane.paAdvance (L : Lane) (g i : Nat) : Nat := L.fldIn F.TQ_PA_ADVANCE 0 0x1000 g i
def Lane.paReduce (L : Lane) (g i : Nat) : Nat := L.fldIn F.TQ_PA_REDUCE 0 0xC000 g i
def Lane.wc (L : Lane) (g : Nat) : Rat := f32posOr (L.word F.TQ_WC g) 10
def Lane.bandT (L : Lane) (g : Nat) : Rat := f32posOr (L.word F.TQ_HT g) (L.f32 F.TQ_TRATED g / 100)
def Lane.bandF (L : Lane) (g : Nat) : Rat := f32posOr (L.word F.TQ_HPSI g) (L.f32 F.TQ_PSINOM g / 100)
def Lane.gain (L : Lane) (f : Fld) (g : Nat) : Rat := f32nonnegOr (L.word f g) 0

/-- TQ_STATUS.PARAM: a named parameter is zero, negative, infinite or NaN. -/
def Lane.tqParam (L : Lane) (g : Nat) : Bool :=
  L.fld F.TQ_POLES_POLES g == 0 || !([F.TQ_RS, F.TQ_LD, F.TQ_LQ, F.TQ_PSIPM, F.TQ_GEAR, F.TQ_PSINOM, F.TQ_TRATED, F.TQ_WRATED,
    F.TQ_TLIM, F.TQ_ILIM, F.TQ_PA_STEP].all (fun f => f32pos (L.word f g)))

/-! ### Angle unit (05_rotor_angle.md) -/

def Lane.disTicks (L : Lane) (g : Nat) : Nat := L.fld1 F.AN_CFG_DIS_TICKS g
def Lane.injHi (L : Lane) (g : Nat) : Nat := L.fldIn F.AN_CFG_INJ_HI 3 25 g
def Lane.injLo (L : Lane) (g : Nat) : Nat := let v := L.fld F.AN_CFG_INJ_LO g; if L.injHi g - 2 < v then L.injHi g - 2 else v
def Lane.cmin (L : Lane) (g : Nat) : Nat := L.fld1 F.AN_CFG_CMIN g
def Lane.encWin (L : Lane) (g : Nat) : Nat := L.fldIn F.AN_WIN_ENC_WIN 0x0100 0x4000 g
def Lane.kc (L : Lane) (g : Nat) : Nat := L.fldIn F.AN_WIN_KC 0 0x80 g
/-- AGREE: bits [15:8] from the register, bits [7:0] fixed at 0x44; at most 0x3F44. -/
def Lane.agreeWin (L : Lane) (g : Nat) : Nat := L.fldIn F.AN_WIN_AGREE_HI 0 0x3F g * 256 + 0x44
def Lane.vinj (L : Lane) (g : Nat) : Rat := (L.fldIn F.AN_INJ_VINJ 0x64 0xBB8 g : Rat) / 100
def Lane.finj (L : Lane) (g : Nat) : Nat := L.fldIn F.AN_INJ_FINJ 250 2500 g
def Lane.polMargin (L : Lane) (g : Nat) : Nat := L.fldIn F.AN_POL_MARGIN 1 50 g
def Lane.polWidth (L : Lane) (g : Nat) : Nat := L.fldIn F.AN_POL_PW 20 250 g
def Lane.injAmin (L : Lane) (g : Nat) : Rat := f32posOr (L.word F.AN_INJ_AMIN g) (1 / 2)
def Lane.obsEmin (L : Lane) (g : Nat) : Rat := f32posOr (L.word F.AN_OBS_EMIN g) 2
def Lane.encMult (L : Lane) (g : Nat) : Nat := L.fldIn F.AN_ENC_MULT 1 32 g

/-! ### Leg generator (06_leg_generator.md); times in units of 625 ps -/

/-- SRC: the duty registers (01), else the torque engine. -/
def Lane.srcDuty (L : Lane) (g : Nat) : Bool := L.fld F.LG_CTRL_SRC g == 1
def Lane.minPulse (L : Lane) (g : Nat) : Nat := L.fldIn F.LG_MINP_MINPULSE 80 8000 g
def Lane.dtMin (L : Lane) (g : Nat) : Nat := L.fldIn F.LG_DTLIM_DT_MIN 32 6400 g
def Lane.dtZc (L : Lane) (g : Nat) : Nat :=
  let v := L.fld F.LG_DTLIM_DT_ZC g; if v < L.dtMin g then L.dtMin g else if 6400 < v then 6400 else v
def Lane.dtK (L : Lane) (g : Nat) : Nat := L.fldIn F.LG_DTK_DT_K 32 6400 g
def Lane.izc (L : Lane) (g : Nat) : Rat := f32posOr (L.word F.LG_IZC g) (1 / 2)
def Lane.vsilMin (L : Lane) (g : Nat) : Rat := f32nonnegOr (L.word F.LG_VSIL g) 5
def Lane.tsil (L : Lane) (g : Nat) : Nat := L.fldIn F.LG_SIL_TSIL 80 4000 g
/-- The shadow period: an odd value acts as the next lower even value, values outside 2,000–100,000 as the nearer limit. -/
def Lane.shadowPeriod (L : Lane) (g : Nat) : Nat := clampN 2000 100000 (L.fld F.LG_PERIOD_PERIOD g / 2 * 2)
/-- The pulse policy of R152: carry, stretch or drop; 11 acts as carry. -/
def Lane.policy (L : Lane) (g : Nat) : Nat := let v := L.fld F.LG_CTRL_POLICY g; if v = 3 then 0 else v

/-! ### DC link (07_dc_link.md) -/

def Lane.xover (L : Lane) (g : Nat) : Nat := L.fldIn F.LG_CH_CTRL_XOVER 0x80 0xFF g
/-- OV_QUAL in units of 0.5 µs. -/
def Lane.ovQual (L : Lane) (g : Nat) : Nat := L.fld1 F.LG_CH_CTRL_OV_QUAL g
/-- UV_T in units of 100 µs. -/
def Lane.uvT (L : Lane) (g : Nat) : Nat := L.fld1 F.LG_CH_CTRL_UV_T g
def Lane.chAuto (L : Lane) (g : Nat) : Bool := L.fld F.LG_CH_CTRL_CH_MODE g == 1
def Lane.dvRise (L : Lane) (g : Nat) : Rat := f32posOr (L.word F.LG_CH_DVR g) 5
def Lane.pcont (L : Lane) (g : Nat) : Rat := f32nonnegOr (L.word F.LG_CH_PCONT g) 0

/-- CH_PARAM (R182): the threshold order is broken, a threshold is not finite, or RCH or EMAX is invalid. -/
def Lane.chParam (L : Lane) (g : Nat) : Bool :=
  let fs := [F.LG_CH_VUVT, F.LG_CH_VUV, F.LG_CH_VOFF, F.LG_CH_VON, F.LG_CH_VOV1, F.LG_CH_VOV2, F.LG_CH_VOV3]
  let vs := fs.map (fun f => L.f32 f g)
  !(fs.all (fun f => f32finite (L.word f g))) || !((vs.zip (vs.drop 1)).all (fun p => decide (p.1 < p.2)))
    || !(f32pos (L.word F.LG_CH_RCH g)) || !(f32pos (L.word F.LG_CH_EMAX g))

/-! ### Sigma-delta channels (08_current_sensing.md) -/

def Lane.sdM (L : Lane) (g : Nat) : Nat := let v := L.fld F.SD_CTRL_M g; if v < 16 then 16 else v
def Lane.sdDiv (L : Lane) (g : Nat) : Nat := L.fldIn F.SD_CTRL_DIV 10 40 g
/-- MF_EFF (R184): the smaller of MF and floor((272 / DIV − 2) / 2). -/
def Lane.mfEff (L : Lane) (g : Nat) : Nat :=
  let mf := let v := L.fld F.SD_CTRL_MF g; if v < 2 then 2 else v
  let mx := (272 - 2 * L.sdDiv g) / (2 * L.sdDiv g)
  if mx < mf then mx else mf
def Lane.tripN (L : Lane) (g : Nat) : Nat := L.fld1 F.SD_TRIPN_TRIP_N g
def Lane.tripWin (L : Lane) (g : Nat) : Nat := L.fldIn F.SD_TRIPN_TRIP_WIN 1 10000 g
def Lane.sumN (L : Lane) (g : Nat) : Nat := L.fld1 F.SD_TRIPN_SUM_N g
def Lane.sumLim (L : Lane) (g : Nat) : Rat := f32nonnegOr (L.word F.SD_SUMLIM g) 0

/-- SD_STATUS.PARAM (R186). (Log entry 39: DEDUCED) -/
def Lane.sdParam (L : Lane) (g : Nat) : Bool :=
  !(f32pos (L.word F.SD_OC g)) ||
    !((List.range 4).all (fun k => f32finite (L.word F.SD_SCALE g k) && decide (L.f32 F.SD_SCALE g k ≠ 0)))

/-! ### Feedback interfaces (09_feedback.md) -/

/-- MODE: 6 and 7 act as off. -/
def Lane.fbMode (L : Lane) (g : Nat) : Nat := let v := L.fld F.FB_CTRL_MODE g; if 5 < v then 0 else v
def Lane.ptMode (L : Lane) (g : Nat) : Nat := let v := L.fld F.FB_CTRL_PT_MODE g; if v = 3 then 0 else v
def Lane.cpr (L : Lane) (g : Nat) : Nat := L.fldIn F.FB_CPR_CPR 4 16777216 g
def Lane.lines (L : Lane) (g : Nat) : Nat := L.fldIn F.FB_CPR_CPR 1 65535 g
def Lane.refPos (L : Lane) (g n : Nat) : Nat := let v := L.fld F.FB_REF_REF_POS g; if n ≤ v then n - 1 else v
def Lane.spdQ (L : Lane) (g : Nat) : Nat := L.fld1 F.FB_SPD_SPD_Q g
def Lane.spdWin (L : Lane) (g : Nat) : Nat := L.fld1 F.FB_SPD_SPD_WIN g
def Lane.spdTo (L : Lane) (g : Nat) : Nat := let v := L.fld F.FB_SPD_SPD_TO g; if v < 10 then 10 else v
def Lane.ampMax (L : Lane) (g : Nat) : Nat :=
  let v := L.fld F.FB_AMPW_AMP_MAX g; if v ≤ L.fld F.FB_AMPW_AMP_MIN g then 0x7FFF else v
def Lane.jump (L : Lane) (g : Nat) : Nat := L.fldIn F.FB_CHK_JUMP 0x100 0x8000 g
def Lane.ssiBits (L : Lane) (g : Nat) : Nat := L.fldIn F.FB_SSI_BITS 8 32 g
def Lane.ssiSt (L : Lane) (g : Nat) : Nat :=
  let m := if L.ssiBits g < 24 then L.ssiBits g else 24
  clampN 1 m (L.fld F.FB_SSI_ST_BITS g)
def Lane.ssiParity (L : Lane) (g : Nat) : Nat := let v := L.fld F.FB_SSI_PARITY g; if v = 3 then 0 else v
def Lane.ssiDiv (L : Lane) (g : Nat) : Nat := L.fldIn F.FB_SSI_SSI_DIV 5 100 g
def Lane.ssiFrames (L : Lane) (g : Nat) : Nat := L.fldIn F.FB_SSI2_SSI_FRAMES 1 64 g
def Lane.ssiTm (L : Lane) (g : Nat) : Nat := let v := L.fld F.FB_SSI2_TM g; if v < 10 then 10 else v
def Lane.emuGap (L : Lane) (g : Nat) : Nat := let v := L.fld F.FB_EMU_EMU_GAP g; if v < 10 then 10 else v
def Lane.emuCpr (L : Lane) (g : Nat) : Nat := L.fldIn F.FB_EMU_EMU_CPR 4 65536 g
def Lane.hpp (L : Lane) (g : Nat) : Nat := L.fldIn F.FB_HALL_HPP 1 32 g
def Lane.disagWin (L : Lane) (g : Nat) : Rat := f32posOr (L.word F.FB_DISAG g) 5

/-- FB_STATUS.PARAM: in SSI mode, (BITS + P + 1) / fSSI + TM must not exceed SSI_FRAMES × 5 µs (R206); in units of 0.1 µs. -/
def Lane.ssiParam (L : Lane) (g : Nat) : Bool :=
  L.fbMode g == 5 && decide (L.ssiFrames g * 50 <
    (L.ssiBits g + (if L.ssiParity g = 0 then 0 else 1) + 1) * L.ssiDiv g + L.ssiTm g * 10)

/-! ### Safety inputs and envelope guards (10_safety_io.md) -/

/-- SOURCE: a pulsed supply 0–3, or 4 for untested; 5–7 act as 4. -/
def Lane.inSource (L : Lane) (i : Nat) : Nat := let v := L.fld F.SF_IN_SOURCE 0 i; if 4 < v then 4 else v
/-- FUNC: 0 off, 1 monitor, 2 stop; 11 acts as off. -/
def Lane.inFunc (L : Lane) (i : Nat) : Nat := let v := L.fld F.SF_IN_FUNC 0 i; if v = 3 then 0 else v
def Lane.inFilt (L : Lane) (i : Nat) : Nat := L.fld1 F.SF_IN_FILT 0 i
/-- KIND: 0 other, 1 steering, 2 brake; 11 acts as other. -/
def Lane.kind (L : Lane) (g : Nat) : Nat := let v := L.fld F.EG_CTRL_KIND g; if v = 3 then 0 else v

/-- A brake ceiling acts: the star is that of a brake actuator, and its ceiling is set (R239). (Log entry 136: DEDUCED) -/
def Lane.ceilingOn (L : Lane) (g : Fin 16) : Bool := L.kind g == 2 && (L.grp g).eg.ceiling.isSome

def Lane.swInt (L : Lane) (g : Nat) : Nat := let v := L.fld F.EG_SW_SW_INT g; if v < 100 then 100 else v
def Lane.swBurst (L : Lane) (g : Nat) : Nat := L.fld1 F.EG_SW_SW_BURST g
/-- BRK_TMAX in units of 10 ms. -/
def Lane.brkTmax (L : Lane) (g : Nat) : Nat := L.fldIn F.EG_BRK_BRK_TMAX 200 12000 g

/-- EG_STATUS.PARAM (R231, R236): a limit that counts is zero, negative or non-finite, the Road rate limit lies above the Field one,
or EG_OC is not above SD_OC or EG_OV not above VOV3. -/
def Lane.egParam (L : Lane) (g : Nat) : Bool :=
  let base := [F.EG_TMAX, F.EG_SLEW, F.EG_OC, F.EG_OV]
  let steer := if L.kind g = 1 then [F.EG_RATE_F, F.EG_RATE_R, F.EG_FBK] else []
  !((base ++ steer).all (fun f => f32pos (L.word f g)))
    || (L.kind g == 1 && decide (L.f32 F.EG_RATE_F g < L.f32 F.EG_RATE_R g))
    || decide (L.f32 F.EG_OC g ≤ L.f32 F.SD_OC g) || decide (L.f32 F.EG_OV g ≤ L.f32 F.LG_CH_VOV3 g)

/-! ### Fault hub (16_fault_collection.md) -/

/-- QUIET in ms, 1–10,000. -/
def Lane.quietMs (L : Lane) : Nat := L.fldIn F.FC_CFG_QUIET 1 10000
/-- RECOV_WIN in units of 100 ms; RECOV_N; 0 acts as 1. -/
def Lane.recovWin (L : Lane) : Nat := L.fld1 F.FC_CFG_RECOV_WIN
def Lane.recovN (L : Lane) : Nat := L.fld1 F.FC_CFG_RECOV_N

end Sys2Proof.Machine
end

