-- ==== Sys2Proof/Machine/Filters.lean ====
section
/-! DEFINITION. The sigma-delta filters of a group (R183 to R185): the modulator clock, the captured bits, the sinc3 and sinc2 values, and what
the fast path keeps of them (R177, R181, R191, R236). -/

namespace Sys2Proof.Machine

/-! ### The modulator clock (R183) -/

/-- PHASE: 0 to DIV − 1; larger values act as DIV − 1. -/
def Lane.sdPhase (L : Lane) (g : Nat) : Nat := min (L.fld F.SD_CTRL_PHASE g) (L.sdDiv g - 1)

/-- The modulator clock runs: ENABLE is 1, and the lane is not in Doze (R387). -/
def Lane.sdRuns (L : Lane) (g : Nat) : Bool := L.flag F.SD_CTRL_ENABLE g && !L.dozing

/-- The level of SDC[g]: 50 % duty from the rise of ENABLE on, held low otherwise. -/
def Lane.sdcPad (L : Lane) (g : Fin 16) : Bool :=
  !(L.padsHeld .drive) && L.sdRuns g && decide ((L.now - (L.grp g).sd.enabledAt) % (8 * L.sdDiv g) < 4 * L.sdDiv g)

/-- When clock `n` after the rise of ENABLE is captured: PHASE main-clock cycles after its rising edge. -/
def Lane.captureAt (L : Lane) (g : Fin 16) (n : Nat) : Nat := (L.grp g).sd.enabledAt + 8 * (L.sdPhase g + L.sdDiv g * n)

/-- The number of clocks captured up to a time, those of the same main-clock cycle included (R185). -/
def Lane.captured (L : Lane) (g : Fin 16) (t : Nat) : Nat :=
  let c := L.captureAt g 0 / 8
  if t / 8 < c then 0 else (t / 8 - c) / L.sdDiv g + 1

/-! ### The filters (R184) -/

/-- The number of ways to reach delay `m` with two further delays below it, and what it is past the length `d`. -/
def ways (d m : Nat) : Int := if m < d then 0 else (((m - d + 1) * (m - d + 2) / 2 : Nat) : Int)

/-- The weight of the bit `m` clocks back in the sinc3 filter of length `n`: three running sums of `n` bits. -/
def sinc3Weight (n m : Nat) : Int := ways 0 m - 3 * ways n m + 3 * ways (2 * n) m

/-- The same for the sinc2 filter: two running sums. -/
def sinc2Weight (n m : Nat) : Int := if m < n then ((m + 1 : Nat) : Int) else ((2 * n - 1 - m : Nat) : Int)

/-- The raw value of a filter on channel `k`: a bit counts as +1 or −1. -/
def sincRaw (weight : Nat → Int) (k : Nat) : Nat → List Nat → Int
  | _, [] => 0
  | m, b :: bs => (if bit b k then weight m else -(weight m)) + sincRaw weight k (m + 1) bs

/-- The normalised sinc3 value of a channel. -/
def Lane.sinc3 (L : Lane) (g : Fin 16) (k : Nat) : Rat :=
  let n := L.sdM g
  (sincRaw (sinc3Weight n) k 0 ((L.grp g).sd.hist.take (3 * n - 2)) : Rat) / ((n * n * n : Nat) : Rat)

/-- The normalised sinc2 value of a channel, `back` clocks ago. -/
def Lane.sinc2 (L : Lane) (g : Fin 16) (k back : Nat) : Rat :=
  let n := L.mfEff g
  (sincRaw (sinc2Weight n) k 0 (((L.grp g).sd.hist.drop back).take (2 * n - 1)) : Rat) / ((n * n : Nat) : Rat)

/-- The physical value of a normalised one: (x − OFFSET / 32,768) × SCALE. -/
def Lane.sdValue (L : Lane) (g k : Nat) (x : Rat) : Rat :=
  (x - (signed 16 (L.fld F.SD_OFS_OFFSET g k) : Rat) / 32768) * L.f32 F.SD_SCALE g k

/-- The newest fast value of a channel, and the one that was newest at a time (R156). -/
def Lane.fast (L : Lane) (g : Fin 16) (k : Nat) : Rat := L.sdValue g k (L.sinc2 g k 0)
def Lane.fastAt (L : Lane) (g : Fin 16) (k t : Nat) : Rat := L.sdValue g k (L.sinc2 g k ((L.grp g).sd.taken - L.captured g t))

/-! ### The bits of a clock -/

/-- One more clock captured: history and runs of equal bits. -/
def SdS.push (s : SdS) (b : Nat) : SdS :=
  { s with
    hist := (b :: s.hist).take 763
    taken := s.taken + 1
    runs := (List.range 4).map (fun k => match s.hist with
      | [] => 1
      | c :: _ => if bit b k = bit c k then s.runs.getD k 0 + 1 else 1) }

/-- Since when a condition holds. -/
def sinceWhen (t : Option Nat) (c : Bool) (now : Nat) : Option Nat :=
  if c then (match t with
    | some x => some x
    | none => some now) else none

/-- The bits of the three phases at successive clocks, the third list with the link channel in bit 1, as one list of channels. -/
def joinPhases (u v w : List Nat) : List Nat :=
  ((u.zip v).zip w).map (fun x => x.1.1 % 2 + 2 * (x.1.2 % 2) + 4 * (x.2 % 4))

/-- The bits of channels 0 and 1 and those of channels 2 and 3 at successive clocks, as one list of channels. -/
def joinPairs (lo hi : List Nat) : List Nat := (lo.zip hi).map (fun x => x.1 % 4 + 4 * (x.2 % 4))

/-- The fast-path limit `i` has been passed for `n` steps. -/
def Lane.fastFor (L : Lane) (g : Fin 16) (i n : Nat) : Bool :=
  match (L.grp g).sd.since.getD i none with
  | none => false
  | some t => decide (t + n ≤ L.now)

end Sys2Proof.Machine
end

