-- ==== Sys2Proof/Machine/Faults.lean ====
section
/-! DEFINITION. What a fault does to the lane: the fault hub's record, state and reaction (R350 to R357), ERR_OUT (R353), the
event-log queue (R362), the guardian's permission (R162, R168), the isolation of stars (R122, R178) and the lane states (R40, R41). -/

namespace Sys2Proof.Machine

/-- Device time in parts of 1/8 × 10⁻⁹ ns (R15, R265, R277): what it stood at when last set, and the lane time since, with the rate correction in
parts per 10⁹ and the offset correction spread over a cycle. -/
def Lane.devFine (L : Lane) : Nat :=
  let e : Int := (((L.now - L.ln.timeAt) * 5 : Nat) : Int)
  let m : Int := if e < 8 * (L.ln.slewLen : Int) then e else 8 * (L.ln.slewLen : Int)
  ((L.ln.timeNs : Int) * 8000000000 + (L.ln.timeFrac : Int) + e * (1000000000 + L.ln.rate) + L.ln.slew * 1000000000 * m / (L.ln.slewLen : Int)).toNat

/-- Device time in ns. (Log entry 53: DEDUCED) -/
def Lane.devTime (L : Lane) : Nat := L.devFine / 8000000000

/-! ### Event log -/

/-- Where a record joins the queue: at its end, but a fault ahead of the faults of higher sources found in the same cycle, which began `e` ns
before it (R352). -/
def queueRec (e : Nat) (r : LogRec) (q : List LogRec) : List LogRec :=
  let later := q.reverse.takeWhile (fun x => r.kind == 0 && x.kind == 0 && decide (r.source < x.source) && decide (r.time ≤ x.time + e))
  q.take (q.length - later.length) ++ [r] ++ later.reverse

/-- A record put in the queue of 64; with the queue full the last one is dropped, counted and reported: the new one, unless it stands ahead of
others of its cycle (R352, R362). (Log entry 115: DEDUCED) -/
def Lane.log (L : Lane) (kind cls source flags unit_ : Nat) (detail : List Nat) : Lane :=
  let r : LogRec :=
    { kind := kind, cls := cls, source := source, flags := flags, unit_ := unit_, laneState := L.ky.state.code,
      level := L.ky.level, tick := L.ky.tick, time := L.devTime, detail := detail }
  let q := queueRec (L.now % 8 * 5 / 8) r L.fc.queue
  if L.fc.queue.length < 64 then { L with fc := { L.fc with queue := q } }
  else
    (({ L with fc := { L.fc with queue := q.take 64, dropped := L.fc.dropped + 1 } }).raise F.FC_EVENT_LOG_LOST).bump F.FC_LOG_LOST

/-! ### Gate enables, legs and the guardian's permission -/

/-- The engine put into the tracking state (R97): integrators zero, torque state 0, flux state +1, budgets full. -/
def TqS.track (s : TqS) : TqS :=
  { s with mode := .tracking, wantMode := .tracking, cT := 0, cPsi := 1, intF := 0, intT := 0, budget := [4, 4, 4],
           vHist := [], fluxRampAt := none, fluxPend := false }

/-- The commanded state of a leg at a time, with the changes planned up to it. -/
def LegS.at (s : LegS) (t : Nat) : LegCmd := s.plan.foldl (fun c e => if e.1 ≤ t then e.2 else c) s.cmd

/-- The time commanded high up to `t`. -/
def LegS.highTime (s : LegS) (t : Nat) : Nat := s.highAcc + (if s.cmd == .high then t - s.highFrom else 0)

/-- Every command of a leg low, at once; an edge in its dead time ends there, and is not judged (R163, R170). -/
def LegS.turnOff (s : LegS) (t : Nat) : LegS :=
  { s with cmd := .off, changedAt := t, plan := [], defer := none, held := none, highAcc := s.highTime t, highFrom := t,
           edges := if t < s.onAt then s.edges.filter (fun e => decide (e.fell ≠ s.changedAt)) else s.edges }

/-- One leg off; the state changes up to it are counted, its own among them where the leg was on (LG tallies of R375). -/
def Lane.legOff (L : Lane) (g : Fin 16) (k : Fin 4) : Lane :=
  let s := L.leg g k
  (L.tally 10 (4 * g + k) ((s.plan.filter (fun e => decide (e.1 ≤ L.now))).length + (if s.at L.now = .off then 0 else 1))).updLeg g k
    (·.turnOff L.now)

/-- Nothing carried over on legs U, V, W (R153). -/
def Lane.dropCarry (L : Lane) (g : Fin 16) : Lane :=
  let zero (s : LegS) : LegS := { s with acc := 0 }
  ((L.updLeg g 0 zero).updLeg g 1 zero).updLeg g 2 zero

/-- Legs U, V, W of a group off; their carry stays (R153). -/
def Lane.legsStop (L : Lane) (g : Fin 16) : Lane := ((L.legOff g 0).legOff g 1).legOff g 2

/-- Legs U, V, W of a group off, with nothing carried over: a protective turn-off, or the engine's tracking state (R153, R163). -/
def Lane.legsOff (L : Lane) (g : Fin 16) : Lane := (L.legsStop g).dropCarry g

/-- Leg K off as well; the chopper is then off (R171). -/
def Lane.legKOff (L : Lane) (g : Fin 16) : Lane := (L.legOff g 3).updCh g (fun s => { s with on := false })

/-- The gate enable goes low: every leg off, the engine in the tracking state and the share 0 in the same tick (R119, R163, R168). -/
def Lane.genLow (L : Lane) (g : Fin 16) : Lane :=
  ((((L.legsOff g).legKOff g).updTq g (fun s => { s.track with effShare := 0 })).updLg g (fun s => { s with gen := false, genHold := false }))

/-- The request for the gate enable that stands (R142, R164, R182, R186, R231, R237): GEN_REQ, unless one of the checks that take its
effect away holds. -/
def Lane.genAsked (L : Lane) (g : Fin 16) : Bool :=
  L.flag F.LG_CTRL_GEN_REQ g && !(L.sdParam g) && !(L.grp g).sd.settling && !(L.chParam g) && !(L.egParam g)
    && !(L.srcDuty g && L.lc.state == .field) && (L.grp g).lg.iso != .groupOff

/-- The gate enable follows the request ANDed with the guardian's permission (R38, R162); at a rise the dead times go to DT_ZC (R155)
and the legs stay low for 2.0 µs (R167). -/
def Lane.genUpdate (L : Lane) (g : Fin 16) : Lane :=
  let want := L.sy.permit && L.genAsked g
  if want = (L.grp g).lg.gen then L
  else if want then
    let d := L.dtZc g
    (((L.updLeg g 0 (fun s => { s with dtR := d, dtF := d })).updLeg g 1 (fun s => { s with dtR := d, dtF := d })).updLeg g 2
      (fun s => { s with dtR := d, dtF := d })).updLg g (fun s => { s with gen := true, genAt := L.now, genHold := true })
  else L.genLow g

/-- The guardian withdraws its permission: every leg pad and gate enable of the lane goes low (R162), and a group that was requesting
its gate enable reports it (R168). -/
def Lane.permitFall (L : Lane) : Lane :=
  if L.sy.permit then
    Lane.eachGroup { L with sy := { L.sy with permit := false } } (fun L g =>
      (L.genLow g).when (L.flag F.LG_CTRL_GEN_REQ g) (·.raise F.LG_EVENT_PERM_LOST g))
  else L

/-- Permission returns when the lane enters Service (R162, R164). -/
def Lane.permitRise (L : Lane) : Lane :=
  Lane.eachGroup { L with sy := { L.sy with permit := true } } (fun L g => L.genUpdate g)

/-! ### ERR_OUT -/

/-- The level of ERR_OUT: false is asserted (R353); the guardian asserts it while the main clock is absent (R351). -/
def Lane.errOut (L : Lane) : Bool :=
  if L.fc.forced ∨ L.sy.resetHeld ∨ L.sy.clockFault then false
  else match L.fc.pulse with
    | none => !(L.flag F.FC_ERROUT_HOLD)
    | some p => p.releasing

/-- A time lies in the cycle of 5 ns that runs now. -/
def Lane.nowCycle (L : Lane) (t : Nat) : Bool := t / 8 == L.now / 8

/-- The record that a source has put in the queue in this cycle says whether its fault merged into a pulse (R352, R361). -/
def Lane.relabel (L : Lane) (s : Nat) (b : Bool) : Lane :=
  let began := L.devTime - L.now % 8 * 5 / 8
  { L with fc := { L.fc with queue := L.fc.queue.map (fun r =>
    if r.kind == 0 && r.source == s && decide (began ≤ r.time) then { r with flags := putBit r.flags 1 b } else r) } }

/-- A fatal source above `s` forced ERR_OUT in this very cycle: `s` counts as recorded before it (R352). -/
def Lane.beforeForce (L : Lane) (s : Nat) : Bool := L.fc.forced && L.fc.cut.any (fun c => L.nowCycle c.1 && decide (s < c.2.1))

/-- The pulse that a fault of source `s` meets: the one in progress, or the one that a fatal source above it has cut short in this cycle. -/
def Lane.pulseFor (L : Lane) (s : Nat) : Option PulseS := if L.beforeForce s then L.fc.cut.bind (·.2.2) else L.fc.pulse

/-- That pulse replaced. -/
def Lane.setPulse (L : Lane) (s : Nat) (p : PulseS) : Lane :=
  if L.beforeForce s then { L with fc := { L.fc with cut := L.fc.cut.map (fun c => (c.1, c.2.1, some p)) } }
  else { L with fc := { L.fc with pulse := some p } }

/-- A new fault of source `s` merges into a pulse (R353): one is in progress, and `s` is not recorded before the fault of the same cycle that started
it (R352). -/
def Lane.merges (L : Lane) (s : Nat) : Bool :=
  (!L.fc.forced || L.beforeForce s) && (L.pulseFor s).any (fun p => !(L.nowCycle p.began && decide (s < p.source)))

/-- A new fault that pulses ERR_OUT: it starts a pulse, or merges into the one in progress and is counted. A held output is released
first, so that an edge shows (R353). Of the faults of one cycle the lowest source starts the pulse (R352). (Log entry 199: DEDUCED) -/
def Lane.pulse (L : Lane) (s : Nat) : Lane :=
  if L.fc.forced && !(L.beforeForce s) then L
  else match L.pulseFor s with
    | none => L.setPulse s { began := L.now, releasing := L.flag F.FC_ERROUT_HOLD, source := s }
    | some p =>
      let m := if L.merges s then s else p.source
      let L := { L.bump F.FC_ERROUT_MERGED with fc := { L.fc with merges := (L.now, m) :: L.fc.merges.filter (fun (c : Nat × Nat) => L.nowCycle c.1) } }
      if m = s then L else (L.setPulse s { p with source := s }).relabel m true

/-- ERR_OUT forced asserted until the lane is reset; a pulse in progress is cut short. What faults of higher sources did to the pulse in the same
cycle is undone: they are recorded after the fatal one `s`, and make no pulse (R352). -/
def Lane.forceErr (L : Lane) (s : Option Nat := none) : Lane :=
  match s with
  | none => { L with fc := { L.fc with forced := true, cut := none, pulse := none } }
  | some s =>
    if L.fc.forced && !(L.beforeForce s) then L else
    let mine (c : Nat × Nat) : Bool := L.nowCycle c.1 && decide (s < c.2)
    let undone := L.fc.merges.filter mine
    let p := (L.pulseFor s).filter (fun p => !(L.nowCycle p.began && decide (s < p.source)))
    let L := undone.foldl (fun (L : Lane) c => L.relabel c.2 false) (L.setFld F.FC_ERROUT_MERGED (L.fld F.FC_ERROUT_MERGED - undone.length))
    { L with fc := { L.fc with forced := true, cut := some (L.now, s, p), pulse := none, merges := L.fc.merges.filter (fun c => !(mine c)) } }

/-! ### Injection at a checker (R358), frames sent with cross-lane injection (R359) -/

/-- An injection armed at checker `c`. -/
def Lane.injecting (L : Lane) (c : Nat) : Bool := L.fc.injArm && L.fld F.FC_INJ_CHECKER == c

/-- One check of the armed checker made; after COUNT of them the injection ends. -/
def Lane.injTake (L : Lane) : Lane :=
  if 1 < L.fc.injLeft then { L with fc := { L.fc with injLeft := L.fc.injLeft - 1 } }
  else (({ L with fc := { L.fc with injLeft := 0, injArm := false } }).setFld F.FC_INJ_ARM 0).raise F.FC_EVENT_INJ_DONE

/-- A sibling in Service reports the host's STANDSTILL bit. -/
def Lane.sibStandstill (L : Lane) : Bool :=
  let f (c : Option CoordFrame) : Bool := match c with
    | some c => c.state == 4 && c.standstill
    | none => false
  (f L.cx.coordN && L.cx.n.up) || (f L.cx.coordP && L.cx.p.up)

/-- An injection is accepted (R358). -/
def Lane.injAllowed (L : Lane) : Bool :=
  L.lc.state == .service || (L.lc.state == .field && L.ky.state == .bench && L.sibStandstill)

/-- An injection still armed when its condition ends is cancelled (R358): looked at wherever the lane's state, a sibling's report or a link
changes. -/
def Lane.injWatch (L : Lane) : Lane :=
  if L.fc.injArm && !L.injAllowed then
    (({ L with fc := { L.fc with injArm := false, injLeft := 0 } }).setFld F.FC_INJ_ARM 0).raise F.FC_EVENT_INJ_DENIED
  else L

/-- CX_LOAD: the largest number of bytes sent on a port in any 50 µs since reset. -/
def Lane.load (L : Lane) (i n : Nat) : Lane :=
  let h := ((L.now, n) :: (if i = 0 then L.cx.sentN else L.cx.sentP)).filter (fun c => decide (L.now < c.1 + us 50))
  let s := h.foldl (fun (a : Nat) c => a + c.2) 0
  if i = 0 then
    ({ L with cx := { L.cx with sentN := h } }).when (decide (L.fld F.CX_LOAD_LOAD_N < s)) (·.setFld F.CX_LOAD_LOAD_N s)
  else ({ L with cx := { L.cx with sentP := h } }).when (decide (L.fld F.CX_LOAD_LOAD_P < s)) (·.setFld F.CX_LOAD_LOAD_P s)

/-- What a sending of class `cls` puts on port `i` (0 N, 1 P): each frame counted. -/
def Lane.onWire (L : Lane) (cls i : Nat) (ws : List CxSent) : Lane :=
  let keep (l : List CxSent) : List CxSent := l.filter (fun w => w.frame.cls != cls) ++ ws
  let L := { L with out := if i = 0 then { L.out with onN := keep L.out.onN } else { L.out with onP := keep L.out.onP } }
  ws.foldl (fun (L : Lane) w => ((L.tally 9 i).tally 9 (4 + i) w.frame.size).load i w.frame.size) L

/-- FC_XINJ acts on a frame of class `cls` (R359): armed, in the Service life-cycle state. -/
def Lane.xinjHits (L : Lane) (cls : Nat) : Bool :=
  let x := L.fld F.FC_XINJ_CLASS
  decide (0 < L.fc.xinjLeft) && L.lc.state == .service && (if 4 < x then 0 else x) == cls && L.fld F.FC_XINJ_ACTION != 0

/-- A frame goes out on both links (R27). On the port that FC_XINJ names it is dropped, corrupted, or held back until the next of its class has
left (R359). (Log entry 5: DESIGN CHOICE) -/
def Lane.sent (L : Lane) (f : CxFrame) : Lane :=
  let hit := L.xinjHits f.cls
  let port := L.fld F.FC_XINJ_PORT
  let act := L.fld F.FC_XINJ_ACTION
  let due := L.out.held.filter (fun h => h.2.cls == f.cls)
  let first := hit && act == 3 && due.isNone
  let flip := L.fld F.FC_XINJ_OFS
  let mine (i : Nat) : List CxSent :=
    (if hit && port == i && (act == 1 || first) then [] else [{ frame := f, flip := if hit && port == i && act == 2 then some flip else none }])
      ++ ((due.filter (fun h => h.1 == i)).map (fun h => ({ frame := h.2, flip := none } : CxSent))).toList
  let L : Lane := (L.onWire f.cls 0 (mine 0)).onWire f.cls 1 (mine 1)
  let L : Lane := { L with out := { L.out with held := if first then some (port, f) else if due.isSome then none else L.out.held } }
  if !hit then L else
  let L : Lane := { L with out := { L.out with inj := some (f.cls, port, act, L.fld F.FC_XINJ_OFS) } }
  if 1 < L.fc.xinjLeft then { L with fc := { L.fc with xinjLeft := L.fc.xinjLeft - 1 } }
  else (({ L with fc := { L.fc with xinjLeft := 0 } }).setFld F.FC_XINJ_ARM 0).raise F.FC_EVENT_INJ_DONE

/-- Source 112 to 117 becomes pending; it stays so until completed (R337, R338). (Log entry 112: DEDUCED) -/
def Lane.latchSrc (L : Lane) (s : Nat) : Lane :=
  ({ L with ic := { L.ic with latched := putBit L.ic.latched s true } }).note (F.IC_PEND.addr 0 (s / 32)) (2 ^ (s % 32))

/-! ### Lane states -/

/-- This lane's key cleared, if it holds it: it enters the interregnum (R71, R80, R81). Its silence timer, which did not run while it held the
key, starts with the next key that it recognises. (Log entries 49: DEDUCED, 182: DESIGN CHOICE) -/
def Lane.clearKey (L : Lane) : Lane :=
  if L.ky.holder = some L.id then
    { L with ky := { L.ky with holder := none, lease := none, renewals := [], acks := [], revocations := [],
                               interSince := L.now } }
  else L

/-- What an entry to Bench clears: star isolations and leg faults (R122, R160), chopper faults (R175), channel faults (R191), feedback
and excitation faults (R204, R211), encoder misalignment (R131), the stopped application (R345) and the stopped attic (R350).
(Log entry 60: DEDUCED) -/
def Lane.benchClears (L : Lane) : Lane :=
  let L := L.eachGroup (fun L g =>
    (((((L.updTq g (fun s => { s with isolated := false })).updLg g (fun s =>
        { s with iso := .none, guardOff := false, legs := s.legs.map (fun k => { k with fault := false }) })).updCh g (fun s =>
        { s with fault := false, cause := 0, step := 0 })).updSd g (fun s => { s with chfault := 0, sumRun := 0 })).updFb g
        (fun s => { s with fault := false, zFails := 0, sigRun := 0, syncRun := 0, ampRun := 0, jumpRun := 0, disRun := 0 })).updAn g
        (fun s => { s with misalign := false }))
  { L with sf := { L.sf with excFault := false }, ic := { L.ic with stopped := false, abortRun := 0 },
           tl := { L.tl with atticStop := false } }

/-- A self-test run in progress ends early (R373). -/
def Lane.endRun (L : Lane) : Lane :=
  if L.st.prog = .idle then L else
  { L.raise F.ST_EVENT_ABORTED with st := { L.st with prog := .idle, todo := [], spent := 0, slice := none, abortReq := false, late := false } }

/-- A sleep entry that has not been committed is rolled back (R392, R400): every block that stopped runs again, in Doze as it was. -/
def Lane.rollBack (L : Lane) : Lane :=
  let L := ((L.raise F.PM_EVENT_ROLLBACK).bump F.PM_CNT_ROLLBACK_CNT).tally 1 3
  { L with pm := { L.pm with level := if L.pm.fromDoze then .doze else .awake, fromDoze := false, phase := .none, ask := [], acked := [] } }

/-- The lane leaves Service, Shadow or Bench for another state: permission falls, the key is cleared, its claim, votes and self-test
run end. (Log entry 49: DEDUCED) -/
def Lane.leaveService (L : Lane) : Lane :=
  let L := L.permitFall.clearKey.endRun
  { L with ky := { L.ky with claim := none, acked := none, cast := [], runRow := 0, run := 0, dualRun := 0, shadowRun := 0,
                             shadowDone := false } }

/-- Entry to Bench. The veto lines stay as they are: they fall only under R31 and as the vetoed lane enters Service (R86). -/
def Lane.toBench (L : Lane) : Lane :=
  let L := L.leaveService.benchClears
  { L with ky := { L.ky with state := .bench, benchReq := false, readmitReq := false } }

/-- The lane is Withdrawn: gate enables low, key cleared; the guardian holds the veto lines in their last state (R86). It loses the
self-test token (R369), and a sleep entry still being prepared is abandoned (R400). (Log entry 48: DEDUCED) -/
def Lane.toWithdrawn (L : Lane) : Lane :=
  let L := L.leaveService
  let L := L.when (L.pm.phase == .prepare) Lane.rollBack
  let L := { L with st := { L.st with holds := false } }
  ({ L with ky := { L.ky with state := .withdrawn, benchReq := false, readmitReq := false } } : Lane).injWatch

/-- The install takes a state of R428; every step is a type 8 record with the old and the new state (R429). (Log entry 98: DEDUCED) -/
def Lane.setInstall (L : Lane) (n : Nat) : Lane :=
  if L.lc.install = n then L else
  (({ L with lc := { L.lc with install := n } } : Lane)).log 8 3 0xFF 0 0xFFFF [L.lc.install, n]

/-- Entry to Shadow: comparison starts afresh (R92), and a run of Bench ends. -/
def Lane.toShadow (L : Lane) : Lane :=
  let L := L.endRun
  let L := if L.lc.install = 5 ∧ L.lc.deepOk then L.setInstall 6 else L
  { L with ky := { L.ky with state := .shadow, readmitReq := false, shadowRun := 0, shadowDone := false, shadowShelf := false } }

/-- Entry to Service: the guardian permits, the host timeout counts from here (R468). A deep run of Bench ends; the periodic run of Shadow
goes on, and a slice cut short by the change is repeated (R373). (Log entry 117: DEDUCED) -/
def Lane.toService (L : Lane) : Lane :=
  let L := if L.ky.state = .bench then L.endRun else { L with st := { L.st with slice := none } }
  let L := { L with ky := { L.ky with state := .service, serviceAt := L.now, shadowRun := 0, shadowDone := false, startCmd := false,
                                      runRow := 0, run := 0, dualRun := 0 } }
  (L.eachGroup (fun L g => L.updAn g (fun s => { s with lastSpeed := 0 }))).permitRise

/-! ### The fault hub -/

/-- The class of a source (R350): 0 corrected, 1 contained, 2 fatal. -/
def srcClass (s : Nat) : Nat :=
  if s = 0 ∨ s = 3 ∨ s = 6 ∨ s = 24 ∨ s = 25 then 0
  else if s = 1 ∨ s = 4 ∨ (7 ≤ s ∧ s ≤ 16) ∨ s = 29 then 2
  else 1

/-- A bit of the reaction reporting record (R363): byte `b` onward, source `s`. -/
def Lane.reportBit (L : Lane) (b s : Nat) : Bool := bit ((L.fc.ioReport.getD (b + s / 8) 0).toNat) (s % 8)

/-- The log limit of a source per second (R362, R363). -/
def Lane.logLimit (L : Lane) (s : Nat) : Nat :=
  let v := (L.fc.ioReport.getD (8 + s) 0).toNat
  if v = 0 ∨ 16 < v then 16 else v

/-- A record of a corrected source, while its records of this second stay below the limit (R362). -/
def Lane.logCorrected (L : Lane) (s flags unit_ : Nat) : Lane :=
  let n : Option (Nat × Nat) := match L.fc.logCount.find? (fun c => c.1 == s) with
    | some c => if L.now < c.2.1 + sec 1 then some (c.2.1, c.2.2) else none
    | none => none
  let cur := n.getD (L.now, 0)
  if cur.2 < L.logLimit s then
    let L := { L with fc := { L.fc with logCount := L.fc.logCount.filter (fun (c : Nat × Nat × Nat) => c.1 != s) ++ [(s, cur.1, cur.2 + 1)] } }
    L.log 0 0 s flags unit_ []
  else L

/-- The target in effect: false the helm pair, true the yard core. -/
def Lane.srcTarget (L : Lane) (s : Nat) : Bool :=
  match L.ic.oldTarget.find? (fun c => c.1 == s) with
  | some c => c.2 == 1
  | none => L.flag F.IC_SRC_TARGET 0 s

/-- The yard core reset alone (R349, R437): the core, its caches and YRUN; its claims end with it. -/
def Lane.yardReset (L : Lane) : Lane :=
  let L := { L with ic := { L.ic with yThresh := 0, yStack := [], active := L.ic.active.filter (fun s => !(L.srcTarget s)), yCycleAt := L.now } }
  (L.setFld F.IC_YARD_YRUN 0).tally 0 1

/-- A source's bit in a whole-word register of the hub. -/
def Lane.setSrcBit (L : Lane) (f : Fld) (s : Nat) (b : Bool) : Lane := L.setFld f (putBit (L.fld f) s b)
def Lane.srcBit (L : Lane) (f : Fld) (s : Nat) : Bool := bit (L.fld f) s

/-- A corrected fault: counted, new at every occurrence, pulsed and logged where the reaction reporting record selects it. -/
def Lane.faultCorrected (L : Lane) (s unit_ : Nat) (inj : Bool) : Lane :=
  let L := if s = 0 then L.bump F.FC_CCNT0_SRAM else if s = 3 then L.bump F.FC_CCNT0_FLASH else if s = 6 then L.bump F.FC_CCNT1_CACHE
    else if s = 24 then L.bump F.FC_CCNT1_XLINK else L
  let L := (L.raiseBit F.FC_NEW s).tally 3 s
  let sel := L.reportBit 0 s
  let merged := sel && L.merges s
  (L.when sel (·.pulse s)).when (L.reportBit 4 s) (fun L => L.logCorrected s (b2n inj + 2 * b2n merged) unit_)

/-- The junction temperature in 0.1 °C: the highest reading (R402). -/
def Lane.tj (L : Lane) : Option Int :=
  L.th.read.foldl (fun (b : Option Int) x => match b, x with
    | none, x => x
    | some b, some t => some (if b < t then t else b)
    | some b, none => some b) none

/-- The condition of source 14 still stands, so that its quiet period does not begin: Shutdown, and no reading below 130 °C since (R405). -/
def Lane.stillHot (L : Lane) : Bool := L.th.shutdown && !(L.tj.any (fun t => decide (t < 1300)))

/-- A contained or fatal fault recorded (R352, R353, R355): its state set, its quiet period started unless the source is latched and its
state is never left again (R356), or its condition stands (R405), ERR_OUT pulsed for a new contained one, and logged. -/
def Lane.faultRecord (L : Lane) (s unit_ : Nat) (inj new fatal : Bool) : Lane :=
  let L := (((L.when new (fun L => L.raiseBit F.FC_NEW s)).setSrcBit F.FC_STATE s true).tally 3 s)
  let L := L.when (!(L.srcBit F.FC_LATCH s)) (fun L =>
    let others := L.fc.quiet.filter (fun (c : Nat × Nat) => c.1 != s)
    { L with fc := { L.fc with quiet := if s = 14 ∧ L.stillHot then others else others ++ [(s, L.now + ms L.quietMs)] } })
  let merged := new && !fatal && L.merges s
  let L := L.when (new && !fatal) (·.pulse s)
  L.log 0 (srcClass s) s (b2n inj + 2 * b2n merged) unit_ []

/-- The failed units as ST_FAILED shows them (R372). -/
def Lane.setFailed (L : Lane) (u : Nat) (b : Bool) : Lane :=
  let n := putBit L.st.failed u b
  let L := { L with st := { L.st with failed := n } }
  (L.setWord F.ST_FAILED_LO (BitVec.ofNat 32 n)).setWord F.ST_FAILED_HI (BitVec.ofNat 32 (n / 2 ^ 32))

/-- What a source does beyond its class (R350): the yard core reset, attic sampling stopped, a bus error for the read, unit `u` marked failed. -/
def Lane.faultAction (L : Lane) (s u : Nat) : Lane :=
  let L := L.when (s == 2 || s == 27) Lane.yardReset
  let L := L.when (s == 5) (fun L => { L with rdata := 0, busErr := true })
  let L := L.when (s == 28 && decide (u ≤ 50)) (fun L => (L.setFld F.ST_UNIT_STATUS 2 0 u).setFailed u true)
  { L with tl := { L.tl with atticStop := L.tl.atticStop || s == 2 } }

/-- The course of a fatal fault (R351): ERR_OUT forced, the helm pair halted for sources 1 and 7, the lane Withdrawn. (Log entry 48: DEDUCED) -/
def Lane.faultFatal (L : Lane) (s : Nat) : Lane :=
  let L := (L.raise F.FC_EVENT_FATAL).forceErr (some s)
  let halts := (s == 7 || s == 1) && !L.ic.halted
  let L := L.when halts (fun L => { L with ic := { L.ic with halted := true, haltAt := L.now } })
  if L.ky.state = .off then L else L.toWithdrawn

/-- The helm pair runs, or was halted in this very cycle: its checkers' finds of the cycle are still recorded (R352). -/
def Lane.pairRan (L : Lane) : Bool := !L.ic.halted || L.nowCycle L.ic.haltAt

/-- A fault of source `s` found by a checker, injected or not (R350 to R355). A fatal one after the commit of a sleep entry is recorded
alone, and the entry completes (R400). -/
def Lane.fault (L : Lane) (s unit_ : Nat) (inj : Bool := false) : Lane :=
  if srcClass s = 0 then L.faultCorrected s unit_ inj
  else if srcClass s = 2 ∧ (L.pm.phase = .drain ∨ L.pm.phase = .save ∨ L.pm.phase = .window) then
    (L.tally 3 s).log 0 2 s (b2n inj) unit_ []
  else
    let L := (L.faultRecord s unit_ inj (!(L.srcBit F.FC_STATE s)) (srcClass s == 2)).faultAction s unit_
    if srcClass s = 2 then L.faultFatal s else L

/-- A withdrawal without a fault source (R357). (Log entry 115: DEDUCED) -/
def Lane.withdraw (L : Lane) (c : WdrCause) : Lane :=
  let L := ((L.setFld F.FC_WDR_STATE 1).setFld F.FC_WDR_CAUSE c.code).raise F.FC_EVENT_WITHDRAWN
  let L := L.toWithdrawn
  let L := L.log 3 3 0xFF 0 0xFFFF [c.code]
  let L := L.forceErr
  { L with fc := { L.fc with wdrQuiet := some (L.now + ms L.quietMs) } }

/-- A lane, star or link among the serving lanes is lost while an install runs: the update will be aborted (R59, R429). -/
def Lane.serviceLoss (L : Lane) : Lane :=
  L.when (decide (1 ≤ L.lc.install ∧ L.lc.install ≤ 6)) (fun L => { L with lc := { L.lc with lostLane := true } })

def Lane.lg (L : Lane) (g : Fin 16) : LgS := (L.grp g).lg

/-! ### Leg states and switching tokens (R141, R154, R236) -/

/-- The tokens of a leg brought up to a time: one returns every `int` units, up to `burst` (R236). -/
def LegS.refresh (s : LegS) (burst int t : Nat) : LegS :=
  if burst ≤ s.tokens then { s with tokens := burst, tokenAt := t }
  else
    let n := (t - s.tokenAt) / int
    if burst ≤ s.tokens + n then { s with tokens := burst, tokenAt := t }
    else { s with tokens := s.tokens + n, tokenAt := s.tokenAt + n * int }

/-- The interval of the tokens of a group in units of 625 ps. -/
def Lane.tokenInt (L : Lane) (g : Nat) : Nat := 8 * L.swInt g

/-- A leg's tokens at a time. -/
def Lane.tokens (L : Lane) (g : Fin 16) (k : Fin 4) (t : Nat) : Lane :=
  L.updLeg g k (fun s => s.refresh (L.swBurst g) (L.tokenInt g) t)

/-! ### Dead time and legality (R155, R161) -/

/-- The dead time that the stage applies to a change to `c` whose outgoing command falls at `t`: DT_K on leg K, DT_ZC without ADAPT, else the
adapted value of the direction, not one updated in that very cycle (R170). -/
def Lane.adaptedDt (L : Lane) (g : Fin 16) (k : Fin 4) (c : LegCmd) (t : Nat) : Nat :=
  let s := L.leg g k
  if k = 3 then L.dtK g
  else if !(L.flag F.LG_CTRL_ADAPT g) then L.dtZc g
  else
    let r := if s.dtAt / 8 = t / 8 then s.dtWas else (s.dtR, s.dtF)
    clampN (L.dtMin g) (L.dtZc g) (if c == .high then r.1 else r.2)

/-- The dead time of a change: a turn-on that follows a protective turn-off has DT_ZC (R163). -/
def Lane.deadTime (L : Lane) (g : Fin 16) (k : Fin 4) (c : LegCmd) (t : Nat) : Nat :=
  if k ≠ 3 ∧ (L.leg g k).cmd = .off then L.dtZc g else L.adaptedDt g k c t

/-- A violation of the legality check (R161): told, counted, reported as a contained fault. -/
def Lane.illegalTell (L : Lane) (g : Fin 16) (k : Fin 4) : Lane :=
  ((L.raise F.LG_EVENT_ILLEGAL g).bump F.LG_CNT1_ILLEGAL g).fault 17 (4 * g + k)

/-- A leg changes its state at `t` with one of its tokens (R141, R236): the outgoing command falls, its own rises one dead time later, and not
before the least one (R161). In table mode under Quiet the change takes a unit of the leg's budget (R117). A change from both commands low is
no edge that the node shows. -/
def Lane.legChange (L : Lane) (g : Fin 16) (k : Fin 4) (c : LegCmd) (t : Nat) : Lane :=
  let d := L.deadTime g k c t
  let least := if k = 3 then L.dtK g else L.dtMin g
  let L := L.when (decide (d < least)) (·.illegalTell g k)
  let L := (L.tally 10 (4 * g + k)).updLeg g k (fun s => { s with
    cmd := c, changedAt := t, onAt := t + max d least, held := none, tokens := s.tokens - 1, highAcc := s.highTime t, highFrom := t
    edges := if s.cmd == .off then s.edges else ({ fell := t, rising := c == .high, dt := max d least, seen := none } :: s.edges).take 8 })
  let q := (L.grp g).tq
  L.when (k != 3 && q.capOn && q.mode == .table) (·.updTq g (fun s =>
    { s with budget := (List.range 3).map (fun i => s.budget.getD i 4 - (if i = k.val then 1 else 0)) }))

/-- The legality check and the guard on switching frequency at a change asked for at `t`: a command that would fall before MINPULSE is held
until it has passed (R161), and without a token the leg keeps its state (R236). (Log entries 58: DEDUCED, 155: DEDUCED) -/
def Lane.legRequest (L : Lane) (g : Fin 16) (k : Fin 4) (c : LegCmd) (t : Nat) : Lane :=
  let L := L.tokens g k t
  let s := L.leg g k
  if s.cmd = c then L.updLeg g k (fun s => { s with held := none })
  else if s.cmd ≠ .off ∧ t < s.onAt + L.minPulse g then
    (L.illegalTell g k).updLeg g k (fun s => { s with plan := (s.onAt + L.minPulse g, c) :: s.plan })
  else if s.tokens = 0 then
    if s.held = some c then L
    else ((L.updLeg g k (fun s => { s with held := some c })).raise F.EG_EVENT_SW_HOLD g).bump F.EG_CNT0_SW_HOLD g
  else L.legChange g k c t

/-! ### Isolation of a star -/

/-- The electrical speed of R178: the delivered speed if valid, else the last valid one since the lane entered Service, else 0. -/
def Lane.isoSpeed (L : Lane) (g : Fin 16) : Rat :=
  (L.poles g : Rat) * (if (L.grp g).an.valid then (L.grp g).an.speed else (L.grp g).an.lastSpeed)

/-- Back-EMF against the link: √3 × |ωe| × ψPM ≥ XOVER / 256 × vDC (R178). -/
def Lane.backEmf (L : Lane) (g : Fin 16) : Bool :=
  decide ((L.xover g : Rat) / 256 * ((L.grp g).sd.val3.getD 3 0) ≤ sqrt3R * absR (L.isoSpeed g) * L.f32 F.TQ_PSIPM g)

/-- Active short: the low switches of legs U, V, W on, after DT_ZC (R163, R178); a turn-on is a state change as any other, and a leg without a
token waits for one (R236). -/
def Lane.legsLow (L : Lane) (g : Fin 16) : Lane :=
  ((L.legRequest g 0 .low L.now).legRequest g 1 .low L.now).legRequest g 2 .low L.now

/-- A star is isolated (R122, R178): ISOLATED, share 0 at once, the engine tracking, legs off and then active short or all-off by
back-EMF; a contained fault of source 18. A star already isolated stays as it is. -/
def Lane.isolate (L : Lane) (g : Fin 16) : Lane :=
  if (L.grp g).tq.isolated then L else
  let short := L.backEmf g
  let L := ((L.legsOff g).legKOff g).updTq g (fun s => { s.track with isolated := true, effShare := 0 })
  let L := L.updLg g (fun s => { s with iso := if short then .short else .allOff })
  let L := L.when (short && (L.grp g).lg.gen && !(L.grp g).lg.genHold) (·.legsLow g)
  let L := (L.raise F.TQ_EVENT_ISOLATED g).when (L.ky.state == .service) Lane.serviceLoss
  L.fault 18 g

/-- Group off, row 5 of R164: gate enable low, every leg low, counted as an isolation of the star (R177, R191, R236). A guard that acts on a
group already off is still reported. -/
def Lane.groupOff (L : Lane) (g : Fin 16) (guard : Bool) : Lane :=
  if (L.grp g).lg.iso = .groupOff then
    L.when (guard && !(L.grp g).lg.guardOff) (fun L =>
      ((L.updLg g (fun s => { s with guardOff := true })).raise F.EG_EVENT_GUARD_OFF g).fault 19 g)
  else
  let was := (L.grp g).tq.isolated
  let L := (L.genLow g).updLg g (fun s => { s with iso := .groupOff, guardOff := s.guardOff || guard })
  let L := L.updTq g (fun s => { s with isolated := true })
  let L := L.when (!was) (fun L => (L.raise F.TQ_EVENT_ISOLATED g).when (L.ky.state == .service) Lane.serviceLoss)
  let L := L.when guard (fun L => (L.raise F.EG_EVENT_GUARD_OFF g).fault 19 g)
  L.when (!was && !guard) (fun L => L.fault 18 g)

/-- Legs U, V, W into trip hold (R166): both low, TRIP set. An isolation state stands above the hold (R164). -/
def Lane.tripHold (L : Lane) (g : Fin 16) : Lane :=
  let L := (L.when ((L.grp g).lg.iso == .none) (·.legsOff g)).updLg g (fun s => { s with tripHold := true, tripEnd := false })
  (L.legKOff g).raise F.LG_EVENT_TRIP g

/-! ### What a modulator clock brings (R177, R181, R187, R190, R236) -/

/-- Values of the group's channels are delivered: the parameters are good and the filters have settled (R186). (Log entry 39: DEDUCED) -/
def Lane.sdGood (L : Lane) (g : Fin 16) : Bool := !(L.sdParam g) && !(L.grp g).sd.settling

/-- One more clock captured: the comparators of the phases with SD_OC (R187), and the limits of the fast-path vDC, below VUV_TRIP and at or above
VOV2, VOV3, which compare delivered values (R186), and EG_OV, which acts whatever they are (R236). (Log entry 39: DEDUCED) -/
def Lane.pushClock (L : Lane) (g : Fin 16) (b : Nat) : Lane :=
  let t := L.captureAt g (L.grp g).sd.taken
  let L := L.updSd g (·.push b)
  let v := L.fast g 3
  let good := L.sdGood g
  let c := [good && decide (v < L.f32 F.LG_CH_VUVT g), good && decide (L.f32 F.LG_CH_VOV2 g ≤ v), good && decide (L.f32 F.LG_CH_VOV3 g ≤ v),
    decide (L.f32 F.EG_OV g ≤ v)]
  let above (k : Nat) : Bool := good && decide (L.f32 F.SD_OC g ≤ absR (L.fast g k))
  L.updSd g (fun s => { s with
    since := (List.range 4).map (fun i => sinceWhen (s.since.getD i none) (c.getD i false) t)
    oc := b2n (above 0) + 2 * b2n (above 1) + 4 * b2n (above 2) })

/-- A trip of the group at a clock at which a comparator stands (R187): counted unless the group is in an isolation state or group off, and the
TRIP_N-th within TRIP_WIN of the first isolates the star (R190). -/
def Lane.overcurrent (L : Lane) (g : Fin 16) : Lane :=
  let counts := (L.grp g).lg.iso == .none
  let L := L.tripHold g
  if !counts then L else
  let L := (L.bump F.SD_CNT_TRIP_CNT g).tally 13 g
  let win := ms (L.tripWin g)
  -- the trips that lie within TRIP_WIN of this one
  let series := (L.grp g).sd.trips.filter (fun t0 => decide (L.now ≤ t0 + win)) ++ [L.now]
  let L := L.updSd g (fun s => { s with trips := series })
  if series.length < L.tripN g then L
  else ((L.updSd g (fun s => { s with trips := [] })).raise F.SD_EVENT_OC_ISO g).isolate g

/-- What the comparators of a clock do (R187, R190): a hold stays as it is, and a TRIP_CLR of the clock's own cycle is ignored; a hold that an
earlier TRIP_CLR has ended is taken anew. (Log entry 192: DEDUCED) -/
def Lane.comparators (L : Lane) (g : Fin 16) : Lane :=
  let s := (L.grp g).lg
  if (L.grp g).sd.oc = 0 then L
  else if s.tripHold && !s.tripEnd then L
  else if s.tripHold && s.tripClrAt / 8 == L.now / 8 then L.updLg g (fun s => { s with tripEnd := false })
  else L.overcurrent g

/-- The bits that the clocks since the last command have captured, oldest first, channel k in bit k of each; those of clocks still to come
are not taken. SD_VAL2 shows the newest fast values. (Log entry 151: DESIGN CHOICE) -/
def Lane.takeClocks (L : Lane) (g : Fin 16) (bs : List Nat) : Lane :=
  let new := bs.take (L.captured g L.now - (L.grp g).sd.taken)
  if !(L.sdRuns g) || L.padsHeld .drive || new.isEmpty then L else
  let L := new.foldl (fun (L : Lane) b => (L.pushClock g b).comparators g) L
  (List.range 4).foldl (fun (L : Lane) k => L.setF32 F.SD_VAL2 (L.fast g k) g k) L

/-- The row code of R164 for a group; in profile Rest the legs are off (R60). -/
def Lane.outState (L : Lane) (g : Fin 16) : Nat :=
  let s := (L.grp g).lg
  if !L.sy.permit then 6
  else if s.iso == .groupOff || !s.gen then 5
  else if s.iso == .allOff then 4
  else if s.iso == .short then 3
  else if s.tripHold then 2
  else if L.dozing || L.ky.profile == 3 || !(L.flag F.LG_CTRL_RUN g) || (!(L.srcDuty g) && (L.grp g).tq.mode == .tracking) then 1
  else 0

/-- A star is live: its lane in Service and the star not isolated (R45). -/
def Lane.live (L : Lane) (g : Fin 16) : Bool := L.ky.state == .service && !(L.grp g).tq.isolated

/-- A star candidate of R47: of a lane outside Service, not isolated, and its group's checks read 0. -/
def Lane.candidate (L : Lane) (g : Fin 16) : Bool :=
  L.ky.state != .service && !(L.grp g).tq.isolated && !(L.tqParam g) && !(L.sdParam g) && !(L.grp g).sd.settling && !(L.chParam g)
    && !(L.egParam g)

/-- A star is regeneration-capable: live, with neither CHOP_FAULT nor CH_HOT (R176). -/
def Lane.capable (L : Lane) (g : Fin 16) : Bool := L.live g && !(L.grp g).ch.fault && !(L.grp g).ch.hot

/-- A bit per group. -/
def Lane.groupBits (L : Lane) (f : Lane → Fin 16 → Bool) : Nat :=
  (List.finRange 16).foldl (fun (n : Nat) (g : Fin 16) => putBit n g.val (f L g)) 0

end Sys2Proof.Machine
end

