-- ==== Sys2Proof/Machine/Torque.lean ====
section
/-! DEFINITION. The torque engine of a group: what one decision tick does between its samples and its output (R93 to R122), with the
torque layer of the envelope guards inside it (R232 to R235, R239) and the regeneration clamp (R177). -/

namespace Sys2Proof.Machine

/-- The decision tick period, 2.5 µs, in seconds. -/
def ts : Rat := 1 / 400000

/-- The amplitude-invariant Clarke transform. -/
def clarke (u v w : Rat) : Rat × Rat := ((2 * u - v - w) / 3, (v - w) / sqrt3R)

/-- A vector rotated by an angle in counts. -/
def rotC (a : Nat) (x : Rat × Rat) : Rat × Rat := (x.1 * cosC a - x.2 * sinC a, x.1 * sinC a + x.2 * cosC a)

/-- The stator current vector of the latched samples. -/
def Lane.current (L : Lane) (g : Fin 16) : Rat × Rat :=
  let v := (L.grp g).sd.val3
  clarke (v.getD 0 0) (v.getD 1 0) (v.getD 2 0)

/-- The DC-link voltage of the latched samples. -/
def Lane.vdc (L : Lane) (g : Fin 16) : Rat := (L.grp g).sd.val3.getD 3 0

/-- The voltage vector of the previous tick from the node-high times, a silent leg's from its commands (R96, R158).
-/
def Lane.voltage (L : Lane) (g : Fin 16) (x : GroupSample) : Rat × Rat :=
  let h (k : Fin 4) : Rat := L.vdc g * ((if (L.leg g k).silent then (L.leg g k).highLast else x.high.getD k 0 : Nat) : Rat) / 4000
  clarke (h 0) (h 1) (h 2)

/-- The current-model flux at rotor angle `a` (R95). -/
def Lane.modelFlux (L : Lane) (g : Fin 16) (a : Nat) (i : Rat × Rat) : Rat × Rat :=
  let d := rotC (65536 - a % 65536) i
  rotC a (L.f32 F.TQ_LD g * d.1 + L.f32 F.TQ_PSIPM g, L.f32 F.TQ_LQ g * d.2)

/-- One step of a flux estimate (R95): integrated voltage, corrected toward the current model while the angle is valid. -/
def fluxStep (rs wc : Rat) (valid : Bool) (psi v i model : Rat × Rat) : Rat × Rat :=
  let f (p v i m : Rat) : Rat := p + ts * (v - rs * i) + (if valid then ts * wc * (m - p) else 0)
  (f psi.1 v.1 i.1 model.1, f psi.2 v.2 i.2 model.2)

/-- Estimates of a tick (R95, R97): flux, its magnitude, angle and the torque estimate. `was` says that the engine came into the tick
tracking: a star then starts from the flux that matches its rotor. (Log entry 142: DEDUCED) -/
def Lane.estimate (L : Lane) (g : Fin 16) (was : Bool) (x : GroupSample) : Lane :=
  let s := (L.grp g).tq
  let a := (L.grp g).an
  let i := L.current g
  let m := L.modelFlux g a.angle i
  let psi := if was || s.mode == .tracking then m
    else fluxStep (L.f32 F.TQ_RS g) (L.wc g) a.valid (s.psiA, s.psiB) (L.voltage g x) i m
  let t := 3 / 2 * (L.poles g : Rat) * L.gear g * (psi.1 * i.2 - psi.2 * i.1)
  let mag := sqrtR (psi.1 * psi.1 + psi.2 * psi.2)
  let L := L.when (!a.valid && s.mode != .tracking) (·.raise F.TQ_EVENT_ANGLE_INVALID g)
  let L := L.updTq g (fun s => { s with psiA := psi.1, psiB := psi.2, tHat := t, vHist := (L.voltage g x :: s.vHist).take 16 })
  ((L.setF32 F.TQ_TEST t g).setF32 F.TQ_FLUX mag g).setFld F.TQ_FANG_ANG (atanC psi.2 psi.1) g

/-- The latched demand and share target come into use at the first tick at or after the boundary (R98). -/
def Lane.takeLatched (L : Lane) (g : Fin 16) : Lane :=
  L.updTq g (fun s =>
    let s := match s.dLatch with
      | none => s
      | some d => { s with dPrev := s.dUse, dNew := d, dLatch := none, step := 0 }
    match s.targetLatch with
    | none => s
    | some t => { s with target := t, targetLatch := none })

/-- The demand in use this tick, stepped or interpolated over 20 ticks (R99). -/
def Lane.demandStep (L : Lane) (g : Fin 16) : Lane :=
  let interp := L.flag F.TQ_CTRL_INTERP g
  L.updTq g (fun s =>
    if interp then
      let n := if s.step < 20 then s.step + 1 else 20
      { s with step := n, dUse := s.dPrev + (s.dNew - s.dPrev) * (n : Rat) / 20 }
    else { s with step := 20, dUse := s.dNew })

/-- The effective share moves toward its target by at most RAMP; it is 0 on an isolated star or with the gate enable low (R119). -/
def Lane.shareStep (L : Lane) (g : Fin 16) : Lane :=
  let r := L.ramp g
  let live := (L.grp g).lg.gen && !(L.grp g).tq.isolated
  L.updTq g (fun s =>
    { s with effShare := if live then (if s.effShare + r < s.target then s.effShare + r
      else if s.target + r < s.effShare then s.effShare - r else s.target) else 0 })

/-! ### The torque layer of the envelope guards -/

/-- The demand bound (R233): ±EG_TMAX; DEMAND is raised, and counted once per authority tick. -/
def Lane.demandBound (L : Lane) (g : Fin 16) : Lane :=
  let d := (L.grp g).tq.dUse
  let m := L.f32 F.EG_TMAX g
  if absR d ≤ m then L else
  let L := L.updTq g (fun s => { s with dUse := if d < 0 then -m else m })
  let L := L.raise F.EG_EVENT_DEMAND g
  if (L.grp g).eg.demandTold then L
  else (L.bump F.EG_CNT1_DEMAND g).updEg g (fun s => { s with demandTold := true })

/-- The release component of a demand (R238): −D where BRK_NEG is set. (Log entry 50: DEDUCED) -/
def Lane.releaseOf (L : Lane) (g : Fin 16) (d : Rat) : Rat := if L.flag F.EG_CTRL_BRK_NEG g then -d else d

/-- A vote received on a port is fresh: accepted from a lane in Service, at most 30 µs ago, and that lane still known in Service
(R238). -/
def VoteRx.fresh (v : VoteRx) (t : Nat) : Bool := v.inService && decide (t ≤ v.arrival + us 30)

/-- The release bits of a port that count at a decision tick: a frame that arrived in the cycle of the tick start counts from the next one,
and the frame before it still counts now (R239). -/
def VoteRx.counted (v : VoteRx) (t : Nat) : Nat :=
  if !v.inService then 0
  else if v.arrival / 8 ≠ t / 8 then (if v.fresh t then v.frame.release else 0)
  else match v.before with
    | some b => if t ≤ b.2 + us 30 then b.1 else 0
    | none => 0

/-- The release votes for actuator `g` that count now, one bit per lane (R239). -/
def Lane.voters (L : Lane) (g : Fin 16) : Nat :=
  let own := L.ky.state == .service && bit L.ky.ownVote g
  let port (v : Option VoteRx) : Bool := match v with
    | none => false
    | some v => bit (v.counted L.now) g
  putBit (putBit (putBit 0 L.id.index own) L.id.next.index (port L.ky.voteN)) L.id.prev.index (port L.ky.voteP)

/-- The number of bits set among three. -/
def count3 (n : Nat) : Nat := b2n (bit n 0) + b2n (bit n 1) + b2n (bit n 2)

/-- The release votes counted and the ceiling lifted, set or let down (R239). The ceiling moves whatever the engine does; it clamps
the demand only out of the tracking state (R232). -/
def Lane.brakeVote (L : Lane) (g : Fin 16) : Lane :=
  let v := L.voters g
  let grant := decide (2 ≤ count3 v)
  let e := (L.grp g).eg
  let run := if grant then e.grantRun + 1 else 0
  let c0 := maxR 0 (L.releaseOf g (L.grp g).tq.dUse)
  let begins := !grant && e.ceiling.isNone
  let ceil : Option Rat := if 8 ≤ run then none
    else if grant then e.ceiling
    else match e.ceiling with
      | none => some c0
      | some c => some (maxR 0 (c - e.c0 * ts / ((L.brkTmax g : Rat) / 100)))
  let L := L.updEg g (fun e => { e with voters := v, granted := grant, grantRun := run, ceiling := ceil, c0 := if begins then c0 else e.c0 })
  let L := L.when begins (·.raise F.EG_EVENT_CEIL_START g)
  L.setWord F.EG_CEIL (match ceil with
    | none => f32inf
    | some c => f32of c) g

/-- The ceiling acts on the demand in use of a brake actuator. -/
def Lane.ceilingClamp (L : Lane) (g : Fin 16) : Lane :=
  match (L.grp g).eg.ceiling with
  | none => L
  | some c =>
    let d := (L.grp g).tq.dUse
    let r := L.releaseOf g d
    if r ≤ c then L else L.updTq g (fun s => { s with dUse := if L.flag F.EG_CTRL_BRK_NEG g then -c else c })

/-- The actuator speed of the rate guard (R235): the interface's, else the angle unit's, else 0. -/
def Lane.omegaAct (L : Lane) (g : Fin 16) : Rat :=
  if (L.grp g).fb.valid then (L.grp g).fb.speed * L.f32 F.EG_FBK g
  else if (L.grp g).an.valid then (L.grp g).an.speed / L.gear g
  else 0

/-- The active rate limit: Road's while word 0 of the applied shelf gives profile Road (R235). -/
def Lane.roadSet (L : Lane) : Bool := L.fld F.KY_SHELF_IN 0 0 / 8 % 8 == 1
def Lane.rateLimit (L : Lane) (g : Fin 16) : Rat := if L.roadSet then L.f32 F.EG_RATE_R g else L.f32 F.EG_RATE_F g

/-- The torque limit of a star after the thermal throttle (R404): TLIM × `th.scale` / 256. -/
def Lane.tlim (L : Lane) (g : Fin 16) : Rat := L.f32 F.TQ_TLIM g * (L.th.scale : Rat) / 256

/-- T* of the tick: share, TLIM and ILIM (R100), slew limit (R234), rate clamp (R235) and regeneration clamp (R177), in the order of
R232; `tHatPrev` is the torque estimate of the previous tick. In the tracking state the layer does not act. -/
def Lane.torqueRef (L : Lane) (g : Fin 16) (tHatPrev : Rat) : Lane :=
  let s := (L.grp g).tq
  let tracking := s.mode == .tracking
  let t0 := s.dUse * (s.effShare : Rat) / 768
  let lim := L.tlim g
  let sat := decide (lim < absR t0)
  let t1 := if sat then (if t0 < 0 then -lim else lim) else t0
  let exceeds := decide (L.f32 F.TQ_ILIM g < s.iMag)
  let t2 := if exceeds then (let m := minR (absR t1) (absR tHatPrev); if t1 < 0 then -m else m) else t1
  let L := L.when sat (·.raise F.TQ_EVENT_SAT g)
  let L := L.when exceeds (·.bump F.TQ_CNT_ILIM_TICKS g)
  let step := L.f32 F.EG_SLEW g * ts
  let prev := (L.grp g).eg.tPrev
  let slews := !tracking && (decide (step < t2 - prev) || decide (step < prev - t2))
  let t3 := if slews then clampR (prev - step) (prev + step) t2 else t2
  let L := L.when slews (fun L => ((L.raise F.EG_EVENT_SLEW g).bump F.EG_CNT0_SLEW g).tally 17 g)
  -- rate clamp
  let w := L.omegaAct g
  let rl := L.rateLimit g
  let was := (L.grp g).eg.rateClamp
  let steer := L.kind g == 1 && !tracking
  let rate := steer && (if was then decide (9 / 10 * rl < absR w) else decide (rl < absR w))
  let L := L.when (rate && !was) (fun L => (L.raise F.EG_EVENT_RATE g).bump F.EG_CNT1_RATE g)
  let t4 := if rate && decide (0 < t3 * w) then 0 else t3
  -- regeneration clamp
  let om := (L.grp g).an.speed
  let t5 := if !tracking && (L.grp g).ch.clamp && decide (t4 * om < 0) then 0 else t4
  let L := L.updEg g (fun e => { e with tPrev := t5, rateClamp := rate })
  let i := L.current g
  let L := L.updTq g (fun s => { s with tRef := t5, ilim := exceeds, iMag := sqrtR (i.1 * i.1 + i.2 * i.2) })
  L.setF32 F.TQ_TREF t5 g

/-! ### Flux reference and phase advance -/

/-- The phase-advance lookup (R102): index, REDUCE and ADVANCE at the present speed. -/
def Lane.phaseAdvance (L : Lane) (g : Fin 16) : Nat × Int × Int :=
  let x := absR (L.grp g).an.speed / L.f32 F.TQ_PA_STEP g
  if 31 ≤ x then (31, (L.paReduce g 31 : Int), (L.paAdvance g 31 : Int))
  else
    let i := x.floor.toNat
    let f := x - (i : Rat)
    let ip (a b : Nat) : Int := roundR ((a : Rat) + f * ((b : Rat) - (a : Rat)))
    (i, ip (L.paReduce g i) (L.paReduce g (i + 1)), ip (L.paAdvance g i) (L.paAdvance g (i + 1)))

/-- The first tick of table mode after a handover: the flux reference starts from its |ψ̂| (R115), and the handover is told. -/
def Lane.handoverTick (L : Lane) (g : Fin 16) : Lane :=
  let s := (L.grp g).tq
  if !(s.fluxPend && s.mode == .table) then L else
  let mag := sqrtR (s.psiA * s.psiA + s.psiB * s.psiB)
  ((L.updTq g (fun s => { s with fluxPend := false, fluxFrom := mag, fluxRampAt := some L.now })).raise F.TQ_EVENT_HANDOVER g).tally 11 g

/-- ψ* (R101), moving linearly from the handover tick's |ψ̂| during 200 µs of table mode (R115). TQ_FANG shows the magnitude of the advance.
(Log entry 153: DESIGN CHOICE) -/
def Lane.fluxRef (L : Lane) (g : Fin 16) : Lane :=
  let pa := L.phaseAdvance g
  let full := L.f32 F.TQ_PSINOM g * (1 - (pa.2.1 : Rat) / 65536)
  let s := (L.grp g).tq
  let ref := match s.fluxRampAt with
    | none => full
    | some t0 => if L.now < t0 + us 200 then s.fluxFrom + (full - s.fluxFrom) * ((L.now - t0 : Nat) : Rat) / ((us 200 : Nat) : Rat) else full
  let L := L.updTq g (fun s => { s with
    paIndex := pa.1
    psiStar := ref
    fluxRampAt := match s.fluxRampAt with
      | none => none
      | some t0 => if L.now < t0 + us 200 then some t0 else none })
  (L.setF32 F.TQ_FREF ref g).setFld F.TQ_FANG_ADV (wrap 16 pa.2.2) g

/-! ### Hysteresis and the switching table -/

/-- The torque state (R104). -/
def nextCT (prev : Int) (e ht : Rat) : Int :=
  if ht < e then 1
  else if 0 < e then (if prev = 1 then 1 else 0)
  else if e = 0 then 0
  else if -ht ≤ e then (if prev = -1 then -1 else 0)
  else -1

/-- The flux state (R105). -/
def nextCPsi (prev : Int) (e h : Rat) : Int := if h < e then 1 else if e < -h then -1 else prev

/-- The sector of an angle (R107). -/
def sectorOf (a : Nat) : Nat :=
  let a := a % 65536
  if a < 2731 then 0 else if a < 8192 then 1 else if a < 13654 then 2 else if a < 19115 then 3 else if a < 24576 then 4
  else if a < 30038 then 5 else if a < 35499 then 6 else if a < 40960 then 7 else if a < 46422 then 8 else if a < 51883 then 9
  else if a < 57344 then 10 else if a < 62806 then 11 else 0

/-- The leg states of a vector (R106), U in bit 0, V in bit 1, W in bit 2. -/
def vectorLegs (v : Nat) : Nat := [0, 1, 3, 2, 6, 4, 5, 7].getD v 0

/-- The number of high legs. -/
def highLegs (l : Nat) : Nat := count3 l

/-- The zero vector that needs fewer transitions from the present leg states (R108). -/
def zeroAuto (legs : Nat) : Nat :=
  match highLegs legs with
  | 0 => 0
  | 1 => 0
  | _ => 7

/-- The present leg states of a group as the engine sees them. -/
def Lane.legBits (L : Lane) (g : Fin 16) : Nat :=
  putBit (putBit (putBit 0 0 ((L.leg g 0).cmd == .high)) 1 ((L.leg g 1).cmd == .high)) 2 ((L.leg g 2).cmd == .high)

/-- The vector of a table entry: [2:0] the vector, [3] automatic choice between the zero vectors (R108). -/
def entryVector (e legs : Nat) : Nat :=
  let v := e % 8
  if (v = 0 ∨ v = 7) ∧ 8 ≤ e then zeroAuto legs else v

/-- The table entry of a sector and the two states (TQ_STAB). -/
def Lane.tableEntry (L : Lane) (g : Fin 16) (sector : Nat) (cT cPsi : Int) : Nat :=
  let f := if cT = 1 then (if cPsi = 1 then F.TQ_STAB_POS_TPOS else F.TQ_STAB_NEG_TPOS)
    else if cT = 0 then (if cPsi = 1 then F.TQ_STAB_POS_TZERO else F.TQ_STAB_NEG_TZERO)
    else (if cPsi = 1 then F.TQ_STAB_POS_TNEG else F.TQ_STAB_NEG_TNEG)
  L.fld f g sector

/-- The transition budgets of R117: one unit back every 25 decision ticks, up to 4. -/
def budgetTick (s : TqS) : TqS :=
  let step (b n : Nat) : Nat × Nat := if 4 ≤ b then (4, 0) else if 24 ≤ n then (b + 1, 0) else (b, n + 1)
  let r := (List.range 3).map (fun k => step (s.budget.getD k 4) (s.budgetTick.getD k 0))
  { s with budget := r.map (·.1), budgetTick := r.map (·.2) }

/-- Hysteresis states, sector and, in table mode, the vector of the tick with ZAUTO, the regeneration clamp and the Quiet cap
(R104 to R108, R117, R177). -/
def Lane.tableSelect (L : Lane) (g : Fin 16) : Lane :=
  let s := (L.grp g).tq
  if s.mode = .tracking then L.updTq g (fun s => { s with cT := 0, cPsi := 1 }) else
  let eT := s.tRef - s.tHat
  let mag := sqrtR (s.psiA * s.psiA + s.psiB * s.psiB)
  let ePsi := s.psiStar - mag
  let cT := nextCT s.cT eT (L.bandT g)
  let cPsi := nextCPsi s.cPsi ePsi (L.bandF g)
  let adv := signed 16 (L.fld F.TQ_FANG_ADV g)
  let adv := if (L.grp g).an.speed < 0 then -adv else adv
  let sec := sectorOf (wrap 16 ((atanC s.psiB s.psiA : Int) + adv))
  let legs := L.legBits g
  let om := (L.grp g).an.speed
  let opposes := decide ((cT : Rat) * om < 0)
  let e := if (L.grp g).ch.clamp && opposes then 8 else L.tableEntry g sec cT cPsi
  let want := entryVector e legs
  let changes := (List.range 3).filter (fun k => bit legs k != bit (vectorLegs want) k)
  let L := L.updTq g (fun s => { budgetTick s with cT := cT, cPsi := cPsi, sector := sec })
  if s.mode ≠ .table then L else
  let b := (L.grp g).tq.budget
  let hold := (L.grp g).tq.capOn && changes.any (fun k => b.getD k 4 == 0)
  if hold then (L.raise F.TQ_EVENT_CAP_HOLD g).bump F.TQ_CNT_CAP_HOLD g
  else L.updTq g (fun s => { s with vector := want })

/-! ### Carrier-mode regulators -/

/-- The torque part of R110 shortened until the sum with `base` along `j` has the length `vmax`: the first such value between `vt` and 0, or 0
where there is none. -/
def shorten (base j : Rat × Rat) (vt v2 : Rat) : Rat :=
  let bj := base.1 * j.1 + base.2 * j.2
  let d := bj * bj - (base.1 * base.1 + base.2 * base.2 - v2)
  if d < 0 then 0 else
  let k := if vt < 0 then -sqrtR d - bj else sqrtR d - bj
  if (vt < 0 ∧ vt ≤ k ∧ k ≤ 0) ∨ (0 ≤ vt ∧ 0 ≤ k ∧ k ≤ vt) then k else 0

/-- A vector scaled to a length where it is longer. -/
def scaleTo (v : Rat × Rat) (vmax : Rat) : Rat × Rat :=
  let m := sqrtR (v.1 * v.1 + v.2 * v.2)
  if m ≤ vmax ∨ m = 0 then v else (v.1 * vmax / m, v.2 * vmax / m)

/-- The regulators of R110, tracking in table mode (R111), rotated by the phase advance (R103): the reference is formed in both modes, for
a handover takes it (R115), and is complete 0.85 µs into the tick (R112). The unit vector of a flux of 0 is (1, 0), and a negative length to shorten to acts as 0.
(Log entries 153: DESIGN CHOICE, 154: DEDUCED, 184: DESIGN CHOICE) -/
def Lane.regulate (L : Lane) (g : Fin 16) (inj : Rat × Rat) : Lane :=
  let s := (L.grp g).tq
  if s.mode = .tracking then L.updTq g (fun s => { s with intF := 0, intT := 0, refA := 0, refB := 0, refOld := (0, 0) }) else
  let mag := sqrtR (s.psiA * s.psiA + s.psiB * s.psiB)
  let u : Rat × Rat := if mag = 0 then (1, 0) else (s.psiA / mag, s.psiB / mag)
  let j : Rat × Rat := (-u.2, u.1)
  let eT := s.tRef - s.tHat
  let ePsi := s.psiStar - mag
  let i := L.current g
  let rs := L.f32 F.TQ_RS g
  let we := (L.poles g : Rat) * (L.grp g).an.speed
  let ff : Rat × Rat := (rs * i.1 - we * s.psiB, rs * i.2 + we * s.psiA)
  let table := s.mode == .table
  -- in table mode the integrators give the mean applied voltage of the last 16 ticks with the present errors
  let n : Rat := (s.vHist.length : Nat)
  let sum := s.vHist.foldl (fun (a : Rat × Rat) v => (a.1 + v.1, a.2 + v.2)) (0, 0)
  let mean : Rat × Rat := if s.vHist = [] then (0, 0) else (sum.1 / n, sum.2 / n)
  let d : Rat × Rat := (mean.1 - ff.1, mean.2 - ff.2)
  let iF := if table then d.1 * u.1 + d.2 * u.2 - L.gain F.TQ_KPF g * ePsi else s.intF
  let iT := if table then d.1 * j.1 + d.2 * j.2 - L.gain F.TQ_KPT g * eT else s.intT
  let vf := L.gain F.TQ_KPF g * ePsi + iF
  let vt := L.gain F.TQ_KPT g * eT + iT
  let vmax := L.vdc g / sqrt3R - sqrtR (inj.1 * inj.1 + inj.2 * inj.2)
  let base : Rat × Rat := (vf * u.1 + ff.1, vf * u.2 + ff.2)
  let full : Rat × Rat := (base.1 + vt * j.1, base.2 + vt * j.2)
  let sq (x : Rat × Rat) : Rat := x.1 * x.1 + x.2 * x.2
  let v2 := if vmax < 0 then 0 else vmax * vmax
  let sat := decide (v2 < sq full)
  let v : Rat × Rat :=
    if !sat then full
    else
      let k := shorten base j vt v2
      let w : Rat × Rat := (base.1 + k * j.1, base.2 + k * j.2)
      if k = 0 then scaleTo w (maxR 0 vmax) else w
  let adv := signed 16 (L.fld F.TQ_FANG_ADV g)
  let adv := if (L.grp g).an.speed < 0 then -adv else adv
  let out := rotC (wrap 16 adv) (v.1 + inj.1, v.2 + inj.2)
  L.updTq g (fun s => { s with
    refA := out.1
    refB := out.2
    refAt := L.now + ns 850
    refOld := (s.refA, s.refB)
    intF := if table || sat then iF else iF + L.gain F.TQ_KIF g * ts * ePsi
    intT := if table || sat then iT else iT + L.gain F.TQ_KIT g * ts * eT })

/-- The reference that a period start takes: that of the last tick completed, one that completes in its own cycle included (R112). -/
def Lane.reference (L : Lane) (g : Fin 16) : Rat × Rat :=
  let s := (L.grp g).tq
  if s.refAt / 8 ≤ L.now / 8 then (s.refA, s.refB) else s.refOld

/-! ### Mode -/

/-- Whether the engine may leave the tracking state (R97, R142, R186; TQ_CTRL.ENABLE): gate enable high, no trip hold, not isolated,
ENABLE set with no bad parameter, the engine the source, the channels settled, and the profile not Rest. -/
def Lane.mayDrive (L : Lane) (g : Fin 16) : Bool :=
  (L.grp g).lg.gen && !(L.grp g).lg.tripHold && !(L.grp g).tq.isolated && L.flag F.TQ_CTRL_ENABLE g && !(L.tqParam g)
    && !(L.srcDuty g) && !(L.grp g).sd.settling && !(L.sdParam g) && L.ky.profile != 3

/-- The mode asked for by R113; a handover then takes effect at the next period start (R114). An engine that may no longer drive enters
the tracking state, with the legs it drove both low (R97, R164). The mode is judged anew at every tick while a handover waits, and the first rows of
the table hold in the tick that leaves the tracking state too. (Log entry 153: DESIGN CHOICE) -/
def Lane.modeChoice (L : Lane) (g : Fin 16) : Lane :=
  let s := (L.grp g).tq
  let a := (L.grp g).an
  let w := absR a.speed
  let wr := L.f32 F.TQ_WRATED g
  if s.mode = .tracking then
    if L.mayDrive g && !a.starting && (!(L.flag F.AN_CTRL_ENABLE g) || a.valid) then
      let m : Mode := if a.source = .injection then .carrier else if L.tqMode g = 1 then .carrier else if L.tqMode g = 2 then .table
        else if w ≤ wr / 10 then .carrier else .table
      L.updTq g (fun s => { s with mode := m, wantMode := m, handAt := L.now })
    else L
  else if !(L.mayDrive g) then (L.when (!(L.srcDuty g)) (·.legsOff g)).updTq g TqS.track
  else
    let waited := decide (s.handAt + ms 2 ≤ L.now)
    let m : Mode :=
      if a.source = .injection then .carrier
      else if L.tqMode g = 1 then .carrier
      else if L.tqMode g = 2 then .table
      else if s.mode = .carrier && decide (wr / 10 < w) && waited then .table
      else if s.mode = .table && decide (w < wr * 6 / 100) && waited then .carrier
      else s.mode
    L.updTq g (fun s => { s with wantMode := m })

end Sys2Proof.Machine
end

