-- ==== Sys2Proof/Machine/Feedback.lean ====
section
/-! DEFINITION. Position and speed feedback (R197 to R219): counting, references, sampled positions with their checks, the speed
states, the agreement between lanes and the passthrough outputs. -/

namespace Sys2Proof.Machine

/-- The modes of FB_CTRL.MODE. -/
def fbSinCos : Nat := 1
def fbResolver : Nat := 2
def fbIncr : Nat := 3
def fbHall : Nat := 4
def fbSsi : Nat := 5

def Lane.fb (L : Lane) (f : Fin 16) : FbS := (L.grp f).fb

/-- The interface runs: ENABLE is set and a mode is selected. -/
def Lane.fbOn (L : Lane) (f : Fin 16) : Bool := L.flag F.FB_CTRL_ENABLE f && L.fbMode f != 0

/-- An absolute or sampled mode. -/
def sampled (mode : Nat) : Bool := mode == fbSinCos || mode == fbResolver || mode == fbSsi

/-- FAULT is set (R211): not valid, no reference, standstill; a contained fault of source 20. -/
def Lane.fbFault (L : Lane) (f : Fin 16) : Lane :=
  if (L.fb f).fault then L else
  let L := L.updFb f (fun s => { s with fault := true, valid := false, refOk := false, spd := .standstill, speed := 0, stamps := [] })
  ((L.raise F.FB_EVENT_FAULT f).setWord F.FB_SPEED 0 f).fault 20 f

/-! ### Position and revolutions (R199) -/

/-- A revolution more or less; a wrap of the I32 count is reported. -/
def Lane.revAdd (L : Lane) (f : Fin 16) (d : Int) : Lane :=
  let r := signed 32 (L.fb f).rev + d
  let L := L.updFb f (fun s => { s with rev := wrap 32 r })
  L.when (decide (r < -(2 ^ 31 : Int)) || decide ((2 ^ 31 : Int) ≤ r)) (·.raise F.FB_EVENT_REV_WRAP f)

/-- The position and the words that show it. -/
def Lane.fbShow (L : Lane) (f : Fin 16) : Lane :=
  let s := L.fb f
  ((L.setFld F.FB_POS_P s.p f).setWord F.FB_REV (BitVec.ofNat 32 s.rev) f).setWord F.FB_RAW
    (if L.fbMode f = fbResolver then 0 else BitVec.ofNat 32 s.count) f

/-- A new sampled position: the shorter way around decides the revolution (R199). -/
def Lane.setPos (L : Lane) (f : Fin 16) (p : Nat) : Lane :=
  let s := L.fb f
  let q := (s.p : Int) + angDiff p s.p
  let d : Int := if q < 0 then -1 else if 65536 ≤ q then 1 else 0
  ((L.updFb f (fun s => { s with p := p })).when (d != 0) (fun L => L.revAdd f d)).fbShow f

/-! ### Speed (R212, R213) -/

/-- The step angle of the mode, in rad. -/
def Lane.stepAngle (L : Lane) (f : Fin 16) : Rat :=
  let m := L.fbMode f
  if m = fbIncr then 2 * piR / (L.cpr f : Rat)
  else if m = fbHall then 2 * piR / (6 * L.hpp f : Nat)
  else 2 * piR * (L.spdQ f : Rat) / 65536

/-- The stamps of a run that count: those within the window, and the latest one before it. -/
def keepStamps (win : Nat) (ts : List Nat) : List Nat :=
  match ts with
  | [] => []
  | t :: _ =>
    let inside := ts.takeWhile (fun x => decide (t ≤ x + win))
    inside ++ (ts.drop inside.length).take 1

/-- A step at time `t` (R212). -/
def Lane.spdStep (L : Lane) (f : Fin 16) (neg : Bool) (t : Nat) : Lane :=
  let s := L.fb f
  let win := us 100 * L.spdWin f
  let same := s.spd != .standstill && neg == s.dirNeg
  let L := (L.tally 14 f).when (s.spd == .run && neg != s.dirNeg) (·.raise F.FB_EVENT_HYST f)
  let L := L.updFb f (fun s => { s with
    spd := if same then .run else .one
    dirNeg := neg
    stamps := if same then keepStamps win (t :: s.stamps) else [t] })
  L.setWord F.FB_STAMP (BitVec.ofNat 32 (L.devTime - (L.now - t) * 5 / 8)) f

/-- The speed reported at time `t` (R213). -/
def Lane.spdAt (L : Lane) (f : Fin 16) (t : Nat) : Rat :=
  let s := L.fb f
  if s.spd ≠ .run then 0 else
  match s.stamps with
  | [] => 0
  | tn :: _ =>
    let win := us 100 * L.spdWin f
    let inside := s.stamps.takeWhile (fun x => decide (tn ≤ x + win))
    let old := inside.getLastD tn
    let pick : Option (Nat × Nat) :=
      if old ≠ tn then some (old, (inside.filter (fun x => decide (old < x))).length)
      else match s.stamps.findIdx? (fun x => decide (x ≠ tn)) with
        | none => none
        | some i => some (s.stamps.getD i tn, i)
    match pick, s.stamps.find? (fun x => decide (x ≠ tn)) with
    | some (told, n), some prev =>
      let d := L.stepAngle f
      let w := (n : Rat) * d / (((tn - told : Nat) : Rat) * stepSec)
      let w := if tn - prev < t - tn then minR w (d / (((t - tn : Nat) : Rat) * stepSec)) else w
      if s.dirNeg then -w else w
    | _, _ => 0

/-- No step for SPD_TO: standstill (R212). -/
def Lane.spdTimeout (L : Lane) (f : Fin 16) : Lane :=
  match (L.fb f).stamps with
  | [] => L
  | tn :: _ =>
    if tn + us 100 * L.spdTo f ≤ L.now then L.updFb f (fun s => { s with spd := .standstill, stamps := [], speed := 0 }) else L

/-! ### Counted modes -/

/-- A failed signal check: its event, its counter, and FAULT after SIG_N in a row (FB_CHK). -/
def Lane.sigFail (L : Lane) (f : Fin 16) (ev : Fld) : Lane :=
  let L := (((L.tally 14 (16 + f)).raise ev f).bump F.FB_CNT0_ERR_CNT f).updFb f (fun s => { s with sigRun := s.sigRun + 1 })
  L.when (decide (L.fld1 F.FB_CHK_SIG_N f ≤ (L.fb f).sigRun)) (·.fbFault f)

/-- A failed check of the Z mark (R201). -/
def Lane.zFail (L : Lane) (f : Fin 16) : Lane :=
  let L := ((L.raise F.FB_EVENT_Z_ERR f).bump F.FB_CNT0_ERR_CNT f).updFb f (fun s => { s with zFails := s.zFails + 1 })
  L.when (decide (L.fld1 F.FB_REF_Z_N f ≤ (L.fb f).zFails)) (·.fbFault f)

/-- The count of a counted signal: CPR in incremental mode, four times the lines in sin/cos mode, six times the cycles in Hall mode. -/
def Lane.countMod (L : Lane) (f : Fin 16) : Nat :=
  let m := L.fbMode f
  if m = fbIncr then L.cpr f else if m = fbSinCos then 4 * L.lines f else 6 * L.hpp f

/-- The position of a counted mode. -/
def Lane.countPos (L : Lane) (f : Fin 16) (c : Nat) : Nat := c * 65536 / L.countMod f

/-- Whether a Z edge came since the count last passed REF_POS, before the count of this cycle, and after it (R219). -/
def Lane.zBefore (L : Lane) (f : Fin 16) : Bool × Bool :=
  match (L.fb f).zCheck with
  | none => ((L.fb f).zSince, false)
  | some (t, was) => if t / 8 = L.now / 8 then (was, true) else ((L.fb f).zSince, false)

/-- One count up or down: a wrap carries into the revolutions in the modes whose position is the count; passing REF_POS twice in one
direction with no Z between is a failure (R200, R201); a Z edge of this cycle comes after it (R219). -/
def Lane.countStep (L : Lane) (f : Fin 16) (d : Int) : Lane :=
  let s := L.fb f
  let n := L.countMod f
  let c := ((s.count : Int) + d) % (n : Int)
  let carry : Int := ((s.count : Int) + d) / (n : Int)
  let L := L.updFb f (fun s => { s with count := c.toNat, sigRun := 0 })
  let mode := L.fbMode f
  let L := if mode = fbSinCos then L else
    (L.updFb f (fun s => { s with p := L.countPos f c.toNat })).when (carry != 0) (fun L => L.revAdd f carry)
  let L := L.fbShow f
  if mode ≠ fbHall ∧ s.refOk ∧ L.flag F.FB_CTRL_Z_USE f ∧ c.toNat = L.refPos f n then
    let z := L.zBefore f
    (L.updFb f (fun s => { s with lastRefDir := d, zSince := z.2 })).when (s.lastRefDir == d && !z.1) (·.zFail f)
  else L

/-- The quadrature state of a pair of levels (R200). -/
def quadState (a b : Bool) : Nat := if a then (if b then 0 else 3) else (if b then 1 else 2)

/-- The reference is set: the count takes REF_POS (R201). -/
def Lane.refSet (L : Lane) (f : Fin 16) : Lane :=
  let c := L.refPos f (L.countMod f)
  let L := L.updFb f (fun s => { s with count := c, refOk := true, zFails := 0, zSince := true, lastRefDir := 0 })
  let L := if L.fbMode f = fbIncr then L.updFb f (fun s => { s with p := L.countPos f c }) else L
  (L.raise F.FB_EVENT_REF_SET f).fbShow f

/-- A level passes the glitch filter once it has held for FILT main-clock cycles (R200). (Log entry 171: DESIGN CHOICE) -/
def Lane.filtered (L : Lane) (f : Fin 16) (held : Nat) : Bool := decide (L.fld F.FB_CTRL_FILT f ≤ held)

/-- The check of a Z edge against the count of its cycle (R201), made before anything of a later cycle (R219). (Log entry 171: DESIGN CHOICE) -/
def Lane.zJudge (L : Lane) (f : Fin 16) : Lane :=
  let s := L.fb f
  match s.zCheck with
  | none => L
  | some (t, _) =>
    if t / 8 = L.now / 8 then L else
    let L := L.updFb f (fun s => { s with zCheck := none })
    if s.fault then L else
    let n := L.countMod f
    let d := (s.count + n - L.refPos f n) % n
    let tol := L.fld F.FB_REF_Z_TOL f
    if d ≤ tol ∨ n ≤ d + tol then L.updFb f (fun s => { s with zFails := 0 }) else L.zFail f

/-- A rising Z edge sets the reference or is checked (R201), once the interface has a sample (R198). (Log entry 171: DESIGN CHOICE) -/
def Lane.zEdge (f : Fin 16) (held : Nat) (L : Lane) : Lane :=
  if !(L.filtered f held) then L else
  let L := (L.zJudge f).updFb f (fun s => { s with levelZ := true })
  let s := L.fb f
  let mode := L.fbMode f
  if !(L.fbOn f) || s.fault || !s.valid || !(L.flag F.FB_CTRL_Z_USE f) || !(mode == fbIncr || mode == fbSinCos) then L
  else if !s.refOk then (L.refSet f).updFb f (fun x => { x with zSet := some (L.now, s.count) })
  else L.updFb f (fun s => { s with zSince := true, zCheck := some (L.now, s.zSince) })

/-- FB_CMD.SET_REF (R201): ignored while Z_USE is 1, in other modes, while FAULT is set, and before the interface has a sample (R198). -/
def Lane.setRef (f : Fin 16) (L : Lane) : Lane :=
  if L.fbOn f && L.fbMode f == fbIncr && !(L.flag F.FB_CTRL_Z_USE f) && !(L.fb f).fault && (L.fb f).valid then L.refSet f else L

/-- A filtered quadrature change with the levels of A, B and Z (R200); in sin/cos mode the comparators count quarter periods, as the signal's angle
goes: DIR_INV then acts on the position (R199, R202). A count edge of the cycle in which Z set the reference comes before it (R219). Before the
interface has a sample its speed state stays standstill (R198). (Log entries 35: DEDUCED, 171: DESIGN CHOICE) -/
def Lane.incrementalEdge (f : Fin 16) (a b z : Bool) (held : Nat) (L : Lane) : Lane :=
  if !(L.filtered f held) then L else
  let L := L.zJudge f
  let s := L.fb f
  let mode := L.fbMode f
  let L' := L.updFb f (fun s => { s with levelA := a, levelB := b, levelZ := z })
  if !(L.fbOn f) || s.fault || !(mode == fbIncr || mode == fbSinCos) then L'
  else
    let d := (quadState a b + 4 - quadState s.levelA s.levelB) % 4
    let up : Int := if L.flag F.FB_CTRL_DIR_INV f then -1 else 1
    if d = 0 then L'
    else if d = 2 then L'.sigFail f F.FB_EVENT_COUNT_ERR
    else
      let up := if mode = fbIncr then up else 1
      let by_ := if d = 1 then up else -up
      let before : Option Nat := match s.zSet with
        | none => none
        | some (t, c) => if t / 8 = L.now / 8 then some c else none
      let L := match before with
        | none => L'.countStep f by_
        | some c =>
          let carry := ((c : Int) + by_) / (L.countMod f : Int)
          (L'.updFb f (fun s => { s with sigRun := 0 })).when (mode == fbIncr && carry != 0) (fun L => (L.revAdd f carry).fbShow f)
      if mode = fbIncr && s.valid && !(L.fb f).fault then L.spdStep f (decide (by_ < 0)) L.now else L

/-- The sector of a Hall pattern, 7 for none (R208). -/
def hallSector (inv : Bool) (pat : Nat) : Nat :=
  let s := [7, 0, 2, 1, 4, 5, 3, 7].getD (pat % 8) 7
  if s = 7 then 7 else if inv then 5 - s else s

/-- The pattern on the three inputs, U in bit 0. -/
def FbS.pattern (s : FbS) : Nat := b2n s.levelA + 2 * b2n s.levelB + 4 * b2n s.levelZ

/-- A rising ENABLE starts the interface afresh: no sample, standstill (R198); a FAULT that stands keeps the position (R211), and an excitation
fault that stands sets FAULT (R204). (Log entries 36: DESIGN CHOICE, 59: DEDUCED) -/
def Lane.fbStart (L : Lane) (f : Fin 16) : Lane :=
  let k := hallSector (L.flag F.FB_HALL_HALL_INV f) (L.fb f).pattern
  let L := L.updFb f (fun s => { FbS.reset with
    fault := s.fault, levelA := s.levelA, levelB := s.levelB, levelZ := s.levelZ, hall := k, hallLast := k, hallAt := L.now
    p := if s.fault then s.p else 0, rev := if s.fault then s.rev else 0, count := if s.fault then s.count else 0 })
  L.when (L.sf.excFault && L.fbMode f == fbResolver && !(L.fb f).fault) (fun L => (L.raise F.FB_EVENT_EXC_FAULT f).fbFault f)

/-- A change of the Hall pattern (R208); DIR_INV counts the opposite direction as positive (R199). -/
def Lane.hallChange (f : Fin 16) (pat held : Nat) (L : Lane) : Lane :=
  if !(L.filtered f held) then L else
  let L := L.updFb f (fun s => { s with levelA := bit pat 0, levelB := bit pat 1, levelZ := bit pat 2 })
  if !(L.fbOn f) || L.fbMode f != fbHall then L else
  let s := L.fb f
  let k := hallSector (L.flag F.FB_HALL_HALL_INV f) pat
  let L := L.updFb f (fun s => { s with hall := k, hallAt := L.now, hallLast := if k = 7 then s.hallLast else k })
  let up : Int := if L.flag F.FB_CTRL_DIR_INV f then -1 else 1
  let step (L : Lane) (d : Int) : Lane := (L.countStep f d).when s.valid (fun L => L.spdStep f (decide (d < 0)) L.now)
  if s.fault || k == 7 || s.hallLast == 7 || k == s.hallLast then L
  else if k = (s.hallLast + 1) % 6 then step L up
  else if s.hallLast = (k + 1) % 6 then step L (-up)
  else L.sigFail f F.FB_EVENT_HALL_INVALID

/-- A pattern of 000 or 111 held over 1 µs (R208). -/
def Lane.hallInvalidHold (f : Fin 16) (L : Lane) : Lane :=
  if L.fbOn f && L.fbMode f == fbHall && (L.fb f).hall == 7 && decide ((L.fb f).hallAt + us 1 < L.now) && !(L.fb f).fault
  then L.sigFail f F.FB_EVENT_HALL_INVALID else L

/-- A line fault of receiver A, B or Z (0 to 2), in differential operation (R210). (Log entry 59: DEDUCED) -/
def Lane.lineFault (f : Fin 16) (rcv : Fin 3) (L : Lane) : Lane :=
  let mode := L.fbMode f
  let used := (mode == fbIncr) || (mode == fbSsi && rcv == 0) || (mode == fbSinCos && rcv == 2)
  if !(L.fbOn f) || !used then L else
  let L := (L.updFb f (fun s => { s with line := putBit s.line rcv true })).raise F.FB_EVENT_LINE f
  L.when (rcv != 2 || L.flag F.FB_CTRL_Z_USE f) (·.fbFault f)

/-- The speed timeout as an event of its own (R212). -/
def Lane.speedTimeout (f : Fin 16) (L : Lane) : Lane := if L.fbOn f then (L.spdTimeout f).setWord F.FB_SPEED (f32of ((L.spdTimeout f).fb f).speed) f else L

/-! ### Sampled modes -/

/-- The steps of a sampled position (R212): SPD_Q counts each beyond the last step position. -/
def Lane.sampleSteps (L : Lane) (f : Fin 16) (t : Nat) : Lane :=
  let s := L.fb f
  let d := angDiff s.p (wrap 16 s.stepPos)
  let n := d.natAbs / L.spdQ f
  let neg := decide (d < 0)
  let L := (List.range n).foldl (fun L _ => L.spdStep f neg t) L
  L.updFb f (fun s => { s with stepPos := s.stepPos + (if neg then -1 else 1) * ((n * L.spdQ f : Nat) : Int) })

/-- A sampled position is checked against the prediction and taken, or discarded (R209). `p` is the new position in the interface's own
direction. -/
def Lane.takeSample (L : Lane) (f : Fin 16) (p t : Nat) : Lane :=
  let s := L.fb f
  let p := if L.flag F.FB_CTRL_DIR_INV f then (65536 - p % 65536) % 65536 else p % 65536
  let pred := (s.p : Int) + roundR (s.speed * (((t - s.sampleAt : Nat) : Rat) * stepSec) * 65536 / (2 * piR))
  let far := (signed 16 (wrap 16 ((p : Int) - pred))).natAbs
  if s.valid && decide (L.jump f < far) then
    let L := (((L.tally 14 (16 + f)).raise F.FB_EVENT_JUMP f).bump F.FB_CNT0_ERR_CNT f).updFb f (fun s => { s with jumpRun := s.jumpRun + 1 })
    L.when (decide (L.fld1 F.FB_CHK_JUMP_N f ≤ (L.fb f).jumpRun)) (·.fbFault f)
  else if s.valid then
    let L := (L.setPos f p).updFb f (fun s => { s with jumpRun := 0, sampleAt := t })
    L.sampleSteps f t
  else
    (L.updFb f (fun s => { s with p := p, stepPos := p, valid := true, jumpRun := 0, sampleAt := t })).fbShow f

/-- The amplitude window (R205): what the sample's amplitude and phase show, and whether it lies inside. -/
def Lane.ampCheck (L : Lane) (f : Fin 16) (s c : Int) : Lane × Bool :=
  let a2 := (s * s + c * c).toNat
  let L := (L.setFld F.FB_AMP_AMP (isqrt a2) f).setFld F.FB_AMP_PHI (atanC (s : Rat) (c : Rat)) f
  let lo := L.fld F.FB_AMPW_AMP_MIN f
  let hi := L.ampMax f
  if a2 < lo * lo ∨ hi * hi < a2 then
    let L := (((L.tally 14 (16 + f)).raise F.FB_EVENT_AMP f).bump F.FB_CNT0_AMP_CNT f).updFb f (fun s => { s with ampRun := s.ampRun + 1 })
    (L.when (decide (L.fld1 F.FB_CHK_AMP_N f ≤ (L.fb f).ampRun)) (·.fbFault f), false)
  else (L.updFb f (fun s => { s with ampRun := 0 }), true)

/-- A sin/cos sample held at `t` with the quarter count `q0` (R202). -/
def Lane.sinCosSample (L : Lane) (f : Fin 16) (s c : Int) (q0 t : Nat) : Lane :=
  if !(L.fbOn f) || L.fbMode f != fbSinCos || (L.fb f).fault then L else
  let r := L.ampCheck f s c
  if !r.2 then r.1 else
  let L := r.1
  let phi := atanC (s : Rat) (c : Rat)
  let quad := phi / 16384
  let b := L.fb f
  let n := 4 * L.lines f
  let first := !b.qSeen
  let d := (quad + 4 - q0 % 4) % 4
  if !first && d == 2 then
    let L := (((L.tally 14 (16 + f)).raise F.FB_EVENT_SYNC_ERR f).bump F.FB_CNT0_ERR_CNT f).updFb f (fun s => { s with syncRun := s.syncRun + 1 })
    L.when (decide (L.fld1 F.FB_CHK_SYNC_N f ≤ (L.fb f).syncRun)) (·.fbFault f)
  else
    let move (q : Nat) : Nat := if first then quad else if d = 1 then (q + 1) % n else if d = 3 then (q + n - 1) % n else q
    let L := (L.updFb f (fun s => { s with count := move s.count, syncRun := 0, qSeen := true })).fbShow f
    let u := (move q0 / 4 * 65536 + phi) % (L.lines f * 65536)
    L.takeSample f (u / L.lines f) t

/-- A resolver sample held at an excitation peak (R203): negated at a negative peak; absolute, so the first valid one sets REF_OK.
(Log entry 37: DESIGN CHOICE) -/
def Lane.resolverSample (L : Lane) (f : Fin 16) (s c : Int) (negative : Bool) (t : Nat) : Lane :=
  if !(L.fbOn f) || L.fbMode f != fbResolver || (L.fb f).fault then L else
  let s := if negative then -s else s
  let c := if negative then -c else c
  let r := L.ampCheck f s c
  if !r.2 then r.1 else
  let L := r.1.takeSample f (atanC (s : Rat) (c : Rat)) t
  let b := L.fb f
  if b.valid && !b.refOk then (L.updFb f (fun s => { s with refOk := true })).raise F.FB_EVENT_REF_SET f else L

/-- An SSI transfer begins at a frame start (R206): the data line must be high. -/
def Lane.ssiTransfer (f : Fin 16) (dataHigh : Bool) (L : Lane) : Lane :=
  let s := L.fb f
  if !(L.fbOn f) || L.fbMode f != fbSsi || s.fault || L.ssiParam f || s.framesSince == 0
      || (s.framesSince - 1) % L.ssiFrames f != 0 then L
  else if dataHigh then L.updFb f (fun s => { s with busy := true, ssiAt := L.now })
  else L.sigFail f F.FB_EVENT_SSI_ERR

/-- The Gray code of a word undone. -/
def grayDecode (n : Nat) (w : Nat) : Nat :=
  (List.range n).foldl (fun acc i => let k := n - 1 - i; putBit acc k (bit w k != bit acc (k + 1))) 0

/-- The number of ones in `n` bits. -/
def ones (n w : Nat) : Nat := ((List.range n).filter (fun i => bit w i)).length

/-- A half period of the excitation (R204): amplitude in 0.01 V rms and whether the current limit acted. -/
def Lane.excitationHalfPeriod (amp : Nat) (limited : Bool) (L : Lane) : Lane :=
  if !(L.flag F.FB_EXC_EXC_EN) then L else
  let want := L.fldIn F.FB_EXC_EXC_AMP 20 70 * 10
  let ok := decide (want * 85 ≤ amp * 100 ∧ amp * 100 ≤ want * 115)
  let L := L.setFld F.FB_EXC_MON_AMP amp
  let L := { L with sf := { L.sf with excAmpRun := if ok then 0 else L.sf.excAmpRun + 1,
                                      excLimRun := if limited then L.sf.excLimRun + 1 else 0, excOk := ok } }
  L.when (!L.sf.excFault && (decide (3 ≤ L.sf.excAmpRun) || decide (3 ≤ L.sf.excLimRun))) (fun L =>
    let L := { L with sf := { L.sf with excFault := true } }
    L.eachGroup (fun L f => if L.fbOn f && L.fbMode f == fbResolver then (L.raise F.FB_EVENT_EXC_FAULT f).fbFault f else L))

/-- EXC_FAULT set because the excitation went off under R26 (R204). -/
def Lane.excitationOff (L : Lane) : Lane :=
  if L.flag F.FB_EXC_EXC_EN && !L.sf.excFault then
    let L := { L with sf := { L.sf with excFault := true, excOk := false } }
    L.eachGroup (fun L f => if L.fbOn f && L.fbMode f == fbResolver then (L.raise F.FB_EVENT_EXC_FAULT f).fbFault f else L)
  else L

/-! ### Passthrough (R216 to R218) -/

/-- The target of the emulated output (R217). -/
def Lane.emuTargetOf (L : Lane) (f : Fin 16) : Int :=
  let s := L.fb f
  (signed 32 s.rev * 65536 + (s.p : Int)) * (L.emuCpr f : Int) / 65536

/-- Whether the passthrough drivers are enabled (R218); transparent in other than incremental and Hall mode acts as off. -/
def Lane.ptOn (L : Lane) (f : Fin 16) : Bool :=
  let m := L.ptMode f
  let mode := L.fbMode f
  L.fbOn f && !(L.fb f).fault && ((m == 1 && (mode == fbIncr || mode == fbHall)) || (m == 2 && (L.fb f).refOk))

/-- The count of the emulated output now: since the last target its edges are spread evenly over the interval to the next, with at least EMU_GAP
between them (R217). -/
def Lane.emuMoved (L : Lane) (f : Fin 16) : Int :=
  let s := L.fb f
  let d := s.emuTarget - s.emuCount
  let t := L.now - s.emuAt
  let n := min d.natAbs (min (t * d.natAbs / s.emuSpan) (t / (8 * L.emuGap f)))
  if d < 0 then s.emuCount - (n : Int) else s.emuCount + (n : Int)

/-- A new target of the emulated output; `interval` is the time to the next one (R217). -/
def Lane.emulate (L : Lane) (f : Fin 16) (interval : Nat) : Lane :=
  let on := L.ptOn f
  let was := (L.fb f).ptOn
  let c := L.emuTargetOf f
  if !on || L.ptMode f != 2 then L.updFb f (fun s => { s with ptOn := on })
  else if !was then L.updFb f (fun s => { s with ptOn := true, emuCount := c, emuTarget := c, emuAt := L.now, emuSpan := interval })
  else
    let at_ := L.emuMoved f
    let L := L.updFb f (fun s => { s with emuCount := at_, emuTarget := c, emuAt := L.now, emuSpan := interval })
    L.when (decide (interval < (c - at_).natAbs * (8 * L.emuGap f))) (fun L => (L.raise F.FB_EVENT_EMU_OVR f).bump F.FB_CNT1_EMU_CNT f)

/-- The levels of A, B and Z in a quadrature state of R200. -/
def quadLevels (c : Nat) : Bool × Bool :=
  match c % 4 with
  | 0 => (true, true)
  | 1 => (false, true)
  | 2 => (false, false)
  | _ => (true, false)

/-- The passthrough drivers FOA, FOB and FOZ: high-impedance, the filtered levels of the inputs (R216), or the emulated signal, with Z high while the
output count modulo EMU_CPR is 0 (R217, R218). -/
def Lane.foPads (L : Lane) (f : Fin 16) : Option (Bool × Bool × Bool) :=
  let s := L.fb f
  if L.padsHeld .drive then (if bit L.pm.held.foZ f then none else some (false, false, false))
  else if !(L.ptOn f) then none
  else if L.ptMode f = 1 then some (s.levelA, s.levelB, s.levelZ)
  else
    let c := if s.ptOn then L.emuMoved f else L.emuTargetOf f
    let q := quadLevels (c % 4).toNat
    some (q.1, q.2, c % (L.emuCpr f : Int) == 0)

/-! ### The end of an SSI transfer -/

/-- The revolution count that a sampled position would carry to (R199). -/
def Lane.revAt (L : Lane) (f : Fin 16) (p : Nat) : Int :=
  let s := L.fb f
  let p := if L.flag F.FB_CTRL_DIR_INV f then (65536 - p % 65536) % 65536 else p % 65536
  let q := (s.p : Int) + angDiff p s.p
  signed 32 s.rev + (if q < 0 then -1 else if 65536 ≤ q then 1 else 0)

/-- The clock cycles of an SSI transfer, and their period (R206). -/
def Lane.ssiCycles (L : Lane) (f : Fin 16) : Nat := L.ssiBits f + (if L.ssiParity f = 0 then 0 else 1) + 1
def Lane.ssiPeriod (L : Lane) (f : Fin 16) : Nat := 160 * L.ssiDiv f

/-- When the last sample of a transfer is taken: SSI_DLY after the last rising edge of the clock. -/
def Lane.ssiEnd (L : Lane) (f : Fin 16) : Nat :=
  (L.fb f).ssiAt + (L.ssiCycles f - 1) * L.ssiPeriod f + L.ssiPeriod f / 2 + 8 * L.fld F.FB_SSI2_SSI_DLY f

/-- The driver FBC (R197, R206): the SSI clock, which is high outside a transfer and begins each cycle low; high-impedance in other modes. -/
def Lane.fbcPad (L : Lane) (f : Fin 16) : Option Bool :=
  let s := L.fb f
  if L.padsHeld .drive then (if bit L.pm.held.fbcZ f then none else some false)
  else if !(L.fbOn f && L.fbMode f == fbSsi) then none
  else
    let t := L.now - s.ssiAt
    some (!s.busy || decide (L.ssiCycles f * L.ssiPeriod f ≤ t) || decide (L.ssiPeriod f ≤ 2 * (t % L.ssiPeriod f)))

/-- A completed SSI transfer, once its last sample is due: the next decision tick takes it (R207, R219). (Log entry 4: DESIGN CHOICE) -/
def Lane.ssiTransferDone (f : Fin 16) (word : Nat) (par last : Bool) (L : Lane) : Lane :=
  let s := L.fb f
  if !s.busy || !(L.fbOn f) || s.fault || decide (L.now < L.ssiEnd f) then L else
  L.updFb f (fun s => { s with busy := false, ssiRx := some { began := s.ssiAt, word := word, par := par, last := last } })

/-- A completed SSI transfer taken (R207): parity and final sample, the word decoded, the reference or the check against the revolutions. -/
def Lane.ssiSample (L : Lane) (f : Fin 16) (x : SsiS) : Lane :=
  let s := L.fb f
  let L := L.updFb f (fun s => { s with ssiRx := none })
  if L.fbMode f != fbSsi || s.fault then L else
  let at_ := x.began
  let word := x.word
  let par := x.par
  let n := L.ssiBits f
  let odd := (ones n word + b2n par) % 2 = 1
  let parBad := if L.ssiParity f = 0 then false else if L.ssiParity f = 1 then odd else !odd
  let w := word % 2 ^ n
  let v := if L.flag F.FB_SSI_GRAY f then grayDecode n w else w
  let st := L.ssiSt f
  let mtBits := n - st
  let mt := v / 2 ^ st
  let one := v % 2 ^ st
  let p := if 16 ≤ st then one / 2 ^ (st - 16) else one * 2 ^ (16 - st)
  if parBad || x.last then L.sigFail f F.FB_EVENT_SSI_ERR
  else if !s.refOk then
    let L := L.updFb f (fun s => { s with rev := if mtBits = 0 then 0 else mt, refOk := true, sigRun := 0, count := v })
    ((L.raise F.FB_EVENT_REF_SET f).takeSample f p at_).emulate f (8000 * L.ssiFrames f)
  else if mtBits ≠ 0 ∧ L.revAt f p % 2 ^ mtBits ≠ (mt : Int) then L.sigFail f F.FB_EVENT_SSI_ERR
  else
    let L := (L.updFb f (fun s => { s with count := v })).takeSample f p at_
    let L := L.updFb f (fun s => { s with sigRun := 0 })
    L.when ((L.fb f).sampleAt == at_) (·.emulate f (8000 * L.ssiFrames f))

/-! ### The decision tick (R219) -/

/-- The newest conversion or transfer that was complete before this cycle is taken, an older one dropped (R219). -/
def Lane.takeConv (L : Lane) (f : Fin 16) : Lane :=
  let t := L.now / 8
  let L := match (L.fb f).ssiRx with
    | none => L
    | some x => L.ssiSample f x
  match ((L.fb f).conv.filter (fun v => decide (v.doneAt / 8 < t))).getLast? with
  | none => L
  | some v =>
    let before := (L.fb f).sampleAt
    let L := L.updFb f (fun s => { s with conv := s.conv.filter (fun v => decide (t ≤ v.doneAt / 8)) })
    let L := if L.fbMode f = fbResolver then L.resolverSample f v.sine v.cosine v.negative v.heldAt
      else L.sinCosSample f v.sine v.cosine v.quarter v.heldAt
    L.when ((L.fb f).sampleAt != before) (·.emulate f v.span)

/-- What the interface does at a decision tick start: the checks of counted steps and the newest complete conversion, the speed, and the position
delivered, extrapolated in sampled modes. (Log entry 36: DESIGN CHOICE) -/
def Lane.fbTick (L : Lane) (f : Fin 16) : Lane :=
  let mode := L.fbMode f
  if !(L.fbOn f) then L.updFb f (fun s => { s with ptOn := false, conv := [], ssiRx := none }) else
  let L := (L.zJudge f).takeConv f
  let L := if (L.fb f).fault then L else
    let s := L.fb f
    let seen := (mode == fbIncr) || (mode == fbHall && s.hall != 7)
    let L := if seen && !s.valid then (L.updFb f (fun s => { s with valid := true })).fbShow f else L
    let L := L.spdTimeout f
    let w := L.spdAt f L.now
    let ext := if sampled mode then wrap 16 (((L.fb f).p : Int) + roundR (w * (((L.now - (L.fb f).sampleAt : Nat) : Rat) * stepSec) * 65536 / (2 * piR)))
      else (L.fb f).p
    (L.updFb f (fun s => { s with speed := w, extP := ext })).setF32 F.FB_SPEED w f
  if sampled mode then (if L.ptOn f then L else L.updFb f (fun s => { s with ptOn := false })) else L.emulate f 4000

end Sys2Proof.Machine
end

