-- ==== Sys2Proof/Machine/Angle.lean ====
section
/-! DEFINITION. The angle unit of a group (R123 to R140): injection, flux observer, encoder, the siblings' estimates, consensus, source
selection, loss and start. -/

namespace Sys2Proof.Machine

def Lane.an (L : Lane) (g : Fin 16) : AnS := (L.grp g).an

/-- Counts of electrical angle that a mechanical speed covers in a time (s), rounded as in R133. -/
def Lane.turn (L : Lane) (g : Fin 16) (w dt : Rat) : Int := roundR ((L.poles g : Rat) * w * dt * 65536 / (2 * piR))

/-! ### Delivery (R123, R136) -/

/-- The band (R136), with the speed delivered at the previous tick. -/
def Lane.bandStep (L : Lane) (g : Fin 16) : Lane :=
  let w := absR (L.an g).speed
  let wr := L.f32 F.TQ_WRATED g
  L.updAn g (fun s => { s with high :=
    if s.high then !(decide (w < (L.injLo g : Rat) * wr / 256)) else decide ((L.injHi g : Rat) * wr / 256 < w) })

/-- The values estimated in the previous tick are delivered; a source change takes effect here, and so does the end of a start whose
polarity is confirmed (R139, step 6). -/
def Lane.deliverAngle (L : Lane) (g : Fin 16) : Lane :=
  let L := L.bandStep g
  let s := L.an g
  let changed := s.nextSource != s.source
  let L := L.when changed (fun L => (L.raise F.AN_EVENT_SOURCE_CHANGE g).tally 12 g)
  let L := L.when (changed && s.nextSource == .consensus) (·.raise F.AN_EVENT_CARRIED g)
  let L := L.updAn g (fun s => { s with
    source := s.nextSource
    angle := s.nextAngle
    speed := s.nextSpeed
    valid := s.nextValid
    starting := s.starting && !(s.polOk && s.nextValid)
    lastSpeed := if s.nextValid && L.ky.state == .service then s.nextSpeed else s.lastSpeed })
  L.setF32 F.AN_SPEED s.nextSpeed g

/-! ### The local sources -/

/-- The voltage of a polarity test along the estimated d axis (R139, step 4): a pulse along +d for PW, a rest of twice that, a pulse along −d;
VPOL is at most vDC / √3. -/
def Lane.polPulse (L : Lane) (g : Fin 16) : Rat :=
  match (L.an g).testAt with
  | none => 0
  | some t0 =>
    let pw := us (L.polWidth g)
    let v := minR ((L.fld F.AN_POL_VPOL g : Rat) / 100) (L.vdc g / sqrt3R)
    let dt := L.now - t0
    if dt < pw then v else if 3 * pw ≤ dt && decide (dt < 4 * pw) then -v else 0

/-- The start voltages of the unit (R139): the injection (R125, R126) and, during a polarity test, its pulse. -/
def Lane.injVector (L : Lane) (g : Fin 16) : Rat × Rat :=
  let s := L.an g
  let inj := if s.injRun && L.flag F.AN_CTRL_INJ_EN g then L.vinj g * cosF (((L.finj g * L.now : Nat) : Rat) * stepSec * 65536) else 0
  let c := inj + L.polPulse g
  (c * cosC s.injAngle, c * sinC s.injAngle)

/-- The speed lies below the high band threshold (R126, R136). -/
def Lane.belowHigh (L : Lane) (g : Fin 16) : Bool := decide (absR (L.an g).speed < (L.injHi g : Rat) * L.f32 F.TQ_WRATED g / 256)

/-- Whether injection may run (R126). -/
def Lane.injWanted (L : Lane) (g : Fin 16) : Bool :=
  let s := L.an g
  L.flag F.AN_CTRL_ENABLE g && L.flag F.AN_CTRL_INJ_EN g && (L.grp g).tq.mode != .table
    && (s.starting || ((L.grp g).tq.mode == .carrier && ((!s.high && decide (s.confEnc < L.cmin g)) || (s.source == .consensus && L.belowHigh g))))

/-- The decision ticks of one injection period. -/
def Lane.injTicks (L : Lane) (g : Nat) : Nat := 400000 / L.finj g

/-- Demodulation of the current response against sin(2π × FINJ × t), averaged over one injection period (R125): twice the means of the d and q
products, the d one being the amplitude. (Log entry 158: DEDUCED) -/
def Lane.demodulate (L : Lane) (g : Fin 16) : Lane :=
  let i := rotC (65536 - (L.an g).injAngle % 65536) (L.current g)
  let c := cosF (((L.finj g * L.now : Nat) : Rat) * stepSec * 65536 - 16384)
  L.updAn g (fun s => { s with injHist := ((i.1 * c, i.2 * c) :: s.injHist).take (L.injTicks g) })

/-- The averaged products. -/
def Lane.injMeans (L : Lane) (g : Fin 16) : Rat × Rat :=
  let sum := (L.an g).injHist.foldl (fun (a : Rat × Rat) v => (a.1 + v.1, a.2 + v.2)) (0, 0)
  (2 * sum.1 / (L.injTicks g : Rat), 2 * sum.2 / (L.injTicks g : Rat))

/-- Injection demodulation and its tracking loop (R125), with the polarity of R128 and R135; the polarity a start
sequence has just confirmed stands until the first angle is delivered. (Log entries 13: DESIGN CHOICE, 56: DEDUCED) -/
def Lane.injStep (L : Lane) (g : Fin 16) : Lane :=
  let s := L.an g
  let run := s.injRun && L.flag F.AN_CTRL_INJ_EN g && (L.grp g).tq.mode != .table || L.injWanted g
  if !run then L.updAn g (fun s => { s with injRun := false, injAmp := 0, injHist := [] }) else
  let L := L.demodulate g
  let m := L.injMeans g
  let args := [(s.injAngle : Rat), s.injSpeed, m.2, (L.finj g : Rat)]
  let raw := truncR (Config.injectionAngle args)
  let a := wrap 16 raw
  let ref := if s.injLost then s.consAngle else if s.starting then s.injAngle else s.angle
  let a := if s.polOk && decide (16384 < (angDiff a ref).natAbs) then (a + 32768) % 65536 else a
  L.updAn g (fun s => { s with injRun := true, injAngle := a, injSpeed := Config.injectionSpeed args, injAmp := absR m.1 })

/-- The flux observer (R129): its own stator flux estimate, corrected toward the current model at the delivered angle while that is valid, and the
active flux ψ̂s − Lq × i. (Log entries 13: DESIGN CHOICE, 187: DESIGN CHOICE) -/
def Lane.obsStep (L : Lane) (g : Fin 16) (x : GroupSample) : Lane :=
  let s := L.an g
  let i := L.current g
  let m := L.modelFlux g s.angle i
  let psi := fluxStep (L.f32 F.TQ_RS g) (L.wc g) s.valid (s.obsA, s.obsB) (L.voltage g x) i m
  let lq := L.f32 F.TQ_LQ g
  let act := (psi.1 - lq * i.1, psi.2 - lq * i.2)
  let a := atanC act.2 act.1
  let w := Config.observerSpeed [(s.obsAngle : Rat), s.obsSpeed, (a : Rat)]
  L.updAn g (fun s => { s with obsA := psi.1, obsB := psi.2, obsAngle := a, obsSpeed := w, obsFlux := sqrtR (act.1 * act.1 + act.2 * act.2) })

/-- The encoder angle (R130). -/
def Lane.encAngle (L : Lane) (g : Fin 16) : Nat := (L.encMult g * (L.fb g).extP + L.fld F.AN_ENC_OFFSET g) % 65536

/-- The encoder's confidence (R124, R130): Hall mode never serves. -/
def Lane.encConf (L : Lane) (g : Fin 16) : Nat :=
  let f := L.fb g
  let mode := L.fbMode g
  if L.flag F.AN_CTRL_ENC_USE g && L.fbOn g && !f.fault && f.valid && f.refOk && mode != fbHall && !(L.an g).misalign then 255 else 0

/-- A confidence in proportion to what a quantity exceeds its least value by (R124), rounded toward zero. -/
def confOf (x m : Rat) : Nat := (truncR (clampR 0 255 (255 * (x - m) / m))).toNat

/-- The injection confidence of R124 before tracking is considered. (Log entry 55: DEDUCED) -/
def Lane.injConfRaw (L : Lane) (g : Fin 16) : Nat :=
  let s := L.an g
  if !s.injRun then 0 else
  let c := confOf s.injAmp (L.injAmin g)
  if s.polOk then c else min c 127

/-- The observer confidence of R124, whether or not it stands lost. (Log entries 52: DEDUCED, 55: DEDUCED) -/
def Lane.obsConfRaw (L : Lane) (g : Fin 16) : Nat :=
  let s := L.an g
  confOf (absR s.obsSpeed * s.obsFlux) (L.obsEmin g)

/-- Injection and observer of an isolated star or of one whose engine is tracking read 0 (R124); the start sequence needs the injection's
(R139). -/
def Lane.injOff (L : Lane) (g : Fin 16) : Bool :=
  (L.grp g).tq.isolated || ((L.grp g).tq.mode == .tracking && !(L.an g).starting)
def Lane.obsOff (L : Lane) (g : Fin 16) : Bool := (L.grp g).tq.isolated || (L.grp g).tq.mode == .tracking

/-- Confidences (R124). -/
def Lane.confStep (L : Lane) (g : Fin 16) : Lane :=
  let ci := if L.injOff g then 0 else L.injConfRaw g
  let co := if L.obsOff g || (L.an g).obsLost then 0 else L.obsConfRaw g
  let ce := L.encConf g
  L.updAn g (fun s => { s with confInj := ci, confObs := co, confEnc := ce })

/-! ### Siblings (R132, R133) -/

/-- The frame's age in seconds at this tick: AGE, half the round trip, and the time since it arrived. -/
def Lane.peerElapsed (L : Lane) (p : Port) (e : PeerS) : Rat :=
  let rtt := match p with
    | .N => L.fld F.CX_RTT_RTT_N
    | .P => L.fld F.CX_RTT_RTT_P
  (e.age : Rat) * 20 / 1000000000 + (rtt : Rat) / 2000000000 + ((L.now - e.arrival : Nat) : Rat) * stepSec

def Lane.peer (L : Lane) (g : Fin 16) : Port → PeerS
  | .N => (L.an g).peerN
  | .P => (L.an g).peerP

/-- The sibling's angle extrapolated to this tick. -/
def Lane.peerAngle (L : Lane) (g : Fin 16) (p : Port) : Nat :=
  let e := L.peer g p
  wrap 16 ((e.angle : Int) + L.turn g (f32val e.speed) (L.peerElapsed p e))

/-- What R133 asks of a star's entry in an angle frame: a source, enough confidence, a known polarity, and a driven star or an encoder. -/
def Lane.entryUsable (L : Lane) (g : Fin 16) (conf flags : Nat) : Bool :=
  flags % 4 != 0 && decide (L.cmin g ≤ conf) && bit flags 2 && (bit flags 3 || flags % 4 == 3)

/-- Whether a sibling's estimate is usable (R133). -/
def Lane.peerUsable (L : Lane) (g : Fin 16) (p : Port) : Bool :=
  let e := L.peer g p
  e.seen && decide (L.peerElapsed p e ≤ 30 / 1000000) && L.entryUsable g e.conf e.flags

/-- The words that show the siblings' last frames. -/
def Lane.showPeers (L : Lane) (g : Fin 16) : Lane :=
  let n := L.peer g .N
  let p := L.peer g .P
  let L := if n.seen then (((L.setFld F.AN_PEER_N0_FLAGS n.flags g).setFld F.AN_PEER_N0_CONF n.conf g).setFld F.AN_PEER_N0_ANGLE
    (L.peerAngle g .N) g).setWord F.AN_PEER_N1 n.speed g else L
  if p.seen then (((L.setFld F.AN_PEER_P0_FLAGS p.flags g).setFld F.AN_PEER_P0_CONF p.conf g).setFld F.AN_PEER_P0_ANGLE
    (L.peerAngle g .P) g).setWord F.AN_PEER_P1 p.speed g else L

/-! ### Consensus (R134) -/

/-- A contributor: lane index, angle, speed, confidence. -/
structure Contrib where
  lane : Nat
  angle : Nat
  speed : Rat
  conf : Nat

/-- The delivered source is one of this lane's own. -/
def Source.isLocal : Source → Bool
  | .injection => true
  | .observer => true
  | .encoder => true
  | .none => false
  | .consensus => false

/-- The confidence of the selected local source; 0 for consensus or none (AN_CONF.SEL). -/
def AnS.selConf (s : AnS) : Nat :=
  match s.source with
  | .none => 0
  | .injection => s.confInj
  | .observer => s.confObs
  | .encoder => s.confEnc
  | .consensus => 0

/-- The contributors in lane order. -/
def Lane.contributors (L : Lane) (g : Fin 16) : List Contrib :=
  let s := L.an g
  let own : List Contrib := if s.source.isLocal then [⟨L.id.index, s.angle, s.speed, s.selConf⟩] else []
  let sib (p : Port) : List Contrib :=
    if L.peerUsable g p then [⟨(L.id.at p).index, L.peerAngle g p, f32val (L.peer g p).speed, (L.peer g p).conf⟩] else []
  let all := own ++ sib .N ++ sib .P
  (List.range 3).flatMap (fun i => all.filter (fun c => c.lane == i))

/-- The middle of three by value; where two are equal, which contributor gives the speed follows their order. (Log entry 188: DESIGN CHOICE) -/
def middle (a b c : Int × Rat) : Int × Rat :=
  if a.1 ≤ b.1 then (if b.1 ≤ c.1 then b else if a.1 ≤ c.1 then c else a)
  else (if a.1 ≤ c.1 then a else if b.1 ≤ c.1 then c else b)

/-- Consensus angle and speed of a tick (R134); none without a contributing sibling. -/
def Lane.consensus (L : Lane) (g : Fin 16) : Option (Nat × Rat) :=
  match L.contributors g with
  | [a, b, c] =>
    let m := middle (0, a.speed) (angDiff b.angle a.angle, b.speed) (angDiff c.angle a.angle, c.speed)
    some (wrap 16 ((a.angle : Int) + m.1), m.2)
  | [a, b] =>
    let d := angDiff b.angle a.angle
    if d.natAbs ≤ L.agreeWin g then
      let w : Rat := if a.conf + b.conf = 0 then 1 / 2 else (b.conf : Rat) / ((a.conf + b.conf : Nat) : Rat)
      some (wrap 16 ((a.angle : Int) + roundR ((d : Rat) * w)), a.speed + (b.speed - a.speed) * w)
    else none
  | [a] => if a.lane = L.id.index then none else some (a.angle, a.speed)
  | _ => none

/-- The consensus formed and shown; two contributors that disagree raise NOCONS. (Log entry 54: DEDUCED) -/
def Lane.consStep (L : Lane) (g : Fin 16) : Lane :=
  let cs := L.contributors g
  match L.consensus g with
  | some (a, w) =>
    let bits := cs.foldl (fun (n : Nat) c => putBit n c.lane true) 0
    let L := L.updAn g (fun s => { s with consAngle := a, consSpeed := w, contrib := bits })
    (L.setFld F.AN_CONS_ANGLE a g).setFld F.AN_CONS_CONTRIB bits g
  | none =>
    let L := (L.updAn g (fun s => { s with contrib := 0 })).setFld F.AN_CONS_CONTRIB 0 g
    L.when (cs.length == 2) (·.raise F.AN_EVENT_NOCONS g)

/-- A consensus exists. -/
def Lane.hasCons (L : Lane) (g : Fin 16) : Bool := (L.an g).contrib != 0

/-! ### Correction, comparison and return (R135, R131) -/

/-- The observer's flux estimate turned by the correction (R135, step 1). (Log entry 54: DEDUCED) -/
def Lane.correct (L : Lane) (g : Fin 16) : Lane :=
  let s := L.an g
  if !(L.hasCons g) || s.obsLost then L else
  let d := roundR ((angDiff s.consAngle s.obsAngle : Rat) * (L.kc g : Rat) / 256)
  let v := rotC (wrap 16 d) (s.obsA, s.obsB)
  L.updAn g (fun s => { s with obsA := v.1, obsB := v.2, obsAngle := wrap 16 ((s.obsAngle : Int) + d) })

/-- A local source declared lost (R135, step 2); a lost observer is reseeded from θC. -/
def Lane.declareLost (L : Lane) (g : Fin 16) : Lane :=
  let s := L.an g
  let L := (L.raise F.AN_EVENT_LOST g).bump F.AN_CNT_LOST_CNT g
  if s.source = .observer then
    let m := L.modelFlux g s.consAngle (L.current g)
    L.updAn g (fun s => { s with obsLost := true, obsA := m.1, obsB := m.2, disRun := 0, obsOkAt := none })
  else L.updAn g (fun s => { s with injLost := true, disRun := 0, injOkAt := none })

/-- The delivered local angle compared with θC (R135, step 2); the encoder is not judged. -/
def Lane.compare (L : Lane) (g : Fin 16) : Lane :=
  let s := L.an g
  if !(L.hasCons g) || !s.source.isLocal then L.updAn g (fun s => { s with disRun := 0 })
  else
    let out := decide (L.agreeWin g < (angDiff s.angle s.consAngle).natAbs)
    let L := L.updAn g (fun s => { s with disagree := out, disRun := if out && s.source != .encoder then s.disRun + 1 else 0 })
    L.when (out && s.source != .encoder && decide (L.disTicks g ≤ (L.an g).disRun)) (·.declareLost g)

/-- Since when a lost source has been in agreement (R135, step 3). (Log entry 55: DEDUCED) -/
def Lane.returnTimers (L : Lane) (g : Fin 16) : Lane :=
  let s := L.an g
  let ok (lost : Bool) (conf ang : Nat) : Bool :=
    lost && L.hasCons g && decide (L.cmin g ≤ conf) && decide ((angDiff ang s.consAngle).natAbs ≤ L.agreeWin g)
  let keep (t : Option Nat) (b : Bool) : Option Nat := if b then (match t with
    | some x => some x
    | none => some L.now) else none
  let bo := ok s.obsLost (if L.obsOff g then 0 else L.obsConfRaw g) s.obsAngle
  let bi := ok s.injLost (if L.injOff g then 0 else L.injConfRaw g) s.injAngle
  L.updAn g (fun s => { s with obsOkAt := keep s.obsOkAt bo, injOkAt := keep s.injOkAt bi })

/-- A lost source in agreement for 1 ms is returned to use (R135). -/
def Lane.localSourceReturn (g : Fin 16) (src : Source) (L : Lane) : Lane :=
  let s := L.an g
  let due (t : Option Nat) : Bool := match t with
    | some x => decide (x + ms 1 ≤ L.now)
    | none => false
  match src with
  | .observer => if s.obsLost && due s.obsOkAt then L.updAn g (fun s => { s with obsLost := false, obsOkAt := none }) else L
  | .injection => if s.injLost && due s.injOkAt then L.updAn g (fun s => { s with injLost := false, injOkAt := none }) else L
  | .none => L
  | .encoder => L
  | .consensus => L

/-- The local angle the encoder is compared with: injection or observer, usable and not lost, the observer where both are (R131).
(Log entry 186: DESIGN CHOICE) -/
def Lane.otherLocal (L : Lane) (g : Fin 16) : Option Nat :=
  let s := L.an g
  if decide (L.cmin g ≤ s.confObs) && !s.obsLost then some s.obsAngle
  else if decide (L.cmin g ≤ s.confInj) && !s.injLost && s.polOk then some s.injAngle
  else none

/-- The encoder comparison of R131 at an exchange tick: since when it agrees, or lies beyond ENC_WIN. -/
def Lane.alignTimers (L : Lane) (g : Fin 16) : Lane :=
  let keep (t : Option Nat) (b : Bool) : Option Nat := if b then (match t with
    | some x => some x
    | none => some L.now) else none
  match L.otherLocal g with
  | none => L.updAn g (fun s => { s with alignSince := none, misSince := none })
  | some a =>
    let usable := decide (L.cmin g ≤ (L.an g).confEnc)
    let d := (angDiff (L.encAngle g) a).natAbs
    L.updAn g (fun s => { s with
      alignSince := keep s.alignSince (usable && decide (d ≤ L.agreeWin g))
      misSince := keep s.misSince (usable && decide (L.encWin g < d)) })

/-- Agreement held 100 ms, or a difference beyond ENC_WIN held 10 ms (R131). -/
def Lane.encoderAlign (g : Fin 16) (ok : Bool) (L : Lane) : Lane :=
  let due (t : Option Nat) (n : Nat) : Bool := match t with
    | some x => decide (x + ms n ≤ L.now)
    | none => false
  if ok then (if due (L.an g).alignSince 100 then L.updAn g (fun s => { s with alignOk := true }) else L)
  else if due (L.an g).misSince 10 then
    (L.updAn g (fun s => { s with misalign := true, misSince := none })).raise F.AN_EVENT_ENC_MISALIGN g
  else L

/-- AN_CMD.ALIGN_CAPTURE (R131): ignored unless the injection or observer confidence is 255, the observer taken where both are.
(Log entry 186: DESIGN CHOICE) -/
def Lane.alignCapture (g : Fin 16) (L : Lane) : Lane :=
  let s := L.an g
  let src : Option Nat := if s.confObs = 255 then some s.obsAngle else if s.confInj = 255 then some s.injAngle else none
  match src with
  | none => L
  | some a =>
    let p := (L.encMult g * (L.fb g).extP) % 65536
    (L.setFld F.AN_ENC_CAPT_OFS ((a + 65536 - p) % 65536) g).setFld F.AN_ENC_CAPT_DONE 1 g

/-! ### Selection (R136) and the checks of a tick -/

/-- The source by the table of R136; in the low band a usable observer stands in for an injection whose polarity is not confirmed.
(Log entry 189: DESIGN CHOICE) -/
def Lane.select (L : Lane) (g : Fin 16) : Source :=
  let s := L.an g
  let c := L.cmin g
  let enc := decide (c ≤ s.confEnc)
  let obs := decide (c ≤ s.confObs) && !s.obsLost
  let inj := decide (c ≤ s.confInj) && !s.injLost && s.polOk
  if !(L.flag F.AN_CTRL_ENABLE g) then .none
  else if enc then .encoder
  else if s.high && obs then .observer
  else if !s.high && inj then .injection
  else if !s.high && obs then .observer
  else if L.hasCons g then .consensus
  else .none

/-- The angle and speed of a source in this tick; with none, the injection estimate a start sequence works on, else the angle last
delivered. (Log entry 142: DEDUCED) -/
def Lane.sourceValue (L : Lane) (g : Fin 16) : Source → Nat × Rat
  | .none => if (L.an g).starting then ((L.an g).injAngle, (L.an g).injSpeed) else ((L.an g).angle, 0)
  | .injection => ((L.an g).injAngle, (L.an g).injSpeed)
  | .observer => ((L.an g).obsAngle, (L.an g).obsSpeed / (if L.poles g = 0 then 1 else L.poles g : Nat))
  | .encoder => (L.encAngle g, (L.fb g).speed)
  | .consensus => ((L.an g).consAngle, (L.an g).consSpeed)

/-- The source chosen and its values extrapolated to the next tick start (R123, R136); the polarity does not outlast the sources
(R127). -/
def Lane.chooseSource (L : Lane) (g : Fin 16) : Lane :=
  let src := L.select g
  let v := L.sourceValue g src
  L.updAn g (fun s => { s with
    nextSource := src
    nextAngle := wrap 16 ((v.1 : Int) + L.turn g v.2 ts)
    nextSpeed := v.2
    nextValid := src != .none && (!s.starting || s.polOk)
    starting := s.starting && !(s.polOk && src == .none)
    polOk := s.polOk && src != .none })

/-- A source of none outside the start sequence while the star is driven: the rotor is lost and the star isolated (R138).
(Log entry 57: DEDUCED) -/
def Lane.rotorCheck (L : Lane) (g : Fin 16) : Lane :=
  let s := L.an g
  if L.flag F.AN_CTRL_ENABLE g && s.nextSource == .none && !s.starting && (L.grp g).tq.mode != .tracking
  then (L.raise F.AN_EVENT_ROTOR_LOST g).isolate g else L

/-- The angle that lies farthest into a Hall sector's span: how far outside it an angle lies (R130, R208). -/
def Lane.hallOutside (L : Lane) (g : Fin 16) (a : Nat) : Nat :=
  let k := (L.fb g).hall
  let lo := L.fld F.FB_HALL_HALL_OFS g + k * 10923
  let into := (a + 131072 - lo % 65536) % 65536
  if into < 10923 then 0 else min (into - 10922) (65536 - into)

/-- An observer or injection angle outside the Hall sector by more than AGREE (R130): the delivered one, where its source is one of the two.
(Log entry 185: DESIGN CHOICE) -/
def Lane.hallCheck (L : Lane) (g : Fin 16) : Lane :=
  let s := L.an g
  L.when (L.fbOn g && L.fbMode g == fbHall && (L.fb g).hall != 7 && !s.starting && (s.source == .observer || s.source == .injection)
    && decide (L.agreeWin g < L.hallOutside g s.angle)) (·.raise F.AN_EVENT_HALL_DISAGREE g)

/-! ### Start from standstill (R139) -/

/-- A start sequence whose engine may no longer leave the tracking state ends, with the legs it drove both low. (Log entry 56: DEDUCED) -/
def Lane.startStop (L : Lane) (g : Fin 16) : Lane :=
  let s := L.an g
  if s.starting && !(L.flag F.AN_CTRL_ENABLE g && L.mayDrive g) then
    (L.when ((L.grp g).lg.iso == .none) (·.legsOff g)).updAn g (fun s => { s with
      starting := false, polOk := false, testAt := none, polWait := none, reachedAt := none, nextValid := false })
  else L

/-- The engine would leave the tracking state: with an encoder or a consensus it may, else the start sequence begins. -/
def Lane.startCheck (L : Lane) (g : Fin 16) : Lane :=
  let L := L.startStop g
  let s := L.an g
  if !(L.flag F.AN_CTRL_ENABLE g) || s.starting || (L.grp g).tq.mode != .tracking || !(L.mayDrive g) then L
  else if L.cmin g ≤ L.encConf g then L
  else if L.hasCons g then
    (L.updAn g (fun s => { s with polOk := true, injAngle := s.consAngle, injRun := L.flag F.AN_CTRL_INJ_EN g })).when (!s.polOk)
      (·.raise F.AN_EVENT_POL_DONE g)
  else if s.polOk && s.source.isLocal then L
  else L.updAn g (fun s => { s with
    starting := true, startAt := L.now, injRun := L.flag F.AN_CTRL_INJ_EN g, injAngle := 0, polOk := false, tests := 0, polWait := none, testAt := none
    reachedAt := none, valid := false, nextValid := false, injHist := [], peakPlus := 0, peakMinus := 0 })

/-- Polarity confirmed at an injection angle. -/
def Lane.polarity (L : Lane) (g : Fin 16) (a : Nat) : Lane :=
  (L.updAn g (fun s => { s with polOk := true, injAngle := a % 65536, polWait := none, testAt := none })).raise F.AN_EVENT_POL_DONE g

/-- Which of the two polarities of the injection angle lies nearer a reference. -/
def nearer (a ref : Nat) : Nat := if 16384 < (angDiff a ref).natAbs then (a + 32768) % 65536 else a

/-- A lower-indexed sibling in Service or Shadow whose frame shows the star without POL_OK (R139, step 3). -/
def Lane.lowerUntested (L : Lane) (g : Fin 16) : Bool :=
  let st (c : Option CoordFrame) : Bool := match c with
    | some x => x.state == 3 || x.state == 4
    | none => false
  let one (p : Port) (c : Option CoordFrame) : Bool :=
    decide ((L.id.at p).index < L.id.index) && st c && (L.peer g p).seen && !(bit (L.peer g p).flags 2)
  one .N L.cx.coordN || one .P L.cx.coordP

/-- Steps 2 and 3 of the start sequence, and the start of the pulses of step 4, as a decision tick finds them. (Log entry 56: DEDUCED) -/
def Lane.startStep (L : Lane) (g : Fin 16) : Lane :=
  let s := L.an g
  if !s.starting || s.polOk then L
  else
    let reached := s.reachedAt.isSome || decide (L.cmin g ≤ s.confInj)
    if !reached then L else
    let first := s.reachedAt.isNone
    let L := L.updAn g (fun s => { s with reachedAt := match s.reachedAt with
      | some x => some x
      | none => some L.now })
    let a := (L.an g).injAngle
    if L.fbOn g && L.fbMode g == fbHall && (L.fb g).hall != 7 then
      L.polarity g (nearer a ((L.fld F.FB_HALL_HALL_OFS g + (L.fb g).hall * 10923 + 5461) % 65536))
    else if L.hasCons g then L.polarity g (nearer a (L.an g).consAngle)
    else if first && L.lowerUntested g then L.updAn g (fun s => { s with polWait := some (L.now + ms 3) })
    else if s.polWait.isNone && s.testAt.isNone && decide (s.tests < 3) then L.updAn g (fun s => { s with testAt := some L.now })
    else L

/-- The largest |id| of the two pulses of a polarity test, over the samples latched while each stands (R139, step 4).
(Log entry 158: DEDUCED) -/
def Lane.polPeaks (L : Lane) (g : Fin 16) : Lane :=
  match (L.an g).testAt with
  | none => L
  | some t0 =>
    let pw := us (L.polWidth g)
    let d := absR (rotC (65536 - (L.an g).injAngle % 65536) (L.current g)).1
    let t := L.now - t0
    L.updAn g (fun s => { s with peakPlus := if 0 < t ∧ t ≤ pw then maxR s.peakPlus d else s.peakPlus
                                 peakMinus := if 3 * pw < t ∧ t ≤ 4 * pw then maxR s.peakMinus d else s.peakMinus })

/-- The end of a polarity test (R139, steps 4 and 5), once its pulses are over: the direction whose peak is larger by MARGIN % is the magnet's
north. `clocks` are the bits that the modulator clocks up to it captured. -/
def Lane.polarityTest (g : Fin 16) (clocks : List Nat) (L : Lane) : Lane :=
  let L := L.takeClocks g clocks
  let s := L.an g
  let ended := match s.testAt with
    | none => false
    | some t0 => decide (t0 + 4 * us (L.polWidth g) ≤ L.now)
  if !s.starting || s.polOk || !ended then L else
  let L := L.updAn g (fun s => { s with tests := s.tests + 1, testAt := none, peakPlus := 0, peakMinus := 0 })
  let m : Rat := 1 + (L.polMargin g : Rat) / 100
  if s.peakMinus * m ≤ s.peakPlus ∧ s.peakMinus < s.peakPlus then L.polarity g s.injAngle
  else if s.peakPlus * m ≤ s.peakMinus ∧ s.peakPlus < s.peakMinus then L.polarity g (s.injAngle + 32768)
  else L

/-- The wait for a sibling's polarity ends and the lane tests itself (R139, step 3). -/
def Lane.polarityWaitEnd (g : Fin 16) (L : Lane) : Lane :=
  match (L.an g).polWait with
  | none => L
  | some t => if t ≤ L.now then L.updAn g (fun s => { s with polWait := none }) else L

/-- The start fails: no injection confidence within 5 ms, or three tests without a winner; the star is isolated (R139, R138), which
raises START_FAIL alone. (Log entry 190: DESIGN CHOICE) -/
def Lane.startFail (g : Fin 16) (L : Lane) : Lane :=
  let s := L.an g
  let timed := s.reachedAt.isNone && decide (s.startAt + ms 5 ≤ L.now)
  if s.starting && !s.polOk && (timed || decide (3 ≤ s.tests)) then
    let L := L.updAn g (fun s => { s with starting := false, injRun := false, testAt := none })
    (L.raise F.AN_EVENT_START_FAIL g).isolate g
  else L

/-- The polarity of a driving star taken from the consensus angle (R127): the injection angle takes the polarity nearer θC.
(Log entry 158: DEDUCED) -/
def Lane.consPolarity (L : Lane) (g : Fin 16) : Lane :=
  let s := L.an g
  if s.polOk || s.starting || !(L.hasCons g) || !(L.flag F.AN_CTRL_ENABLE g) || s.source == .none || (L.grp g).tq.mode == .tracking then L
  else L.polarity g (nearer s.injAngle s.consAngle)

/-! ### The decision tick and the exchange -/

/-- Steps 2 to 5 of the angle unit in a decision tick. (Log entry 54: DEDUCED) -/
def Lane.anTick (L : Lane) (g : Fin 16) (x : GroupSample) : Lane :=
  let ex := (L.an g).exchanged
  let L := (((L.obsStep g x).injStep g).polPeaks g).showPeers g
  let L := (L.consStep g).consPolarity g
  let L := if ex then (((L.correct g).compare g).returnTimers g).alignTimers g else L.returnTimers g
  let L := (L.confStep g).startStep g
  let L := (L.chooseSource g).hallCheck g
  let L := L.rotorCheck g
  L.updAn g (fun s => { s with exchanged := false })

/-- A sibling estimate that passes 30 µs of elapsed time (R133). -/
def Lane.peerStale (g : Fin 16) (p : Port) (L : Lane) : Lane :=
  let e := L.peer g p
  if e.seen && !e.staleTold && decide (30 / 1000000 < L.peerElapsed p e) then
    let L := L.updAn g (fun s => match p with
      | .N => { s with peerN := { s.peerN with staleTold := true } }
      | .P => { s with peerP := { s.peerP with staleTold := true } })
    (L.raise F.AN_EVENT_PEER_STALE g).bump F.AN_CNT_STALE_CNT g
  else L

/-- The entry of a star in the lane's own angle frame (R132): consensus and none are sent as source 0 and confidence 0. -/
def Lane.angleEntry (L : Lane) (g : Fin 16) : AngleEntry :=
  let s := L.an g
  let src : Nat := match s.source with
    | .injection => 1
    | .observer => 2
    | .encoder => 3
    | .none => 0
    | .consensus => 0
  { angle := s.angle, speed := f32of s.speed, conf := s.selConf,
    flags := src + 4 * b2n s.polOk + 8 * b2n ((L.grp g).tq.mode != .tracking) }

/-- A star's estimates taken from an accepted angle frame. -/
def PeerS.take (e : AngleEntry) (age arrival : Nat) : PeerS :=
  { angle := e.angle % 65536, speed := e.speed, conf := e.conf % 256, flags := e.flags % 256, age := age, arrival := arrival, seen := true,
    staleTold := false }

/-! ### Agreement of the feedback speeds (R215) -/

/-- The sibling speeds that R215 takes: usable, and from an encoder. -/
def Lane.encSpeeds (L : Lane) (f : Fin 16) : List Rat :=
  [Port.N, Port.P].filterMap (fun p =>
    if L.peerUsable f p && (L.peer f p).flags % 4 == 3 then some (f32val (L.peer f p).speed) else none)

/-- The agreement check of R215, at the first decision tick after an exchange tick. -/
def Lane.fbAgreement (L : Lane) (f : Fin 16) : Lane :=
  if !(L.fbOn f) || !(L.fb f).valid || (L.fb f).fault then L else
  let w := (L.fb f).speed
  let win := L.disagWin f
  let near (a b : Rat) : Bool := decide (absR (a - b) ≤ win)
  match L.encSpeeds f with
  | [a, b] =>
    if !(near w a) && !(near w b) && near a b then
      let L := L.updFb f (fun s => { s with disRun := s.disRun + 1 })
      L.when (decide (L.fld1 F.FB_DISN_DIS_N f ≤ (L.fb f).disRun)) (fun L =>
        ((L.raise F.FB_EVENT_DISAGREE f).bump F.FB_CNT1_DISAG_CNT f).fbFault f)
    else L.updFb f (fun s => { s with disRun := 0 })
  | [a] =>
    if near w a then L.updFb f (fun s => { s with disRun := 0 })
    else (L.raise F.FB_EVENT_PAIR_DISAGREE f).bump F.FB_CNT1_DISAG_CNT f
  | _ => L.updFb f (fun s => { s with disRun := 0 })

end Sys2Proof.Machine
end

