-- ==== Sys2Proof/Machine/LegGen.lean ====
section
/-! DEFINITION. The leg generator and the gate layer of the envelope guards (R141 to R170, R236), the chopper, the DC-link ladder and
undervoltage (R171 to R182). -/

namespace Sys2Proof.Machine

/-! ### Switching-node sense (R156 to R160) -/

/-- A time lies in the cycle that runs now. -/
def Lane.thisCycle (L : Lane) (t : Nat) : Bool := t / 8 == L.now / 8

/-- A chopper fault (R175): the chopper is held off until Bench. -/
def Lane.chopFault (L : Lane) (g : Fin 16) (cause : Nat) : Lane :=
  if (L.grp g).ch.fault then L
  else ((L.updCh g (fun s => { s with fault := true, cause := cause })).legKOff g).raise F.LG_CH_EVENT_CHOP_FAULT g

/-- The adaptation of a dead time on a natural edge above IZC (R156). -/
def Lane.adapt (L : Lane) (g : Fin 16) (k : Fin 4) (rising : Bool) (m : Nat) : Lane :=
  let zc := L.dtZc g
  let t := m + L.fld F.LG_DTADP_MARGIN g
  let L := L.when (decide (zc < t)) (·.raise F.LG_EVENT_DT_CEIL g)
  let t := min t zc
  let dt := clampN (L.dtMin g) zc (if rising then (L.leg g k).dtR else (L.leg g k).dtF)
  let dt' := if dt < t then min t (dt + L.fld1 F.LG_DTADP_UP g) else max (max t (dt - L.fld1 F.LG_DTADP_DOWN g)) (L.dtMin g)
  let L := L.updLeg g k (fun s => { s with dtWas := if L.thisCycle s.dtAt then s.dtWas else (s.dtR, s.dtF), dtAt := L.now })
  L.updLeg g k (fun s => if rising then { s with dtR := dt' } else { s with dtF := dt' })

/-- What LG_SENSE shows of an edge: its class, its direction, and the time of a natural one. -/
def Lane.senseShow (L : Lane) (g : Fin 16) (k : Fin 4) (rising : Bool) (cls m : Nat) : Lane :=
  ((L.setFld F.LG_SENSE_CLASS cls g k).setFld F.LG_SENSE_DIR (b2n rising) g k).setFld F.LG_SENSE_M m g k

/-- A checked edge that was silent (R159, R160, R175). -/
def Lane.silentEdge (L : Lane) (g : Fin 16) (k : Fin 4) : Lane :=
  let L := L.updLeg g k (fun s => { s with silent := true, silentRun := s.silentRun + 1, goodRun := 0 })
  let L := (L.raise F.LG_EVENT_SILENT g).bump F.LG_CNT1_SILENT g
  if (L.leg g k).silentRun < L.fld1 F.LG_SIL_SIL_N g then L
  else if k = 3 then L.chopFault g 2
  else ((L.updLeg g k (fun s => { s with fault := true })).raise F.LG_EVENT_LEG_FAULT g).isolate g

/-- A checked edge that was not (R159). -/
def Lane.goodEdge (L : Lane) (g : Fin 16) (k : Fin 4) : Lane :=
  L.updLeg g k (fun s =>
    { s with silentRun := 0, goodRun := s.goodRun + 1, silent := s.silent && decide (s.goodRun + 1 < L.fld1 F.LG_SIL_SIL_CLR g) })

/-- An edge whose incoming command rose is classed, and adapts the dead time where it is natural and above IZC (R156, R159). -/
def Lane.judgeEdge (L : Lane) (g : Fin 16) (k : Fin 4) (e : LegEdge) (cross : Option Nat) : Lane :=
  let L := L.updLeg g k (fun s => { s with edges := s.edges.filter (fun x => decide (x ≠ e)) })
  if !((L.lg g).gen && L.sy.permit && decide (L.vsilMin g ≤ L.vdc g)) then L.senseShow g k e.rising 3 0 else
  match cross.map (fun c => c - L.fld F.LG_DTADP_SNS_COMP g) with
  | none => (L.senseShow g k e.rising 2 0).silentEdge g k
  | some m =>
    if m < e.dt then
      let L := L.senseShow g k e.rising 0 (min m 0xFFFF)
      let above := decide (L.izc g ≤ absR (L.fastAt g k e.fell))
      (L.when (k != 3 && L.flag F.LG_CTRL_ADAPT g && above) (·.adapt g k e.rising m)).goodEdge g k
    else if m ≤ e.dt + L.tsil g then (L.senseShow g k e.rising 1 0).goodEdge g k
    else (L.senseShow g k e.rising 2 0).silentEdge g k

/-- The edges that the sense showed before their incoming commands rose are judged as these rise (R159), the older first. -/
def Lane.judgeSeen (L : Lane) (g : Fin 16) (k : Fin 4) : Lane :=
  (L.leg g k).edges.reverse.foldl (fun (L : Lane) e => match e.seen with
    | none => L
    | some x => if e.fell + e.dt ≤ L.now then L.judgeEdge g k e x else L) L

/-! ### Changes in time -/

/-- What a leg does next: its planned change or, with none planned, its deferred one once MINPULSE has passed (R154); a held one as soon as a
token is back (`true`). -/
def LegS.next (s : LegS) (minPulse back : Nat) : Option (Nat × LegCmd × Bool) :=
  let p : Option (Nat × LegCmd × Bool) := match s.plan with
    | e :: _ => some (e.1, e.2, false)
    | [] => s.defer.map (fun c => (s.onAt + minPulse, c, false))
  match s.held, p with
  | none, p => p
  | some c, none => some (back, c, true)
  | some c, some q => if back < q.1 then some (back, c, true) else some q

/-- The changes of a leg that are due, in their order, at most so many. -/
def Lane.legSettleN (g : Fin 16) (k : Fin 4) : Nat → Lane → Lane
  | 0, L => L
  | n + 1, L =>
    let s := L.leg g k
    match s.next (L.minPulse g) (s.tokenAt + L.tokenInt g) with
    | none => L
    | some (t, c, released) =>
      if L.now < t then L
      else if released then legSettleN g k n ((L.tokens g k t).legChange g k c t)
      else
        let L := L.updLeg g k (fun s => match s.plan with
          | _ :: p => { s with plan := p }
          | [] => { s with defer := none })
        legSettleN g k n (L.legRequest g k c t)

/-- A leg brought up to now, with the edges whose commands have risen judged, and the four legs of a group. -/
def Lane.legSettle (L : Lane) (g : Fin 16) (k : Fin 4) : Lane := (Lane.legSettleN g k 8 L).judgeSeen g k
def Lane.legsSettle (L : Lane) (g : Fin 16) : Lane := (List.finRange 4).foldl (fun (L : Lane) k => L.legSettle g k) L

/-- A leg's changes from now on. -/
def Lane.legPlan (L : Lane) (g : Fin 16) (k : Fin 4) (p : List (Nat × LegCmd)) : Lane :=
  (L.updLeg g k (fun s => { s with plan := p, defer := none })).legSettle g k

/-- A request for a leg's state at time `t` to come, under the MINPULSE rule of R154: a change for which the incoming switch has not been on long
enough is deferred; one that asks for the state the leg then has cancels a deferred or held change. A deferred change takes effect in its own step where
that comes before the deferral check, 0.35 µs before `t`, or before `t` with the same state asked for. -/
def Lane.legAsk (L : Lane) (g : Fin 16) (k : Fin 4) (c : LegCmd) (t : Nat) : Lane :=
  let L := (L.legSettle g k).updLeg g k (fun s => match s.defer with
    | none => s
    | some d =>
      let step := s.onAt + L.minPulse g
      if s.plan = [] ∧ (step + 560 ≤ t ∨ (d = c ∧ step < t)) then { s with plan := [(step, d)], defer := none } else s)
  let s := L.leg g k
  if s.at t = c then L.updLeg g k (fun s => { s with defer := none, held := none })
  else if s.held = some c then L
  else
    let onAt := match s.plan.getLast? with
      | none => s.onAt
      | some e => e.1 + L.deadTime g k e.2 e.1
    if s.cmd = .off ∨ onAt + L.minPulse g ≤ t then L.updLeg g k (fun s => { s with plan := s.plan ++ [(t, c)], defer := none })
    else
      let L := L.updLeg g k (fun s => { s with defer := some c })
      L.when (k != 3 && s.defer != some c) (·.raise F.LG_EVENT_DEFER g)

/-- A deferred change takes effect at the first step at which MINPULSE has passed (R154). -/
def Lane.deferredLegChange (g : Fin 16) (k : Fin 4) (L : Lane) : Lane := L.legSettle g k

/-- A token returns and releases a held change (R236). -/
def Lane.switchTokenReturn (g : Fin 16) (k : Fin 4) (L : Lane) : Lane := (L.legSettle g k).tokens g k L.now

/-- A request for both commands of a leg (R161): both low until the next request that is not of that kind. -/
def Lane.illegal (L : Lane) (g : Fin 16) (k : Fin 4) : Lane :=
  ((L.legOff g k).updLeg g k (fun s => { s with illegal := true })).illegalTell g k

/-- The requests of that kind of a tick or period, one bit per leg. -/
def Lane.illegalLegs (L : Lane) (g : Fin 16) (bits : Nat) : Lane :=
  (List.finRange 4).foldl (fun (L : Lane) (k : Fin 4) => if bit bits k then L.illegal g k else L.updLeg g k (fun s => { s with illegal := false })) L

/-- Both commands of a leg high at the input of the envelope guards put the group off (R236). -/
def Lane.bothOn (L : Lane) (g : Fin 16) (b : Bool) : Lane := if b then L.groupOff g true else L

/-- Legs U, V and W follow their source: row 0 of R164, past the 2.0 µs after the gate enable rose (R167). -/
def Lane.legsRun (L : Lane) (g : Fin 16) : Bool := L.outState g == 0 && !(L.lg g).genHold

/-- The start sequence drives the legs in place of the engine (R139, R142). -/
def Lane.startDrives (L : Lane) (g : Fin 16) : Bool :=
  (L.an g).starting && !(L.srcDuty g) && (L.lg g).gen && !(L.lg g).tripHold && (L.lg g).iso == .none

/-- A leg is driven, or has a change to come. -/
def LegS.busy (s : LegS) : Bool := s.cmd != .off || !s.plan.isEmpty || s.defer.isSome || s.held.isSome

/-- Nothing is carried over in a trip hold, an isolation state or, with the engine as source, its tracking state (R153).
(Log entry 156: DEDUCED) -/
def Lane.noCarry (L : Lane) (g : Fin 16) : Bool :=
  (L.lg g).tripHold || (L.lg g).iso != .none || (!(L.srcDuty g) && (L.grp g).tq.mode == .tracking)

/-- Legs that row 1 of R164 holds low are so, however they came to be driven (R60, R97); RUN 0 alone keeps their carry (R153). -/
def Lane.restLegs (L : Lane) (g : Fin 16) : Lane :=
  L.when (L.outState g == 1 && !(L.startDrives g) && ([0, 1, 2] : List (Fin 4)).any (fun k => (L.leg g k).busy)) (fun L =>
    (L.legsStop g).when (L.noCarry g) (·.dropCarry g))

/-- Table mode: each leg is asked for the state of the vector, 1.200 µs after the tick start (R154). -/
def Lane.tableLegs (L : Lane) (g : Fin 16) : Lane :=
  if !(L.legsRun g) || (L.grp g).tq.mode != .table || L.srcDuty g then L else
  let v := vectorLegs (L.grp g).tq.vector
  let ask (L : Lane) (k : Fin 4) : Lane :=
    if (L.leg g k).illegal then L else L.legAsk g k (if bit v k then .high else .low) (L.now + 1920)
  ask (ask (ask L 0) 1) 2

/-- The time commanded high in the tick that ends now (R158). -/
def Lane.closeTick (L : Lane) (g : Fin 16) : Lane :=
  let close (s : LegS) : LegS := { s with highLast := min (s.highTime L.now) 4000, highAcc := 0, highFrom := L.now }
  ((L.updLeg g 0 close).updLeg g 1 close).updLeg g 2 close

/-- 2.0 µs after the gate enable rose the legs take their first commands (R167). -/
def Lane.genHoldEnd (g : Fin 16) (L : Lane) : Lane :=
  if (L.lg g).genHold && decide ((L.lg g).genAt + us 2 ≤ L.now) then L.updLg g (fun s => { s with genHold := false }) else L

/-! ### The carrier period -/

/-- The period in use (R150): the committed one, or 12,500 cycles where QCAP asks for more. -/
def LgS.active (s : LgS) : Nat := if s.qcap && decide (s.period < 12500) then 12500 else s.period

/-- The duties of a reference vector and a DC-link voltage (R145). -/
def dutiesOf (v : Rat × Rat) (vdc : Rat) : List Nat :=
  if vdc < 1 then [0x8000, 0x8000, 0x8000] else
  let a := v.1
  let b := -v.1 / 2 + sqrt3R / 2 * v.2
  let c := -v.1 / 2 - sqrt3R / 2 * v.2
  let off := -(maxR a (maxR b c) + minR a (minR b c)) / 2
  [a, b, c].map (fun x => (roundR (clampR 0 1 (1 / 2 + (x + off) / vdc) * 65535)).toNat)

/-- The requested high width of a duty (R144), halves up. -/
def widthOf (duty period : Nat) : Nat := (2 * duty * (8 * period) + 65535) / (2 * 65535)

/-- The limits of R151 for a leg: T_H, and Λ. -/
def Lane.pulseLimits (L : Lane) (g : Fin 16) (k : Fin 4) (high : Bool) : Nat × Nat :=
  let m := L.minPulse g
  let th := L.adaptedDt g k .high L.now + m
  let tl := L.adaptedDt g k .low L.now + m
  (th, if high then tl + 480 else max tl 480)

def shortHigh (th : Nat) (x : Int) : Bool := decide (0 < x) && decide (x < th)
def shortLow (full lam : Nat) (x : Int) : Bool := decide (x < full) && decide (0 < (full : Int) - x) && decide ((full : Int) - x < 2 * lam)

/-- The emitted width and the carry (R152), and whether the pulse was short. -/
def emitted (policy duty full th lam : Nat) (w : Nat) (acc : Int) : Nat × Int × Bool :=
  if duty = 0 ∨ duty = 65535 then (w, 0, false)
  else if policy = 0 then
    let x0 : Int := w + acc
    let r1 : Int × Int := if x0 < 0 then (0, x0) else if (full : Int) < x0 then ((full : Int), x0 - full) else (x0, 0)
    if shortHigh th r1.1 then (0, r1.2 + r1.1, true)
    else if shortLow full lam r1.1 then (full, r1.2 - (full - r1.1), true)
    else (r1.1.toNat, r1.2, false)
  else
    let sh := shortHigh th w
    let sl := shortLow full lam w
    let x : Nat := if policy = 1 then (if sh then th else if sl then full - 2 * lam else w) else (if sh then 0 else if sl then full else w)
    (x, acc, sh || sl)

/-- One leg's width, policy and edges at a period start (R144, R151, R152, R169 steps 7 and 8), with the carry that R153 keeps.
(Log entry 58: DEDUCED) -/
def Lane.legPeriod (L : Lane) (g : Fin 16) (k : Fin 4) (duty : Nat) (drive : Bool) : Lane :=
  let full := 8 * (L.lg g).active
  let here := (L.leg g k).cmd
  let high := here == .high
  let lim := L.pulseLimits g k high
  let r := emitted (L.policy g) duty full lim.1 lim.2 (widthOf duty (L.lg g).active) (L.leg g k).acc
  let L := L.when r.2.2 (fun L => (L.raise F.LG_EVENT_SHORT_PULSE g).bump F.LG_CNT0_SHORT g)
  let L := (L.setFld F.LG_DUTY_ACT_DUTY duty g k).setFld F.LG_WIDTH_X r.1 g k
  let idle := L.noCarry g
  let L := L.updLeg g k (fun s => { s with acc := if idle then 0 else r.2.1 })
  if !drive || (L.leg g k).illegal then L else
  let x := r.1
  let on := L.now + (full - x) / 2
  let first : List (Nat × LegCmd) := match here with
    | .high => [(L.now + 480, .low)]
    | .off => [(L.now, .low)]
    | .low => []
    | .both => []
  if x = full then L.legPlan g k (if high then [] else [(L.now, .high)])
  else if x = 0 then L.legPlan g k first
  else L.legPlan g k (first ++ [(on, .high), (on + x, .low)])

/-- The commit phase at a period start (R147): a change of NM1 sets it to 0. -/
def Lane.commitPhase (L : Lane) (g : Fin 16) : Lane :=
  let nm1 := L.fld F.LG_CTRL_NM1 g
  L.updLg g (fun s => if nm1 ≠ s.nm1 then { s with nm1 := nm1, phase := 0 } else { s with phase := (s.phase + 1) % (s.nm1 + 1) })

/-- The shadow period and duties that a commit point takes: what they held before a write of its own cycle (R170). -/
def Lane.shadows (L : Lane) (g : Fin 16) : Nat × List Nat :=
  let s := L.lg g
  match s.shadowAt with
  | some t => if L.thisCycle t then s.shadowWas else (L.shadowPeriod g, (List.range 3).map (fun k => L.fld F.LG_DUTY_DUTY g k))
  | none => (L.shadowPeriod g, (List.range 3).map (fun k => L.fld F.LG_DUTY_DUTY g k))

/-- A write of a shadow register is about to be made. -/
def Lane.shadowNote (L : Lane) (g : Fin 16) : Lane :=
  let w := L.shadows g
  L.updLg g (fun s => { s with shadowAt := some L.now, shadowWas := w })

/-- The pending commit at a commit point (R146, R148, R149); one made in its own cycle waits for the next (R170). -/
def Lane.commitPoint (L : Lane) (g : Fin 16) : Lane :=
  let s := L.lg g
  if !(s.commit && s.phase == 0) || L.thisCycle s.commitAt then L else
  let p := (L.shadows g).1
  let d := (L.shadows g).2
  if 8 * p < 3 * (L.dtZc g + L.minPulse g) + 960 then
    (L.updLg g (fun s => { s with commit := false })).raise F.LG_EVENT_PERIOD_REJ g
  else
    let only := decide (({ s with period := p }).active ≠ s.active) && decide (d = s.duty) && L.srcDuty g
    let L := (L.updLg g (fun s => { s with commit := false, period := p, duty := d })).raise F.LG_EVENT_COMMIT_DONE g
    L.when only (fun L => (L.raise F.LG_EVENT_PERIOD_ONLY g).bump F.LG_CNT0_PERIOD_ONLY g)

/-- A handover that is due takes effect (R114, R115): the legs keep their states; toward table mode it is told with the first tick of that
mode. -/
def Lane.handover (L : Lane) (g : Fin 16) : Lane :=
  let s := (L.grp g).tq
  if s.mode = .tracking ∨ s.mode = s.wantMode then L else
  let hold (l : LegS) : LegS := { l with plan := [], defer := none, held := none, acc := 0 }
  let L := ((L.updLeg g 0 hold).updLeg g 1 hold).updLeg g 2 hold
  let table := s.wantMode == .table
  let L := L.updTq g (fun s => { s with mode := s.wantMode, handAt := L.now, fluxPend := table, fluxRampAt := none })
  if table then L else (L.raise F.TQ_EVENT_HANDOVER g).tally 11 g

/-- A carrier period of a group starts, once the one before is over (R143); the events take effect in the order of R169. `clocks` brings the bits
captured up to it, with the vDC sample it latches, `illegal` the legs whose stages made an illegal request. (Log entry 4: DESIGN CHOICE) -/
def Lane.carrierPeriodStart (g : Fin 16) (clocks : List Nat) (illegal : Nat) (L : Lane) : Lane :=
  if !(L.flag F.LG_CTRL_RUN g) || !(L.lg g).running || decide (L.now < (L.lg g).nextAt) then L else
  let L := (L.takeClocks g clocks).legsSettle g
  let L := (L.updLg g (fun s => { s with periodAt := L.now })).commitPhase g
  let L := L.commitPoint g
  let L := L.updLg g (fun s => { s with qcap := L.flag F.LG_CTRL_QCAP g })
  let L := L.setFld F.LG_PERIOD_ACT_VAL (L.lg g).active g
  let L := L.updLg g (fun s => { s with nextAt := L.now + 8 * s.active })
  let L := L.when ((L.lg g).tripEnd && (L.grp g).tq.mode != .table) (·.updLg g (fun s => { s with tripHold := false, tripEnd := false }))
  let L := L.handover g
  let L := L.updAn g (fun s => { s with injRun := s.injRun && L.injWanted g })
  let L := L.illegalLegs g illegal
  let tq := (L.grp g).tq
  let v := L.sdValue g 3 (L.sinc3 g 3)
  let starts := L.startDrives g
  let duties := if L.srcDuty g then (L.lg g).duty
    else if starts then dutiesOf (L.injVector g) v
    else if tq.mode = .carrier then dutiesOf (L.reference g) v
    else (List.range 3).map (fun k => L.fld F.LG_DUTY_ACT_DUTY g k)
  let drive := (L.legsRun g || (starts && !(L.lg g).genHold)) && (L.srcDuty g || tq.mode != .table)
  if !(L.srcDuty g) && !starts && tq.mode != .carrier then L else
  let L := L.legPeriod g 0 (duties.getD 0 0) drive
  let L := L.legPeriod g 1 (duties.getD 1 0) drive
  L.legPeriod g 2 (duties.getD 2 0) drive

/-- LG_CMD.COMMIT makes a commit pending (R146). -/
def Lane.lgCommit (g : Fin 16) (L : Lane) : Lane :=
  if (L.lg g).commit then L else L.updLg g (fun s => { s with commit := true, commitAt := L.now })

/-! ### Trips -/

/-- LG_CMD.TRIP_CLR (R166): ignored while a comparator is set; the hold ends at the next period start, or decision tick in table mode. -/
def Lane.tripClr (g : Fin 16) (L : Lane) : Lane :=
  if (L.lg g).tripHold && (L.grp g).sd.oc == 0 then L.updLg g (fun s => { s with tripEnd := true, tripClrAt := L.now }) else L

/-! ### A sense edge -/

/-- A sense edge of a leg (R156, R159, R160): `cross` is the time from the fall of the outgoing command to the first crossing of the node
in the edge's direction, in 625 ps units. It belongs to the newest state change in that direction that is still to be judged; an edge that ended in
its dead time, or a turn-off, left none. One whose incoming command is still to rise is judged as it rises. -/
def Lane.switchingNodeEdge (g : Fin 16) (k : Fin 4) (rising : Bool) (cross : Option Nat) (clocks : List Nat) (L : Lane) : Lane :=
  let L := (L.takeClocks g clocks).legSettle g k
  match (L.leg g k).edges.find? (fun e => e.rising == rising && e.seen.isNone) with
  | none => L.senseShow g k rising 3 0
  | some e =>
    if L.now < e.fell + e.dt then
      L.updLeg g k (fun s => { s with edges := s.edges.map (fun x => if x = e then { x with seen := some cross } else x) })
    else L.judgeEdge g k e cross

/-! ### Chopper and DC link (R171 to R182) -/

/-- Leg K is held with both commands low (R171, R182). -/
def Lane.chopHeld (L : Lane) (g : Fin 16) : Bool :=
  !(L.chAuto g) || (L.grp g).ch.fault || (L.grp g).ch.hot || (L.lg g).tripHold || (L.lg g).iso != .none || L.chParam g || !(L.lg g).gen
    || (L.lg g).genHold

/-- The chopper is on: leg K's low command is high (R171). -/
def Lane.chopOn (L : Lane) (g : Fin 16) : Bool := (L.leg g 3).cmd == .low && decide ((L.leg g 3).onAt ≤ L.now)

/-- Leg K follows what holds it low. -/
def Lane.chopFollow (L : Lane) (g : Fin 16) : Lane :=
  L.when (L.chopHeld g && ((L.leg g 3).busy || (L.grp g).ch.on)) (·.legKOff g)

/-- The chopper's decision of a tick (R172), at leg K under the MINPULSE rule; a leg with an illegal request stays low (R161). -/
def Lane.chopDecide (L : Lane) (g : Fin 16) : Lane :=
  if L.chopHeld g then L.chopFollow g
  else
    let v := L.vdc g
    let on := if L.f32 F.LG_CH_VON g < v then true else if v < L.f32 F.LG_CH_VOFF g then false else (L.grp g).ch.on
    let L := L.updCh g (fun s => { s with on := on })
    if (L.leg g 3).illegal then L else L.legAsk g 3 (if on then .low else .high) (L.now + 1920)

/-- The resistor's energy (R173). -/
def Lane.chopEnergy (L : Lane) (g : Fin 16) : Lane :=
  let v := L.vdc g
  let s := (L.grp g).ch
  let up := if L.chopOn g && f32pos (L.word F.LG_CH_RCH g) then v * v / L.f32 F.LG_CH_RCH g * ts else 0
  let e := maxR 0 (s.energy + up - L.pcont g * ts)
  let emax := L.f32 F.LG_CH_EMAX g
  let valid := f32pos (L.word F.LG_CH_EMAX g)
  let hot := if s.hot then !(decide (e < emax / 2)) else valid && decide (emax ≤ e)
  let L := L.updCh g (fun s => { s with energy := e, hot := hot })
  let L := L.when (hot && !s.hot) (fun L => (L.raise F.LG_CH_EVENT_HOT g).legKOff g)
  L.setF32 F.LG_CH_E e g

/-- The rise check of R175. -/
def Lane.chopRise (L : Lane) (g : Fin 16) : Lane :=
  let n := L.fldIn F.LG_CH_TRISE_TRISE 25 10000 g * 2 / 5
  let s := (L.grp g).ch
  let v := L.vdc g
  let long := L.chopOn g && decide ((L.leg g 3).onAt + n * 4000 ≤ L.now)
  let old := s.vHist.getD (n - 1) v
  let L := L.updCh g (fun s => { s with vHist := (v :: s.vHist).take n })
  L.when (long && decide (L.dvRise g < v - old)) (fun L => L.chopFault g 1)

/-- The regeneration clamp of R177, step 2, which a delivered vDC starts (R186). (Log entry 152: DEDUCED) -/
def Lane.regenClamp (L : Lane) (g : Fin 16) : Lane :=
  let v := L.vdc g
  let was := (L.grp g).ch.clamp
  let on := if was then !(decide (v < L.f32 F.LG_CH_VON g)) else L.sdGood g && decide (L.f32 F.LG_CH_VOV1 g ≤ v)
  let L := L.updCh g (fun s => { s with clamp := on })
  L.when (on && !was) (fun L => (L.raise F.LG_CH_EVENT_CLAMP g).bump F.LG_CH_CNT_CLAMP_CNT g)

/-- Undervoltage at a tick start (R180): it is judged to stand only while the gate enable is high (R181), and clears at the first tick at which
vDC has reached VUV. -/
def Lane.underVoltage (L : Lane) (g : Fin 16) : Lane :=
  let below := decide (L.vdc g < L.f32 F.LG_CH_VUV g)
  let was := (L.grp g).ch.uv
  let low := below && (was || (L.lg g).gen)
  let L := L.updCh g (fun s => { s with uv := low })
  L.when (low && !was) (fun L => (L.raise F.LG_CH_EVENT_UV_EVENT g).bump F.LG_CH_CNT_UV_CNT g)

/-- The isolation state at a tick (R178): all-off becomes active short once the back-EMF reaches the crossover. The low switches of an
active short turn on past the 2.0 µs after the gate enable rose (R164, R167). -/
def Lane.isoChoice (L : Lane) (g : Fin 16) : Lane :=
  let L := L.when ((L.lg g).iso == .allOff && L.backEmf g) (·.updLg g (fun s => { s with iso := .short }))
  let on := (L.lg g).iso == .short && (L.lg g).gen && !(L.lg g).genHold
  L.when (on && ([0, 1, 2] : List (Fin 4)).any (fun k => (L.leg g k).cmd != .low)) (·.legsLow g)

/-- Fast-path vDC at or above VOV2 or VOV3 for OV_QUAL (R177, steps 3 and 4). (Log entry 4: DESIGN CHOICE) -/
def Lane.ovQualified (g : Fin 16) (third : Bool) (clocks : List Nat) (L : Lane) : Lane :=
  let L := L.takeClocks g clocks
  if !(L.fastFor g (if third then 2 else 1) (800 * L.ovQual g)) then L
  else if third then
    if (L.lg g).iso == .groupOff then L
    else ((L.updCh g (fun s => { s with step := 3 })).raise F.LG_CH_EVENT_GROUP_OFF g).groupOff g false
  else if (L.grp g).tq.isolated then L
  else ((L.updCh g (fun s => { s with step := max 2 s.step })).raise F.LG_CH_EVENT_OV_ISO g).isolate g

/-- Fast-path vDC below VUV_TRIP for UV_T while the gate enable is high (R181). (Log entry 4: DESIGN CHOICE) -/
def Lane.undervoltageTrip (g : Fin 16) (clocks : List Nat) (L : Lane) : Lane :=
  let L := L.takeClocks g clocks
  let n := 160000 * L.uvT g
  if !(L.lg g).gen || (L.grp g).tq.isolated || !(L.fastFor g 0 n) || decide (L.now < (L.lg g).genAt + n) then L
  else (L.raise F.LG_CH_EVENT_UV_ISO g).isolate g

/-! ### Gate-layer guards on sinc2 values (R236) -/

/-- Overcurrent of the envelope guards: sinc2 magnitudes of the three phases at a modulator clock (R236). (Log entry 40: DEDUCED) -/
def Lane.egOvercurrent (g : Fin 16) (clocks : List Nat) (L : Lane) : Lane :=
  let L := L.takeClocks g clocks
  let lim := L.f32 F.EG_OC g
  if L.sdRuns g && f32pos (L.word F.EG_OC g) && [0, 1, 2].any (fun k => decide (lim ≤ absR (L.fast g k))) then L.groupOff g true else L

/-- DC-link overvoltage of the envelope guards: the fast-path vDC at or above EG_OV for 1.0 µs (R236). (Log entry 40: DEDUCED) -/
def Lane.egOvervoltage (g : Fin 16) (clocks : List Nat) (L : Lane) : Lane :=
  let L := L.takeClocks g clocks
  if L.sdRuns g && f32pos (L.word F.EG_OV g) && L.fastFor g 3 (us 1) then L.groupOff g true else L

end Sys2Proof.Machine
end

