-- ==== Sys2Proof/Machine/Sensing.lean ====
section
/-! DEFINITION. Current and voltage sensing: the sigma-delta channels, the overcurrent trip and the channel diagnostics (R183 to R191),
and the decision tick that runs over all sixteen groups (R94, R219 and the order tables of the drive chapters). -/

namespace Sys2Proof.Machine

/-- A rise of SD_CTRL.ENABLE: the filters settle from here (R186). -/
def Lane.sdStart (L : Lane) (g : Fin 16) : Lane :=
  L.updSd g (fun s => { s with settling := true, enabledAt := L.now, sumRun := 0, hist := [], taken := 0, runs := [0, 0, 0, 0],
                               since := [none, none, none, none] })

/-- 3M modulator clocks after ENABLE rose the filters have settled (R186). -/
def Lane.settlingEnd (g : Fin 16) (L : Lane) : Lane :=
  if (L.grp g).sd.settling && L.flag F.SD_CTRL_ENABLE g && decide ((L.grp g).sd.enabledAt + 3 * L.sdM g * L.sdDiv g * 8 ≤ L.now)
  then (L.updSd g (fun s => { s with settling := false })).genUpdate g else L

/-- Latching the sinc3 values of a tick (R184, R185), with the clip and phase-sum checks that run once the channels have settled (R191). Values are
not delivered while a parameter is bad (R186), and no sum is formed over a scale that is not finite. (Log entry 157: DEDUCED) -/
def Lane.sdLatch (L : Lane) (g : Fin 16) : Lane :=
  if (L.grp g).sd.settling || !(L.flag F.SD_CTRL_ENABLE g) then L else
  let xs := (List.range 4).map (fun k => L.sinc3 g k)
  let vs := (List.range 4).map (fun k => L.sdValue g k (xs.getD k 0))
  let L := L.when (!(L.sdParam g)) (fun L =>
    (List.range 4).foldl (fun (L : Lane) k => L.setF32 F.SD_VAL3 (vs.getD k 0) g k) (L.updSd g (fun s => { s with val3 := vs })))
  let clips := xs.filter (fun x => decide ((98 : Rat) / 100 ≤ absR x))
  let L := clips.foldl (fun (L : Lane) _ => ((L.raise F.SD_EVENT_CLIP g).bump F.SD_CNT_CLIP_CNT g).tally 13 (16 + g)) L
  let lim := L.sumLim g
  let finite := (List.range 3).all (fun k => f32finite (L.word F.SD_SCALE g k))
  let exceeds := finite && decide (lim ≠ 0) && decide (lim < absR (vs.getD 0 0 + vs.getD 1 0 + vs.getD 2 0))
  let n := if exceeds then (L.grp g).sd.sumRun + 1 else 0
  let fire := exceeds && n == L.sumN g
  let L := L.updSd g (fun s => { s with sumRun := n })
  L.when fire (fun L => (L.raise F.SD_EVENT_SUM_FAULT g).isolate g)

/-- The bits of the three phases up to a modulator clock at which a comparator of R187 may stand; what each clock does is `Lane.comparators`. -/
def Lane.overcurrentTrip (g : Fin 16) (clocks : List Nat) (L : Lane) : Lane := L.takeClocks g clocks

/-- 128 equal bits on a channel (R191): a current channel isolates the star, the vDC channel puts the group off. -/
def Lane.channelStuck (g : Fin 16) (c : Fin 4) (clocks : List Nat) (L : Lane) : Lane :=
  let L := L.takeClocks g clocks
  if (L.grp g).sd.settling || !(L.sdRuns g) || bit (L.grp g).sd.chfault c || decide ((L.grp g).sd.runs.getD c 0 < 128) then L else
  let L := (L.updSd g (fun s => { s with chfault := putBit s.chfault c true })).raise F.SD_EVENT_CHFAULT g
  if c = 3 then L.groupOff g false else L.isolate g

/-- The applied volt-seconds of a tick as LG_VS shows them (R158). -/
def Lane.showVs (L : Lane) (g : Fin 16) (x : GroupSample) : Lane :=
  (List.finRange 3).foldl (fun (L : Lane) (k : Fin 3) =>
    let leg := L.leg g ⟨k.val, by omega⟩
    L.setFld F.LG_VS_VAL (if leg.silent then leg.highLast else x.high.getD k 0) g k) L

/-- PARAM_ERR marks each rise of TQ_STATUS.PARAM after it was clear. -/
def Lane.paramEdge (L : Lane) (g : Fin 16) : Lane :=
  let p := L.tqParam g
  let was := (L.grp g).tq.paramWas
  (L.updTq g (fun s => { s with paramWas := p })).when (p && !was) (·.raise F.TQ_EVENT_PARAM_ERR g)

/-- The state of the engine at a tick start (R97, R113, R122): tracking while it may not drive, else its mode. A trip hold
that was cleared ends here, so that driving resumes with this tick in table mode and with the next period in carrier mode (R166). -/
def Lane.engineState (L : Lane) (g : Fin 16) : Lane :=
  let L := L.when ((L.lg g).tripEnd && !(L.srcDuty g)) (·.updLg g (fun s => { s with tripHold := false, tripEnd := false }))
  let L := L.startCheck g
  L.modeChoice g

/-- The tallies that count ticks of a group (R375): carrier mode, table mode, consensus, rate clamp, brake ceiling. (Log entry 61: DEDUCED) -/
def Lane.tickTallies (L : Lane) (g : Fin 16) : Lane :=
  let x := L.grp g
  let L := L.when (x.tq.mode == .carrier) (·.tally 11 (16 + g))
  let L := L.when (x.tq.mode == .table) (·.tally 11 (32 + g))
  let L := L.when (x.an.source == .consensus) (·.tally 12 (16 + g))
  let L := L.when x.eg.rateClamp (·.tally 17 (16 + g))
  L.when (L.ceilingOn g) (·.tally 17 (32 + g))

/-- The carrier counter starts at the first decision tick start after RUN is set, with a period (R143). -/
def Lane.carrierStart (L : Lane) (g : Fin 16) : Lane :=
  if L.flag F.LG_CTRL_RUN g && !(L.lg g).running then L.updLg g (fun s => { s with running := true, nextAt := L.now }) else L

/-- A replay slice latches the inputs of its group at the first decision tick that starts in it (R365); whether the recomputed tick agrees with the
unit's outputs is what the end of the slice shows. -/
def Lane.replayLatch (L : Lane) (g : Fin 16) : Lane :=
  { L with st := { L.st with slice := L.st.slice.map (fun x =>
    if L.st.prog == .periodic && replayUnit x.unit && x.group == g.val && x.inputs.isNone then { x with inputs := some (L.grp g) } else x) } }

/-- One decision tick of one group, in the order of R122, R219 and the tables of the torque engine and the angle unit.
(Log entry 61: DEDUCED) -/
def Lane.groupTick (L : Lane) (g : Fin 16) (x : GroupSample) : Lane :=
  let ex := (L.an g).exchanged
  let L := L.replayLatch g
  let L := ((L.takeClocks g x.clocks).legsSettle g).closeTick g
  let L := L.carrierStart g
  let L := (L.paramEdge g).genUpdate g
  let L := (L.sdLatch g).fbTick g
  let L := L.deliverAngle g
  let L := L.when ex (·.fbAgreement g)
  let L := L.showVs g x
  let was := (L.grp g).tq.mode == .tracking
  let L := (L.engineState g).takeLatched g
  let prev := (L.grp g).tq.tHat
  let L := L.estimate g was x
  let L := L.anTick g x
  let L := (L.shareStep g).demandStep g
  let L := L.when ((L.grp g).tq.mode != .tracking) (·.demandBound g)
  let brake := L.kind g == 2
  let L := L.when brake (fun L => (L.brakeVote g).when ((L.grp g).tq.mode != .tracking) (·.ceilingClamp g))
  let L := L.regenClamp g
  let L := ((L.torqueRef g prev).handoverTick g).fluxRef g
  let L := L.tableSelect g
  let L := L.regulate g (L.injVector g)
  let L := (L.illegalLegs g x.illegal).bothOn g x.bothOn
  let L := L.tableLegs g
  let L := ((L.chopDecide g).chopEnergy g).chopRise g
  let L := L.tickTallies g
  ((L.underVoltage g).isoChoice g).restLegs g

/-- A decision tick of a group in Doze (R387): the modulator clocks rest and the engine is held tracking; feedback and angle go on, and so do
the isolation choice (R178), the resistor's energy (R173), the votes (R239) and the share (R119). -/
def Lane.dozeTick (L : Lane) (g : Fin 16) (x : GroupSample) : Lane :=
  let ex := (L.an g).exchanged
  let L := ((L.legsSettle g).closeTick g).carrierStart g
  let L := (L.paramEdge g).fbTick g
  let L := L.deliverAngle g
  let L := (L.when ex (·.fbAgreement g)).showVs g x
  let L := (((L.startStop g).takeLatched g).anTick g x).shareStep g
  let L := L.when (L.kind g == 2) (·.brakeVote g)
  ((L.chopEnergy g).isoChoice g).tickTallies g

/-- Every 500 main-clock cycles all sixteen groups run one decision tick (R94); `xs` holds what is found at their inputs. -/
def Lane.decisionTick (xs : List GroupSample) (L : Lane) : Lane :=
  let zero : GroupSample := { clocks := [], high := [], illegal := 0, bothOn := false }
  let L := { L with ad := { L.ad with tick := L.ad.tick + 1, tickAt := L.now } }
  let doze := L.dozing
  let xs := if L.padsHeld .drive then [] else xs
  L.eachGroup (fun L g => if doze then L.dozeTick g (xs.getD g zero) else L.groupTick g (xs.getD g zero))

end Sys2Proof.Machine
end

