-- ==== Sys2Proof/Machine/SafetyIo.lean ====
section
/-! DEFINITION. The field die as the lane sees it (R25, R26, R220 to R226): the die-to-die link, the field supplies, the safety inputs
with their filters and test pulses. -/

namespace Sys2Proof.Machine

/-- A supply: 0 to 3 are PS[0:3], 4 to 7 are SS[0:3]. -/
def Lane.supply (L : Lane) (s : Fin 8) : SupplyS := L.sf.supplies[s]
def Lane.updSupply (L : Lane) (s : Fin 8) (f : SupplyS → SupplyS) : Lane :=
  { L with sf := { L.sf with supplies := L.sf.supplies.set s (f L.sf.supplies[s]) } }

/-- Its enable bit in SF_CTRL. -/
def Lane.supplyEn (L : Lane) (s : Fin 8) : Bool :=
  if s.val < 4 then bit (L.fld F.SF_CTRL_PS_EN) s else bit (L.fld F.SF_CTRL_SS_EN) (s - 4)

/-- It delivers: enabled, not off after an overload but for a retry, and the die-to-die link up (R26, R220, R222). -/
def Lane.supplyOn (L : Lane) (s : Fin 8) : Bool :=
  L.supplyEn s && (!(L.supply s).off || (L.supply s).trying) && !L.sf.d2dLost && !L.sf.fieldLost

def Lane.input (L : Lane) (i : Fin 16) : InputS := L.sf.inputs[i]
def Lane.updInput (L : Lane) (i : Fin 16) (f : InputS → InputS) : Lane :=
  { L with sf := { L.sf with inputs := L.sf.inputs.set i (f L.sf.inputs[i]) } }

/-- A stop input with the untested source counts as faulty at all times (R224). -/
def Lane.badStop (L : Lane) (i : Fin 16) : Bool := L.inFunc i == 2 && L.inSource i == 4

/-- The filtered state as it acts: forced low while a fault bit stands (R224, R226). -/
def Lane.inLevel (L : Lane) (i : Fin 16) : Bool := (L.input i).filtered && !(L.input i).stuck && !(L.input i).cross && !(L.badStop i)

/-- An active stop input (R224). -/
def Lane.stopActive (L : Lane) (i : Fin 16) : Bool := L.inFunc i == 2 && !(L.inLevel i)

/-- Any stop input of the lane is active. -/
def Lane.anyStop (L : Lane) : Bool := (List.finRange 16).any (fun i => L.stopActive i)

/-- Source 21 reported once for a stop input with the untested source, when the configuration loads (R224). -/
def Lane.badStopReport (L : Lane) : Lane :=
  (List.finRange 16).foldl (fun (L : Lane) (i : Fin 16) => L.when (L.badStop i) (fun L => L.fault 21 i)) L

/-- A change of an input, with the events of a changed level and of a stop that became active. -/
def Lane.inputChange (L : Lane) (i : Fin 16) (f : InputS → InputS) : Lane :=
  let was := L.inLevel i
  let wasStop := L.stopActive i
  let before := (L.input i).filtered
  let L := L.updInput i f
  let L := L.when ((L.input i).filtered != before) (·.tally 16 i)
  let L := L.when (L.inLevel i != was) (·.raise F.SF_EVENT_CHANGE)
  L.when (L.stopActive i && !wasStop) (·.raise F.SF_EVENT_STOP_ACTIVE)

/-- The sample is blanked: in the off-pulse of the input's own supply and the 50 µs after it (R223). -/
def Lane.blanked (L : Lane) (i : Fin 16) : Bool :=
  match L.sf.pulseAt.getD (L.inSource i) none with
  | none => false
  | some t => decide (L.now < t + us 250)

/-- One sample of an input: the filter's count, and the filtered state after FILT × 10 samples at the new level (R223). -/
def Lane.sampleInput (L : Lane) (i : Fin 16) (x : Bool) : Lane :=
  let s := L.input i
  if L.blanked i then L.updInput i (fun s => { s with raw := x })
  else if x = s.filtered then L.updInput i (fun s => { s with raw := x, count := 0 })
  else if L.inFilt i * 10 ≤ s.count + 1 then L.inputChange i (fun s => { s with raw := x, filtered := x, count := 0 })
  else L.updInput i (fun s => { s with raw := x, count := s.count + 1 })

/-- Every 10 µs every safety input is sampled (R223): bit i of `raw` is input i. The wake comparators see the same levels (R397).
(Log entry 35: DEDUCED) -/
def Lane.inputSample (raw : Nat) (L : Lane) : Lane :=
  if L.sf.d2dLost || L.sf.fieldLost then L else
  let see := (List.range 16).map (fun i => if bit raw i then some ((L.pm.inHigh.getD i none).getD L.now) else none)
  let L := { L with pm := { L.pm with inHigh := see } }
  (List.finRange 16).foldl (fun (L : Lane) (i : Fin 16) => L.sampleInput i (bit raw i)) L

/-- The off-pulse of supply `j` is due: device time modulo 20 ms stands at 5 ms × j, and no pulse of it runs (R221). -/
def Lane.pulseDue (L : Lane) (j : Fin 4) : Bool :=
  let d := L.devTime % 20000000
  let since := match L.sf.pulseAt.getD j none with
    | some t => L.now - t
    | none => us 250
  decide (5000000 * j.val ≤ d ∧ d < 5000000 * j.val + 200000 ∧ us 250 ≤ since)

/-- A pulsed supply switches off for 200 µs at its phase of device time (R221); the raw samples before it are kept for the test.
(Log entry 4: DESIGN CHOICE) -/
def Lane.offPulseStart (j : Fin 4) (L : Lane) : Lane :=
  if !(L.pulseDue j) then L else
  let L := { L with sf := { L.sf with pulseAt := L.sf.pulseAt.set j (some L.now), tested := putBit L.sf.tested j false } }
  (List.finRange 16).foldl (fun (L : Lane) (i : Fin 16) => L.updInput i (fun s => { s with before := s.raw })) L

/-- A failed test of an input at an off-pulse of supply `j` (R226): a fail of the other kind ends a run of fails. -/
def Lane.testFail (L : Lane) (i : Fin 16) (j : Nat) (stuck : Bool) : Lane :=
  let L := L.bump F.SF_CNT_TEST_FAIL
  let L := L.updInput i (fun s => { s with
    stuckRun := if stuck then s.stuckRun + 1 else 0, crossRun := if stuck then 0 else s.crossRun + 1,
    crossMask := if stuck then 0 else putBit s.crossMask j true, cycleFail := true, cleanCycles := 0 })
  let s := L.input i
  if stuck ∧ 2 ≤ s.stuckRun ∧ !s.stuck then ((L.inputChange i (fun s => { s with stuck := true })).raise F.SF_EVENT_STUCK).fault 21 i
  else if !stuck ∧ 2 ≤ s.crossRun ∧ !s.cross then ((L.inputChange i (fun s => { s with cross := true })).raise F.SF_EVENT_CROSS).fault 21 i
  else L

/-- A passed test at an off-pulse of supply `j`: it ends a run of stuck fails at the input's own supply, and one of cross fails that `j` is part of
(R226). (Log entry 191: DEDUCED) -/
def InputS.pass (s : InputS) (j : Nat) (own : Bool) : InputS :=
  let ends := bit s.crossMask j
  { s with stuckRun := if own then 0 else s.stuckRun, crossRun := if ends then 0 else s.crossRun, crossMask := if ends then 0 else s.crossMask
           cyclePass := true }

/-- The test sample of an off-pulse of supply `j` is due: 180 µs into it, once (R225). -/
def Lane.testDue (L : Lane) (j : Fin 4) : Bool :=
  match L.sf.pulseAt.getD j none with
  | none => false
  | some t => !(bit L.sf.tested j) && decide (t + us 180 ≤ L.now ∧ L.now < t + us 200)

/-- The test samples of an off-pulse of supply `j` (R225): bit i of `raw` is the test sample of input i. (Log entry 4: DESIGN CHOICE) -/
def Lane.testSample (j : Fin 4) (raw : Nat) (L : Lane) : Lane :=
  if !(L.testDue j) then L else
  let L := { L with sf := { L.sf with tested := putBit L.sf.tested j true } }
  if !(L.supplyOn ⟨j.val, by omega⟩) then L else
  (List.finRange 16).foldl (fun (L : Lane) (i : Fin 16) =>
    let s := L.input i
    if L.inFunc i == 0 || !s.before then L
    else
      let own := L.inSource i == j.val
      let hi := bit raw i
      if own == hi then L.testFail i j own
      else (L.tally 16 (16 + j)).updInput i (·.pass j own)) L

/-- The end of a 20 ms test cycle of device time (R226): after 4 cycles without a fail and with a pass the faults of an input clear, those
of a stop input with the untested source never (R224). (Log entry 4: DESIGN CHOICE) -/
def Lane.testCycleEnd (L : Lane) : Lane :=
  if L.devTime / 20000000 = L.sf.cycleNo then L else
  let L := { L with sf := { L.sf with cycleNo := L.devTime / 20000000 } }
  (List.finRange 16).foldl (fun (L : Lane) (i : Fin 16) =>
    let s := L.input i
    let clean := !s.cycleFail && s.cyclePass
    let n := if clean then s.cleanCycles + 1 else 0
    let L := L.updInput i (fun s => { s with cycleFail := false, cyclePass := false, cleanCycles := n })
    if (s.stuck || s.cross) && decide (4 ≤ n) && !(L.badStop i) then
      (L.inputChange i (fun s => { s with stuck := false, cross := false, stuckRun := 0, crossRun := 0, crossMask := 0, cleanCycles := 0 })).raise F.SF_EVENT_FAULT_CLR
    else L) L

/-! ### Supplies (R222) -/

/-- A supply that has been in limit for 10 ms switches off and is reported; it retries 1 s later. -/
def Lane.supplyTrip (L : Lane) (s : Fin 8) : Lane :=
  let L := L.updSupply s (fun x => { x with off := true, trying := false, lim := false, retryAt := some (L.now + sec 1) })
  ((L.raise F.SF_EVENT_SUPPLY_FAULT).bump F.SF_CNT_SUPPLY_TRIP).fault 22 s

def Lane.supplyLimitTrip (s : Fin 8) (L : Lane) : Lane :=
  if L.supplyOn s && (L.supply s).lim && decide ((L.supply s).limSince + ms 10 ≤ L.now) then L.supplyTrip s else L

/-- 1 s after a switch-off an enabled supply retries; `limited` says whether its load puts it in limit again, and then its OFF bit stands
until it leaves the limit. -/
def Lane.supplyRetry (s : Fin 8) (limited : Bool) (L : Lane) : Lane :=
  match (L.supply s).retryAt with
  | none => L
  | some t =>
    if !(L.supplyEn s) || !(L.supply s).off || decide (L.now < t) then L
    else L.updSupply s (fun x => { x with off := limited, trying := limited, lim := limited, limSince := L.now, retryAt := none })

/-- The enable bit is cleared: the supply is off, its OFF bit and time in limit clear. -/
def Lane.supplyEnableClear (s : Fin 8) (L : Lane) : Lane :=
  let L := if s.val < 4 then L.setFld F.SF_CTRL_PS_EN (putBit (L.fld F.SF_CTRL_PS_EN) s false)
    else L.setFld F.SF_CTRL_SS_EN (putBit (L.fld F.SF_CTRL_SS_EN) (s - 4) false)
  L.updSupply s (fun _ => SupplyS.reset)

/-- The load drives a supply into or out of current limit. -/
def Lane.supplyCurrentLimit (s : Fin 8) (inLimit : Bool) (L : Lane) : Lane :=
  if !(L.supplyOn s) then L
  else if inLimit then (if (L.supply s).lim then L else L.updSupply s (fun x => { x with lim := true, limSince := L.now }))
  else L.updSupply s (fun x => { x with off := x.off && !x.trying, trying := false, lim := false })

/-! ### Die-to-die link (R25, R26) -/

/-- The field die switches off: every field supply off, the excitation off (R26). -/
def Lane.fieldOff (L : Lane) : Lane :=
  let L := { L with sf := { L.sf with fieldLost := true } }
  L.excitationOff

/-- The field die finds the link lost by the same two conditions on the frames that it receives (R26). (Log entry 146: DEDUCED) -/
def Lane.fieldLoss (L : Lane) : Lane :=
  if L.sf.fieldLost || !(decide (2 ≤ L.sf.fieldRun) || decide (L.sf.fieldLast + us 4 ≤ L.now)) then L else L.fieldOff

/-- A frame from the logic die reaches the field die, which judges it on its side (R26). -/
def Lane.fieldFrame (ok : Bool) (L : Lane) : Lane :=
  { L with sf := { L.sf with fieldRun := if ok then 0 else L.sf.fieldRun + 1, fieldLast := if ok then L.now else L.sf.fieldLast } }

/-- Each die judges the link: the logic die finds it lost after two failed frames in a row or 4 µs without a valid one, which is fatal source
12, and the field die switches off (R26, R62); else the field die may find it lost alone. (Log entry 146: DEDUCED) -/
def Lane.d2dLinkLoss (L : Lane) : Lane :=
  if L.sf.d2dLost || !(decide (2 ≤ L.sf.d2dRun) || decide (L.sf.d2dLast + us 4 ≤ L.now)) then L.fieldLoss else
  (({ L with sf := { L.sf with d2dLost := true } }).fault 12 0xFFFF (L.sf.d2dInj && decide (2 ≤ L.sf.d2dRun))).fieldOff

end Sys2Proof.Machine
end

