-- ==== Sys2Proof/Machine/Authority.lean ====
section
/-! DEFINITION. The key, its lease and its claims, output comparison, peer votes and vetoes, link judgement and the frames of the
cross-lane links (R27 to R30, R66 to R92, R238, R465, R466, R468). -/

namespace Sys2Proof.Machine

/-! ### What the lane knows of its siblings -/

/-- The lane state of the sibling on a port, as this lane recognises it: coded as KY_STATUS.LANE_STATE. -/
def Lane.sib (L : Lane) : Port → Nat
  | .N => L.ky.sibN
  | .P => L.ky.sibP

/-- The sibling on a port is recognised in a state. As it leaves Service its votes stop counting (R238) and its acknowledged claim ends
(R82); as it enters Service the veto line toward it falls, but in a Withdrawn lane, whose guardian holds it (R86). -/
def Lane.setSib (L : Lane) (p : Port) (s : Nat) : Lane :=
  let was := L.sib p
  let o := L.id.at p
  let gone (v : VoteRx) : VoteRx := { v with inService := false }
  let L := match p with
    | .N => { L with ky := { L.ky with sibN := s } }
    | .P => { L with ky := { L.ky with sibP := s } }
  let leave (L : Lane) : Lane :=
    let L := { L with ky := { L.ky with acked := L.ky.acked.filter (fun c => c.claimant != o) } }
    match p with
    | .N => { L with ky := { L.ky with voteN := L.ky.voteN.map gone } }
    | .P => { L with ky := { L.ky with voteP := L.ky.voteP.map gone } }
  let enter (L : Lane) : Lane := if L.ky.state = .withdrawn then L else match p with
    | .N => { L with ky := { L.ky with vtNext := false } }
    | .P => { L with ky := { L.ky with vtPrev := false } }
  if was = 4 ∧ s ≠ 4 then leave L else if was ≠ 4 ∧ s = 4 then enter L else L

/-- The state of any lane of the package as this lane recognises it. -/
def Lane.stateOf (L : Lane) (o : LaneId) : Nat := if o = L.id then L.ky.state.code else L.sib (L.portTo o)

/-- This lane is in Service or Shadow: it computes and compares (R40). -/
def Lane.inSvcShadow (L : Lane) : Bool := L.ky.state == .service || L.ky.state == .shadow

def Lane.inService (L : Lane) (o : LaneId) : Bool := L.stateOf o == 4

/-- The number of lanes in Service (R43). -/
def Lane.serviceCount (L : Lane) : Nat := b2n (L.inService .A) + b2n (L.inService .B) + b2n (L.inService .C)

/-- The coordination frame of a port that R28 assigns to a tick. -/
def Lane.coordFor (L : Lane) (p : Port) (tick : Nat) : Option CoordFrame :=
  let l := match p with
    | .N => L.cx.recN
    | .P => L.cx.recP
  (l.find? (fun c => c.1 == tick)).map (·.2)

/-- Configured actuators (0x2n00). -/
def Lane.inUse (L : Lane) (n : Fin 16) : Bool := L.cfg.acts[n].inUse

/-- A fault or withdrawal of the lane is latched (R356, R357). -/
def Lane.latched (L : Lane) : Bool := L.fld F.FC_LATCH != 0 || L.flag F.FC_WDR_LATCH

/-! ### Key messages (R465) -/

/-- A key message leaves on both links; the newest of each kind is kept. -/
def Lane.putKey (L : Lane) (m : KeyMsg) : Lane :=
  let L := L.sent (.key m)
  let L := if m.kind = 0 then L.tally 8 1 else if m.kind = 2 then L.tally 8 3 else L
  { L with
    cx := { L.cx with keyAt := L.now :: L.cx.keyAt.filter (fun t => decide (L.now < t + us 50)), keyTick := m.kind :: L.cx.keyTick }
    out := { L.out with keyMsgs := L.out.keyMsgs.filter (fun c => c.1 != m.kind) ++ [(m.kind, m)] } }

/-- A key message of this kind may leave now: none of the kind has left in this tick, and fewer than 12 key-message frames have in the last
50 µs (R465). -/
def Lane.keyFree (L : Lane) (kind : Nat) : Bool :=
  !(L.cx.keyTick.contains kind) && decide ((L.cx.keyAt.filter (fun t => decide (L.now < t + us 50))).length < 12)

/-- A key message is sent, or waits (R465). (Log entry 147: DEDUCED) -/
def Lane.sendKey (L : Lane) (m : KeyMsg) : Lane :=
  if L.keyFree m.kind && !(L.cx.keyWait.any (fun w => w.kind == m.kind)) then L.putKey m
  else { L with cx := { L.cx with keyWait := L.cx.keyWait ++ [m] } }

/-- The key messages that wait leave in their order as far as they may: at the exchange ticks, and at a boundary as the tick that it opens
begins (R465). (Log entry 147: DEDUCED) -/
def Lane.flushKeys (L : Lane) : Lane :=
  L.cx.keyWait.foldl (fun (L : Lane) (m : KeyMsg) => L.sendKey m) { L with cx := { L.cx with keyWait := [] } }

/-- The holder that ranks are counted from (R79): the recognised one, else the last. -/
def Lane.rankBase (L : Lane) : Option LaneId := match L.ky.holder with
  | some h => some h
  | none => L.ky.lastHolder

/-- The rank of a lane in Service (R79): 0 the holder, 1 and 2 in the order after it, 3 none. -/
def Lane.rankOf (L : Lane) (o : LaneId) : Nat :=
  match L.rankBase with
  | none => 3
  | some h =>
    if o = h then (if L.ky.holder = some o then 0 else 3)
    else if !(L.inService o) then 3
    else if o = h.next then 1
    else if L.inService h.next then 2 else 1

/-- The lane of rank 1; 3 where there is none. -/
def Lane.rankOne (L : Lane) : Nat :=
  match [LaneId.A, LaneId.B, LaneId.C].find? (fun o => L.rankOf o == 1) with
  | some o => o.index
  | none => 3

/-- The first lane index as a lane. -/
def laneOf (i : Nat) : LaneId := if i = 0 then .A else if i = 1 then .B else .C

/-- Recognition of a holder and an epoch (R66, R466): the silence timer of a lane that is not the holder starts here.
(Log entry 117: DEDUCED) -/
def Lane.recognise (L : Lane) (h : LaneId) (e : Nat) : Lane :=
  { L with ky := { L.ky with
      holder := some h, epoch := e % 65536, lastHolder := some h, revoked := none
      silence := if h = L.id then none else some L.now, acked := none, revocations := [] } }

/-- Recognition of another lane's key ends: the interregnum (R66, R72, R80, R81). -/
def Lane.unrecognise (L : Lane) : Lane :=
  match L.ky.holder with
  | none => L
  | some _ => { L with ky := { L.ky with holder := none, interSince := L.now } }

/-- A claim of the next epoch is sent (R82). -/
def Lane.sendClaim (L : Lane) : Lane :=
  match L.ky.claim with
  | some _ => L
  | none =>
    let e := (L.ky.epoch + 1) % 65536
    let L := { L with ky := { L.ky with claim := some { claimant := L.id, epoch := e, at_ := L.now, acks := [] } } }
    L.sendKey { kind := 2, sender := L.id.index, epoch := e, number := 0, named := 3 }

/-- The holder gives up the key of its own accord (R81): cleared, and a release that names rank 1. -/
def Lane.giveUp (L : Lane) : Lane :=
  if L.ky.holder = some L.id then
    let r := L.rankOne
    let e := L.ky.epoch
    (L.clearKey).sendKey { kind := 5, sender := L.id.index, epoch := e, number := 0, named := r }
  else L

/-! ### Links (R30, R85) -/

def portNo : Port → Nat
  | .N => 0
  | .P => 1

/-- The link on a port counts as declared down, by this lane or as it learnt (R85). -/
def Lane.downLink (L : Lane) (p : Port) : Bool := (L.link p).declared || (L.link p).remote

/-- A link is declared down (R30); where it counted as declared already, the first declaration stands (R85). -/
def Lane.linkDown (L : Lane) (p : Port) (inj : Bool := false) : Lane :=
  let k := L.link p
  let first := k.up && !(L.downLink p)
  let L := L.setLink p { k with up := false, valid := 0, crcRun := 0, crcInj := false, declared := k.declared || k.up, declAt := if first then L.now else k.declAt }
  let L := match p with
    | .N => L.setFld F.CX_RTT_RTT_N 0
    | .P => L.setFld F.CX_RTT_RTT_P 0
  L.when k.up (fun L => ((L.raise (match p with
    | .N => F.CX_EVENT_DOWN_N
    | .P => F.CX_EVENT_DOWN_P)).fault 23 (portNo p) inj).injWatch)

/-- A frame on a port passes or fails its CRC (R30): a failure is counted and is corrected source 24; the third in a row takes the link
down. (Log entry 166: DESIGN CHOICE) -/
def Lane.linkFrame (L : Lane) (p : Port) (ok : Bool) (inj : Bool := false) : Lane :=
  let k := L.link p
  if ok then L.setLink p { k with crcRun := 0, crcInj := false, lastValid := L.now, valid := if us 20 ≤ L.now - k.lastValid then 1 else k.valid + 1 }
  else
    let inRun := inj || k.crcInj
    let L := L.setLink p { k with crcRun := k.crcRun + 1, crcInj := inRun, valid := 0 }
    let L := match p with
      | .N => (L.raise F.CX_EVENT_CRC_N).bump F.CX_ERR_N_CRC_ERR
      | .P => (L.raise F.CX_EVENT_CRC_P).bump F.CX_ERR_P_CRC_ERR
    let L := L.fault 24 (portNo p) inj
    L.when (k.up && decide (3 ≤ k.crcRun + 1)) (fun L => L.linkDown p inRun)

/-- A frame of `n` bytes on the wire arrives: counted, its CRC judged with an injection at the port's receive checker (R358), the link
told. Says whether the frame passed. -/
def Lane.rxFrame (L : Lane) (p : Port) (ok : Bool) (n : Nat) : Lane × Bool :=
  let inj := L.injecting (11 + portNo p)
  let good := ok && !inj
  ((((L.tally 9 (2 + portNo p)).tally 9 (6 + portNo p) n).when inj Lane.injTake).linkFrame p good inj, good)

/-- No valid frame for 20 µs, or three CRC failures (R30). (Log entries 4: DESIGN CHOICE, 166: DESIGN CHOICE) -/
def Lane.linkSilence (p : Port) (L : Lane) : Lane :=
  let k := L.link p
  if decide (k.lastValid + us 20 ≤ L.now) || decide (3 ≤ k.crcRun) then L.linkDown p else L

/-- 100 valid frames in a row bring a link up (R30); after a declared loss that is a return. -/
def Lane.linkUp (p : Port) (L : Lane) : Lane :=
  let k := L.link p
  if k.up || decide (k.valid < 100) then L else
  let L := L.setLink p { k with up := true, declared := false, remote := false }
  match p with
  | .N => (L.raise F.CX_EVENT_UP_N).when k.declared (·.bump F.CX_ERR_N_RETURNS)
  | .P => (L.raise F.CX_EVENT_UP_P).when k.declared (·.bump F.CX_ERR_P_RETURNS)

/-- The far end has been reported Withdrawn or has announced Cellar entry (R85): its link's loss does not count. -/
def Lane.farGone (L : Lane) (p : Port) : Bool :=
  L.sib p == 5 || (match p with
    | .N => L.cx.coordN.any (·.toCellar)
    | .P => L.cx.coordP.any (·.toCellar))

/-- Two declarations at most 50 µs apart. -/
def within50 (a b : Nat) : Bool := decide (a ≤ b + us 50) && decide (b ≤ a + us 50)

/-- Both links of this lane are declared down within 50 µs (R85). -/
def Lane.bothDown (L : Lane) : Bool :=
  L.downLink .N && L.downLink .P && !(L.farGone .N) && !(L.farGone .P) && within50 (L.link .N).declAt (L.link .P).declAt

/-- Both links of the sibling on a port are declared down within 50 µs (R85). -/
def Lane.sibBothDown (L : Lane) (p : Port) : Bool :=
  L.downLink p && L.cx.farDown && !(L.farGone p.other) && !(L.farGone p) && within50 (L.link p).declAt L.cx.farAt

/-! ### Votes and vetoes (R84, R86) -/

/-- A vote of this lane against a sibling, cast or cast again. -/
def Lane.castVote (L : Lane) (v : LaneId) : Lane :=
  { L with ky := { L.ky with cast := L.ky.cast.filter (fun c => c.1 != v) ++ [(v, L.now)] } }

/-- A sibling has left Service: this lane counts it out, and its newest coordination frame does not report Service. (Log entry 175: DEDUCED) -/
def Lane.hasLeft (L : Lane) (o : LaneId) : Bool :=
  let c := match L.portTo o with
    | .N => L.cx.coordN
    | .P => L.cx.coordP
  !(L.inService o) && c.all (fun x => x.state != 4)

/-- This lane's votes in force: for at most 200 µs, until the voted lane has left Service (R84). (Log entry 175: DEDUCED) -/
def Lane.castMask (L : Lane) : Nat :=
  if L.ky.state ≠ .service then 0 else
  L.ky.cast.foldl (fun (n : Nat) c => if L.now < c.2 + us 200 && !(L.hasLeft c.1) then putBit n c.1.index true else n) 0

/-- A cast vote leaves force (R84). -/
def Lane.voteExpiry (v : LaneId) (L : Lane) : Lane :=
  { L with ky := { L.ky with cast := L.ky.cast.filter (fun c => c.1 != v || decide (L.now < c.2 + us 200)) } }

/-- The votes of the sibling on a port that this lane holds. -/
def Lane.heldMask (L : Lane) (p : Port) : Nat :=
  let v := match p with
    | .N => L.ky.voteN
    | .P => L.ky.voteP
  match v with
  | none => 0
  | some v => if v.fresh L.now && L.sib p == 4 then v.frame.against else 0

/-- Votes from two lanes in Service are held against a lane. -/
def Lane.votedOut (L : Lane) (v : LaneId) : Bool :=
  decide (2 ≤ b2n (bit L.castMask v.index) + b2n (bit (L.heldMask .N) v.index) + b2n (bit (L.heldMask .P) v.index))

/-- The veto line toward the sibling on a port is asserted (R86). -/
def Lane.veto (L : Lane) (p : Port) : Lane :=
  let was := match p with
    | .N => L.ky.vtNext
    | .P => L.ky.vtPrev
  if was || L.ky.state != .service then L else
  let L := match p with
    | .N => { L with ky := { L.ky with vtNext := true } }
    | .P => { L with ky := { L.ky with vtPrev := true } }
  L.raise F.KY_EVENT_VETO_ASSERTED

/-- The newest coordination frame of the sibling on a port reports it Withdrawn. -/
def Lane.reportsGone (L : Lane) (p : Port) : Bool :=
  match p with
  | .N => L.cx.coordN.any (fun c => c.state == 5)
  | .P => L.cx.coordP.any (fun c => c.state == 5)

/-- Vetoes that are due: a sibling voted out, or known or reported to be Withdrawn (R86). -/
def Lane.vetoes (L : Lane) : Lane :=
  let one (L : Lane) (p : Port) : Lane := if L.sib p == 5 || L.reportsGone p || L.votedOut (L.id.at p) then L.veto p else L
  one (one L .N) .P

/-- The guardian's permission falls when the lane holds two votes against itself (R84, R162). -/
def Lane.selfVoted (L : Lane) : Lane := if L.ky.state == .service && L.votedOut L.id then L.permitFall else L

/-! ### Frames from a sibling -/

/-- An angle frame (R133). -/
def Lane.angleFrameReceive (p : Port) (fr : AngleFrame) (ok : Bool) (L : Lane) : Lane :=
  let r := L.rxFrame p ok 144
  let L := r.1
  let ok := r.2
  let last := match p with
    | .N => L.cx.angNumN
    | .P => L.cx.angNumP
  let d := match last with
    | none => 1
    | some n => (fr.num + 65536 - n) % 65536
  let st := L.sib p
  if !ok || !(st == 3 || st == 4) || d == 0 || decide (32767 < d) then L else
  let L := match p with
    | .N => { L with cx := { L.cx with angNumN := some (fr.num % 65536) } }
    | .P => { L with cx := { L.cx with angNumP := some (fr.num % 65536) } }
  L.eachGroup (fun L g => match fr.stars[g.val]? with
    | none => L
    | some e => L.updAn g (fun s => match p with
      | .N => { s with peerN := PeerS.take e fr.age L.now }
      | .P => { s with peerP := PeerS.take e fr.age L.now }))

/-- A vote frame (R238): star bits whatever the sender's state; release, STOP and votes only from a lane in Service. -/
def Lane.voteFrameReceive (p : Port) (fr : VoteFrame) (ok : Bool) (L : Lane) : Lane :=
  let r := L.rxFrame p ok 16
  let L := r.1
  let ok := r.2
  let last := match p with
    | .N => L.ky.voteN
    | .P => L.ky.voteP
  let d := match last with
    | none => 1
    | some v => (fr.seq + 4096 - v.frame.seq % 4096) % 4096
  if !ok || d == 0 || decide (2047 < d) then L else
  let serv := L.sib p == 4
  let keep : Option (Nat × Nat) := match last with
    | some v => if v.inService then (if v.arrival / 8 = L.now / 8 then v.before else some (v.frame.release, v.arrival)) else none
    | none => none
  let taken : VoteFrame :=
    if serv then { fr with seq := fr.seq % 4096 } else { fr with seq := fr.seq % 4096, release := 0, stop := false, against := 0 }
  let rx : VoteRx := { frame := taken, arrival := L.now, inService := serv, before := keep }
  let lost (v : VoteRx) : Bool := serv && (List.finRange 16).any (fun n => L.inUse n && bit v.frame.live n && !(bit fr.live n))
  let L := L.when (last.any lost) Lane.serviceLoss
  let L := match p with
    | .N => { L with ky := { L.ky with voteN := some rx } }
    | .P => { L with ky := { L.ky with voteP := some rx } }
  L.selfVoted.vetoes

/-- A sibling's setpoint frame of the tick (R75). -/
def Lane.setpointFrameReceive (p : Port) (fr : SetpointFrame) (ok : Bool) (L : Lane) : Lane :=
  let r := L.rxFrame p ok 208
  let L := r.1
  let ok := r.2
  if !ok then L else
  match p with
  | .N => { L with ky := { L.ky with spN := some fr } }
  | .P => { L with ky := { L.ky with spP := some fr } }

/-- A shelf frame for the coming boundary (R88, R89): one that fails its CRC, or that the recognised holder has not sent, is rejected; only a
lane in Service or Shadow applies shelves and reports that. -/
def Lane.shelfFrameReceive (p : Port) (fr : ShelfFrame) (ok : Bool) (L : Lane) : Lane :=
  let r := L.rxFrame p ok 1040
  let L := r.1
  let ok := r.2
  if L.ky.holder = some (L.id.at p) ∧ ok = true then { L with ky := { L.ky with shelfRx := some fr } }
  else L.when L.inSvcShadow (·.raise F.KY_EVENT_SHELF_REJECT)

/-! ### Key messages received -/

/-- A key message arrives; one that does not carry the command's kind, a reserved one among them, is discarded (R465). -/
def Lane.rxKey (L : Lane) (p : Port) (m : KeyMsg) (kind : Nat) (ok : Bool) : Lane × Bool :=
  let r := L.rxFrame p ok 16
  (r.1, r.2 && m.kind == kind)

/-- A renewal (R66, R70, R72). -/
def Lane.renewalReceive (p : Port) (m : KeyMsg) (ok : Bool) (L : Lane) : Lane :=
  let r := L.rxKey p m 0 ok
  let L := r.1
  let ok := r.2
  let from_ := L.id.at p
  if !ok || L.ky.holder == some L.id then L else
  let e := m.epoch % 65536
  let known := L.ky.holder == some from_ && e == L.ky.epoch
  let d := (e + 65536 - L.ky.epoch) % 65536
  let newer := L.ky.holder == none || (decide (0 < d) && decide (d ≤ 32767))
  let mayLearn := (L.ky.state == .bench || L.ky.state == .shadow) && newer && L.ky.revoked != some e
  let ackedClaim := match L.ky.acked with
    | some c => c.claimant == from_ && c.epoch == e
    | none => false
  let ack (L : Lane) : Lane :=
    if L.inSvcShadow && L.ky.claim == none then L.sendKey { kind := 1, sender := L.id.index, epoch := e, number := m.number, named := 3 } else L
  if known then ack { L with ky := { L.ky with silence := some L.now } }
  else if mayLearn then ack (L.recognise from_ e)
  else if ackedClaim && L.ky.state == .service then ack L
  else L

/-- The lanes in Service or Shadow besides this one (R70). -/
def Lane.ackers (L : Lane) : List LaneId :=
  [L.id.next, L.id.prev].filter (fun o => L.stateOf o == 4 || L.stateOf o == 3)

/-- Whether renewal `k` has been acknowledged by every lane that must. -/
def Lane.allAcked (L : Lane) (k : Nat) : Bool := L.ackers.all (fun o => L.ky.acks.contains (k, o))

/-- The holder's lease restarts from the sending of a renewal that all have acknowledged (R70). -/
def Lane.leaseFrom (L : Lane) (k : Nat) : Lane :=
  match L.ky.renewals.find? (fun c => c.1 == k) with
  | none => L
  | some c => if L.allAcked k && decide (L.now < c.2 + us 300) then (({ L with ky := { L.ky with lease := some (c.2 + us 300) } } : Lane)).tally 8 2 else L

/-- An acknowledgement of a renewal (R70). -/
def Lane.renewalAckReceive (p : Port) (m : KeyMsg) (ok : Bool) (L : Lane) : Lane :=
  let r := L.rxKey p m 1 ok
  let L := r.1
  let ok := r.2
  if !ok || L.ky.holder != some L.id || m.epoch != L.ky.epoch then L else
  let L := { L with ky := { L.ky with acks := ((m.number, L.id.at p) :: L.ky.acks).take 32 } }
  L.leaseFrom m.number

/-- A claim of a lane in Service (R82): acknowledged by a lane in Service that holds no key, the one of lower rank where two meet; a claim
whose epoch is not ahead of the recognised one is ignored. (Log entry 148: DESIGN CHOICE) -/
def Lane.claimReceive (p : Port) (m : KeyMsg) (ok : Bool) (L : Lane) : Lane :=
  let r := L.rxKey p m 2 ok
  let L := r.1
  let ok := r.2
  let from_ := L.id.at p
  let e := m.epoch % 65536
  let d := (e + 65536 - L.ky.epoch) % 65536
  if !ok || L.ky.state != .service || L.ky.holder == some L.id || !(L.inService from_) || d == 0 || decide (32767 < d) then L else
  let rank := L.rankOf from_
  let ackIt (L : Lane) : Lane :=
    let L := { L with ky := { L.ky with acked := some { claimant := from_, epoch := e, at_ := L.now, acks := [L.id] } } }
    L.sendKey { kind := 3, sender := L.id.index, epoch := e, number := 0, named := from_.index }
  match L.ky.claim with
  | some c =>
    if c.epoch = e ∧ rank < L.rankOf L.id then
      ackIt (({ L with ky := { L.ky with claim := none } }).sendKey { kind := 4, sender := L.id.index, epoch := e, number := 0, named := 3 })
    else L
  | none =>
    match L.ky.acked with
    | some c => if c.epoch = e ∧ c.claimant ≠ from_ ∧ L.rankOf c.claimant ≤ rank then L else ackIt L
    | none => ackIt L

/-- An acknowledgement of a claim (R82), by the claimant and by every lane that acknowledged the same claim. -/
def Lane.claimAckReceive (p : Port) (m : KeyMsg) (ok : Bool) (L : Lane) : Lane :=
  let r := L.rxKey p m 3 ok
  let L := r.1
  let ok := r.2
  if !ok then L else
  let from_ := L.id.at p
  let take (c : ClaimS) : ClaimS := if c.acks.contains from_ then c else { c with acks := from_ :: c.acks }
  let hit (c : ClaimS) : Bool := c.epoch == m.epoch && c.claimant.index == m.named
  { L with ky := { L.ky with claim := L.ky.claim.map (fun c => if hit c then take c else c),
                             acked := L.ky.acked.map (fun c => if hit c then take c else c) } }

/-- A claim is withdrawn (R82). -/
def Lane.claimWithdrawalReceive (p : Port) (m : KeyMsg) (ok : Bool) (L : Lane) : Lane :=
  let r := L.rxKey p m 4 ok
  let L := r.1
  let ok := r.2
  if !ok then L else
  match L.ky.acked with
  | some c => if c.claimant = L.id.at p ∧ c.epoch = m.epoch then { L with ky := { L.ky with acked := none } } else L
  | none => L

/-- A release (R81, R82): the released key is recognised no more; the lane it names claims. -/
def Lane.releaseReceive (p : Port) (m : KeyMsg) (ok : Bool) (L : Lane) : Lane :=
  let r := L.rxKey p m 5 ok
  let L := r.1
  let ok := r.2
  if !ok || m.epoch != L.ky.epoch || L.ky.lastHolder != some (L.id.at p) then L else
  let L := if L.ky.holder == some (L.id.at p) then L.unrecognise else L
  if m.named = L.id.index ∧ L.ky.state = .service ∧ L.ky.holder = none then L.sendClaim else L

/-- Revocations of both non-holders clear the holder's key; it answers with a release (R80). -/
def Lane.revocationReceive (p : Port) (m : KeyMsg) (ok : Bool) (L : Lane) : Lane :=
  let r := L.rxKey p m 6 ok
  let L := r.1
  let ok := r.2
  let from_ := L.id.at p
  if !ok || L.ky.holder != some L.id || m.epoch != L.ky.epoch then L else
  let L := { L with ky := { L.ky with revocations := if L.ky.revocations.contains from_ then L.ky.revocations else from_ :: L.ky.revocations } }
  if 2 ≤ L.ky.revocations.length then L.giveUp.raise F.KY_EVENT_REVOKED else L

/-! ### Timers -/

/-- The holder's lease runs out (R71). (Log entries 4: DESIGN CHOICE, 51: DESIGN CHOICE) -/
def Lane.leaseExpiry (L : Lane) : Lane :=
  match L.ky.holder, L.ky.lease with
  | some h, some d => if h = L.id ∧ d ≤ L.now then L.clearKey.raise F.KY_EVENT_LEASE_EXPIRED else L
  | _, _ => L

/-- The silence timer reaches 350 µs or 420 µs (R72, R82). (Log entry 4: DESIGN CHOICE) -/
def Lane.silenceThreshold (L : Lane) : Lane :=
  match L.ky.silence with
  | none => L
  | some s =>
    if L.ky.holder = some L.id ∨ L.now < s + us 350 then L else
    let L := L.unrecognise
    if L.ky.state ≠ .service then L else
    let r := L.rankOf L.id
    let heard := match L.ky.acked with
      | some c => c.epoch == (L.ky.epoch + 1) % 65536 && L.rankOf c.claimant == 1
      | none => false
    if r = 1 then L.sendClaim
    else if r = 2 ∧ s + us 420 ≤ L.now ∧ !heard then L.sendClaim
    else L

/-- A lane in Service held in the interregnum for 1,000 µs (R69). -/
def Lane.interregnumTimeout (L : Lane) : Lane :=
  if L.ky.state = .service ∧ L.ky.holder = none ∧ L.ky.interSince + us 1000 ≤ L.now then L.withdraw .interregnum else L

/-- The guardian cycles of a 10 µs window (R73): outside 470 to 530 the key is cleared and the lane is withdrawn, source 10.
(Log entry 168: DESIGN CHOICE) -/
def Lane.guardianCountWindow (cnt : Nat) (L : Lane) : Lane :=
  let inj := L.injecting 17
  let cnt := if inj then 0 else cnt
  let L := L.when inj Lane.injTake
  let dev := decide (cnt < 470) || decide (530 < cnt)
  let was := L.flag F.KY_CLKMON_DEV
  let L := (L.setFld F.KY_CLKMON_GCYC (min cnt 4095)).setFld F.KY_CLKMON_DEV (b2n dev)
  if !dev then L else
  let L := L.when (!was) (·.raise F.KY_EVENT_CLOCK_DEV)
  L.clearKey.fault 10 0xFFFF inj

/-! ### Commands of KY_CMD (R41, R81) -/

def Lane.releaseCmd (L : Lane) : Lane := L.giveUp

/-- BENCH: asked in Service; R41 judges it at the boundary, and a holder that then leaves Service releases first (R81). -/
def Lane.benchCmd (L : Lane) : Lane :=
  if L.ky.state = .service then { L with ky := { L.ky with benchReq := true } } else L

/-- READMIT: asked in Bench, ignored otherwise. -/
def Lane.readmitCmd (L : Lane) : Lane :=
  if L.ky.state = .bench then { L with ky := { L.ky with readmitReq := true } } else L

/-! ### Output comparison at the boundary (R75 to R77, R80) -/

/-- Two lanes agree on every configured actuator. -/
def Lane.agree (L : Lane) (a b : Setpoints) : Bool :=
  (List.finRange 16).all (fun n =>
    !(L.inUse n) ||
      (let x := a.torque.getD n 0
       let y := b.torque.getD n 0
       f32finite x && f32finite y && decide (absR (f32val x - f32val y) ≤ L.tolerance n) && bit a.release n == bit b.release n))

/-- The setpoints a frame carries. -/
def spOf (f : SetpointFrame) : Setpoints := { torque := f.torque, release := f.release }

/-- The lane's own comparison with the sibling on a port for the closing tick; none where it is unknown, and in a lane in Service for a sibling
outside Service. (Log entry 181: DESIGN CHOICE) -/
def Lane.ownPair (L : Lane) (p : Port) : Option Bool :=
  let f := match p with
    | .N => L.ky.spN
    | .P => L.ky.spP
  if !L.inSvcShadow || (L.sib p != 4 && L.ky.state == .service) then none
  else f.map (fun f => L.agree L.ky.own (spOf f))

/-- The third pair, from the siblings' agreement bits. -/
def Lane.thirdPair (L : Lane) : Option Bool :=
  let a := L.ky.spN.bind (·.agreeNext)
  let b := L.ky.spP.bind (·.agreePrev)
  match a, b with
  | some x, some y => if x = y then some x else none
  | some x, none => some x
  | none, some y => some y
  | none, none => none

/-- The pair of two lanes in this lane's pattern. -/
def Lane.pair (L : Lane) (a b : LaneId) : Option Bool :=
  if a = L.id then L.ownPair (L.portTo b) else if b = L.id then L.ownPair (L.portTo a) else L.thirdPair

/-- KY_AGREE (pairs AB, BC, CA) and the tick's events and counter (R76), in a lane that compares: in Service or Shadow (R40). -/
def Lane.showPattern (L : Lane) : Lane :=
  if !L.inSvcShadow then L else
  let ps := [L.pair .A .B, L.pair .B .C, L.pair .C .A]
  let known := putBit (putBit (putBit 0 0 (ps.getD 0 none).isSome) 1 (ps.getD 1 none).isSome) 2 (ps.getD 2 none).isSome
  let ag := putBit (putBit (putBit 0 0 ((ps.getD 0 none) == some true)) 1 ((ps.getD 1 none) == some true)) 2 ((ps.getD 2 none) == some true)
  let L := (L.setFld F.KY_AGREE_KNOWN known).setFld F.KY_AGREE_AGREE ag
  let L := L.when (ps.any (fun x => x == some false)) (·.bump F.KY_CNT0_DISAGREE_TICKS)
  let out := L.ownPair .N == some false && L.ownPair .P == some false
  let L := L.when out (·.raise F.KY_EVENT_OUTVOTED)
  match L.ky.holder with
  | none => L
  | some h => L.when (L.pair h h.next == some false && L.pair h h.prev == some false) (·.raise F.KY_EVENT_HOLDER_DISAGREE)

/-- The row of R76 that a known pattern matches: 1 revoke, 2 out with N1, 3 out with N2, 4 no majority, 5 no action; none where a pair is
unknown. H–N1, H–N2, N1–N2. -/
def rowOf : Option Bool → Option Bool → Option Bool → Option Nat
  | some true, some true, some _ => some 5
  | some false, some false, some true => some 1
  | some false, some true, some false => some 2
  | some true, some false, some false => some 3
  | some false, some false, some false => some 4
  | some false, some true, some true => some 5
  | some true, some false, some true => some 5
  | _, _, _ => none

/-- The revocation of R80 by a non-holder. -/
def Lane.revoke (L : Lane) : Lane :=
  let e := L.ky.epoch
  let L := L.unrecognise
  ({ L with ky := { L.ky with revoked := some e } }).sendKey { kind := 6, sender := L.id.index, epoch := e, number := 0, named := 3 }

/-- The decision table at Full (R76): runs, and the action of a row. The flag says that a controlled stop is called for. -/
def Lane.decisionTable (L : Lane) : Lane × Bool :=
  match L.ky.holder with
  | none => ({ L with ky := { L.ky with runRow := 0, run := 0 } }, false)
  | some h =>
    if L.serviceCount ≠ 3 then ({ L with ky := { L.ky with runRow := 0, run := 0 } }, false) else
    let n1 := h.next
    let n2 := h.prev
    match rowOf (L.pair h n1) (L.pair h n2) (L.pair n1 n2) with
    | none => (L, false)
    | some r =>
      let n := if r = L.ky.runRow then L.ky.run + 1 else 1
      let L := { L with ky := { L.ky with runRow := r, run := n } }
      if r = 5 ∨ n < L.revokeTicks then (L, false)
      else if r = 1 then (if L.id = h then L else (L.castVote h).revoke, false)
      else if r = 2 then (if L.id = n1 then L else L.castVote n1, false)
      else if r = 3 then (if L.id = n2 then L else L.castVote n2, false)
      else (L.raise F.KY_EVENT_NO_MAJORITY, true)

/-- The comparison at Dual (R77). -/
def Lane.dualCompare (L : Lane) : Lane × Bool :=
  let p : Port := if L.sib .N = 4 then .N else .P
  if L.serviceCount ≠ 2 ∨ L.ky.state ≠ .service ∨ L.ky.holder = none then ({ L with ky := { L.ky with dualRun := 0 } }, false) else
  match L.ownPair p with
  | none => (L, false)
  | some true => ({ L with ky := { L.ky with dualRun := 0 } }, false)
  | some false =>
    let n := L.ky.dualRun + 1
    let L := { L with ky := { L.ky with dualRun := n } }
    if n < L.dualTicks then (L, false) else (L.raise F.KY_EVENT_DUAL_DISAGREE, true)

/-- The setpoints that a lane in Service applies at the boundary (R66, R68, R69, R76): the recognised holder's of the recognised epoch,
unless it disagrees with both siblings; else the last ones stand. -/
def Lane.applySetpoints (L : Lane) : Lane :=
  if L.ky.state ≠ .service then L else
  match L.ky.holder with
  | none => L
  | some h =>
    let bad := L.id != h && L.pair h h.next == some false && L.pair h h.prev == some false
    if bad then L
    else if h = L.id then { L with ky := { L.ky with applied := L.ky.own } }
    else
      let f := match L.portTo h with
        | .N => L.ky.spN
        | .P => L.ky.spP
      match f with
      | none => L
      | some f => if f.epoch = L.ky.epoch then { L with ky := { L.ky with applied := spOf f } } else L

/-- The applied setpoints reach TQ_DEMAND, and the engines latch demand and share target (R98). CAP takes effect here. -/
def Lane.demandLatch (L : Lane) (write : Bool) : Lane :=
  L.eachGroup (fun L g =>
    let L := if write then L.setWord F.TQ_DEMAND (L.ky.applied.torque.getD g 0) g else L
    let w := L.word F.TQ_DEMAND g
    let t := L.shareTarget g
    let cap := L.flag F.TQ_CTRL_CAP g
    let L := (L.updTq g (fun s => { s with targetLatch := some t, capOn := cap, dLatch := if f32finite w then some (f32val w) else s.dLatch })).updEg g
      (fun e => { e with demandTold := false })
    L.when (!(f32finite w)) (·.raise F.TQ_EVENT_DEMAND_BAD g))

/-- The comparison of a lane in Shadow with the holder (R92): a mismatch returns it to Bench, a missing frame restarts the run. It begins with the
tick for which a first shelf was applied. (Log entries 134: DEDUCED, 170: DESIGN CHOICE) -/
def Lane.shadowCompare (L : Lane) : Lane :=
  if L.ky.state ≠ .shadow || !L.ky.shadowShelf then L else
  match L.ky.holder with
  | none => { L with ky := { L.ky with shadowRun := 0 } }
  | some h =>
    if h = L.id then L else
    let f := match L.portTo h with
      | .N => L.ky.spN
      | .P => L.ky.spP
    match f with
    | none => { L with ky := { L.ky with shadowRun := 0 } }
    | some f =>
      if L.agree L.ky.own (spOf f) then
        let n := L.ky.shadowRun + 1
        { L with ky := { L.ky with shadowRun := n, shadowDone := L.ky.shadowDone || decide (L.shadowTicks ≤ n) } }
      else
        let L := { L with lc := { L.lc with trialBad := L.lc.trialBad || L.lc.install == 6 } }
        (L.raise F.KY_EVENT_SHADOW_FAIL).toBench

/-! ### Renewal and claims at the boundary (R70, R82) -/

/-- A claim whose acknowledgements have all arrived takes effect (R82). (Log entry 127: DEDUCED) -/
def Lane.claimEffect (L : Lane) : Lane :=
  if L.ky.state ≠ .service then L else
  let others (c : LaneId) : List LaneId := [LaneId.A, .B, .C].filter (fun o => o != c && L.inService o)
  match L.ky.claim with
  | some c =>
    if (others c.claimant).all (fun o => c.acks.contains o) then
      let L := L.recognise L.id c.epoch
      ({ L with ky := { L.ky with claim := none, lease := some (c.at_ + us 300), renewals := [], acks := [] } }).raise F.KY_EVENT_CLAIMED
    else L
  | none =>
    match L.ky.acked with
    | some c => if (others c.claimant).all (fun o => c.acks.contains o) then L.recognise c.claimant c.epoch else L
    | none => L

/-- The holder sends a renewal (R70). The last one lacked an acknowledgement where a lane of `due`, the lanes that had to acknowledge it
when it was sent, still counts and has not answered: that is reported. (Log entry 130: DEDUCED) -/
def Lane.renewalSend (due : List LaneId) (L : Lane) : Lane :=
  if L.ky.holder ≠ some L.id then L else
  let missed := match L.ky.renewals with
    | [] => false
    | c :: _ => (L.ackers.filter due.contains).any (fun o => !(L.ky.acks.contains (c.1, o)))
  let L := L.when missed (fun L => (L.raise F.KY_EVENT_ACK_MISS).bump F.KY_CNT0_ACK_MISS)
  let k := (L.ky.renewal + 1) % 65536
  let L := { L with ky := { L.ky with
    renewal := k, renewals := ((k, L.now) :: L.ky.renewals).take 16
    lease := match L.ky.lease with
      | some d => some d
      | none => some (L.now + us 300) } }
  (L.sendKey { kind := 0, sender := L.id.index, epoch := L.ky.epoch, number := k, named := 3 }).leaseFrom k

/-! ### Exchange tick (R132, R238) -/

/-- The vote frame of the lane; in Hold every bit of it is 0 (R389). -/
def Lane.voteFrameOf (L : Lane) : VoteFrame :=
  let serv := L.ky.state == .service
  if L.pm.level = .hold then { release := 0, seq := L.ky.voteSeq, stop := false, against := 0, live := 0, capable := 0 } else
  { release := if serv then L.ky.ownVote else 0, seq := L.ky.voteSeq, stop := serv && L.anyStop, against := L.castMask,
    live := if serv then L.groupBits Lane.live else L.groupBits Lane.candidate, capable := L.groupBits Lane.capable }

/-- The lane may send on its cross-lane links: not Off or in Cellar, the main island running from the locked PLL (R467). -/
def Lane.mainRuns (L : Lane) : Bool := L.ky.state != .off && L.sy.lock && !L.sy.resetHeld && L.pm.level != .cellar

/-- An exchange tick: the own release vote is latched, angle and vote frames go out. `rttN` and `rttP` are the round trips measured on
the ports, in ns (CX_RTT). -/
def Lane.exchangeTick (rttN rttP : Nat) (L : Lane) : Lane :=
  if !L.mainRuns then L else
  let L := L.flushKeys.latchSrc 113
  let L := { L with ky := { L.ky with ownVote := L.fld F.EG_VOTE_OWN_VOTE, voteSeq := (L.ky.voteSeq + 1) % 4096 } }
  let L := (L.setFld F.CX_RTT_RTT_N (if (L.link .N).up then rttN else 0)).setFld F.CX_RTT_RTT_P (if (L.link .P).up then rttP else 0)
  if L.pm.level = .hold then (let L := L.sent (.vote L.voteFrameOf); { L with out := { L.out with vote := some L.voteFrameOf } }) else
  let num := (L.cx.exNum + 1) % 65536
  let age := min 255 ((L.now - L.ad.tickAt) / 32)
  let fr : AngleFrame := { num := num, sender := L.id.index, age := age, stars := (List.finRange 16).map (fun g => L.angleEntry g) }
  let L := (L.sent (.vote L.voteFrameOf)).sent (.angle fr)
  let L := { L with cx := { L.cx with exNum := num },
                    out := { L.out with angle := some fr, vote := some L.voteFrameOf } }
  let L := (L.setFld F.AN_XCHG_TX_NUM num).setFld F.AN_XCHG_AGE age
  L.eachGroup (fun L g => L.updAn g (fun s => { s with exchanged := true }))

end Sys2Proof.Machine
end

