-- ==== Sys2Proof/Machine/Runtime.lean ====
section
/-! DEFINITION. What the Thimin runtime of a lane does at its authority tick boundaries (R43 to R54, R61, R88 to R92, R177, R258, R334,
R343, R468): agreed inputs, loops, setpoints, shelves, shares, controlled stop, start gate and service level. -/

namespace Sys2Proof.Machine

/-! ### Shelf words -/

def Lane.shelfIn (L : Lane) (w : Nat) : Word := L.word F.KY_SHELF_IN 0 w

/-- A list of words written to consecutive entries of a register array. -/
def Lane.setWords (L : Lane) (f : Fld) (k : Nat) : List Word → Lane
  | [] => L
  | w :: ws => (L.setWord f w 0 k).setWords f (k + 1) ws

/-- A word of the shelf state that the lane works with (R89). -/
def Lane.shelfWord (L : Lane) (w : Nat) : Word := L.ky.shelf.getD w 0

/-- The valid host targets of an actuator, from the shelf (R88): position, rate limit, brake demand. -/
def Lane.hostPos (L : Lane) (n : Nat) : Int := signed 32 (L.shelfWord (0x24 + 3 * n)).toNat
def Lane.hostRate (L : Lane) (n : Nat) : Rat := f32nonnegOr (L.shelfWord (0x25 + 3 * n)) 0
def Lane.hostBrake (L : Lane) (n : Nat) : Rat := f32nonnegOr (L.shelfWord (0x26 + 3 * n)) 0

/-! ### Ground speed and standstill (R48, R51) -/

/-- The wheel speeds of the configured brake actuators, in m/s and without their sign; none for an interface that is not VALID.
(Log entry 167: DESIGN CHOICE) -/
def Lane.wheels (L : Lane) : List (Option Rat) :=
  (List.finRange 16).filterMap (fun n =>
    if L.inUse n && L.kind n == 2 then
      some (if (L.fb n).valid && !(L.fb n).fault then some (absR ((L.fb n).speed * f32val L.cfg.acts[n].radius)) else none)
    else none)

/-- A quantity put into a rising list. -/
def insRat (x : Rat) : List Rat → List Rat
  | [] => [x]
  | y :: ys => if x ≤ y then x :: y :: ys else y :: insRat x ys

/-- The median; the mean of the two middle values of an even number. -/
def median (xs : List Rat) : Rat :=
  let s := xs.foldl (fun a x => insRat x a) []
  let n := s.length
  if n = 0 then 0 else if n % 2 = 1 then s.getD (n / 2) 0 else (s.getD (n / 2 - 1) 0 + s.getD (n / 2) 0) / 2

/-- The ground speed from the lane's own interfaces. (Log entries 122: DESIGN CHOICE, 167: DESIGN CHOICE) -/
def Lane.groundSpeed (L : Lane) : Rat := median (L.wheels.filterMap (fun x => x))

/-- The host's bits of 0x3020 in the newest process data of the lane's own network. -/
def Lane.hostBit (L : Lane) (i : Nat) : Bool := bit L.ky.hostWord i

/-- The standstill condition evaluated at a boundary (R48). (Log entry 122: DESIGN CHOICE) -/
def Lane.standstillEval (L : Lane) : Lane :=
  let below := L.wheels.all (fun x => match x with
    | none => false
    | some _ => true) && decide (L.groundSpeed < f32val L.cfg.stillSpeed)
  let since := if below then (match L.stop.ownStill with
    | some s => some s
    | none => some L.now) else none
  let long := match since with
    | some s => decide (s + ms L.cfg.stillTime ≤ L.now)
    | none => false
  { L with stop := { L.stop with ownStill := since, standCond := (L.wheels.isEmpty || long) && L.ky.hostStill } }

/-! ### Host loss (R468) -/

/-- The lane's own network delivers process data. -/
def Lane.delivers (L : Lane) : Bool :=
  match L.ky.lastPd with
  | some t => decide (L.now < max t L.ky.serviceAt + us L.cfg.hostTimeout)
  | none => L.ky.state == .service && decide (L.now < L.ky.serviceAt + us L.cfg.hostTimeout)

/-- Host loss judged for the closing tick, from the frames of the siblings and the lane's own of that tick (R28); a fresh loss is reported
once, source 31. (Log entry 128: DEDUCED) -/
def Lane.hostLossJudge (L : Lane) (closed : Nat) : Lane :=
  let d := L.delivers
  let sib (p : Port) : Bool := L.sib p == 4 && (match L.coordFor p closed with
    | some c => c.delivering
    | none => false)
  let own := L.out.coord.any (fun c => c.state == 4 && !c.delivering)
  let lost := L.ky.state == .service && own && !(sib .N) && !(sib .P)
  let was := L.ky.hostLost
  let L := { L with ky := { L.ky with delivering := d, hostLost := lost } }
  L.when (lost && !was) (fun L => L.fault 31 0xFFFF)

/-! ### Live stars and shares (R45, R91, R177) -/

/-- A sibling's newest vote frame. -/
def Lane.voteFrom (L : Lane) : Port → Option VoteFrame
  | .N => L.ky.voteN.map (·.frame)
  | .P => L.ky.voteP.map (·.frame)

def Lane.sibLive (L : Lane) (p : Port) (n : Nat) : Bool :=
  L.sib p == 4 && (match L.voteFrom p with
    | some v => bit v.live n
    | none => false)

/-- A sibling's star is capable until a vote frame reports otherwise (R176). -/
def Lane.sibCapable (L : Lane) (p : Port) (n : Nat) : Bool :=
  L.sibLive p n && (match L.voteFrom p with
    | some v => bit v.capable n
    | none => true)

/-- Live stars of an actuator. -/
def Lane.liveCount (L : Lane) (n : Fin 16) : Nat := b2n (L.live n) + b2n (L.sibLive .N n) + b2n (L.sibLive .P n)

/-- The actuator regenerates: demand and speed have opposite signs. -/
def Lane.regenerates (L : Lane) (n : Fin 16) : Bool := decide ((L.grp n).tq.dNew * (L.an n).speed < 0)

/-- The target share of a star that is live or not (R118). (Log entry 122: DESIGN CHOICE) -/
def Lane.shareOf (L : Lane) (n : Fin 16) (live : Bool) : Nat := if live then 768 / max 1 (L.liveCount n) else 0

/-- The shelved share of the star of a lane (R88). -/
def Lane.shelvedShare (L : Lane) (n : Fin 16) (o : LaneId) : Nat := (L.shelfWord (0x94 + n)).toNat / 1024 ^ o.index % 1024

/-- The star of actuator `n` in a lane is live. -/
def Lane.starLive (L : Lane) (n : Fin 16) (o : LaneId) : Bool := if o = L.id then L.live n else L.sibLive (L.portTo o) n

/-- The star of actuator `n` in a lane is regeneration-capable (R176). -/
def Lane.starCapable (L : Lane) (n : Fin 16) (o : LaneId) : Bool := if o = L.id then L.capable n else L.sibCapable (L.portTo o) n

/-- The target share of the lane's own star (R91, R118): the shelved one; where a star with a shelved share is live no longer, those that are
left of them share alike, and without a shelved share every live star does. While the actuator regenerates, the capable stars share
alike (R177, step 1). (Log entry 149: DEDUCED) -/
def Lane.ownShare (L : Lane) (n : Fin 16) : Nat :=
  let capable := [LaneId.A, .B, .C].filter (fun o => L.starCapable n o)
  let shelved := [LaneId.A, .B, .C].filter (fun o => L.shelvedShare n o != 0)
  let left := shelved.filter (fun o => L.starLive n o)
  if !(L.live n) then 0
  else if L.regenerates n && !capable.isEmpty then (if capable.contains L.id then 768 / capable.length else 0)
  else if left = [] then 768 / max 1 (L.liveCount n)
  else if left = shelved then L.shelvedShare n L.id
  else if left.contains L.id then 768 / left.length
  else 0

/-- The share targets of the lane's own stars written to the engines: 0 for a star that is not live (R118). -/
def Lane.writeShares (L : Lane) : Lane := L.eachGroup (fun M g => M.setFld F.TQ_SHARE_TARGET (L.ownShare g) g)

/-! ### Controlled stop (R50 to R54) -/

/-- The brake demand in use at a brake actuator: what its release component leaves of the rated torque. (Log entry 135: DEDUCED) -/
def Lane.brakeInUse (L : Lane) (n : Fin 16) : Rat :=
  if L.inUse n && L.kind n == 2 then maxR 0 (f32nonnegOr L.cfg.acts[n].rated 0 - maxR 0 (L.releaseOf n (L.grp n).tq.dNew)) else 0

/-- A controlled stop begins (R50), unless one is in progress. -/
def Lane.beginStop (L : Lane) (c : StopCause) : Lane :=
  if L.stop.active || L.ky.state != .service then L else
  let b := (List.finRange 16).map (fun n => L.brakeInUse n)
  { L with stop := { L.stop with
      active := true, cause := c, began := L.now, brake0 := b, brake := b, limitMet := false
      confirmed := none, ramp := none, released := false, startPos := L.ky.agreedPos } }

/-- The sibling's STOP bit counts while its frame is fresh and it is in Service (R224). -/
def Lane.sibStop (L : Lane) (p : Port) : Bool :=
  let v := match p with
    | .N => L.ky.voteN
    | .P => L.ky.voteP
  match v with
  | some v => v.fresh L.now && v.frame.stop && L.sib p == 4
  | none => false

/-- The stop causes at a boundary, in the order of R50, each with its place: the actuator below two live stars, the stop input or the sibling
whose frame shows one (16, 17), the STOP bit of 0x3020; a stop command has none, being one event. `dis` is a disagreement of R76 or R77,
`closed` the closing tick. (Log entry 133: DEDUCED) -/
def Lane.stopCauses (L : Lane) (dis : Bool) (closed : Nat) : List (StopCause × Option Nat) :=
  let cmd (p : Port) : Bool := L.sib p == 4 && (match L.coordFor p closed with
    | some c => c.stop
    | none => false)
  let from_ (c : StopCause) (b : Bool) (k : Nat) : List (StopCause × Option Nat) := if b then [(c, some k)] else []
  from_ .single (L.serviceCount == 1) 0
    ++ (List.finRange 16).flatMap (fun n => from_ .liveStars (L.inUse n && decide (L.liveCount n < 2)) n)
    ++ from_ .hostLoss L.ky.hostLost 0
    ++ (List.finRange 16).flatMap (fun i => from_ .stopInput (L.stopActive i) i)
    ++ from_ .stopInput (L.sibStop .N) 16 ++ from_ .stopInput (L.sibStop .P) 17
    ++ (if L.ky.stopCmd || cmd .N || cmd .P then [(.hostCommand, none)] else [])
    ++ from_ .hostCommand (L.hostBit 1) 0 ++ from_ .disagreement dis 0

/-- The bit of `stop.causes` for a cause at its place. -/
def causeBit (c : StopCause) (k : Nat) : Nat := 32 * c.code + k

/-- The causes that stand, as a mask. -/
def causeMask (cs : List (StopCause × Option Nat)) : Nat :=
  cs.foldl (fun (n : Nat) c => match c.2 with
    | some k => putBit n (causeBit c.1 k) true
    | none => n) 0

/-- The holder, or in the interregnum every lane in Service, begins the stop that a cause calls for. While the brakes are still held from the
last stop, a cause that stood at its place at the boundary before begins none again (R49, R50). (Log entry 133: DEDUCED) -/
def Lane.stopJudge (L : Lane) (dis : Bool) (closed : Nat) : Lane :=
  if L.ky.state != .service then L else
  let cs := L.stopCauses dis closed
  let fresh (c : StopCause × Option Nat) : Bool := c.2.all (fun k => !(bit L.stop.causes (causeBit c.1 k)))
  let acts := if L.stop.held then cs.filter fresh else cs
  let L := { L with stop := { L.stop with causes := causeMask cs } }
  match acts with
  | [] => L
  | c :: _ => if L.ky.holder == none || L.ky.holder == some L.id then L.beginStop c.1 else L

/-- The speed that the stop uses: the shelved one, with its history of 100 ms and the time since it lies below the standstill speed. -/
def Lane.takeSpeed (L : Lane) (v : Rat) : Lane :=
  let below := decide (v < f32val L.cfg.stillSpeed)
  { L with stop := { L.stop with
      speed := v, speedHist := (v :: L.stop.speedHist).take 2001
      still := if below then (match L.stop.still with
        | some s => some s
        | none => some L.now) else none } }

/-- The measured deceleration (R51), m/s²: over the last 100 ms, or as long as the stop runs and speeds are known. (Log entry 138: DEDUCED) -/
def Lane.decel (L : Lane) : Rat :=
  let ticks := min (min 2000 ((L.now - L.stop.began) / us 50)) (L.stop.speedHist.length - 1)
  if ticks = 0 then 0 else (L.stop.speedHist.getD ticks L.stop.speed - L.stop.speed) / ((ticks : Rat) / 20000)

/-- What the brake torque ramp gives at an actuator since the stop began (R52): the demand then in use, and the ramp in percent of the rated
torque per 100 ms. -/
def Lane.rampValue (L : Lane) (n : Fin 16) : Rat :=
  L.stop.brake0.getD n 0 + f32val L.cfg.ramp / 100 * f32nonnegOr L.cfg.acts[n].rated 0 * ((L.now - L.stop.began : Nat) : Rat) / ((ms 100 : Nat) : Rat)

/-- The brake demand of a stop rises by the ramp until the deceleration limit, follows a higher host demand and never falls (R52). -/
def Lane.brakeRamp (L : Lane) : Lane :=
  if !L.stop.active then L else
  let met := L.stop.limitMet || decide (f32val L.cfg.decel ≤ L.decel)
  let b := (List.finRange 16).map (fun (n : Fin 16) =>
    let prev := L.stop.brake.getD n 0
    let up := if met then prev else L.rampValue n
    if L.inUse n && L.kind n == 2 then maxR (maxR prev up) (if L.ky.hostLost then 0 else L.hostBrake n) else prev)
  { L with stop := { L.stop with limitMet := met, brake := b } }

/-- Standstill confirmed in a stop: brake release is removed (R54). -/
def Lane.standstillConfirm (L : Lane) : Lane :=
  match L.stop.still with
  | none => L
  | some s =>
    if L.stop.active && L.stop.confirmed == none && decide (s + ms L.cfg.stillTime ≤ L.now)
    then { L with stop := { L.stop with confirmed := some L.now, released := true, held := true } } else L

/-- Standstill unconfirmed at the stop time limit: brake release is removed at once (R54). -/
def Lane.stopTimeLimit (L : Lane) : Lane :=
  if L.stop.active && L.stop.confirmed == none && decide (L.stop.began + sec L.cfg.limitTime ≤ L.now)
  then { L with stop := { L.stop with released := true, held := true } } else L

/-- After the steering hold time the steering torque demand ramps to zero over 100 ms (R54). -/
def Lane.steeringHoldEnd (L : Lane) : Lane :=
  match L.stop.confirmed with
  | none => L
  | some c =>
    if L.stop.active && L.stop.ramp == none && decide (c + sec L.cfg.holdTime ≤ L.now)
    then { L with stop := { L.stop with ramp := some L.now } } else L

/-- The ramp reaches zero and the stop ends; the brakes stay held (R54, R49). -/
def Lane.stopEnd (L : Lane) : Lane :=
  match L.stop.ramp with
  | none => L
  | some r => if L.stop.active && decide (r + ms 100 ≤ L.now) then { L with stop := { L.stop with active := false, ramp := none, held := true } } else L

/-! ### Agreed inputs (R334) -/

/-- The I32 position of the lane's own interface. -/
def Lane.ownPos (L : Lane) (n : Fin 16) : Int := signed 32 (wrap 32 (signed 32 (L.fb n).rev * 65536 + ((L.fb n).p : Int)))

/-- Agreed position of those present: the middle of three, the mean of two toward zero, the one. -/
def agreeI (prev : Int) : List Int → Int
  | [a, b, c] =>
    let d (x : Int) : Int := signed 32 (wrap 32 (x - a))
    signed 32 (wrap 32 (a + (middle (0, 0) (d b, 0) (d c, 0)).1))
  | [a, b] => signed 32 (wrap 32 (truncR ((2 * a + signed 32 (wrap 32 (b - a)) : Rat) / 2)))
  | [a] => a
  | _ => prev

/-- Agreed speed of those present. -/
def agreeR (prev : Rat) : List Rat → Rat
  | [a, b, c] => (if a ≤ b then (if b ≤ c then b else if a ≤ c then c else a) else (if a ≤ c then a else if b ≤ c then c else b))
  | [a, b] => (a + b) / 2
  | [a] => a
  | _ => prev

/-- The lane's own star speed as it sent it in its newest angle frame, if its siblings find that entry usable (R133, R334). -/
def Lane.sentSpeed (L : Lane) (n : Fin 16) : List Rat :=
  match L.out.angle with
  | none => []
  | some f => match f.stars[n.val]? with
    | none => []
    | some e => if L.entryUsable n e.conf e.flags then [f32val e.speed] else []

/-- A frame that arrived at `at_` belongs to the last exchange tick before the boundary, whose start lies nearest its arrival (R334).
(Log entry 198: DEDUCED) -/
def Lane.lastExchange (L : Lane) (at_ : Nat) : Bool := decide (L.now ≤ at_ + us 15)

/-- The agreed values of the closed tick, and the positions latched for the opening one. A value is present where its sender's interface
reported VALID, a speed where in addition the entry was usable (R334). -/
def Lane.agreedInputs (L : Lane) : Lane :=
  let pos (n : Fin 16) : Int :=
    let own := if bit L.ky.latchedValid n then [L.ky.latchedPos.getD n 0] else []
    let sib (f : Option SetpointFrame) : List Int := match f with
      | some f => if bit f.valid n then [f.position.getD n 0] else []
      | none => []
    agreeI (L.ky.agreedPos.getD n 0) (own ++ sib L.ky.spN ++ sib L.ky.spP)
  let spd (n : Fin 16) : Rat :=
    let gear := if L.gear n = 0 then 1 else L.gear n
    let own := if bit L.ky.latchedValid n then L.sentSpeed n else []
    let sib (f : Option SetpointFrame) (p : Port) : List Rat := match f with
      | some f => if bit f.valid n && L.peerUsable n p && L.lastExchange (L.peer n p).arrival then [f32val (L.peer n p).speed] else []
      | none => []
    agreeR (L.ky.agreedSpeed.getD n 0) ((own ++ sib L.ky.spN .N ++ sib L.ky.spP .P).map (fun w => w / gear))
  { L with ky := { L.ky with
      agreedPos := (List.finRange 16).map pos, agreedSpeed := (List.finRange 16).map spd
      latchedPos := (List.finRange 16).map (fun n => L.ownPos n)
      latchedValid := L.groupBits (fun L n => L.fbOn n && (L.fb n).valid && !(L.fb n).fault) } }

/-! ### Loops and setpoints (R53, R66, R343) -/

/-- The position target that a loop follows (R53): in a stop, the host's clamped to the start position plus or minus the path tolerance. -/
def Lane.posTarget (L : Lane) (n : Fin 16) : Int :=
  let host := L.hostPos n
  if !L.stop.active then host
  else
    let p0 := L.stop.startPos.getD n 0
    let tol : Int := L.cfg.acts[n].pathTol
    if L.ky.hostLost then p0 else clampI (p0 - tol) (p0 + tol) host

/-- What the loops of an actuator take: gains, agreed position and speed, target, rate limit, reference and the two integrators.
(Log entry 14: DESIGN CHOICE) -/
def Lane.loopArgs (L : Lane) (n : Fin 16) : List Rat :=
  L.cfg.acts[n].gains.map f32val ++ [(L.ky.agreedPos.getD n 0 : Rat), L.ky.agreedSpeed.getD n 0, (L.posTarget n : Rat), L.hostRate n,
    (signed 32 (L.shelfWord (0x54 + 2 * n)).toNat : Rat), f32val (L.shelfWord (0x55 + 2 * n)), f32val (L.shelfWord (0x74 + n)),
    f32val (L.shelfWord (0x84 + n))]

/-- The brakes are held: no brake actuator gets release (R49, R54). -/
def Lane.brakesHeld (L : Lane) : Bool := L.stop.released || L.stop.held

/-- The torque demand that the lane computes for an actuator. A brake actuator's demand is what the brake demand leaves of its rated
torque, in the release direction; the others follow the position loop. (Log entries 14: DESIGN CHOICE, 50: DEDUCED) -/
def Lane.ownDemand (L : Lane) (n : Fin 16) : Rat :=
  if !(L.inUse n) then 0
  else if L.kind n = 2 then
    if L.brakesHeld then 0 else
    let b := if L.stop.active then L.stop.brake.getD n 0 else L.hostBrake n
    let d := maxR 0 (f32nonnegOr L.cfg.acts[n].rated 0 - b)
    if L.flag F.EG_CTRL_BRK_NEG n then -d else d
  else if L.kind n = 1 ∧ L.stop.held ∧ !L.stop.active then 0
  else
    let t := Config.loopDemand (L.loopArgs n)
    match L.stop.ramp with
    | none => t
    | some r =>
      if L.kind n ≠ 1 then t
      else t * ((ms 100 - min (ms 100) (L.now - r) : Nat) : Rat) / ((ms 100 : Nat) : Rat)

/-- The lane's own setpoints of the opening tick: demands, and a release request wherever a brake's release component is positive. -/
def Lane.ownSetpoints (L : Lane) : Lane :=
  let t := (List.finRange 16).map (fun n => f32of (L.ownDemand n))
  let r := L.groupBits (fun L n => L.inUse n && L.kind n == 2 && decide (0 < L.releaseOf n (L.ownDemand n)))
  let L := { L with ky := { L.ky with own := { torque := t, release := r } } }
  L.setFld F.EG_VOTE_OWN_VOTE (if L.ky.state = .service then r else 0)

/-- The authority frame of the opening tick (R68, R75, R334). -/
def Lane.sendSetpoints (L : Lane) : Lane :=
  if !(L.inSvcShadow) then L else
  let fr : SetpointFrame := {
    epoch := L.ky.epoch, torque := L.ky.own.torque, release := L.ky.own.release, agreeNext := L.ky.agreeN, agreePrev := L.ky.agreeP
    position := L.ky.latchedPos, valid := L.ky.latchedValid }
  let L := L.sent (.setpoint fr)
  { L with out := { L.out with setpoint := some fr } }

/-! ### Process data (R90, R258) -/

/-- Word and half of a client's newest applied number and of its window. -/
def half (w : Word) (hi : Bool) : Nat := if hi then w.toNat / 65536 else w.toNat % 65536
def putHalf (w : Word) (hi : Bool) (v : Nat) : Word :=
  BitVec.ofNat 32 (if hi then v % 65536 * 65536 + w.toNat % 65536 else w.toNat / 65536 * 65536 + v % 65536)

/-- A value of a process-data frame lies in its entry's range (R312): the host command (key 0), the profile request (1), then position, rate
limit and brake demand of each actuator in turn. -/
def pdOk (c : Nat × Word) : Bool :=
  if c.1 = 0 then decide (c.2.toNat < 16)
  else if c.1 = 1 then decide (c.2.toNat < 4)
  else c.1 % 3 == 2 || (f32finite c.2 && decide (0 ≤ f32val c.2))

/-- A profile request acts when it differs from the last one applied from its client (R312). -/
def Lane.pdProfile (L : Lane) (client : Nat) (data : List (Nat × Word)) : Lane :=
  match data.find? (fun c => c.1 == 1) with
  | none => L
  | some c =>
    let p := c.2.toNat
    if p = L.ky.profEdge.getD client 0 then L
    else { L with ky := { L.ky with profEdge := L.ky.profEdge.set client p, profileReq := some p } }

/-- One accepted process-data frame applied to a shelf (R90): duplicates and numbers that are not ahead are counted; a frame with a value
out of range enters the window and is not applied (R312). (Log entry 169: DESIGN CHOICE) -/
def Lane.takePd (r : Lane × List Word) (fr : Nat × Nat × Nat × List (Nat × Word)) : Lane × List Word :=
  let L := r.1
  let sh := r.2
  let c := fr.2.1 % 4
  let s := fr.2.2.1 % 65536
  let win := (List.range 16).map (fun i => half (sh.getD (4 + 8 * c + i / 2) 0) (i % 2 == 1))
  if win.contains s then ((L.raise F.KY_EVENT_DUP_PD).bump F.KY_CNT1_DUP_PD, sh) else
  let win' := (s :: win).take 16
  let sh := (List.range 8).foldl (fun (sh : List Word) i =>
    sh.set (4 + 8 * c + i) (BitVec.ofNat 32 (win'.getD (2 * i) 0 + 65536 * win'.getD (2 * i + 1) 0))) sh
  let iw := 2 + c / 2
  let newest := half (sh.getD iw 0) (c % 2 == 1)
  let d := (s + 65536 - newest) % 65536
  if d = 0 ∨ 32767 < d then ((L.raise F.KY_EVENT_STALE_PD).bump F.KY_CNT1_STALE_PD, sh) else
  let data := fr.2.2.2
  if !(data.all pdOk) then (L, sh) else
  let sh := sh.set iw (putHalf (sh.getD iw 0) (c % 2 == 1) s)
  let sh := data.foldl (fun (sh : List Word) (x : Nat × Word) => if x.1 < 2 then sh else sh.set (0x22 + x.1) x.2) sh
  ((L.tally 8 5).pdProfile c data, sh)

/-- The frames that the holder takes at a boundary; at its first one, those of the last 105 µs. -/
def Lane.duePd (L : Lane) (first : Bool) : List (Nat × Nat × Nat × List (Nat × Word)) :=
  L.ky.pd.filter (fun f => decide (f.1 + us 5 ≤ L.now) && (!first || decide (L.now ≤ f.1 + us 105)))

/-! ### Profile (R61) and the outgoing shelf (R88, R89) -/

/-- A brake actuator is held applied: no release granted and no release component in use (R61). -/
def Lane.brakeHeld (L : Lane) (n : Fin 16) : Bool := !(L.grp n).eg.granted && decide (L.releaseOf n (L.grp n).tq.dNew ≤ 0)

/-- The profile that a request leads to: refused in a stop unless Field or Road, and to or from Rest without standstill and held brakes. -/
def Lane.profileNext (L : Lane) : Nat :=
  match L.ky.profileReq with
  | none => L.ky.profile
  | some p =>
    if p = L.ky.profile then p
    else if L.stop.active then (if p < 2 then p else L.ky.profile)
    else if p = 3 ∨ L.ky.profile = 3 then
      (if L.stop.standCond && (List.finRange 16).all (fun n => !(L.inUse n && L.kind n == 2) || L.brakeHeld n) then p else L.ky.profile)
    else p

/-- The lane on a port is joined by links that are up to this lane and to the third lane where that one serves (R44). -/
def Lane.joined (L : Lane) (p : Port) : Bool := (L.link p).up && !(L.downLink p) && !(L.sib p.other == 4 && L.cx.farDown)

/-- The state that the holder's shelf names for a lane: a lane in Shadow whose run is complete is written as Service (R92), once links that
are up join it to every lane in Service (R44). -/
def Lane.namedState (L : Lane) (o : LaneId) : Nat :=
  if o = L.id then L.ky.state.code
  else
    let p := L.portTo o
    let done := match p with
      | .N => L.cx.coordN.any (·.runComplete)
      | .P => L.cx.coordP.any (·.runComplete)
    if L.sib p == 3 && done && L.joined p then 4 else L.sib p

/-- Word 0x00. -/
def Lane.shelfWord0 (L : Lane) : Word :=
  BitVec.ofNat 32 (L.serviceCount + 8 * L.profileNext + 64 * b2n L.stop.active + 256 * L.namedState .A + 2048 * L.namedState .B + 16384 * L.namedState .C)

/-- The runtime's words 0x00 to 0xBF of the shelf, from the state `base` that the lane works with.
(Log entries 14: DESIGN CHOICE, 132: DEDUCED) -/
def Lane.shelfWords (L : Lane) (base : List Word) : List Word :=
  let f (w : Nat) : Word :=
    if w = 0 then L.shelfWord0
    else if w = 1 then BitVec.ofNat 32 (L.groupBits (fun L n => (L.grp n).eg.granted) + 65536 * L.groupBits (fun L n => L.inUse n && L.kind n == 2 && L.brakeHeld n))
    else if 0x54 ≤ w ∧ w < 0x74 then
      let n : Fin 16 := ⟨(w - 0x54) / 2 % 16, Nat.mod_lt _ (by decide)⟩
      if w % 2 = 0 then BitVec.ofInt 32 (Config.loopPosition (L.loopArgs n)) else f32of (Config.loopSpeed (L.loopArgs n))
    else if 0x74 ≤ w ∧ w < 0x84 then f32of (Config.loopIntegrator (L.loopArgs ⟨(w - 0x74) % 16, Nat.mod_lt _ (by decide)⟩))
    else if 0x84 ≤ w ∧ w < 0x94 then f32of (Config.forceIntegrator (L.loopArgs ⟨(w - 0x84) % 16, Nat.mod_lt _ (by decide)⟩))
    else if 0x94 ≤ w ∧ w < 0xA4 then
      let n : Fin 16 := ⟨(w - 0x94) % 16, Nat.mod_lt _ (by decide)⟩
      let one (o : LaneId) : Nat :=
        L.shareOf n (L.starLive n o)
      BitVec.ofNat 32 (one .A + 1024 * one .B + 1048576 * one .C)
    else if 0xA4 ≤ w ∧ w < 0xB4 then BitVec.ofInt 32 (L.stop.startPos.getD (w - 0xA4) 0)
    else if w = 0xB4 then BitVec.ofNat 32 L.stop.cause.code
    else if w = 0xB5 then BitVec.ofNat 32 (if L.stop.active || L.stop.held then min (2 ^ 32 - 1) ((L.now - L.stop.began) / us 1) else 0)
    else if w = 0xB6 then BitVec.ofNat 32 (match L.stop.still with
      | some s => (L.now - s) / us 1
      | none => 0)
    else if w = 0xB7 then f32of L.groundSpeed
    else base.getD w 0
  (List.range 0xC0).map f

/-- Every lane in Service or Shadow computes the shelf state of the tick (R89). The holder first takes the process data due, writes its
words to KY_SHELF_OUT and hands the frame over (R88, R90); a set-profile command since the last boundary stands over a profile request (R312). -/
def Lane.holderShelf (L : Lane) (first : Bool) : Lane :=
  let base := (List.range 256).map (fun w => L.shelfWord w)
  if L.ky.holder ≠ some L.id then
    { L with ky := { L.ky with
        pd := L.ky.pd.filter (fun f => decide (L.now ≤ f.1 + us 105))
        shelfOwn := if L.inSvcShadow then L.shelfWords base ++ base.drop 0xC0 else [] } }
  else
  let asked := L.ky.profileReq
  let r := (L.duePd first).foldl Lane.takePd (L, base)
  let L := r.1.when asked.isSome (fun M => { M with ky := { M.ky with profileReq := asked } })
  let L := { L with ky := { L.ky with pd := L.ky.pd.filter (fun f => decide (L.now < f.1 + us 5)) } }
  let ws := L.shelfWords r.2
  let L := (L.setWords F.KY_SHELF_OUT 0 (ws.take 0xB8))
  let all := ws ++ (List.range 64).map (fun i => L.word F.KY_SHELF_OUT 0 (0xC0 + i))
  let L := { L with ky := { L.ky with profileReq := none, shelfOwn := all } }
  let fr : ShelfFrame := { tick := L.ky.tick, epoch := L.ky.epoch, count := 256, words := all }
  let L := L.sent (.shelf fr)
  { L with out := { L.out with shelf := some fr } }

/-! ### Shelf application (R89), levels and profiles (R45) -/

/-- The profile takes effect: Quiet sets CAP and QCAP of every group, its end clears them (R117, R150); Rest puts the legs low (R60). -/
def Lane.applyProfile (L : Lane) (p : Nat) : Lane :=
  if p = L.ky.profile then L else
  let q := b2n (p == 2)
  let L := { L with ky := { L.ky with profile := p } }
  let L := L.setFld F.ST_CTRL_CYCLE (if p = 1 then 30 else if p = 3 then 60 else 10)
  let L := L.eachGroup (fun L g => ((L.setFld F.TQ_CTRL_CAP q g).setFld F.LG_CTRL_QCAP q g).restLegs g)
  L.log 4 3 0xFF 0 0xFFFF [p]

/-- The controlled stop that an applied shelf carries (R50, R53, R88): `on` its bit, `cause` and `elapsed` words 0xB4 and 0xB5, `start` words
0xA4 to 0xB3. A lane in Service joins it, with the holder's start and positions, unless it is the one that has ended for it; a lane in Shadow
learns whether the brakes are held from the last one (R49). (Log entry 132: DEDUCED) -/
def Lane.takeStop (on : Bool) (cause : StopCause) (elapsed : Nat) (start : List Int) (L : Lane) : Lane :=
  if L.ky.state = .shadow then
    { L with stop := { L.stop with
        active := false, held := !on && elapsed != 0, released := false, confirmed := none, ramp := none, began := L.now - us elapsed } }
  else if !on then L
  else if L.stop.active then { L with stop := { L.stop with startPos := start } }
  else if L.stop.held && decide (L.now - us (elapsed + 50) ≤ L.stop.began + us 50) then L
  else
    let L := L.beginStop cause
    { L with stop := { L.stop with startPos := start, began := L.now - us (elapsed + 50) } }

/-- What an applied shelf says of lanes, profile, stop and speed. (Log entry 132: DEDUCED) -/
def Lane.useShelf (L : Lane) (ws : List Word) : Lane :=
  let word (w : Nat) : Nat := (ws.getD w 0).toNat
  let w0 := word 0
  let cause := word 0xB4
  let st (o : LaneId) : Nat := w0 / 2 ^ (8 + 3 * o.index) % 8
  let one (L : Lane) (p : Port) : Lane :=
    if st (L.id.at p) = 4 ∧ L.sib p = 3 then L.setSib p 4 else L
  let L := one (one L .N) .P
  let L := L.applyProfile (w0 / 8 % 8)
  let c : StopCause := if cause = 1 then .single else if cause = 2 then .liveStars else if cause = 3 then .hostLoss
    else if cause = 4 then .stopInput else if cause = 5 then .hostCommand else .disagreement
  let L := L.takeStop (bit w0 6) c (word 0xB5) ((List.range 16).map (fun n => signed 32 (word (0xA4 + n))))
  let L := { L with ky := { L.ky with stopSeen := bit w0 6, shadowShelf := L.ky.state == LaneState.shadow } }
  L.takeSpeed (f32nonnegOr (ws.getD 0xB7 0) 0)

/-- A shelf frame applied: the lane's state, and KY_SHELF_IN (R89). -/
def Lane.applyShelf (L : Lane) (ws : List Word) : Lane :=
  let L := ((L.setWords F.KY_SHELF_IN 0 (ws.take 256)).tally 8 4)
  ({ L with ky := { L.ky with shelf := ws.take 256, shelfSeen := true } }).useShelf ws

/-- The lane keeps for this tick the shelf state that it has computed itself (R89). -/
def Lane.keepShelf (L : Lane) : Lane := { L with ky := { L.ky with shelf := L.ky.shelfOwn, shelfSeen := false } }

/-- What a lane outside Service and Shadow takes of a shelf: whether it carries a stop (R41). -/
def Lane.peekShelf (L : Lane) : Lane :=
  { L with ky := { L.ky with
      shelf := [], shelfRx := none
      stopSeen := match L.ky.shelfRx with
        | some f => if L.ky.holder.isSome && f.epoch == L.ky.epoch then bit (f.words.getD 0 0).toNat 6 else L.ky.stopSeen
        | none => L.ky.stopSeen } }

/-- The shelf at a boundary (R89): the holder's own, or a valid frame of the recognised epoch in place of what the lane computed itself; a
frame of another epoch is rejected. (Log entry 131: DEDUCED) -/
def Lane.shelfApply (L : Lane) : Lane :=
  if !(L.inSvcShadow) then L.peekShelf
  else if L.ky.holder = some L.id then
    match L.out.shelf with
    | some f => if f.epoch = L.ky.epoch then L.applyShelf f.words else L.keepShelf
    | none => L.keepShelf
  else
    match L.ky.shelfRx with
    | none => L.keepShelf
    | some f =>
      let L := { L with ky := { L.ky with shelfRx := none } }
      if L.ky.holder.isSome && f.epoch == L.ky.epoch then L.applyShelf f.words else L.keepShelf.raise F.KY_EVENT_SHELF_REJECT

/-- A lane in Shadow that the applied shelf names in Service enters Service (R92); `confirm` is what the life-cycle block does there. -/
def Lane.shadowToService (L : Lane) (confirm : Lane → Lane) : Lane :=
  let named := (L.shelfIn 0).toNat / 2 ^ (8 + 3 * L.id.index) % 8
  if L.ky.state == .shadow && L.ky.shadowDone && named == 4 && L.ky.shelfSeen then confirm L.toService else L

/-- The service level (R43, R45): the number of lanes in Service, logged when it changes. -/
def Lane.levelUpdate (L : Lane) : Lane :=
  let n := L.serviceCount
  if n = L.ky.level then L else
  let L := { L with ky := { L.ky with level := n } }
  L.log 4 3 0xFF 0 0xFFFF [n]

/-! ### Transitions judged at the boundary (R41, R42, R44, R84, R85) -/

/-- A reported state of the sibling on a port that this lane does not take over yet: the last frame of a lane in Shadow that the shelf has
meanwhile named in Service, and, in a lane in Service, that of a lane which this lane has counted out (R42, R44, R84).
(Log entry 165: DEDUCED) -/
def Lane.staleReport (L : Lane) (p : Port) (s : Nat) : Bool :=
  (L.sib p == 4 && s == 3) || (s == 4 && L.ky.state == .service && (L.sib p == 5 || (L.sib p != 4 && L.downLink p)))

/-- The states that the siblings report in the frames of the closing tick. -/
def Lane.sibStates (L : Lane) (closed : Nat) : Lane :=
  let one (L : Lane) (p : Port) : Lane := match L.coordFor p closed with
    | none => L
    | some c => if L.staleReport p c.state then L else L.setSib p c.state
  one (one L .N) .P

/-- Nothing is heard on a port: its link counts as declared down, or has not come up. (Log entry 176: DEDUCED) -/
def Lane.silent (L : Lane) (p : Port) : Bool := !(L.link p).up || L.downLink p

/-- A sibling that reported nothing in the closing tick and that no lane heard here still hears is taken as Off (R41): in a lane in Service one
that it does not count in Service, since R44 and R85 rule for that one. (Log entry 176: DEDUCED) -/
def Lane.silentSibs (closed : Nat) (L : Lane) : Lane :=
  let one (L : Lane) (p : Port) : Lane :=
    if (L.coordFor p closed).isNone && L.silent p && (L.cx.farDown || L.silent p.other) && L.sib p != 5
        && !(L.ky.state == .service && L.sib p == 4) then L.setSib p 0 else L
  one (one L .N) .P

/-- A vote against the sibling on a port whose links both its siblings have declared down, by their own declaration or as R85 reports it
(R84): this lane counts a declaration that it learnt as its own, and that of the third lane as it was reported. (Log entry 177: DEDUCED) -/
def Lane.voteReasons (L : Lane) : Lane :=
  if L.ky.state ≠ .service then L else
  let one (L : Lane) (p : Port) : Lane :=
    if L.sib p == 4 && L.downLink p && L.cx.farDown then L.castVote (L.id.at p) else L
  one (one L .N) .P

/-- Lanes voted out, and lanes whose both links are down, are Withdrawn at this boundary (R84, R85), whatever else they are due to (R42). -/
def Lane.voteOut (L : Lane) : Lane :=
  let L := L.vetoes
  let out (p : Port) : Bool :=
    (L.sib p == 4 && L.votedOut (L.id.at p)) || (decide (2 ≤ L.sib p ∧ L.sib p ≤ 4) && L.sibBothDown p)
  let n := out .N
  let q := out .P
  let self := L.ky.state == .service && L.votedOut L.id
  let cut := (L.inSvcShadow || L.ky.state == .bench) && L.bothDown
  let L := ((L.when n (·.setSib .N 5)).when q (·.setSib .P 5)).vetoes
  if self then L.withdraw .vote else if cut then L.withdraw .links else L

/-- The lane that goes to Bench of the two that a link joined: the one without the key, of two without it the one of higher index (R44). -/
def Lane.benchedOf (L : Lane) (a b : LaneId) : LaneId :=
  if L.ky.holder = some a then b else if L.ky.holder = some b then a else if a.index < b.index then b else a

/-- A link between two lanes in Service has been down for a tick: one of them goes to Bench (R44), and every lane in Service counts it out at
this boundary (R45). `opened` is the boundary that opened the closing tick. -/
def Lane.linkDownBench (L : Lane) (opened : Nat) : Lane :=
  let down (p : Port) : Bool := L.sib p == 4 && L.downLink p && decide ((L.link p).declAt ≤ opened)
  let far := L.sib .N == 4 && L.sib .P == 4 && L.cx.farDown && decide (L.cx.farAt ≤ opened)
  if L.ky.state ≠ .service then L else
  let lost := (if down .N then [L.benchedOf L.id (L.id.at .N)] else []) ++ (if down .P then [L.benchedOf L.id (L.id.at .P)] else [])
    ++ (if far then [L.benchedOf (L.id.at .N) (L.id.at .P)] else [])
  let L := (L.when (lost.contains (L.id.at .N)) (·.setSib .N 2)).when (lost.contains (L.id.at .P)) (·.setSib .P 2)
  if lost.contains L.id then L.toBench else L

/-- The requests of KY_CMD that are due (R41): Service to Bench while both siblings serve, with the host's grant if not at standstill, both as
the frames of the closing tick report them (R28); Bench to Shadow while a sibling serves, no stop is in progress and no unit of the
self-test has failed (R372). (Log entries 129: DEDUCED, 131: DEDUCED) -/
def Lane.requests (L : Lane) (closed : Nat) : Lane :=
  let grant := L.out.coord.any (·.motionGrant) || [Port.N, .P].any (fun p => match L.coordFor p closed with
    | some c => c.motionGrant
    | none => false)
  if L.ky.state == .service && L.ky.benchReq then
    if L.sib .N == 4 && L.sib .P == 4 && (L.stop.standCond || grant) then L.giveUp.toBench else { L with ky := { L.ky with benchReq := false } }
  else if L.ky.state == .bench && L.ky.readmitReq then
    if (L.sib .N == 4 || L.sib .P == 4) && L.lc.taken && L.st.passed && L.st.failed == 0 && !L.ky.stopSeen then L.toShadow
    else { L with ky := { L.ky with readmitReq := false } }
  else if L.ky.state == .shadow && L.ky.stopSeen then L.toBench
  else L

/-! ### Start gate (R47, R67) -/

/-- A sibling meets the gate's conditions, by its frames of the closing tick, over a link that is up (R44). (Log entry 43: DEDUCED) -/
def Lane.sibReady (L : Lane) (p : Port) (closed : Nat) : Bool :=
  match L.coordFor p closed with
  | none => false
  | some c => (L.link p).up && !(L.downLink p) && c.state == 2 && c.testPassed && c.standCond && !c.toCellar && c.digest == L.lc.digest.take 8
      && (List.finRange 16).all (fun n => !(L.inUse n) || (match L.voteFrom p with
        | some v => bit v.live n
        | none => false))

/-- This lane meets the gate's conditions, by its own frame of the closing tick (R28), its faults and its stars.
(Log entries 43: DEDUCED, 139: DEDUCED) -/
def Lane.ownReady (L : Lane) : Bool :=
  L.ky.state == .bench && L.out.coord.any (fun c => c.state == 2 && c.testPassed && c.standCond && !c.toCellar) && !L.latched && L.lc.taken
    && (List.finRange 16).all (fun n => !(L.inUse n) || L.candidate n)

/-- The lanes that the gate admits as this lane sees it: those that are ready and, since links that are up join every pair in Service (R44), not
the higher-indexed of two whose link is declared down. (Log entries 43: DEDUCED, 179: DEDUCED) -/
def Lane.gateAdmits (L : Lane) (closed : Nat) : List LaneId :=
  let ready (o : LaneId) : Bool := if o = L.id then true else L.sibReady (L.portTo o) closed
  let n := L.id.next
  let q := L.id.prev
  let cut (o : LaneId) : Bool :=
    if o = L.id then
      (L.downLink .N && ready q && !L.cx.farDown && decide (n.index < o.index))
        || (L.downLink .P && ready n && !L.cx.farDown && decide (q.index < o.index))
    else ready n && ready q && L.cx.farDown && decide (o.index = max n.index q.index)
  [LaneId.A, .B, .C].filter (fun o => ready o && !(cut o))

/-- The start gate judged for the closing tick: the admitted lanes enter Service, the lowest-indexed takes the key. KY_EVENT.CLAIMED is left to
claims that take effect. (Log entries 43: DEDUCED, 180: DESIGN CHOICE) -/
def Lane.startGate (L : Lane) (closed : Nat) (confirm : Lane → Lane) : Lane :=
  if !L.ownReady || L.serviceCount != 0 then L else
  let in_ := L.gateAdmits closed
  let own := L.out.coord
  let start := own.any (·.start) || [Port.N, .P].any (fun p => match L.coordFor p closed with
    | some c => c.start
    | none => false)
  if in_.length < L.cfg.gateLanes || !(in_.contains L.id) || !start then L else
  let epochOf (o : LaneId) : Nat := match (if o = L.id then own else L.coordFor (L.portTo o) closed) with
    | some c => c.epoch
    | none => 0
  let e := in_.foldl (fun (m : Nat) o => max m (epochOf o)) 0 + 1
  let h := in_.headD L.id
  let L := in_.foldl (fun (L : Lane) o => if o = L.id then L else L.setSib (L.portTo o) 4) L
  let L := confirm L.toService
  let L := { L with stop := { L.stop with held := false, active := false, released := false, confirmed := none, ramp := none } }
  let L := L.recognise h e
  if h = L.id then { L with ky := { L.ky with lease := none, renewals := [], acks := [] } } else L

/-! ### Coordination frame (R28) -/

/-- The frame of the opening boundary; token fields come from the self-test block. Bit 5 of byte 3 is what the gate of R47 judges of the sender's
self-test and latches. (Log entry 139: DEDUCED) -/
def Lane.coordFrame (L : Lane) (tokenNum holder pass : Nat) (lastHeld : List Nat) : CoordFrame :=
  { seq := (L.cx.seq + 1) % 65536, sender := L.id.index, state := L.ky.state.code, toCellar := false, noToken := false
    testPassed := L.st.passed && !L.latched, runComplete := L.ky.state == .shadow && L.ky.shadowDone
    tokenNum := tokenNum, tokenHolder := holder, tokenPass := pass, lastHeld := lastHeld
    votes := L.castMask, downN := (L.link .N).declared, downP := (L.link .P).declared
    downFar := L.cx.farDown
    start := L.ky.startCmd && L.ky.state == .bench, stop := L.ky.stopCmd, standstill := L.hostBit 3, motionGrant := L.hostBit 2
    standCond := L.stop.standCond, delivering := L.ky.delivering
    digest := if L.lc.taken then L.lc.digest.take 8 else List.replicate 8 0, epoch := L.ky.epoch }

end Sys2Proof.Machine
end

