-- ==== Sys2Proof/Machine/Compute.lean ====
section
/-! DEFINITION. Chapter 15, helm pair, yard core and runtime interface: pair mismatch and watchdog, the interrupt controller, the yard
core's firewall and doorbells, the integrator application's tick and calls (R326 to R349). -/

namespace Sys2Proof.Machine

/-! ### Interrupt sources (R337, R338) -/

/-- The event registers behind a block source. -/
def eventAddrs (s : Nat) : List Nat :=
  let g := (s - 1) % 16
  if s = 0 then []
  else if s ≤ 16 then [F.TQ_EVENT_SAT.addr g 0]
  else if s ≤ 32 then [F.AN_EVENT_LOST.addr g 0]
  else if s ≤ 48 then [F.LG_EVENT_TRIP.addr g 0, F.LG_CH_EVENT_CLAMP.addr g 0]
  else if s ≤ 64 then [F.SD_EVENT_CLIP.addr g 0]
  else if s ≤ 80 then [F.FB_EVENT_FAULT.addr g 0]
  else if s ≤ 96 then [F.EG_EVENT_SLEW.addr g 0]
  else match s with
    | 97 => [F.KY_EVENT_CLAIMED.addr 0 0]
    | 98 => [F.CX_EVENT_UP_N.addr 0 0]
    | 99 => [F.SF_EVENT_CHANGE.addr 0 0]
    | 100 => [F.AD_EVENT_RANGE.addr 0 0]
    | 101 => [F.LN_EVENT_MISS.addr 0 0, F.LN_TEVENT_TOPO_OK.addr 0 0]
    | 102 => [F.OC_EVENT_DUP.addr 0 0]
    | 103 => [F.EN_EVENT_LINK_UP.addr 0 0]
    | 104 => [F.FC_EVENT_FATAL.addr 0 0, F.FC_NEW.addr 0 0]
    | 105 => [F.ST_EVENT_RUN_DONE.addr 0 0]
    | 106 => [F.TL_EVENT_SNAP.addr 0 0]
    | 107 => [F.PM_EVENT_WOKE.addr 0 0]
    | 108 => [F.TH_EVENT_SHUT.addr 0 0]
    | 109 => [F.LC_EVENT_CHALLENGE.addr 0 0]
    | 110 => [F.CF_EVENT_COMMIT_DONE.addr 0 0]
    | 111 => [F.SY_EVENT_RC_DEV.addr 0 0]
    | _ => []

/-- The interrupt condition of a source: any set bit of its event registers, a latched event for 112 to 117, FW_ERR for 118. -/
def Lane.srcCond (L : Lane) (s : Nat) : Bool :=
  if 112 ≤ s ∧ s ≤ 117 then bit L.ic.latched s
  else if s = 118 then L.flag F.IC_YARD_FW_ERR
  else (eventAddrs s).any (fun a => L.reg a != 0)

/-- A source is pending while its condition holds and it is not claimed. -/
def Lane.srcPend (L : Lane) (s : Nat) : Bool := L.srcCond s && !(L.ic.active.contains s)

def Lane.srcLevel (L : Lane) (s : Nat) : Nat := L.fld F.IC_SRC_LEVEL 0 s

/-- A changed target takes effect once the source is neither pending nor active. -/
def Lane.icSettle (L : Lane) : Lane :=
  { L with ic := { L.ic with oldTarget := L.ic.oldTarget.filter (fun c => L.srcPend c.1 || L.ic.active.contains c.1) } }

/-- The pending source of highest level at a target, the lowest number among equals. (Log entry 112: DEDUCED) -/
def Lane.bestSrc (L : Lane) (yard : Bool) : Option Nat :=
  (List.range 119).foldl (fun (b : Option Nat) s =>
    if L.srcPend s && L.srcLevel s != 0 && L.srcTarget s == yard then
      (match b with
        | none => some s
        | some o => if L.srcLevel o < L.srcLevel s then some s else b)
    else b) none

def Lane.threshold (L : Lane) (yard : Bool) : Nat := if yard then L.ic.yThresh else L.fld F.IC_THRESH_THRESH
def Lane.thrStack (L : Lane) (yard : Bool) : List Nat := if yard then L.ic.yStack else L.ic.stack

/-- A target's threshold and stack set; IC_THRESH shows the helm pair's. -/
def Lane.setThreshold (L : Lane) (yard : Bool) (t : Nat) (st : List Nat) : Lane :=
  if yard then { L with ic := { L.ic with yThresh := t, yStack := st } }
  else (({ L with ic := { L.ic with stack := st } }).setFld F.IC_THRESH_THRESH t).setFld F.IC_THRESH_DEPTH st.length

/-- The external interrupt of the helm pair, mip.MEIP: a source above the threshold while EN_H lets sources raise it. -/
def Lane.meip (L : Lane) : Bool :=
  match L.bestSrc false with
  | some s => L.flag F.IC_CTRL_EN_H && decide (L.threshold false < L.srcLevel s)
  | none => false

/-- The same for the yard core. -/
def Lane.meipYard (L : Lane) : Bool :=
  match L.bestSrc true with
  | some s => L.flag F.IC_CTRL_EN_Y && decide (L.threshold true < L.srcLevel s)
  | none => false

/-- A claim by a target: the source, if one is claimed, and the lane after it. Seven thresholds stacked claim nothing.
(Log entry 112: DEDUCED) -/
def Lane.claimSrc (L : Lane) (yard : Bool) : Option Nat × Lane :=
  match L.bestSrc yard with
  | none => (none, L)
  | some s =>
    if 7 ≤ (L.thrStack yard).length then (none, L)
    else
      let t := L.threshold yard
      let L := L.setThreshold yard (max t (L.srcLevel s)) (t :: L.thrStack yard)
      (some s, ({ L with ic := { L.ic with active := s :: L.ic.active } }).tally 22 ((if yard then 8 else 0) + L.srcLevel s))

/-! ### Input agreement (R332) -/

/-- Entries of the agreement buffer that the trail core has not taken yet: it runs at most 16 cycles of 800 MHz behind the lead core. -/
def Lane.agreeLeft (L : Lane) : List (Nat × Word) := L.ic.agree.dropWhile (fun c => decide (c.1 + 32 ≤ L.now))

/-- A value reaches the lead core from outside the pair: it is recorded in program order for the trail core. A full buffer stalls the lead
core until the trail core has taken an entry (R330, R332). (Log entry 150: DEDUCED) -/
def Lane.leadRead (L : Lane) (w : Word) : Lane :=
  let rest := L.agreeLeft
  let rest := if 64 ≤ rest.length then rest.drop 1 else rest
  { L with rdata := w, busErr := false, ic := { L.ic with agree := rest ++ [(L.now, w)] } }

/-- What the trail core gets at its next matching access: the oldest value recorded and not yet taken (R332). -/
def Lane.trailNext (L : Lane) : Option Word := L.agreeLeft.head?.map (·.2)

/-- A read of the claim register (R338); a halted pair reads nothing (R331). -/
def Lane.icClaim (yard : Bool) (L : Lane) : Lane :=
  if !yard && L.ic.halted then L else
  let r := L.claimSrc yard
  let w : Word := match r.1 with
    | none => 0
    | some s => BitVec.ofNat 32 (2 ^ 31 + 256 * L.srcLevel s + s)
  if yard then { r.2 with rdata := w, busErr := false } else r.2.leadRead w

/-- A source number written to the claim register completes it (R338, R339); a source that is not active at the target is ignored. An
event of 112 to 117 that falls in the same cycle stays pending (R13, R339). (Log entry 112: DEDUCED) -/
def Lane.icComplete (yard : Bool) (s : Nat) (L : Lane) : Lane :=
  if !(L.ic.active.contains s) || L.srcTarget s != yard || (!yard && L.ic.halted) then L else
  let again := bit (L.setNow (F.IC_PEND.addr 0 (s / 32))) (s % 32)
  let L := { L with ic := { L.ic with active := L.ic.active.filter (fun x => x != s), latched := putBit L.ic.latched s again } }
  let L := L.when (s == 115 && !again) (fun L => ({ L with ic := { L.ic with mail := false } }).setFld F.IC_YARD_DOORBELL_Y 0)
  match L.thrStack yard with
  | [] => L
  | t :: st => L.setThreshold yard t st

/-- A read of the vector register claims as the claim register does and returns IC_VTAB + 4 × source. -/
def Lane.icVectorRead (L : Lane) : Lane :=
  let r := L.claimSrc false
  let base := 1024 * L.fld F.IC_VTAB_BASE
  r.2.leadRead (BitVec.ofNat 32 (base + 4 * (r.1.getD 0)))

/-- The pair takes its external interrupt at the retirement count `n`, the same in both cores (R333). (Log entry 120: DESIGN CHOICE) -/
def Lane.interruptTake (n : Nat) (L : Lane) : Lane :=
  if L.ic.halted || !L.meip then L else { L with ic := { L.ic with retired := n, taken := (L.bestSrc false).map (fun s => (n, s)) } }

/-- The cycles counted since lane reset or since mcycle was written, at 800 MHz, and at 50 MHz before the PLL has locked (R433); of the yard core since
its reset, at 400 MHz (R326). (Log entry 195: DESIGN CHOICE) -/
def Lane.cycles (L : Lane) (yard : Bool) : Nat :=
  (if yard then (L.now - L.ic.yCycleAt) / 4 else L.ic.cycle + (L.now - L.ic.cycleAt) / (if L.sy.mainPll then 2 else 32)) % 2 ^ 64

/-- The instructions retired: at the last interrupt taken as counted there (R333), and what the core has retired since, which no command tells.
(Log entry 195: DESIGN CHOICE) -/
def Lane.instret (L : Lane) (yard : Bool) : Nat := ((if yard then 0 else L.ic.retired) + Config.freeNat L.fresh) % 2 ^ 64

/-- IC_SRC.SWSET makes source 116 pending until completed. -/
def Lane.swset (L : Lane) : Lane := L.latchSrc 116

/-! ### Pair and runtime faults (R328 to R331, R344) -/

/-- A mismatch of a transaction of the pair: fatal, both cores halt. -/
def Lane.pairMismatch (L : Lane) : Lane := if L.pairRan then L.fault 7 0xFFFF else L

/-- A lead transaction that has waited 1,024 cycles counts as a mismatch (R330). -/
def Lane.compareTimeout (cycles : Nat) (L : Lane) : Lane := if cycles < 1024 then L else L.pairMismatch

/-- The watchdog expires: source 9. -/
def Lane.watchdogExpiry (L : Lane) : Lane := L.fault 9 0xFFFF

/-- Step 9 of R343 not done by the deadline by the runtime that the pair ran: source 8 (R344). -/
def Lane.tickDeadline (L : Lane) : Lane :=
  if L.lc.booted && !L.sy.debugHalt && L.pairRan && decide (L.ky.boundary + us 47 ≤ L.now) then ({ L with ic := { L.ic with taskStop := L.ic.taskStop.map (fun _ => true) } }).fault 8 0xFFFF else L

/-- An exception of the pair: its mode, mcause and mtval (R327, R340). -/
def Lane.trapped (L : Lane) (user : Bool) (cause a : Nat) : Lane := { L with ic := { L.ic with trap := some (user, cause, BitVec.ofNat 32 a) } }

/-- An access fault raised in machine mode stops the tick task, which then misses its deadline (R340). -/
def Lane.taskFault (L : Lane) (cause a : Nat) : Lane :=
  let L := L.trapped false cause a
  { L with ic := { L.ic with taskStop := some (L.ic.taskStop.getD false) } }

/-- A tick that ends with the tick task stopped: its deadline has been missed, a fault of source 8 (R340, R344). (Log entry 197: DEDUCED) -/
def Lane.taskMissed (L : Lane) : Lane :=
  if L.ic.taskStop = some false then ({ L with ic := { L.ic with taskStop := some true } }).fault 8 0xFFFF else L

/-! ### Yard core (R348, R349) -/

/-- The yard core runs. -/
def Lane.yardRuns (L : Lane) : Bool := L.flag F.IC_YARD_YRUN

/-- The blocks whose windows the yard core may read. -/
def yardReadable (b : Nat) : Bool := [1, 2, 3, 5, 8, 9, 10, 11, 12, 13, 14, 15, 16, 17, 18].contains b

/-- The accesses that the firewall permits (R348). -/
def yardMay (a : Nat) (write : Bool) : Bool :=
  if 0x24000000 ≤ a ∧ a < 0x2403F000 then true
  else if 0x2403F000 ≤ a ∧ a < 0x2403F800 then !write
  else if 0x2403F800 ≤ a ∧ a < 0x24040000 then true
  else if (0x21000000 ≤ a ∧ a < 0x21100000) ∨ (0x23000000 ≤ a ∧ a < 0x23080000) ∨ (0x09100000 ≤ a ∧ a < 0x09300000) then !write
  else if 0x40000000 ≤ a then
    let b := (a - 0x40000000) / 0x10000
    if windowSize b ≤ a % 0x10000 then false
    else if b = 20 then !write || [F.EN_STREAM_RATE.addr 0 0, F.EN_DST_LO.addr 0 0, F.EN_DST_HI_DST.addr 0 0, F.EN_EVENT_LINK_UP.addr 0 0,
      F.EN_CNT_RX_DROP.addr 0 0].contains (a / 4 * 4)
    else yardReadable b && !write
  else false

/-- A yard access that the firewall does not permit: bus error, nothing written, a read of 0, FW_ERR set and FW_CNT counted. -/
def Lane.yardFirewallRefuse (a : Nat) (write : Bool) (L : Lane) : Lane :=
  if !(L.yardRuns) || yardMay a write then L else
  let L := (L.raise F.IC_YARD_FW_ERR).bump F.IC_YARD_FW_CNT
  { L with rdata := 0, busErr := true
           ic := { L.ic with refused := (L.now :: L.ic.refused.filter (fun t => decide (L.now < t + ms 1))).take 1000 } }

/-- 1,000 refused accesses within 1 ms: the hub resets the yard core, a contained fault of source 27 (R350). -/
def Lane.firewallStorm (L : Lane) : Lane :=
  if (L.ic.refused.filter (fun t => decide (L.now < t + ms 1))).length < 1000 then L
  else ({ L with ic := { L.ic with refused := [] } }).fault 27 0xFFFF

/-- The yard core rings source 114 at the helm pair. -/
def Lane.doorbellH (L : Lane) : Lane := if L.yardRuns then L.latchSrc 114 else L

/-- The helm pair rings source 115 at the yard core. -/
def Lane.doorbellY (L : Lane) : Lane := (L.raise F.IC_YARD_DOORBELL_Y).latchSrc 115

/-- IC_YARD.YRESET. -/
def Lane.yReset (L : Lane) : Lane := L.yardReset

/-! ### Budget timer and application (R345 to R347) -/

/-- A write of IC_BUDGET: a non-zero count of 200 MHz cycles starts it, 0 stops it. -/
def Lane.icBudgetStart (cycles : Nat) (L : Lane) : Lane :=
  let c := cycles % 2 ^ 24
  { L with ic := { L.ic with budgetEnd := if c = 0 then none else some (L.now + 8 * c), appBudget := false } }

/-- The application's tick is aborted and its outputs discarded; the third in a row stops it (R345). An init entry that is aborted ends, which is
no tick. (Log entry 47: DEDUCED) -/
def Lane.appAbort (L : Lane) (cause : Nat) : Lane :=
  if L.ic.init then ({ L with ic := { L.ic with init := false, budgetEnd := none, appBudget := false } }).log 5 3 0xFF 0 0xFFFF [cause] else
  let n := L.ic.abortRun + 1
  let L := { L with ic := { L.ic with window := false, abortRun := n, budgetEnd := none, appBudget := false } }
  let L := L.log 5 3 0xFF 0 0xFFFF [cause]
  let L := L.when (decide (3 ≤ n)) (fun L => ({ L with ic := { L.ic with stopped := true } }).fault 30 0xFFFF)
  L.sendSetpoints

/-- The budget timer reaches 0: source 117; a budget of the application aborts its tick or its init entry. (Log entry 196: DESIGN CHOICE) -/
def Lane.budgetExpiry (L : Lane) : Lane :=
  match L.ic.budgetEnd with
  | none => L
  | some t =>
    if L.now < t then L else
    let app := L.ic.appBudget && (L.ic.window || L.ic.init)
    let L := ({ L with ic := { L.ic with budgetEnd := none, appBudget := false } }).latchSrc 117
    L.when app (fun L => L.appAbort 0)

/-- The application's tick opens once its init entry has ended (step 6 of R343): 15 µs of pair time from 12 µs after the boundary.
(Log entries 113: DEDUCED, 196: DESIGN CHOICE) -/
def Lane.openWindow (L : Lane) : Lane :=
  if L.ic.app.isNone || L.ic.stopped || L.ic.halted || L.ic.init then L else
  { L with ic := { L.ic with window := true, logCalls := 0, budgetEnd := some (L.now + us 27), appBudget := true } }

/-- The application runs: in its window or its init entry, not stopped, the pair not halted. -/
def Lane.appRuns (L : Lane) : Bool := L.ic.app.isSome && (L.ic.window || L.ic.init) && !L.ic.stopped && !L.ic.halted

/-- Actuator `n` is owned by the application. -/
def Lane.owned (L : Lane) (n : Nat) : Bool := bit ((L.ic.app.getD (0, 0)).1) n

/-- A word of the output record of R346. -/
def Lane.outWord (L : Lane) (o : Nat) : Word := L.memWord (0x202DF800 + o)

/-- The own setpoints with the application's outputs in place of the runtime's for every owned actuator, in a controlled stop too; a held brake
gets none. (Log entry 183: DESIGN CHOICE) -/
def Lane.appSetpoints (L : Lane) : Setpoints :=
  let takes (n : Fin 16) : Bool := L.owned n && !(L.kind n == 2 && L.brakesHeld)
  { torque := (List.finRange 16).map (fun (n : Fin 16) => if takes n then L.outWord (8 * n) else L.ky.own.torque.getD n 0)
    release := (List.finRange 16).foldl (fun (r : Nat) (n : Fin 16) =>
      if takes n && L.kind n == 2 then putBit r n (bit (L.outWord (4 + 8 * n)).toNat 0) else r) L.ky.own.release }

/-- The application ends its tick (R345, R346): its outputs are taken and the authority frame carries them; a non-finite output of
an owned actuator aborts the tick. The holder's shelf carries words 0xC0 to 0xFF. In its init entry it ends that.
(Log entries 47: DEDUCED, 196: DESIGN CHOICE) -/
def Lane.tickDone (L : Lane) : Lane :=
  if !L.appRuns then L else
  if L.ic.init then { L with ic := { L.ic with init := false, budgetEnd := none, appBudget := false } } else
  if (List.range 16).any (fun n => L.owned n && !(f32finite (L.outWord (8 * n)))) then L.appAbort 2 else
  let L := { L with ic := { L.ic with window := false, abortRun := 0, budgetEnd := none, appBudget := false } }
  let L := { L with ky := { L.ky with own := L.appSetpoints } }
  let L := (L.setFld F.EG_VOTE_OWN_VOTE (if L.ky.state = .service then L.ky.own.release else 0)).sendSetpoints
  if L.ky.holder ≠ some L.id then L else
  let ws := (List.range 64).map (fun i => L.outWord (0x80 + 4 * i))
  let L := L.setWords F.KY_SHELF_OUT 0xC0 ws
  match L.out.shelf with
  | none => L
  | some f => { L with out := { L.out with shelf := some { f with words := f.words.take 0xC0 ++ ws } } }

/-- A refused call. -/
def Lane.refuseCall (L : Lane) : Lane := { L with ic := { L.ic with a0 := 0xFFFFFFFF } }

/-- The application logs a code and a value; the fifth call of a tick is refused (R347). -/
def Lane.appLog (code : Nat) (value : Word) (L : Lane) : Lane :=
  if 4 ≤ L.ic.logCalls then L.refuseCall
  else ({ L with ic := { L.ic with logCalls := L.ic.logCalls + 1, a0 := 0 } }).log 6 3 0xFF 0 0xFFFF [code % 65536, value.toNat]

/-- The application calls LOG; a call that the table of R347 does not list is refused, and an exception raised in user mode aborts the tick
(R345). (Log entry 163: DESIGN CHOICE) -/
def Lane.appCall (call : AppCall) (value : Word) (L : Lane) : Lane :=
  if !L.appRuns then L else
  match call with
  | .log code => L.appLog code value
  | .unlisted => L.refuseCall
  | .exception => L.appAbort 1

/-- The application reads a tally of the last snapshot; refused without tally access (R347, R384). -/
def Lane.appTally (b idx : Nat) (L : Lane) : Lane :=
  if !L.appRuns then L
  else if !(bit ((L.ic.app.getD (0, 0)).2) 0) then L.refuseCall
  else
    let w := if b ≤ 22 ∧ idx < 64 then cellGet 0 L.tl.snap (64 * b + idx) else 0
    { L with ic := { L.ic with a0 := BitVec.ofNat 32 w, a1 := BitVec.ofNat 32 (w / 2 ^ 32 % 65536) } }

/-- The application posts a message to the yard core: copied to the mailbox and rung; refused while the previous one is unread, and for
an address or length outside the call's range. (Log entry 113: DEDUCED) -/
def Lane.appMail (addr len : Nat) (L : Lane) : Lane :=
  if !L.appRuns then L
  else if L.ic.mail || len = 0 || 256 < len || addr < 0x202E0000 || 0x20300000 < addr + len then L.refuseCall
  else (({ L with ic := { L.ic with mail := true, a0 := 0 } }).setBytes 0x2403F000 (L.bytes addr len)).doorbellY

/-- The input record of R346 written for the tick that opens. -/
def Lane.inputRecord (L : Lane) : Lane :=
  let L := L.setMemWord 0x202DF000 (BitVec.ofNat 32 L.ky.tick)
  let L := L.setBytes 0x202DF004 [BitVec.ofNat 8 L.serviceCount, BitVec.ofNat 8 L.ky.profile, BitVec.ofNat 8 (b2n L.stop.active), BitVec.ofNat 8 L.id.index]
  let L := (List.finRange 16).foldl (fun (L : Lane) (n : Fin 16) =>
    let a := 0x202DF010 + 16 * n.val
    let L := (((L.setMemWord a (L.shelfIn (0x24 + 3 * n))).setMemWord (a + 4) (L.shelfIn (0x25 + 3 * n))).setMemWord (a + 8)
      (L.shelfIn (0x26 + 3 * n))).setMemWord (a + 12) (L.shelfIn (0x54 + 2 * n))
    let b := 0x202DF110 + 8 * n.val
    (L.setMemWord b (BitVec.ofInt 32 (L.ky.agreedPos.getD n 0))).setMemWord (b + 4) (f32of (L.ky.agreedSpeed.getD n 0))) L
  (List.range 64).foldl (fun (L : Lane) i => L.setMemWord (0x202DF190 + 4 * i) (L.shelfIn (0xC0 + i))) L

end Sys2Proof.Machine
end

