-- ==== Sys2Proof/Machine/FaultHub.lean ====
section
/-! DEFINITION. Chapter 16, the fault hub: reports of checkers, the phases of ERR_OUT, quiet periods with recovery and latch, the event
log in flash, and the commands of fault injection and trapdoor mode (R350 to R363). -/

namespace Sys2Proof.Machine

/-- The sources with no unit index (R350). -/
def noUnit (s : Nat) : Bool := [7, 8, 9, 10, 11, 12, 15, 27, 30, 31].contains s

/-- The fault that the armed checker reports for a check it inverts (R358): an ECC error of its memory or flash range, corrected or not by
MODE, a cache error of the lead core, a parity error. The checkers of frames and of the guardian clock act where their checks are made. -/
def Lane.injReports (L : Lane) (s u : Nat) : Bool :=
  let c := L.fld F.FC_INJ_CHECKER
  let plain := L.fld F.FC_INJ_MODE == 0
  if c ≤ 5 then u == c && s == (if plain then 0 else if c = 3 ∨ c = 4 then 2 else 1)
  else if c = 6 then
    let active := u == L.lc.slot || u == 4
    decide (u ≤ 5) && (if plain then s == 3 else (s == 4 && (active || u == 2)) || (s == 5 && !active))
  else if c = 7 then s == 6 && u == 0
  else if c = 8 then s == 15
  else c == 9 && s == 16 && decide (u ≤ 22)

/-- A checker reports a detected error (R350): its source, its unit index and whether it follows from an injection. An injected report
is a check of the armed checker; without one armed, or of another checker, there is none. -/
def Lane.faultReport (s unit_ : Nat) (inj : Bool) (L : Lane) : Lane :=
  if 32 ≤ s || (inj && !(L.fc.injArm && L.injReports s unit_)) then L
  else (L.when inj Lane.injTake).fault s (if noUnit s then 0xFFFF else unit_) inj

/-! ### ERR_OUT (R353) -/

/-- The end of a pulse after 10 to 12 µs; the releasing phase of a held output is followed by an asserting one. -/
def Lane.errOutPulseEnd (L : Lane) : Lane :=
  match L.fc.pulse with
  | none => L
  | some p =>
    if L.now < p.began + us 10 then L
    else if p.releasing then { L with fc := { L.fc with pulse := some { p with began := L.now, releasing := false } } }
    else { L with fc := { L.fc with pulse := none } }

/-- A write of FC_ERROUT (R16, R353): HOLD, and a MERGED field of zero that clears the counter with its stuck flag; an increment of the same
cycle is counted into the cleared counter. -/
def Lane.fcErroutWrite (v : Word) (L : Lane) : Lane :=
  let L := L.setFld F.FC_ERROUT_HOLD (F.FC_ERROUT_HOLD.get v)
  if F.FC_ERROUT_MERGED.get v = 0 then
    let L := L.setFld F.FC_ERROUT_MERGED (b2n (F.FC_ERROUT_MERGED.get (BitVec.ofNat 32 (L.setNow (F.FC_ERROUT_MERGED.addr 0 0))) != 0))
    L.setFld F.FC_STUCK_STUCK (putBit (L.fld F.FC_STUCK_STUCK) 4 false)
  else L

/-! ### Recovery and latch (R355 to R357) -/

/-- The recoveries that lie within the window ending now, the new one added: the first of them is at most RECOV_WIN old (R356). -/
def Lane.recoverySeries (L : Lane) (old : List Nat) : List Nat :=
  old.filter (fun t => decide (L.now ≤ t + ms (100 * L.recovWin))) ++ [L.now]

/-- One recovery counted, raised and logged. -/
def Lane.recovered (L : Lane) (kind source : Nat) : Lane :=
  ((L.bump F.FC_RCNT_COUNT).raise F.FC_EVENT_RECOVERED).log 1 kind source 0 0xFFFF []

/-- The quiet period of a source ends: one recovery is counted; the RECOV_N-th in the window latches the source and keeps its state.
Says whether the hub resets the lane. -/
def Lane.quietEnd (L : Lane) (s : Nat) : Lane × Bool :=
  let old := ((L.fc.recov.find? (fun c => c.1 == s)).map (fun c => c.2)).getD []
  let series := L.recoverySeries old
  let L := L.recovered (srcClass s) s
  let L := { L with fc := { L.fc with quiet := L.fc.quiet.filter (fun (c : Nat × Nat) => c.1 != s), recov := L.fc.recov.filter (fun (c : Nat × List Nat) => c.1 != s) ++ [(s, series)] } }
  if L.recovN ≤ series.length then
    (((L.setSrcBit F.FC_LATCH s true).raise F.FC_EVENT_LATCHED).log 2 (srcClass s) s 0 0xFFFF [], false)
  else (L.setSrcBit F.FC_STATE s false, srcClass s == 2 && L.flag F.FC_CFG_AUTORST)

/-- The same for a withdrawal without a source (R357). -/
def Lane.wdrEnd (L : Lane) : Lane × Bool :=
  let series := L.recoverySeries L.fc.wdrRecov
  let L := L.recovered 3 0xFF
  let L := { L with fc := { L.fc with wdrQuiet := none, wdrRecov := series } }
  if L.recovN ≤ series.length then (((L.setFld F.FC_WDR_LATCH 1).raise F.FC_EVENT_LATCHED).log 2 3 0xFF 0 0xFFFF [], false)
  else (L.setFld F.FC_WDR_STATE 0, L.flag F.FC_CFG_AUTORST)

/-- The same for a boot that failed without a source (R440), numbered 33: counted among the recoveries, and after RECOV_N of them within
the window no further reset follows. (Log entry 32: DEDUCED) -/
def Lane.bootEnd (L : Lane) : Lane × Bool :=
  let old := ((L.fc.recov.find? (fun c => c.1 == 33)).map (fun c => c.2)).getD []
  let series := L.recoverySeries old
  let L := L.recovered 3 0xFF
  let L := { L with fc := { L.fc with quiet := L.fc.quiet.filter (fun (c : Nat × Nat) => c.1 != 33), recov := L.fc.recov.filter (fun (c : Nat × List Nat) => c.1 != 33) ++ [(33, series)] } }
  (L, decide (series.length < L.recovN) && L.flag F.FC_CFG_AUTORST)

/-- Which of the running quiet periods has ended: a source's, or with 32 that of a withdrawal, with 33 that of a failed boot. The cycle in
which a period would end still belongs to it, since a fault found there keeps the state (R355). Says whether the lane is reset.
(Log entries 32: DEDUCED, 143: DEDUCED) -/
def Lane.quietCheck (L : Lane) (s : Nat) : Lane × Bool :=
  if s = 32 then
    match L.fc.wdrQuiet with
    | none => (L, false)
    | some t => if L.now / 8 ≤ t / 8 then (L, false) else L.wdrEnd
  else
    match L.fc.quiet.find? (fun c => c.1 == s) with
    | none => (L, false)
    | some c =>
      if L.now / 8 ≤ c.2 / 8 then (L, false) else if s = 33 then L.bootEnd else L.quietEnd s

/-! ### Event log (R361, R362) -/

/-- The detail bytes of a record: of a withdrawal the cause in the first two, of a record of losses the count, of a LOG call the code
and the value; each number takes four bytes elsewhere. -/
def detailBytes (r : LogRec) : List Byte :=
  let b := if r.kind = 3 then (r.detail.map (leBytes 2)).flatten else (r.detail.map (leBytes 4)).flatten
  (b ++ List.replicate 16 0).take 16

/-- The 64 bytes of a record (R361). -/
def LogRec.bytes (r : LogRec) (num : Nat) : List Byte :=
  let body := leBytes 4 num ++ leBytes 8 r.time
    ++ [BitVec.ofNat 8 r.kind, BitVec.ofNat 8 r.cls, BitVec.ofNat 8 r.source, BitVec.ofNat 8 r.flags]
    ++ leBytes 2 r.unit_ ++ [BitVec.ofNat 8 r.laneState, BitVec.ofNat 8 r.level] ++ leBytes 4 r.tick ++ detailBytes r ++ List.replicate 20 0
  body ++ leBytes 4 (crc32c body).toNat

/-- The flash address of record `num`: 32 sectors of 1,024 records, in turn. -/
def logAddr (num : Nat) : Nat := 0x09100000 + 64 * (num % 32768)

/-- A range of flash erased reads 0xFF (a canonical memory lists nothing there). -/
def Lane.eraseRange (L : Lane) (a n : Nat) : Lane := { L with mem := L.mem.filter (fun c => decide (c.1 < a) || decide (a + n ≤ c.1)) }

/-- A record written to flash; a sector is erased before its first record when the log is full. (Log entry 91: DESIGN CHOICE) -/
def Lane.writeRec (L : Lane) (r : LogRec) : Lane :=
  let n := L.fc.nextRec
  let L := L.when (n % 1024 == 0 && decide (L.fc.logged ≥ 32768)) (fun L =>
    { (L.eraseRange (logAddr n) 0x10000).tally 7 0 with en := { L.en with logOut := L.en.logOut.filter (fun m => decide (n ≤ m + 31744)) } })
  let L := (L.setBytes (logAddr n) (r.bytes n)).tally 7 1
  let L := if L.streamOn 3 then { L with en := { L.en with logOut := (L.en.logOut ++ [n]).drop (L.en.logOut.length + 1 - 32768) } } else L
  { L with fc := { L.fc with nextRec := (n + 1) % 2 ^ 32, logged := if L.fc.logged ≥ 32768 then 31745 else L.fc.logged + 1 } }

/-- The oldest queued record is written when Tj permits flash work, else it waits and TEMP_HOLD is raised (R362, R406). A record of the
losses follows once there is room. -/
def Lane.logRecordWrite (L : Lane) : Lane :=
  match L.fc.queue with
  | [] => L
  | r :: q =>
    if !L.th.flashOk then L.raise F.FC_EVENT_TEMP_HOLD
    else
      let L := ({ L with fc := { L.fc with queue := q } }).writeRec r
      if L.fc.dropped = 0 then L
      else ({ L with fc := { L.fc with dropped := 0 } }).log 10 3 0xFF 0 0xFFFF [L.fc.dropped]

/-! ### Fault injection (R358, R359) -/

/-- A write of FC_INJ. -/
def Lane.fcInjArm (v : Word) (L : Lane) : Lane :=
  let chk := F.FC_INJ_CHECKER.get v
  let L := (((L.setFld F.FC_INJ_CHECKER (if 17 < chk then L.fld F.FC_INJ_CHECKER else chk)).setFld F.FC_INJ_MODE (F.FC_INJ_MODE.get v)).setFld F.FC_INJ_COUNT (F.FC_INJ_COUNT.get v))
  if F.FC_INJ_ARM.get v = 0 then ({ L with fc := { L.fc with injArm := false, injLeft := 0 } }).setFld F.FC_INJ_ARM 0
  else if 17 < chk || !L.injAllowed then L.raise F.FC_EVENT_INJ_DENIED
  else ({ L with fc := { L.fc with injArm := true, injLeft := L.fld1 F.FC_INJ_COUNT } }).setFld F.FC_INJ_ARM 1

/-- A write of FC_XINJ; only in the Service life-cycle state it arms. -/
def Lane.fcXinjArm (v : Word) (L : Lane) : Lane :=
  let L := ((((L.setFld F.FC_XINJ_ACTION (F.FC_XINJ_ACTION.get v)).setFld F.FC_XINJ_PORT (F.FC_XINJ_PORT.get v)).setFld F.FC_XINJ_CLASS
    (F.FC_XINJ_CLASS.get v)).setFld F.FC_XINJ_OFS (F.FC_XINJ_OFS.get v)).setFld F.FC_XINJ_COUNT (F.FC_XINJ_COUNT.get v)
  if F.FC_XINJ_ARM.get v = 0 then ({ L with fc := { L.fc with xinjLeft := 0 } }).setFld F.FC_XINJ_ARM 0
  else if L.lc.state ≠ .service then L.raise F.FC_EVENT_INJ_DENIED
  else
    let n := if F.FC_XINJ_ACTION.get v = 3 then 2 else L.fld1 F.FC_XINJ_COUNT
    ({ L with fc := { L.fc with xinjLeft := n } }).setFld F.FC_XINJ_ARM 1

/-- A write of FC_TRAP entry `e`: in Blank alone (R360). -/
def Lane.fcTrapWrite (e : Fin 8) (v : Word) (L : Lane) : Lane :=
  if L.lc.state ≠ .blank then L
  else ((((((L.setFld F.FC_TRAP_EN (F.FC_TRAP_EN.get v) 0 e).setFld F.FC_TRAP_VALUE (F.FC_TRAP_VALUE.get v) 0 e).setFld F.FC_TRAP_BIT
    (F.FC_TRAP_BIT.get v) 0 e).setFld F.FC_TRAP_BLOCK (F.FC_TRAP_BLOCK.get v) 0 e).setFld F.FC_TRAP_GROUP (F.FC_TRAP_GROUP.get v) 0 e).setFld
    F.FC_TRAP_OFFSET (F.FC_TRAP_OFFSET.get v / 4 * 4) 0 e)

/-- Leaving Blank clears every entry (R360). -/
def Lane.trapClear (L : Lane) : Lane := (List.range 8).foldl (fun (L : Lane) e => L.setWord F.FC_TRAP_EN 0 0 e) L

end Sys2Proof.Machine
end

