-- ==== Sys2Proof/Machine/Reset.lean ====
section
/-! DEFINITION. Chapter 21, clocks, resets and start-up: the reset types and what each clears and keeps (R437), supplies and power-on
detection (R436), clock monitors (R432 to R434), the TAP (R33, R164), and the quiet periods of the fault hub that reset the lane. -/

namespace Sys2Proof.Machine

/-! ### What lane reset keeps (R437) -/

/-- The bits of a register word that lane reset keeps: the cellar registers but for their sticking counters, the fault latches, the
fault recovery counter, the withdrawal latch and the shutdown flag. (Log entry 30: DEDUCED) -/
def keepMask (a : Nat) : Nat :=
  let b := (a - 0x40000000) / 0x10000
  let o := (a - 0x40000000) % 0x10000
  if a < 0x40000000 then 0
  else if b = 1 then (if o = 0x1C ∨ o = 0x20 then 0 else 2 ^ 32 - 1)
  else if b = 21 then 2 ^ 32 - 1
  else if b = 0 ∧ o = 0x08 then 2 ^ 32 - 1
  else if b = 3 ∧ (o = 0x08 ∨ o = 0x14) then 2 ^ 32 - 1
  else if b = 3 ∧ o = 0x28 then 0x20
  else if b = 2 ∧ o = 0x04 then 0x08
  else 0

/-- A register word as lane reset leaves it: kept bits as they stand, the others at their reset value. (Log entry 30: DEDUCED) -/
def keptWord (id : LaneId) (a : Nat) (w : Word) : Word :=
  let m := BitVec.ofNat 32 (keepMask a)
  (w &&& m) ||| (resetWord id a &&& ~~~m)

/-- The register file after lane reset. -/
def keptRegs (id : LaneId) (rs : List (Nat × Word)) : List (Nat × Word) :=
  rs.foldr (fun (c : Nat × Word) (m : List (Nat × Word)) => cellSet (resetWord id c.1) m c.1 (keptWord id c.1 c.2)) []

/-- Lane reset (R437): every register outside the cellar, every tally, device time, the object channel and the unlock challenge start
afresh; the cellar's content, OTP and flash stay. The reset itself is counted in SY tally 0.
(Log entries 19: DEDUCED, 29: DEDUCED, 31: DEDUCED) -/
def Lane.laneReset (L : Lane) : Lane :=
  let R := Lane.reset L.id
  let N : Lane := { R with
    now := L.now
    fresh := L.fresh
    regs := keptRegs L.id L.regs
    mem := L.mem
    stuckEvents := L.stuckEvents
    sy := { L.sy with lock := false, lostLock := false, clockFault := false, mainPll := false, x32Fail := false, permit := false, debugHalt := false }
    fc := { R.fc with
      recov := L.fc.recov
      wdrRecov := L.fc.wdrRecov
      queue := L.fc.queue
      dropped := L.fc.dropped
      nextRec := L.fc.nextRec
      logged := L.fc.logged
      ioReport := L.fc.ioReport }
    pm := { L.pm with level := .awake, fromDoze := false, phase := .none, ask := [], acked := [], pads := 0 }
    lc := { R.lc with
      otp := L.lc.otp
      overlay := L.lc.overlay
      install := L.lc.install
      instApp := L.lc.instApp
      instSize := L.lc.instSize
      instNext := L.lc.instNext
      stored := L.lc.stored }
    th := { R.th with
      shutdown := L.th.shutdown && !(L.tj.any (fun t => decide (t < 1300)))
      wasReset := L.th.shutdown && !(L.tj.any (fun t => decide (t < 1300))) }
    ln := { R.ln with timeAt := L.now } }
  N.tallyOne 0 0 1

/-- A reset cause is recorded; causes that meet each set their bit (R439). -/
def Lane.cause (L : Lane) (f : Fld) : Lane := L.raise f

/-- A latched fatal fault (R356) or a latched withdrawal (R357) holds the lane in Withdrawn through every lane reset.
(Log entry 126: DEDUCED) -/
def Lane.heldWithdrawn (L : Lane) : Bool :=
  L.flag F.FC_WDR_LATCH || (List.range 32).any (fun s => srcClass s == 2 && L.srcBit F.FC_LATCH s)

/-- The state after a lane reset (R41, R356, R357). (Log entry 126: DEDUCED) -/
def Lane.bootState (L : Lane) : LaneState := if L.heldWithdrawn then .withdrawn else .booting

/-- Lane reset is released: Booting, unless a latch holds the lane in Withdrawn (R41). A lock missed at the previous boot shows now.
(Log entry 110: DEDUCED) -/
def Lane.release (L : Lane) : Lane :=
  let L := L.when L.sy.nolockNext (·.cause F.SY_RSTCAUSE_NOLOCK)
  { L with sy := { L.sy with resetHeld := false, releasedAt := L.now, nolockNext := false }
           ky := { L.ky with state := L.bootState }
           ic := { L.ic with cycleAt := L.now, yCycleAt := L.now }
           ln := { L.ln with timeNs := 0, timeFrac := 0, timeAt := L.now } }

/-- A reset that no supply or pin holds: the lane boots at once. A Withdrawn lane with any fault latched stays there (R41).
(Log entry 126: DEDUCED) -/
def Lane.rebootBy (L : Lane) (f : Fld) : Lane :=
  let M := (L.laneReset.cause f).release
  if L.ky.state = .withdrawn ∧ L.latched = true then { M with ky := { M.ky with state := .withdrawn } } else M

/-- Every rail of the lane above its release level. -/
def Lane.railsUp (L : Lane) : Bool := L.sy.rails == 31

/-- The lane is held in reset: Off, every pad as R438 has it. -/
def Lane.holdReset (L : Lane) : Lane :=
  let L := L.laneReset
  { L with sy := { L.sy with resetHeld := true }, ky := { L.ky with state := .off } }

/-- What a cellar reset clears beside lane reset: larder, log queue, latches, recovery history, Service overlay, PM, SB, RSTCAUSE. -/
def Lane.cellarClear (L : Lane) : Lane :=
  let R := Lane.reset L.id
  { L with
    regs := []
    mem := L.mem.filter (fun c => decide (c.1 < 0x25000000) || decide (0x25040000 ≤ c.1))
    fc := { R.fc with nextRec := L.fc.nextRec, logged := L.fc.logged, ioReport := L.fc.ioReport }
    pm := .reset
    lc := { L.lc with overlay := none } }

/-! ### Supplies (R436) and the reset pin -/

/-- A supply falls below its assert level: the lane is Off, held in reset (R41). Its SRAM loses its content. VDD_AO resets the cellar.
(Log entry 19: DEDUCED) -/
def Lane.railLoss (r : Fin 5) (L : Lane) : Lane :=
  let L := { L.holdReset with mem := L.mem.filter (fun c => decide (c.1 < 0x20000000) || (decide (0x25000000 ≤ c.1) && decide (c.1 < 0x25040000))) }
  let L := { L with sy := { L.sy with rails := putBit L.sy.rails r false } }
  if r = 3 then L.cellarClear else L.cause F.SY_RSTCAUSE_RAIL

/-- VDD_AO falls below its assert level: the cellar is reset, which takes precedence over every other cause (R437, R439). -/
def Lane.cellarReset (L : Lane) : Lane := L.railLoss 3

/-- A rail rises past its release level; with the last of them the 2.0 ms count starts. -/
def Lane.railReturn (r : Fin 5) (L : Lane) : Lane :=
  let was := L.railsUp
  let L := { L with sy := { L.sy with rails := putBit L.sy.rails r true } }
  if L.railsUp && !was then { L with sy := { L.sy with railsAt := L.now } } else L

/-- Lane reset is released 2.0 ms after every rail has passed its release level, with RST_N high; CLKSEL is read (R432, R436, R440). -/
def Lane.laneResetRelease (clksel : Bool) (L : Lane) : Lane :=
  if L.sy.resetHeld && L.railsUp && L.sy.rstN && decide (L.sy.railsAt + ms 2 ≤ L.now) then
    ({ L with sy := { L.sy with extRef := clksel } }).release
  else L

/-- A.RST_N low for at least 1 µs: a lane reset, held. -/
def Lane.rstNLow (L : Lane) : Lane :=
  let L := L.holdReset
  ({ L with sy := { L.sy with rstN := false } }).cause F.SY_RSTCAUSE_PIN

/-- A.RST_N high again: with every supply valid the lane boots (R41). -/
def Lane.rstNRelease (clksel : Bool) (L : Lane) : Lane :=
  ({ L with sy := { L.sy with rstN := true } }).laneResetRelease clksel

/-- A rail outside its monitor window for 10 µs: source 13, fatal. -/
def Lane.railOutOfWindow (r : Fin 5) (L : Lane) : Lane := if bit L.sy.rails r then L.fault 13 r else L

/-- SY_CMD.LRESET (R439): with the unlock code, in Booting, Bench or Withdrawn; the reset follows 10 µs after the write.
(Log entry 211: DESIGN CHOICE) -/
def Lane.lreset (v : Word) (L : Lane) : Lane :=
  if F.SY_CMD_UNLOCK.get v = 0xA5C3 ∧ F.SY_CMD_LRESET.get v = 1 ∧ (L.ky.state = .booting ∨ L.ky.state = .bench ∨ L.ky.state = .withdrawn)
  then ({ L with now := L.now + us 10 }).rebootBy F.SY_RSTCAUSE_FW else L

/-! ### Clocks (R432 to R434) -/

/-- The PLL locks within 5 ms of the release and the main island switches to it. A lock that returns after it was lost is a relock, counted
in SY tally 2 (R375). -/
def Lane.pllLocks (L : Lane) : Lane :=
  let L := { L with ic := { L.ic with cycle := L.cycles false, cycleAt := L.now } }
  if L.sy.lostLock then ({ L with sy := { L.sy with lock := true, lostLock := false, mainPll := true } }).tally 0 2
  else if L.sy.releasedAt + ms 5 < L.now && !L.sy.clockFault then L
  else { L with sy := { L.sy with lock := true, mainPll := true } }

/-- The same; once the main clock is back, the hub records the stop that the guardian found (R351). (Log entries 164: DEDUCED, 200: DEDUCED) -/
def Lane.pllLock (L : Lane) : Lane :=
  if L.sy.resetHeld || L.sy.lock then L
  else if L.sy.clockFault then ({ L.pllLocks with sy := { L.pllLocks.sy with clockFault := false } }).fault 11 0xFFFF
  else L.pllLocks

/-- No lock 5 ms after the release: Withdrawn with source 11; NOLOCK shows at the next boot. (Log entry 4: DESIGN CHOICE) -/
def Lane.pllLockTimeout (L : Lane) : Lane :=
  if L.sy.resetHeld || L.sy.lock || decide (L.now < L.sy.releasedAt + ms 5) then L
  else ({ L with sy := { L.sy with nolockNext := true } }).fault 11 0xFFFF

/-- Lock lost after the switch: source 11, and the guardian withdraws permission. -/
def Lane.pllLockLost (L : Lane) : Lane :=
  if !L.sy.lock then L else ({ L with sy := { L.sy with lock := false, lostLock := true, mainPll := false } }).permitFall.fault 11 0xFFFF

/-- The guardian finds the main clock stopped: permission falls within 2 µs (R162), the lane is Withdrawn and ERR_OUT asserted. The hub, which runs on
that clock, records source 11 once it returns (R351). (Log entry 200: DEDUCED) -/
def Lane.mainClockStop (L : Lane) : Lane :=
  if L.sy.resetHeld then L
  else
    let L := { L with sy := { L.sy with lock := false, lostLock := L.sy.lostLock || L.sy.lock, clockFault := true, mainPll := false } }
    if L.ky.state = .off then L.permitFall else L.permitFall.toWithdrawn

/-- The RC cycles of a 100 µs window; outside 85 to 115 RC_DEV is set. -/
def Lane.rcCountWindow (cnt : Nat) (L : Lane) : Lane :=
  (L.setFld F.SY_RCMON_RCCNT cnt).when (decide (cnt < 85) || decide (115 < cnt)) (·.raise F.SY_EVENT_RC_DEV)

/-- The crystal fails while PM_CTRL.XTAL uses it: the cellar counts on the RC oscillator until the next lane reset. -/
def Lane.x32Fail (L : Lane) : Lane :=
  if L.flag F.PM_CTRL_XTAL then ({ L with sy := { L.sy with x32Fail := true } }).raise F.SY_EVENT_X32_FAIL else L

/-- The cellar timer and the Service time run on the crystal. -/
def Lane.onCrystal (L : Lane) : Bool := L.flag F.PM_CTRL_XTAL && !L.sy.x32Fail

/-- The earliest end of `d` steps of cellar time: the RC oscillator is within ±10 % (R432). -/
def Lane.cellarTime (L : Lane) (d : Nat) : Nat := if L.onCrystal then d else d * 9 / 10

/-! ### TAP (R33, R164, R327) -/

/-- The die set and the package revision that every lane of the package reports (R4, 0x1000 sub-indices 3 and 4). -/
def dieSet : Nat := 0x42
def packageRev : Nat := 0

/-- The word that the instruction IDCODE puts into the data register of the TAP; none under another instruction (R4, R33). -/
def Lane.idcode (L : Lane) : Option Word := if L.sy.tap = .idcode then some (Config.idcode dieSet packageRev) else none

/-- Test-logic-reset: the instruction register takes IDCODE. -/
def Lane.tapReset (L : Lane) : Lane := { L with sy := { L.sy with tap := .idcode } }

/-- The private debug instructions are permitted: in Blank, and in Service on a named lane (R412). -/
def Lane.debugAllowed (L : Lane) : Bool :=
  match L.lc.state with
  | .blank => true
  | .service => match L.lc.overlay with
    | some o => bit o.lanes L.id.index
    | none => false
  | _ => false

/-- A new instruction, or a boundary register updated. Debug halt and resume act on both cores together. -/
def Lane.tapUpdate (instr : Option TapInstr) (bsr : Option (List Bool)) (L : Lane) : Lane :=
  let L := match bsr with
    | some b => { L with sy := { L.sy with boundaryReg := b } }
    | none => L
  match instr with
  | none => L
  | some i =>
    if i = .debugHalt ∨ i = .debugResume then
      (if L.debugAllowed then { L with sy := { L.sy with tap := i, debugHalt := i == .debugHalt } } else L)
    else { L with sy := { L.sy with tap := i } }

/-- What drives a leg's pair of pads (R164): nothing, the boundary register, or the stage. -/
inductive PadDrive where
  | none
  | boundary
  | stage (high low : Bool)
  deriving DecidableEq, Repr

/-- The pads of the lane are not driven: a supply is missing, or HIGHZ. -/
def Lane.padsFloat (L : Lane) : Bool := L.sy.rails != 31 || L.sy.tap == .highz

/-- EXTEST or CLAMP acts on the pads: in Bench and Off alone (R164). -/
def Lane.padsBoundary (L : Lane) : Bool :=
  (L.sy.tap == .extest || L.sy.tap == .clamp) && (L.ky.state == .bench || L.ky.state == .off)

/-- A leg as it stands now. -/
def Lane.legNow (L : Lane) (g : Fin 16) (k : Fin 4) : LegS := (L.legSettle g k).leg g k

/-- The pads of leg `k` of group `g`: the commands of its state, each once it has risen. -/
def Lane.legPads (L : Lane) (g : Fin 16) (k : Fin 4) : PadDrive :=
  if L.padsFloat then .none
  else if L.padsHeld .drive then .stage false false
  else if L.padsBoundary then .boundary
  else
    let s := L.legNow g k
    let on := L.sy.permit && decide (s.onAt ≤ L.now)
    .stage (on && s.cmd == .high) (on && s.cmd == .low)

/-- The gate-enable pad of group `g`: its boundary cell lies before the AND with the permission, so EXTEST and CLAMP leave it low. -/
def Lane.genPad (L : Lane) (g : Fin 16) : Option Bool :=
  if L.padsFloat then none else some (!(L.padsHeld .drive) && !L.padsBoundary && (L.grp g).lg.gen && L.sy.permit)

/-- The pad ERR_OUT: undriven in a lane without its supplies (R354), at its last level while held (R395). -/
def Lane.errPad (L : Lane) : Option Bool :=
  if L.padsFloat then none else some (if L.padsHeld .core then L.pm.held.err else L.errOut)

/-- The veto lines on their pads, VT_NEXT and VT_PREV (R86, R395). -/
def Lane.vetoPads (L : Lane) : Option (Bool × Bool) :=
  if L.padsFloat then none else some (if L.padsHeld .core then (L.pm.held.next, L.pm.held.prev) else (L.ky.vtNext, L.ky.vtPrev))

/-- The PHY lines of both networks are at high impedance and CAN transmit is recessive, whatever the blocks do: while lane reset is held (R438), and
while the pads of the link domain are held (R395). -/
def Lane.linkPadsRest (L : Lane) : Bool := L.sy.resetHeld || L.padsHeld .link

/-- The runtime runs: firmware entered, the pair neither halted nor under debug halt. -/
def Lane.runtime (L : Lane) : Bool := L.lc.booted && !L.ic.halted && !L.sy.debugHalt && !L.sy.resetHeld

/-! ### Quiet periods (R355 to R357) -/

/-- QUIET ms without a fault of a source (32: of a withdrawal, 33: of a failed boot): the state is left; with AUTORST the hub resets the lane after a fatal one.
(Log entry 4: DESIGN CHOICE) -/
def Lane.quietPeriodEnd (s : Nat) (L : Lane) : Lane :=
  let r := L.quietCheck s
  if r.2 then (r.1.rebootBy F.SY_RSTCAUSE_FAULT).setFld F.SY_RSTCAUSE_SOURCE (if 32 ≤ s then 0xFF else s) else r.1

end Sys2Proof.Machine
end

