-- ==== Sys2Proof/Machine/SelfTest.lean ====
section
/-! DEFINITION. Chapter 17, self-test: the units of the sweep engine, slices, programs and the token (R364 to R374). -/

namespace Sys2Proof.Machine

/-! ### Units (R370) -/

/-- Slice time in µs of unit `u` in one periodic run; 0 for a unit tested continuously. -/
def unitTime (u : Nat) : Nat :=
  ([0, 0, 100000, 2000, 0, 600000, 400000, 150000, 50000, 50000, 60000, 2000, 2000, 4000, 4000, 2000, 1000, 1000, 160000, 160000]
    ++ [80000, 5000, 64000, 64000, 0, 80000, 0, 20000, 20000, 20000, 20000, 5000, 10000, 5000, 20000, 20000, 10000, 10000, 10000]
    ++ [0, 0, 30000, 5000, 1000, 0, 5000, 1000, 2000, 5000, 20000, 1000]).getD u 0

/-- Coverage of the periodic method in 0.01 %; 0 for a signature. -/
def unitCov (u : Nat) : Nat :=
  ([9900, 9900, 9750, 0, 9500, 9950, 9950, 9950, 9950, 9800, 9990, 9990, 0, 0, 0, 0, 9500, 9700, 9200, 9000]
    ++ [9000, 9500, 9800, 9700, 8500, 9000, 7000, 9700, 9700, 9700, 9700, 9600, 9800, 9500, 9000, 9000, 9900, 9500, 9000]
    ++ [9500, 9500, 9900, 9500, 9900, 9500, 9500, 9900, 9500, 9900, 9500, 0]).getD u 0

/-- Coverage of the start-up and deep method. -/
def unitCovDeep (u : Nat) : Nat :=
  ([9750, 9750, 9750, 0, 9800, 9980, 9980, 9980, 9950, 9800, 9990, 9990, 0, 0, 0, 0, 9500, 9700, 9850, 9850]
    ++ [9850, 9500, 9900, 9900, 9900, 9800, 9800, 9700, 9700, 9700, 9700, 9600, 9800, 9500, 9700, 9700, 9900, 9500, 9700]
    ++ [9800, 9800, 9900, 9500, 9900, 9900, 9500, 9900, 9500, 9900, 9500, 0]).getD u 0

/-- The units whose result is a signature (R366). -/
def signatureUnit (u : Nat) : Bool := [3, 12, 13, 14, 15, 50].contains u

/-- A copy of a duplicated unit acts: both do, but for the one whose LBIST runs (R366). -/
def Lane.copyActs (L : Lane) (u : Nat) (second : Bool) : Bool := !(L.st.slice.any (fun x => x.unit == u && signatureUnit u && x.copy == second))

/-- The domain in which a unit's slices act (R364, R370). -/
def unitDomain (u : Nat) : Domain :=
  if u ≤ 12 ∨ u = 16 ∨ u = 17 ∨ (47 ≤ u ∧ u ≤ 50) then .core
  else if u = 15 ∨ (34 ≤ u ∧ u ≤ 42) then .link
  else if (26 ≤ u ∧ u ≤ 33) ∨ (43 ≤ u ∧ u ≤ 46) then .field
  else .drive

/-- The units of a program: those that failed first (R372), then the others in order. (Log entry 119: DEDUCED) -/
def Lane.unitOrder (L : Lane) : List Nat :=
  (List.range 51).filter (fun u => bit L.st.failed u) ++ (List.range 51).filter (fun u => !(bit L.st.failed u))

/-! ### Programs (R371 to R374) -/

/-- The result of a unit recorded: status, coverage and slice time. -/
def Lane.unitResult (L : Lane) (u status cov dur : Nat) : Lane :=
  ((L.setFld F.ST_UNIT_STATUS status 0 u).setFld F.ST_UNIT_COVERAGE cov 0 u).setWord F.ST_DUR (BitVec.ofNat 32 dur) 0 u

/-- The coverage that the running program's method reaches. -/
def Lane.covOf (L : Lane) (u : Nat) : Nat := if L.st.prog = .periodic then unitCov u else unitCovDeep u

/-- Unit `u` failed: reported, and by its kind the fault of its source (R366, R372); in the periodic and the deep program it is marked failed, and a
replay mismatch in group `g` isolates the star (R365). -/
def Lane.unitFail (L : Lane) (u g : Nat) : Lane :=
  let L := (L.raise F.ST_EVENT_UNIT_FAIL).bump F.ST_CNT_UNIT_FAIL
  let L := { L with st := { L.st with runFail := true } }
  let sig := signatureUnit u
  let replay := L.st.prog == .periodic && replayUnit u
  let L := L.when (L.st.prog == .periodic || L.st.prog == .deep) (·.fault 28 u)
  let L := L.when sig (fun L => (L.raise F.ST_EVENT_SIG_FAIL).fault 29 u)
  L.when replay (fun L => if h : g < 16 then L.isolate ⟨g, h⟩ else L)

/-- What the continuous checks of a unit show as the periodic run reaches it (R370): the pair comparison (units 0, 1, 4), the silent-edge check of
the legs (24), the feedback interfaces (26), the cross-lane ports under R30 (39, 40), the test pulses of the safety inputs (44).
(Log entry 202: DEDUCED) -/
def Lane.checksPass (L : Lane) (u : Nat) : Bool :=
  if u ≤ 4 then !(L.srcBit F.FC_STATE 7)
  else if u = 24 then (List.finRange 16).all (fun g => !((L.grp g).lg.legs.any (·.fault)))
  else if u = 26 then (List.finRange 16).all (fun f => !((L.grp f).fb.fault))
  else if u = 39 then !((L.link .N).declared && !(L.link .N).up)
  else if u = 40 then !((L.link .P).declared && !(L.link .P).up)
  else u != 44 || !(L.srcBit F.FC_STATE 21)

/-- Units at the head of the periodic run that are tested continuously take what their checks show, with no slice of their own.
(Log entries 119: DEDUCED, 202: DEDUCED) -/
def Lane.skipContinuous (L : Lane) : Lane :=
  let skip := L.st.todo.takeWhile (fun u => unitTime u == 0)
  if L.st.prog ≠ .periodic ∨ skip = [] then L else
  let L := skip.foldl (fun (L : Lane) u =>
    if L.checksPass u then (L.unitResult u 1 (unitCov u) 0).setFailed u false else (L.unitResult u 2 (unitCov u) 0).unitFail u 16) L
  { L with st := { L.st with todo := L.st.todo.drop skip.length, spent := 0 } }

/-- A program starts on all units. -/
def Lane.startProgram (L : Lane) (p : Program) : Lane :=
  { L with st := { L.st with prog := p, todo := L.unitOrder, spent := 0, runFail := false, abortReq := false } }

/-- The periodic program starts; the cycle is taken for the run (R371). -/
def Lane.startPeriodic (L : Lane) : Lane :=
  let L := { L with st := { L.st with late := false, cycleLen := L.fld1 F.ST_CTRL_CYCLE } }
  (L.startProgram .periodic).skipContinuous

/-- At each cycle start the periodic program starts in Service and Shadow; a run still in progress is late, and the next follows it. -/
def Lane.periodicRunStart (L : Lane) : Lane :=
  if !(L.flag F.ST_CTRL_PERIODIC) || !(L.inSvcShadow) || decide (L.now < L.st.cycleAt + sec L.st.cycleLen) then L else
  let L := { L with st := { L.st with cycleAt := L.now } }
  if L.st.prog = .periodic then
    (({ L with st := { L.st with late := true } }).raise F.ST_EVENT_CYCLE_LATE).bump F.ST_CNT_CYCLE_LATE
  else if L.st.prog = .idle then L.startPeriodic else L

/-- A sibling is heard. -/
def Lane.hears (L : Lane) : Bool := (L.link .N).up || (L.link .P).up

/-- Boot starts the start-up program once a link is up (R371, R440): in Booting, the runtime entered, the program not yet passed.
(Log entry 141: DEDUCED) -/
def Lane.startUpRun (L : Lane) : Lane :=
  if L.ky.state == .booting && L.lc.booted && !L.ic.halted && L.hears && L.st.prog == .idle && !L.st.passed then L.startProgram .startUp else L

/-- ST_CMD.DEEP: the deep program, in Bench. -/
def Lane.deep (L : Lane) : Lane := if L.ky.state = .bench ∧ L.st.prog = .idle then L.startProgram .deep else L

/-- ST_CMD.ABORT: the running program ends after its slice. -/
def Lane.stAbort (L : Lane) : Lane :=
  if L.st.prog = .idle then L
  else if L.st.slice.isSome then { L with st := { L.st with abortReq := true } } else L.endRun

/-- Direct control is permitted (R374). -/
def Lane.directAllowed (L : Lane) : Bool := (L.lc.state == .blank || L.lc.state == .service) && L.ky.state == .bench

/-- The units of ST_SELECT. -/
def Lane.selected (L : Lane) : Nat := (L.word F.ST_SELECT_LO).toNat + 2 ^ 32 * (L.word F.ST_SELECT_HI).toNat

/-- ST_CMD.STEP: one slice of the lowest selected unit under direct control. -/
def Lane.step1 (L : Lane) : Lane :=
  if !L.directAllowed || !(L.flag F.ST_CTRL_DIRECT) then L.raise F.ST_EVENT_DENIED
  else if L.st.prog ≠ .idle then L
  else match (List.range 51).find? (fun u => bit L.selected u) with
    | none => L
    | some u => { L with st := { L.st with prog := .direct, todo := [u], spent := 0, runFail := false, abortReq := false } }

/-! ### Slices (R364 to R366) -/

/-- A shutdown flag found at boot holds the lane in Booting until Tj is below 130 °C (R405). -/
def Lane.bootHot (L : Lane) : Bool :=
  L.flag F.TH_STATUS_SHUT_FLAG && !(L.tj.any (fun t => decide (t < 1300)))

/-- Booting to Bench: firmware entered, the configuration judged, the start-up program passed (R41, R440). -/
def Lane.bootToBench (L : Lane) : Lane :=
  if L.ky.state = .booting && L.lc.loaded && L.st.passed && !L.bootHot then L.toBench else L

/-- A failure on the way from Booting to Bench (R41, R440): Withdrawn, with a quiet period of its own, numbered 33.
(Log entries 32: DEDUCED, 33: DEDUCED) -/
def Lane.bootFail (L : Lane) : Lane :=
  let L := L.toWithdrawn.forceErr
  { L with fc := { L.fc with quiet := L.fc.quiet.filter (fun (c : Nat × Nat) => c.1 != 33) ++ [(33, L.now + ms L.quietMs)] } }

/-- The last unit of a run is done. -/
def Lane.runDone (L : Lane) : Lane :=
  let p := L.st.prog
  let ok := !L.st.runFail
  let L := ({ L with st := { L.st with prog := .idle, spent := 0, abortReq := false } }).raise F.ST_EVENT_RUN_DONE
  let L := L.tally 4 2
  match p with
  | .periodic =>
    let L := L.setWord F.ST_RUNS (L.word F.ST_RUNS + 1)
    let L := (L.setWord F.ST_END_LO (BitVec.ofNat 32 L.devTime)).setWord F.ST_END_HI (BitVec.ofNat 32 (L.devTime / 2 ^ 32))
    if L.st.late then L.startPeriodic else L
  | .startUp =>
    if ok then ({ L with st := { L.st with passed := true } }).bootToBench else L.bootFail
  | .deep =>
    let L := { L with st := { L.st with passed := L.st.passed || ok } }
    if L.lc.install != 5 then L
    else { L with lc := { L.lc with deepOk := ok, trialBad := L.lc.trialBad || !ok } }
  | _ => L

/-- A slice ends (R364): `pass` is what the unit showed, of a duplicated unit its signature `sig` compared with that of the boot ROM (R366). A periodic
run of a unit is complete after the slice time of R370, another with `last`. -/
def Lane.sliceEnd (pass last : Bool) (sig : Word) (L : Lane) : Lane :=
  match L.st.slice with
  | none => L
  | some s =>
    if L.now < s.began + us s.len then L else
    let u := s.unit
    let spent := L.st.spent + s.len
    let pass := if signatureUnit u then sig == Config.lbistSig dieSet u else pass
    let periodic := L.st.prog == .periodic
    let done := !pass || (if periodic then decide (unitTime u ≤ spent) else last)
    let L := L.tally 4 0
    let replay := if periodic && replayUnit u then (L.st.replay + 1) % 16 else L.st.replay
    let todo := if done then L.st.todo.drop 1 else L.st.todo
    let cp := if signatureUnit u then putBit L.st.copy u (!(bit L.st.copy u)) else L.st.copy
    let L := { L with st := { L.st with slice := none, spent := if done then 0 else spent, todo := todo, replay := replay, copy := cp } }
    let L := L.when (signatureUnit u) (·.setWord F.ST_SIG sig 0 u)
    let L := if !done then L.setWord F.ST_DUR (BitVec.ofNat 32 spent) 0 u
      else if pass then (L.unitResult u 1 (L.covOf u) spent).when (L.st.prog != .startUp) (·.setFailed u false)
      else (L.unitResult u 2 (L.covOf u) spent).unitFail u s.group
    if L.st.prog = .idle then L
    else if L.st.abortReq then L.endRun
    else if L.st.prog = .direct then { L with st := { L.st with prog := .idle, todo := [] } }
    else
      let L := L.skipContinuous
      if L.st.todo = [] then L.runDone else L

/-! ### Token (R367 to R369) -/

/-- The sibling on a port is heard and takes the token. -/
def Lane.takesToken (L : Lane) (p : Port) : Bool :=
  (L.link p).up && !(match p with
    | .N => L.cx.coordN.any (fun c => c.noToken || c.toCellar)
    | .P => L.cx.coordP.any (fun c => c.noToken || c.toCellar))

/-- How long ago, in passes, a lane last held the token. -/
def Lane.tokenAge (L : Lane) (o : LaneId) : Nat := (L.st.num + 65536 - L.st.lastHeld.getD o.index 0 % 65536) % 65536

/-- The next holder: the heard sibling that held the token least recently, the first in the order A→B→C among equals. -/
def Lane.nextHolder (L : Lane) : Option LaneId :=
  let c := [LaneId.A, LaneId.B, LaneId.C].filter (fun o => o != L.id && L.takesToken (L.portTo o))
  c.foldl (fun (b : Option LaneId) o => match b with
    | none => some o
    | some x => if L.tokenAge x < L.tokenAge o then some o else b) none

/-- At a boundary the holder with no slice running passes the token; `pass` is the lane it goes to, 3 for none. -/
def Lane.tokenPass (L : Lane) : Lane × Nat :=
  if !L.st.holds || L.st.slice.isSome then (L, 3) else
  match L.nextHolder with
  | none => ({ L with st := { L.st with lastPass := L.now } }, 3)
  | some o =>
    let L := ({ L with st := { L.st with
      holds := false, num := (L.st.num + 1) % 65536, holder := o.index, lastPass := L.now } }).tally 4 1
    (L, o.index)

/-- The token as a frame reports it (R367): a number behind the newest known is discarded; a lane named in the pass holds from now on, and
a slice that runs without the token is cut short. -/
def Lane.tokenReceive (L : Lane) (p : Port) (f : CoordFrame) : Lane :=
  let d := (f.tokenNum + 65536 - L.st.num) % 65536
  if !(L.link p).up || d == 0 || decide (32767 < d) then L else
  let heir := if f.tokenPass < 3 then f.tokenPass else f.tokenHolder
  let mine := heir == L.id.index && f.tokenPass == heir && L.ky.state != .off
  let held := if mine then f.lastHeld.set L.id.index f.tokenNum else f.lastHeld
  { L with st := { L.st with
    num := f.tokenNum % 65536, holder := heir, lastHeld := held, lastPass := L.now, holds := mine, slice := if mine then L.st.slice else none } }

/-- The link between the siblings is up, as this lane can judge: it has heard both and neither reported the link down.
(Log entry 118: DEDUCED) -/
def Lane.farUp (L : Lane) : Bool :=
  !L.cx.farDown && ((L.link .N).up || (L.link .N).declared) && ((L.link .P).up || (L.link .P).declared)

/-- This lane is the lowest-indexed of its set that is joined to every other lane of it (R369). (Log entry 118: DEDUCED) -/
def Lane.tokenMaker (L : Lane) : Bool :=
  let n := (L.link .N).up && !(L.downLink .N)
  let p := (L.link .P).up && !(L.downLink .P)
  if n && p then (if L.farUp then L.id.index == 0 else true)
  else if n then !L.farUp && decide (L.id.index < L.id.next.index)
  else if p then !L.farUp && decide (L.id.index < L.id.prev.index)
  else true

/-- After 1 ms without a pass the qualifying lane creates a new token (R369). (Log entry 118: DEDUCED) -/
def Lane.tokenCreate (L : Lane) : Lane :=
  if L.st.holds || L.ky.state == .off || decide (L.now < L.st.lastPass + ms 1) || !L.tokenMaker
    || (L.ky.state != .service && !L.hears) then L else
  let n := (L.st.num + 1) % 65536
  ({ L with st := { L.st with num := n, holder := L.id.index, holds := true, lastHeld := L.st.lastHeld.set L.id.index n,
                              lastPass := L.now } }).raise F.ST_EVENT_TOKEN_NEW

end Sys2Proof.Machine
end

