-- ==== Sys2Proof/Machine/Tallies.lean ====
section
/-! DEFINITION. Chapter 18, tallies and precise sampling: windows and snapshots, derived measurements, core counters and the attic
(R375 to R385). -/

namespace Sys2Proof.Machine

/-! ### Snapshots (R376 to R380) -/

/-- WINDOW in ms: 0 acts as 1, above 60,000 as 60,000. -/
def Lane.windowMs (L : Lane) : Nat := L.fldIn F.TL_CFG_WINDOW 1 60000

/-- The tallies that count what no command carries: bytes at the memories (SY 8 to 11), crypto work (LC), core slots and core events
(TL). The command that ends a window brings their rise. (Log entry 24: DESIGN CHOICE) -/
def outsideTally (hpm : List Nat) (k : Nat) : Bool :=
  let b := k / 64
  let i := k % 64
  (b == 0 && decide (8 ≤ i) && decide (i ≤ 11)) || (b == 6 && decide (i ≤ 4)) || (b == 5 && decide (32 ≤ i) && decide (i ≤ 39))
    || (b == 5 && decide (i < 29) && decide (0x1F00 ≤ hpm.getD i 0) && decide (hpm.getD i 0 < 65536))

/-- The tallies as the present cycle began. -/
def Lane.tallyUndo (L : Lane) : Lane :=
  { L with tl := { L.tl with live := L.tallyBefore.foldl (fun (m : List (Nat × Nat)) c => cellSet 0 m c.1 c.2) L.tl.live } }

/-- Counts that no command carries put on their tallies. (Log entry 24: DESIGN CHOICE) -/
def Lane.tallyOutside (L : Lane) (counts : List (Nat × Nat)) : Lane :=
  counts.foldl (fun (M : Lane) c => if outsideTally L.tl.hpm c.1 then M.tally (c.1 / 64) (c.1 % 64) c.2 else M) L

/-- The boundary that ends a window of WINDOW × 20 ticks (R376), as the tick that follows it opens: every tally is latched, without the events of that same cycle, which count in the next window;
a changed WINDOW counts for the window that starts. `counts` is the rise of the tallies of `outsideTally` in the window.
(Log entries 24: DESIGN CHOICE, 143: DEDUCED) -/
def Lane.tallyWindowEnd (counts : List (Nat × Nat)) (L : Lane) : Lane :=
  if !(L.nowCycle L.ky.boundary) || decide ((L.ky.tick + 2 ^ 32 - L.tl.windowAt) % 2 ^ 32 < L.tl.windowLen) then L else
  let latched := (L.tallyUndo.tallyOutside counts).tl.live
  let L := L.tallyOutside counts
  let len := L.tl.windowLen
  { L with tl := { L.tl with
      latch := some (L.devTime, latched), snapLen := len / 20, windowAt := L.ky.tick, windowLen := 20 * L.windowMs } }

/-- A tally's count in a snapshot. -/
def snapCount (s : List (Nat × Nat)) (b i : Nat) : Nat := cellGet 0 s (64 * b + i) % 2 ^ 48

/-- The rise of a tally between the last two snapshots, modulo 2^48. -/
def Lane.rise (L : Lane) (b i : Nat) : Nat := (snapCount L.tl.snap b i + 2 ^ 48 - snapCount L.tl.prev b i) % 2 ^ 48

/-- The tallies behind each of the ten bandwidth figures, in the order of 0x8800. -/
def bwTallies : List (List (Nat × Nat)) :=
  [[(18, 4), (18, 6)], [(18, 5), (18, 7)], [(19, 2), (19, 3)], [(20, 2), (20, 3)], [(9, 4), (9, 6)], [(9, 5), (9, 7)], [(0, 8)], [(0, 9)],
    [(0, 10)], [(0, 11)]]

/-- A bandwidth in Mbit/s (R379). -/
def Lane.bandwidth (L : Lane) (k : Nat) : Rat :=
  let n := (bwTallies.getD k []).foldl (fun (a : Nat) t => a + L.rise t.1 t.2) 0
  if L.tl.snapLen = 0 then 0 else (n * 8 : Nat) / (1000 * L.tl.snapLen : Nat)

/-- The share of slot class `s` of core `c` in 0.01 % (R380): rounded down, the last class takes the remainder. -/
def Lane.slotShare (L : Lane) (c s : Nat) : Nat :=
  let x (j : Nat) := L.rise 5 (32 + 4 * c + j)
  let total := x 0 + x 1 + x 2 + x 3
  if total = 0 then 0
  else if s < 3 then 10000 * x s / total
  else 10000 - 10000 * x 0 / total - 10000 * x 1 / total - 10000 * x 2 / total

/-- The tallies in the order of the TL_SNAP words: 64 for each of the 23 blocks. -/
def snapWords (s : List (Nat × Nat)) : List Byte := (List.range 1472).foldr (fun i (bs : List Byte) => leBytes 8 (cellGet 0 s i) ++ bs) []

/-- The object that stream 1 sends for the readable snapshot (R385). -/
def Lane.snapObject (L : Lane) : List Byte :=
  leBytes 4 (L.word F.TL_SNAPNUM).toNat ++ leBytes 2 (L.fld F.TL_CFG_WINDOW) ++ [0, 0] ++ leBytes 8 L.tl.snapTime ++ snapWords L.tl.snap
    ++ (List.range 10).foldr (fun k (bs : List Byte) => leBytes 4 (L.word F.TL_BW 0 k).toNat ++ bs) []
    ++ (List.range 8).foldr (fun k (bs : List Byte) => leBytes 4 (L.fld F.TL_TD_SHARE 0 k) ++ bs) []

/-- The latched snapshot becomes readable whole (R377) with its derived figures; one that meets the previous one still being sent is
skipped by stream 1. -/
def Lane.snapshotReady (L : Lane) : Lane :=
  match L.tl.latch with
  | none => L
  | some x =>
    let L := { L with tl := { L.tl with prev := L.tl.snap, snap := x.2, snapTime := x.1, latch := none } }
    let L := (List.range 10).foldl (fun (L : Lane) k => L.setF32 F.TL_BW (L.bandwidth k) 0 k) L
    let L := (List.range 8).foldl (fun (L : Lane) k => L.setFld F.TL_TD_SHARE (L.slotShare (k / 4) (k % 4)) 0 k) L
    let L := (L.setWord F.TL_SNAPNUM (L.word F.TL_SNAPNUM + 1)).raise F.TL_EVENT_SNAP
    if !(L.streamOn 1) then L
    else if L.en.snapOut.isSome then (L.raise F.TL_EVENT_SKIP).bump F.TL_CNT_SKIP
    else { L with en := { L.en with snapOut := some (0, L.snapObject) } }

/-- The tallies with their counts alone: no wrap flag, no wrap count (R378). -/
def countsOnly (live : List (Nat × Nat)) : List (Nat × Nat) :=
  live.foldr (fun (c : Nat × Nat) (r : List (Nat × Nat)) => cellSet 0 r c.1 (c.2 % 2 ^ 48)) []

/-- The tallies that have wrapped in the present cycle keep their flag and a wrap count of 1 (R378). -/
def Lane.wrapsNow (L : Lane) (live : List (Nat × Nat)) : List (Nat × Nat) :=
  L.tallyBefore.foldl (fun (m : List (Nat × Nat)) c =>
    let v := cellGet 0 m c.1
    if v < c.2 % 2 ^ 48 then cellSet 0 m c.1 (v + 2 ^ 48 + 2 ^ 56) else m) live

/-- TL_CMD.CLEAR_WRAP (R378). -/
def Lane.clearWrap (L : Lane) : Lane :=
  { L with tl := { L.tl with live := L.wrapsNow (countsOnly L.tl.live) } }

/-- A read of TL_PEEK_LO (R375): the live tally of TL_PEEK; the high word is latched for TL_PEEK_HI. -/
def Lane.tlPeekRead (L : Lane) : Lane :=
  let b := L.fld F.TL_PEEK_BLOCK
  let w := if b ≤ 22 then L.tallyWord b (L.fld F.TL_PEEK_INDEX) else 0
  ({ L with tl := { L.tl with peekHi := BitVec.ofNat 32 (w / 2 ^ 32) } } : Lane).leadRead (BitVec.ofNat 32 w)

/-! ### Core counters (R381) -/

/-- A selection that counts something; any other counts nothing and reads back as 0. -/
def hpmSelect (v : Nat) : Nat :=
  if v < 65536 ∧ (tallyValid (v / 256) (v % 256) = true ∨ (v / 256 = 0x1F ∧ v % 256 ≤ 10)) then v else 65536

/-- The count of a tally without what it has counted in the present cycle. -/
def Lane.tallyStart (L : Lane) (b i : Nat) : Nat := (L.tallyWord b i % 2 ^ 48 + 2 ^ 48 - L.tallyNow b i) % 2 ^ 48

/-- The low 48 bits of a tally written, the wrap flag and count unchanged; what it has counted in this cycle is counted into the value. -/
def Lane.tallyWrite (L : Lane) (b i v : Nat) : Lane :=
  let n := L.tallyWord b i / 2 ^ 48 * 2 ^ 48 + v % 2 ^ 48
  let M := L.setTally b i n
  let M := { M with tl := { M.tl with cycle := L.now / 8, before := (64 * b + i, n) :: L.tallyBefore.filter (fun c => c.1 != 64 * b + i) } }
  if L.tallyNow b i = 0 then M else M.tallyOne b i (L.tallyNow b i)

/-- A machine-mode write of a counter CSR: mhpmcounter3 to 31 (0xB03 to 0xB1F) sets bits [31:0] and the high half (0xB83 to 0xB9F) bits
[47:32], the wrap flag unchanged; mhpmevent3 to 31 (0x323 to 0x33F) sets the selection. -/
def Lane.hpmCounterWrite (csr : Nat) (v : Word) (L : Lane) : Lane :=
  if 0xB03 ≤ csr ∧ csr ≤ 0xB1F then
    L.tallyWrite 5 (csr - 0xB03) (L.tallyStart 5 (csr - 0xB03) / 2 ^ 32 * 2 ^ 32 + v.toNat)
  else if 0xB83 ≤ csr ∧ csr ≤ 0xB9F then
    L.tallyWrite 5 (csr - 0xB83) (v.toNat % 65536 * 2 ^ 32 + L.tallyStart 5 (csr - 0xB83) % 2 ^ 32)
  else if csr = 0xB00 then { L with ic := { L.ic with cycle := L.cycles false / 2 ^ 32 * 2 ^ 32 + v.toNat, cycleAt := L.now } }
  else if csr = 0xB80 then { L with ic := { L.ic with cycle := v.toNat * 2 ^ 32 + L.cycles false % 2 ^ 32, cycleAt := L.now } }
  else if csr = 0xB02 then { L with ic := { L.ic with retired := L.ic.retired / 2 ^ 32 * 2 ^ 32 + v.toNat } }
  else if csr = 0xB82 then { L with ic := { L.ic with retired := v.toNat * 2 ^ 32 + L.ic.retired % 2 ^ 32 } }
  else if 0x323 ≤ csr ∧ csr ≤ 0x33F then { L with tl := { L.tl with hpm := L.tl.hpm.set (csr - 0x323) (hpmSelect v.toNat) } }
  else L

/-- A core event counted in every counter that selects it. -/
def Lane.coreEvent (L : Lane) (code : Nat) : Lane :=
  (List.range 29).foldl (fun (M : Lane) k => if L.tl.hpm.getD k 0 = 0x1F00 + code then M.tally 5 k else M) L

/-! ### Attic (R382, R383) -/

/-- The core events that can be sampled. -/
def atticEvent (code : Nat) : Bool := (decide (1 ≤ code) && decide (code ≤ 6)) || code == 9 || code == 10

/-- TL_CMD.ATTIC_CLEAR. -/
def Lane.atticClear (L : Lane) : Lane :=
  (({ L with tl := { L.tl with atticFull := false } }).setFld F.TL_AWP_INDEX 0).setFld F.TL_AWP_WRAPPED 0

/-- The 32 bytes of a record. -/
def Lane.atticRecord (L : Lane) (code : Nat) (pc insn data : Word) (lat : Nat) (user : Bool) : List Byte :=
  leBytes 8 L.devTime ++ leBytes 4 pc.toNat ++ leBytes 4 insn.toNat ++ leBytes 4 data.toNat ++ leBytes 4 lat
    ++ [BitVec.ofNat 8 code, BitVec.ofNat 8 (b2n user), 0, 0] ++ leBytes 4 L.ky.tick

/-- A record written at the index; the ring wraps, or with AMODE 1 sampling stops when the last record is written. Stream 2 has it to send; a record
that it overwrites unsent is lost (R385). (Log entry 91: DESIGN CHOICE) -/
def Lane.atticWrite (L : Lane) (rec : List Byte) : Lane :=
  let i := L.fld F.TL_AWP_INDEX
  let L := L.setBytes (0x23000000 + 32 * i) rec
  let kept := L.en.atticOut.filter (fun c => c.2 != i)
  let L := { L with en := { L.en with atticOut := if L.streamOn 2 then kept ++ [((L.word F.TL_ASEQ).toNat, i)] else kept } }
  let L := (L.setFld F.TL_AWP_INDEX (i + 1)).setWord F.TL_ASEQ (L.word F.TL_ASEQ + 1)
  if i + 1 < 16384 then L
  else if L.flag F.TL_ASAMP_AMODE then ({ L with tl := { L.tl with atticFull := true } }).raise F.TL_EVENT_ATTIC_FULL
  else L.setFld F.TL_AWP_WRAPPED 1

/-- The instruction word of a load or a store (RV32IMAFC): LOAD, LOAD-FP, STORE, STORE-FP, AMO, and the compressed forms of the quadrants 0 and 2. -/
def loadStore (w : Word) : Bool :=
  let n := w.toNat
  let f := n / 8192 % 8
  if n % 4 = 3 then [0x03, 0x07, 0x23, 0x27, 0x2F].contains (n % 128)
  else (n % 4 == 0 || n % 4 == 2) && [2, 3, 6, 7].contains f

/-- The event is one of a load or a store, whose data address the record keeps: by its code, or by the instruction that retired, missed the D-cache or
raised the exception (R383). -/
def dataEvent (code : Nat) (insn : Word) : Bool := code == 5 || code == 6 || ([1, 3, 10].contains code && loadStore insn)

/-- A core event of the lead core: every PERIOD-th one of the selected code is recorded, or dropped while the writer is busy. -/
def Lane.atticSample (code : Nat) (pc insn data : Word) (lat : Nat) (user busy : Bool) (L : Lane) : Lane :=
  let L := L.coreEvent code
  if !(L.flag F.TL_ASAMP_AEN) || L.tl.atticStop || L.tl.atticFull || code != L.fld F.TL_ASAMP_EVENT || !(atticEvent code) then L else
  let n := L.tl.occ + 1
  if n < L.fld1 F.TL_ASAMP_PERIOD then { L with tl := { L.tl with occ := n } }
  else
    let L := { L with tl := { L.tl with occ := 0 } }
    if busy then (L.raise F.TL_EVENT_ADROP).bump F.TL_CNT_ADROP
    else L.atticWrite (L.atticRecord code pc insn (if dataEvent code insn then data else 0) lat user)

end Sys2Proof.Machine
end

