-- ==== Sys2Proof/Machine/Thermal.lean ====
section
/-! DEFINITION. The SAR ADC frame of chapter 8 (R192 to R196), the die-to-die frames (R25, R26) and the temperature rules of chapter 19
(R402 to R406). -/

namespace Sys2Proof.Machine

/-! ### Temperature (R402 to R406) -/

/-- Whole milliseconds above the warning threshold are counted per sensor of the logic die (TH tallies 0 to 3). -/
def Lane.warnTime (L : Lane) : Lane :=
  let n := (L.now - L.th.msAt) / ms 1
  if n = 0 then L else
  let L := (List.range 4).foldl (fun (L : Lane) j => match L.th.read.getD j none with
    | some t => if 1250 ≤ t then L.tally 2 j n else L
    | none => L) L
  { L with th := { L.th with msAt := L.th.msAt + ms n } }

/-- The quiet period of source 14 (R405): none runs while Tj is 130 °C or more, and it begins as Tj falls below. -/
def Lane.hotQuiet (L : Lane) : Lane :=
  if !(L.srcBit F.FC_STATE 14) || L.srcBit F.FC_LATCH 14 then L else
  let others := L.fc.quiet.filter (fun (c : Nat × Nat) => c.1 != 14)
  if L.stillHot then { L with fc := { L.fc with quiet := others } }
  else if L.fc.quiet.any (fun c => c.1 == 14) then L
  else { L with fc := { L.fc with quiet := others ++ [(14, L.now + ms L.quietMs)] } }

/-- The levels on Tj (R403, R405, R406): each is set or cleared in the update that shows its condition. -/
def Lane.thermalLevels (L : Lane) : Lane :=
  match L.tj with
  | none => L
  | some t =>
    let s := L.th
    let warn := decide (1250 ≤ t) || (s.warn && decide (1150 ≤ t))
    let thr := decide (1350 ≤ t) || (s.throttle && decide (1250 ≤ t))
    let shut := decide (1500 ≤ t) || (s.shutdown && !(s.wasReset && decide (t < 1300)))
    let ok := decide (-400 ≤ t) && decide (t ≤ 1250)
    let L := { L with th := { s with warn := warn, throttle := thr, shutdown := shut, wasReset := s.wasReset && shut, flashOk := ok } }
    let L := (L.setFld F.TH_STATUS_TJ (wrap 16 t))
    let L := L.when (warn && !s.warn) (·.raise F.TH_EVENT_WARN_SET)
    let L := L.when (!warn && s.warn) (·.raise F.TH_EVENT_WARN_CLR)
    let L := L.when (thr && !s.throttle) (·.raise F.TH_EVENT_THR_SET)
    let L := L.when (!thr && s.throttle) (·.raise F.TH_EVENT_THR_CLR)
    let L := L.when (!ok && s.flashOk) (·.raise F.TH_EVENT_FLASH_BLOCK)
    let L := if shut && !s.shutdown then
      let hot := (List.range 5).find? (fun j => L.th.read.getD j none == some t)
      (((L.raise F.TH_STATUS_SHUT_FLAG).raise F.TH_EVENT_SHUT).fault 14 (hot.getD 0))
    else L
    L.hotQuiet

/-- A new sample of sensor `j` in 0.1 °C: the reading is the mean of the last four samples. (Log entry 111: DEDUCED) -/
def Lane.thermalSample (L : Lane) (j : Nat) (x : Int) : Lane :=
  let h := (x :: L.th.hist.getD j []).take 4
  let t : Int := (h.foldl (fun (a b : Int) => a + b) 0) / (h.length : Int)
  let L := L.warnTime
  let L := { L with th := { L.th with hist := L.th.hist.set j h, read := L.th.read.set j (some t) } }
  let L := L.setFld F.TH_TEMP_TEMP (wrap 16 t) 0 j
  let L := L.when (decide (signed 16 (L.fld F.TH_TEMP_PEAK 0 j) < t)) (·.setFld F.TH_TEMP_PEAK (wrap 16 t) 0 j)
  L.thermalLevels

/-- The target of the torque limit in 1/256 of TLIM (R404); TFRAC below 0x20 acts as 0x20. -/
def Lane.throttleTarget (L : Lane) : Rat := if L.th.throttle then (L.fldIn F.TH_CFG_TFRAC 0x20 0xFF : Nat) else 256

/-- The limit moves linearly over TRAMP × 10 ms from the first boundary after the level changed (R404). -/
def Lane.throttleRamp (L : Lane) : Lane :=
  let s := L.th
  let want := L.throttleTarget
  if want ≠ s.target then { L with th := { s with from_ := s.scale, target := want, rampAt := L.now } }
  else if s.scale = s.target then L
  else
    let len := ms (10 * L.fld1 F.TH_CFG_TRAMP)
    let done := L.now - s.rampAt
    { L with th := { s with scale := if len ≤ done then s.target else s.from_ + (s.target - s.from_) * (done : Rat) / (len : Rat) } }

/-- SHUT_FLAG written (R405): cleared only while Tj is below 130 °C. -/
def Lane.shutFlagClear (L : Lane) : Lane :=
  match L.tj with
  | some t => if t < 1300 ∧ L.setNow (F.TH_STATUS_SHUT_FLAG.addr 0 0) = 0 then L.setFld F.TH_STATUS_SHUT_FLAG 0 else L
  | none => L

/-- The comparator of the cellar trips at 150 °C in Hold or Cellar and acts as a shutdown (R405). (Log entry 109: DEDUCED) -/
def Lane.cellarOvertemp (L : Lane) : Lane :=
  if L.pm.level = .hold ∨ L.pm.level = .cellar then
    (({ L with th := { L.th with shutdown := true, wasReset := false } } : Lane).raise F.TH_STATUS_SHUT_FLAG).fault 14 0xFFFF
  else L

/-! ### Die-to-die frames (R25, R26) -/

/-- A frame from the field die: `ok` is its CRC, `temp` the reading of sensor 4 in 0.1 °C when it carries one. -/
def Lane.d2dFrameReceive (ok : Bool) (temp : Option Int) (L : Lane) : Lane :=
  let inj := L.injecting 10
  let L := L.when inj Lane.injTake
  if !ok || inj then { L with sf := { L.sf with d2dRun := L.sf.d2dRun + 1, d2dInj := inj || L.sf.d2dInj } }
  else
    let L := { L with sf := { L.sf with d2dRun := 0, d2dInj := false, d2dLast := L.now } }
    match temp with
    | some t => L.thermalSample 4 t
    | none => L

/-! ### ADC frame (R192 to R196) -/

/-- A code corrected by AD_CAL of ADC `j`: itself at the reset value, else by the correction that the manual leaves open.
(Log entry 38: DESIGN CHOICE) -/
def Lane.adCal (L : Lane) (j : Nat) (c : Int) : Int :=
  let w := L.reg (F.AD_CAL_GAIN.addr 0 j)
  let c := clampI (-32768) 32767 c
  if w = 0x80000000 then c else clampI (-32768) 32767 (Config.adCorrect w c)

/-- A conversion at a limit of the range raises RANGE of its ADC. -/
def Lane.adRange (L : Lane) (j : Nat) (c : Int) : Lane :=
  L.when (decide (32767 ≤ c) || decide (c ≤ -32768)) (·.raiseBit F.AD_EVENT_RANGE j)

/-- The route of the loopback DAC that acts (R195): a front-end route in Bench alone. -/
def Lane.dacActs (L : Lane) : Nat :=
  let r := L.fld F.AD_DAC_ROUTE
  if r = 1 ∨ (r = 2 ∧ L.ky.state = .bench) then r else 0

/-- The code that an ADC converts from the level of the loopback DAC, on its housekeeping input or at the gain of a front end.
(Log entry 159: DESIGN CHOICE) -/
def Lane.dacCode (L : Lane) (gain : Nat) : Int := clampI (-32768) 32767 (Config.dacLevel gain (L.fld F.AD_DAC_CODE))

/-- One front-end input converted: AD_FE with the frame number. -/
def Lane.feConvert (L : Lane) (i : Nat) (raw : Int) : Lane :=
  let raw := if L.dacActs = 2 ∧ L.fld F.AD_DAC_INPUT = i then L.dacCode (L.fld F.AD_GAIN / 4 ^ (i / 2) % 4) else raw
  let c := L.adCal (i / 8) raw
  let L := ((L.adRange (i / 8) raw).setFld F.AD_FE_CODE (wrap 16 c) 0 i).setFld F.AD_FE_FRAME (L.ad.frame % 65536) 0 i
  L.tally 15 (i / 8)

/-- One housekeeping conversion of ADC `j`: the next entry of its list; `temp` is what temperature sensor `j` shows. -/
def Lane.hkConvert (L : Lane) (j : Nat) (raw : Int) (temp : Int) : Lane :=
  let e := L.ad.next.getD j 0
  let entry := (L.reg (F.AD_HK.addr 0 (4 * j + e / 4))).toNat / 256 ^ (e % 4) % 256
  let code := entry % 128
  let raw := if code = 2 ∧ L.dacActs = 1 then L.dacCode 4 else raw
  let L := { L with ad := { L.ad with next := L.ad.next.set j (if 128 ≤ entry then 0 else (e + 1) % 16) } }
  let L := ((L.adRange j raw).setFld F.AD_HKRES_CODE (wrap 16 (L.adCal j raw)) 0 (16 * j + e)).setFld F.AD_HKRES_ENTRY code 0 (16 * j + e)
  let L := L.when (decide (4 ≤ code ∧ code ≤ 7)) (fun L => { L with ad := { L.ad with rails := L.ad.rails.set (code - 4) (some (L.adCal j raw)) } })
  (L.tally 15 j).when (code == 3) (fun L => L.thermalSample j temp)

/-- What a frame brings a feedback interface: sine on input 2f, cosine on 2f + 1, complete ((f mod 4) + 1) µs after the hold (R192, R219); resolvers
at the peaks of the excitation. (Log entry 37: DESIGN CHOICE) -/
def Lane.feDeliver (L : Lane) (f : Fin 16) : Lane :=
  let L := L.updFb f (fun s => { s with framesSince := if L.fbOn f then s.framesSince + 1 else 0 })
  if !(bit (L.fld F.AD_CTRL_ENABLE) (f.val / 4)) then L else
  let s := signed 16 (L.fld F.AD_FE_CODE 0 (2 * f.val))
  let c := signed 16 (L.fld F.AD_FE_CODE 0 (2 * f.val + 1))
  let n := L.fldIn F.AD_CTRL_EXC_N 5 20
  let peak := L.ad.frame % n == 0 && L.flag F.FB_EXC_EXC_EN && !L.sf.fieldLost
  let mode := L.fbMode f
  let v (q : Nat) : ConvS :=
    { heldAt := L.now, doneAt := L.now + us (f.val % 4 + 1), sine := s, cosine := c, negative := L.ad.frame / n % 2 == 1
      quarter := q, span := if mode = fbResolver then 8000 * n else 8000 }
  L.when (L.fbOn f && (mode == fbSinCos || (mode == fbResolver && peak))) (·.updFb f (fun x => { x with conv := x.conv ++ [v x.count] }))

/-- The phase of the resolver excitation in 1/65,536 of its period of 2 × EXC_N frames (R193): its positive peaks, at phase 0, lead the starts
of the frames at which resolvers are sampled unnegated by EXC_PHASE / 256 of the period. -/
def Lane.excAngle (L : Lane) : Nat :=
  let n := L.fldIn F.AD_CTRL_EXC_N 5 20
  let period := 16000 * n
  ((L.ad.frame % (2 * n) * 8000 + (L.now - L.ad.frameAt)) * 65536 / period + 256 * L.fld F.AD_CTRL_EXC_PHASE) % 65536

/-- The excitation output A.REXC in volts (R193, R204): EXC_AMP in 0.1 V rms, 0 while it is off or the field die is (R26). -/
def Lane.excLevel (L : Lane) : Rat :=
  if L.flag F.FB_EXC_EXC_EN && !L.sf.fieldLost then sqrtR 2 * (L.fldIn F.FB_EXC_EXC_AMP 20 70 : Rat) / 10 * cosC L.excAngle else 0

/-- The number of the frame that starts in this cycle (R192): that of every second decision tick start, counted from the first tick after reset,
whether the tick has run in this cycle or is due in it. -/
def Lane.frameDue (L : Lane) : Option Nat :=
  if L.ad.tick % 2 = 1 then (if L.ad.tickAt / 8 = L.now / 8 then some ((L.ad.tick + 1) / 2) else none)
  else if L.ad.tick = 0 ∨ L.ad.tickAt / 8 + 500 = L.now / 8 then some (L.ad.tick / 2 + 1)
  else none

/-- Every 5 µs the ADCs hold and convert: `fe` the codes of the 32 front-end inputs, `hk` the codes of the two housekeeping conversions of
each ADC, `temp` what the four temperature sensors show, in 0.1 °C; once in the cycle of a frame start. (Log entry 4: DESIGN CHOICE) -/
def Lane.adcFrame (fe hk temp : List Int) (L : Lane) : Lane :=
  match L.frameDue with
  | none => L
  | some n => if n ≤ L.ad.frame then L else
  let on (L : Lane) (j : Nat) : Bool := bit (L.fld F.AD_CTRL_ENABLE) j
  let L := { L with ad := { L.ad with frame := n, frameAt := L.now } }
  let fe := if L.padsHeld .field then [] else fe
  let L := (List.range 32).foldl (fun (L : Lane) i => if on L (i / 8) then L.feConvert i (fe.getD i 0) else L) L
  let L := (List.finRange 16).foldl (fun (L : Lane) (f : Fin 16) => L.feDeliver f) L
  (List.range 8).foldl (fun (L : Lane) i =>
    let j := i % 4
    if on L j then L.hkConvert j (hk.getD (2 * j + i / 4) 0) (temp.getD j 0) else L) L

/-- A write of AD_DAC (R195): a front-end route outside Bench is refused. -/
def Lane.dacRoute (v : Word) (L : Lane) : Lane :=
  if F.AD_DAC_ROUTE.get v = 2 ∧ L.ky.state ≠ .bench then L.raise F.AD_EVENT_DAC_DENIED
  else ((L.setFld F.AD_DAC_INPUT (F.AD_DAC_INPUT.get v)).setFld F.AD_DAC_ROUTE (F.AD_DAC_ROUTE.get v)).setFld F.AD_DAC_CODE (F.AD_DAC_CODE.get v)

end Sys2Proof.Machine
end

