-- ==== Sys2Proof/Machine/Power.lean ====
section
/-! DEFINITION. Chapter 19, power domains and sleep: Doze, the agreement that enters Hold and Cellar, drain, larder save and final window,
the wake sources, pad hold and the standby link (R386 to R400, R407). -/

namespace Sys2Proof.Machine

/-! ### Doze (R387, R388) -/

/-- Doze is allowed: in Bench, and in Service while the active profile is Rest. (Log entry 108: DEDUCED) -/
def Lane.dozeAllowed (L : Lane) : Bool := L.ky.state == .bench || (L.ky.state == .service && L.ky.profile == 3)

/-- Entry to Doze: engines tracking, legs low, chopper off; the gate enables stay. -/
def Lane.dozeEnter (L : Lane) : Lane :=
  let L := L.eachGroup (fun L g => ((L.legsOff g).legKOff g).updTq g TqS.track)
  ({ L with pm := { L.pm with level := .doze } }).tally 1 0

/-- Leaving Doze starts the modulator clocks, and the filters settle again. -/
def Lane.dozeLeave (L : Lane) : Lane :=
  let L := { L with pm := { L.pm with level := .awake } }
  L.eachGroup (fun L g => L.when (L.flag F.SD_CTRL_ENABLE g) (fun L => (L.sdStart g).genUpdate g))

/-- At an authority tick boundary Doze starts or ends as PM_CTRL.DOZE and the lane state have it. (Log entry 108: DEDUCED) -/
def Lane.dozeBoundary (L : Lane) : Lane :=
  let want := L.flag F.PM_CTRL_DOZE && L.dozeAllowed
  if L.pm.level = .awake ∧ want then L.dozeEnter
  else if L.pm.level = .doze ∧ !want then L.dozeLeave
  else L

/-- A write of PM_CTRL.DOZE; it acts at the next boundary. (Log entry 108: DEDUCED) -/
def Lane.doze (on : Bool) (L : Lane) : Lane := L.setFld F.PM_CTRL_DOZE (b2n on)

/-! ### Prepare and commit (R390 to R392) -/

/-- The order in which the blocks stop: drive, field, core with the yard core 0x21 and the helm pair 0x20, and for Cellar the link domain. -/
def stopOrder (cellar : Bool) : List Nat :=
  [10, 11, 12, 13, 14, 17, 15, 16, 4, 3, 7, 5, 0x21, 0x20] ++ (if cellar then [20, 19, 9, 18, 6] else [])

/-- PM_CMD with SLEEP: ignored while an entry or a wake runs, denied outside Bench. -/
def Lane.sleep (cellar : Bool) (L : Lane) : Lane :=
  if L.pm.level ≠ .awake ∧ L.pm.level ≠ .doze then L
  else if L.ky.state ≠ .bench then L.raise F.PM_EVENT_DENIED
  else
    { L with pm := { L.pm with
      level := .entering
      fromDoze := L.pm.level == .doze
      phase := .prepare
      cellar := cellar
      ask := stopOrder cellar
      acked := []
      askedAt := L.now
      phaseAt := L.now
      wakes := 0 } }

/-- PM_CMD with LEVEL Hold. -/
def Lane.sleepHold (L : Lane) : Lane := L.sleep false

/-- PM_CMD with LEVEL Cellar. -/
def Lane.sleepCellar (L : Lane) : Lane := L.sleep true

/-- A refusal: who and why, and the roll-back of the blocks that had stopped. -/
def Lane.refuse (L : Lane) (block reason : Nat) : Lane :=
  (((L.setFld F.PM_STATUS_REFUSER block).setFld F.PM_STATUS_REASON reason).rollBack)

/-- The wake comparator of safety input `i` has been high for 1 ms of cellar time (R397). (Log entry 205: DESIGN CHOICE) -/
def Lane.inputStands (L : Lane) (i : Nat) : Bool := (L.pm.inHigh.getD i none).any (fun t => decide (t + L.cellarTime (ms 1) ≤ L.now))

/-- A safety input that is enabled as a wake source and stands high. -/
def Lane.wakeActive (L : Lane) : Bool :=
  L.pm.wakes != 0 || (List.range 16).any (fun i => bit (L.fld F.PM_WAKE_INPUT) i && L.inputStands i)

/-- Flash work in progress (CF_STATUS.BUSY): an operation of CF_OP, a commit, an image being verified, or the work of a request. -/
def Lane.flashBusy (L : Lane) : Bool := L.lc.op.isSome || L.lc.commit.isSome || L.lc.install == 3 || L.oc.inprog != []

/-- Why a block refuses (R391), 0 when it does not. `streaming`: a stream frame is being sent or received. (Log entry 107: DEDUCED) -/
def Lane.refusal (L : Lane) (block : Nat) (streaming : Bool) : Nat :=
  if block = 10 then (if (List.finRange 16).any (fun g => (L.grp g).lg.gen || L.flag F.LG_CTRL_GEN_REQ g) then 1 else 0)
  else if block = 7 then
    (if L.flashBusy || (decide (1 ≤ L.lc.install) && decide (L.lc.install ≤ 6)) then 2 else 0)
  else if block = 3 then (if L.fc.queue ≠ [] && L.th.flashOk then 3 else 0)
  else if block = 20 then (if streaming then 4 else 0)
  else if block = 0x20 then (if L.flag F.PM_CTRL_VETO then 5 else 0)
  else 0

/-- The block asked answers: the sweep engine once its slice has ended. After the last acknowledgement the entry is committed. -/
def Lane.prepareAnswer (streaming : Bool) (L : Lane) : Lane :=
  if L.pm.phase ≠ .prepare then L
  else if L.wakeActive then L.refuse 0x22 6
  else match L.pm.ask with
    | [] => L
    | b :: rest =>
      if b = 4 ∧ L.st.slice.isSome then L
      else if L.refusal b streaming ≠ 0 then L.refuse b (L.refusal b streaming)
      else
        { L with pm := { L.pm with
          ask := rest
          acked := b :: L.pm.acked
          askedAt := L.now
          phase := if rest = [] then .drain else .prepare
          phaseAt := if rest = [] then L.now else L.pm.phaseAt } }

/-- A block silent for 100 µs counts as refusing with reason 7. -/
def Lane.prepareTimeout (L : Lane) : Lane :=
  if L.pm.phase ≠ .prepare ∨ L.now < L.pm.askedAt + us 100 then L else L.refuse (L.pm.ask.headD 0xFF) 7

/-- Entry is committed: no block can refuse any more. -/
def Lane.committed (L : Lane) : Bool := L.pm.phase == .drain || L.pm.phase == .save || L.pm.phase == .window

/-! ### Drain, save and final window (R393 to R396) -/

/-- A frame being written into the link buffers at an address is discarded: the half or window that it lies in is empty, and a write half is not
committed (R393). (Log entry 206: DEDUCED) -/
def Lane.dropFrame (L : Lane) (a : Nat) : Lane :=
  let s := (a - 0x22000000) / 0x4000
  let o := (a - 0x22000000) % 0x4000
  let L := L.clearRange (a - o + (if o < 0x1000 then o / 0x800 * 0x800 else o / 0x1000 * 0x1000)) (if o < 0x1000 then 0x800 else 0x1000)
  if o < 0x800 then { L with ln := { L.ln with commit := putBit L.ln.commit s false } } else L

/-- The end of the drain: `drained` transfers completed within 50 µs, those to the addresses in `aborted` did not. The initiator of an aborted one
receives a bus error, and what it has written of a frame in the link buffers is discarded (R393). (Log entry 206: DEDUCED) -/
def Lane.drainExpiry (drained : Nat) (aborted : List Nat) (L : Lane) : Lane :=
  if L.pm.phase ≠ .drain ∨ (aborted ≠ [] ∧ L.now < L.pm.phaseAt + us 50) then L else
  let L := L.tally 1 4 drained
  let L := aborted.foldl (fun (L : Lane) a =>
    let L := { L.when (decide (0x22000000 ≤ a ∧ a < 0x22100000)) (·.dropFrame a) with rdata := 0, busErr := true }
    (((L.raise F.PM_EVENT_ABORT).setWord F.PM_ABORT (BitVec.ofNat 32 a)).bump F.PM_CNT_ABORT_CNT).tally 1 5) L
  { L with pm := { L.pm with phase := .save, phaseAt := L.now } }

/-- A block of a domain that powers off at Hold or Cellar. -/
def powersOff (cellar : Bool) (b : Nat) : Bool := b != 1 && b != 21 && (cellar || !([6, 9, 18, 19, 20].contains b))

/-- The bits of a register that the larder keeps: RW and RWL, but for counters and for the ENABLE, RUN and GEN_REQ bits. -/
def saveMask (a : Nat) : Nat :=
  match regAt a with
  | none => 0
  | some (r, _) =>
    let b := (a - 0x40000000) / 0x10000
    let m := r.rw ||| r.rwl
    let stop := if b = 10 ∧ r.off = 0 then 3
      else if (b = 11 ∨ b = 12 ∨ b = 14 ∨ b = 19 ∨ b = 20) ∧ r.off = 0 then 1
      else if b = 13 ∧ r.off = 0 then 0x80
      else if b = 15 ∧ r.off = 0 then 0xF
      else if b = 18 ∧ r.off = 0 then 3
      else 0
    m - (m &&& stop)

/-- The registers saved at entry. (Log entry 106: DESIGN CHOICE) -/
def Lane.savedRegs (L : Lane) (cellar : Bool) : List (Nat × Word) :=
  (L.regs.filter (fun c => powersOff cellar ((c.1 - 0x40000000) / 0x10000))).map
    (fun c => (c.1, c.2 &&& BitVec.ofNat 32 (saveMask c.1)))

/-- The save area as bytes (R394): the number of registers, each with its address and value, the configuration digest, and the CRC-32C that closes it.
(Log entry 207: DESIGN CHOICE) -/
def Lane.saveArea (L : Lane) : List Byte :=
  match L.pm.saved with
  | none => []
  | some x =>
    let body := leBytes 4 x.1.length ++ x.1.flatMap (fun c => leBytes 4 c.1 ++ leBytes 4 c.2.toNat) ++ padTo 64 x.2
    body ++ leBytes 4 (crc32c body).toNat

/-- The event-log queue as bytes (R394): record by record, as they will be numbered. (Log entry 207: DESIGN CHOICE) -/
def Lane.queueArea (L : Lane) : List Byte :=
  (List.range L.fc.queue.length).flatMap (fun i => match L.fc.queue[i]? with
    | some r => r.bytes (L.fc.nextRec + i)
    | none => [])

/-- A byte as the bus reads it: the larder shows its save area and its event-log queue (R394).
(Log entries 106: DESIGN CHOICE, 207: DESIGN CHOICE) -/
def Lane.busByte (L : Lane) (a : Nat) : Byte :=
  if 0x25000000 ≤ a ∧ a < 0x25010000 then L.saveArea.getD (a - 0x25000000) 0
  else if 0x25010000 ≤ a ∧ a < 0x25011000 then L.queueArea.getD (a - 0x25010000) 0
  else L.byte a

/-- A register file after the domains powered off: the cellar's bits stay. -/
def sleepRegs (id : LaneId) (cellar : Bool) (rs : List (Nat × Word)) : List (Nat × Word) :=
  rs.foldr (fun (c : Nat × Word) (m : List (Nat × Word)) =>
    cellSet (resetWord id c.1) m c.1 (if powersOff cellar ((c.1 - 0x40000000) / 0x10000) then keptWord id c.1 c.2 else c.2)) []

/-- What a lane is while its domains are off: lane state, time base, key epoch, link domain (for Hold), cellar and flash stay; every
other block is as after its reset. The tallies stay (R375 clears them at lane reset alone). (Log entries 105: DEDUCED, 139: DEDUCED) -/
def Lane.powerDown (L : Lane) (cellar : Bool) : Lane :=
  let R := Lane.reset L.id
  { R with
    now := L.now
    fresh := L.fresh
    regs := sleepRegs L.id cellar L.regs
    mem := L.mem.filter (fun c => decide (c.1 < 0x20000000) || (decide (0x25000000 ≤ c.1) && decide (c.1 < 0x25040000)))
    stuckEvents := L.stuckEvents
    sy := { L.sy with permit := false, debugHalt := false }
    ky := { R.ky with
      state := L.ky.state
      epoch := L.ky.epoch
      lastHolder := L.ky.lastHolder
      tick := L.ky.tick
      boundary := L.ky.boundary
      sibN := L.ky.sibN
      sibP := L.ky.sibP
      voteSeq := L.ky.voteSeq }
    cx := if cellar then { R.cx with seq := L.cx.seq } else L.cx
    fc := { R.fc with
      recov := L.fc.recov
      wdrRecov := L.fc.wdrRecov
      queue := L.fc.queue
      dropped := L.fc.dropped
      nextRec := L.fc.nextRec
      logged := L.fc.logged
      ioReport := L.fc.ioReport }
    cfg := L.cfg
    ln := if cellar then { R.ln with timeAt := L.now } else L.ln
    oc := if cellar then R.oc else L.oc
    en := if cellar then R.en else { L.en with atticOut := [] }
    st := { L.st with holds := false, slice := none, passed := false
                      prog := if L.st.prog = .deep then .deep else .idle, todo := if L.st.prog = .deep then L.st.todo else [] }
    tl := { R.tl with live := L.tl.live, windowAt := L.ky.tick }
    pm := L.pm
    lc := { L.lc with booted := false, loaded := false, challenge := none }
    out := L.out }

/-- What the pads show as they are latched (R395). -/
def Lane.heldNow (L : Lane) : HeldS :=
  let z (f : Fin 16 → Bool) : Nat := (List.finRange 16).foldl (fun (n : Nat) i => putBit n i.val (f i)) 0
  { err := L.errPad == some true, next := L.ky.vtNext, prev := L.ky.vtPrev
    fbcZ := z (fun f => (L.fbcPad f).isNone), foZ := z (fun f => (L.foPads f).isNone) }

/-- The larder save ends: registers saved with the configuration digest, pads latched, domains off. -/
def Lane.larderSaveDone (L : Lane) : Lane :=
  if L.pm.phase ≠ .save then L else
  let saved := L.savedRegs L.pm.cellar
  let N := L.powerDown L.pm.cellar
  { N with pm := { L.pm with
    phase := .window
    phaseAt := L.now
    saved := some (saved, L.lc.digest)
    vinLow := none
    vinBack := false
    pads := if L.pm.cellar then 15 else 11
    held := L.heldNow } }

/-- The code of the lowest wake source standing: 1 standby link, 2 safety input, 3 timer, 4 supply return. -/
def wakeCode (w : Nat) : Nat := if bit w 16 then 1 else if w % 65536 ≠ 0 then 2 else if bit w 17 then 3 else if bit w 18 then 4 else 0

/-- The wake starts: its cause is latched. -/
def Lane.startWake (L : Lane) : Lane :=
  ({ L with pm := { L.pm with level := .waking, wakeAt := L.now } }).setFld F.PM_STATUS_WAKE_CAUSE (wakeCode L.pm.wakes)

/-- The final window ends: the lane is in Hold or Cellar; a source that stands wakes it at once. -/
def Lane.finalWindowEnd (L : Lane) : Lane :=
  if L.pm.phase ≠ .window ∨ L.now < L.pm.phaseAt + ns 5500 then L else
  let L := { L with pm := { L.pm with level := if L.pm.cellar then .cellar else .hold, phase := .none, entered := L.now, ask := [], acked := [] } }
  let L := L.tally 1 (if L.pm.cellar then 2 else 1)
  if L.pm.wakes = 0 then L else L.startWake

/-! ### Wake sources (R397, R400) -/

/-- A wake source recognised: refused during prepare, remembered after commit, and a wake in Hold or Cellar. Sources that meet in one
cycle are all counted, and the lower code is the cause. -/
def Lane.wakeBy (L : Lane) (src : Nat) : Lane :=
  let M := { L with pm := { L.pm with wakes := putBit L.pm.wakes src true } }
  if L.pm.phase = .prepare then L.refuse 0x22 6
  else if L.committed then M
  else if L.pm.level = .hold ∨ L.pm.level = .cellar then M.startWake
  else if L.pm.level = .waking ∧ L.pm.wakeAt = L.now then M.setFld F.PM_STATUS_WAKE_CAUSE (wakeCode M.pm.wakes)
  else L

/-- The lane sleeps: in Hold, in Cellar, or waking from them. -/
def Lane.asleep (L : Lane) : Bool := L.pm.level == .hold || L.pm.level == .cellar || L.pm.level == .waking

/-- The supply has returned (R397): VIN_FIELD above VRET after at least 10 ms of cellar time below VRET − 1.0 V during sleep.
(Log entry 205: DESIGN CHOICE) -/
def Lane.supplyBack (L : Lane) : Bool :=
  (L.pm.vinBack || L.pm.vinLow.any (fun t => decide (t + L.cellarTime (ms 10) ≤ L.now))) && decide (2 * L.fldIn F.PM_WAKE_VRET 45 150 < L.pm.vin)

/-- What the cellar's comparators see (R397): VIN_FIELD in 0.1 V, while the lane sleeps. (Log entry 205: DESIGN CHOICE) -/
def Lane.seeSupply (L : Lane) (v : Nat) : Lane :=
  if !L.asleep then L else
  let low := decide (v + 10 < 2 * L.fldIn F.PM_WAKE_VRET 45 150)
  let back := L.pm.vinBack || L.pm.vinLow.any (fun t => decide (t + L.cellarTime (ms 10) ≤ L.now))
  { L with pm := { L.pm with vin := v, vinBack := back, vinLow := if low then some (L.pm.vinLow.getD L.now) else none } }

/-- The wake comparator of safety input `i` goes high or low. (Log entry 205: DESIGN CHOICE) -/
def Lane.seeInput (L : Lane) (i : Nat) (high : Bool) : Lane :=
  { L with pm := { L.pm with inHigh := L.pm.inHigh.set i (if high then some ((L.pm.inHigh.getD i none).getD L.now) else none) } }

/-- The cellar looks at a wake source (R397), which wakes the lane where it is enabled and its condition holds: safety input `src` (0 to 15), or with
18 the return of the supply. `src` also tells what the comparators see: 32 + 2i that input i is low, 33 + 2i that it is high, 64 + v that VIN_FIELD is
v × 0.1 V. (Log entry 205: DESIGN CHOICE) -/
def Lane.wakeSource (src : Nat) (L : Lane) : Lane :=
  if src < 16 then (if bit (L.fld F.PM_WAKE_INPUT) src && L.inputStands src then L.wakeBy src else L)
  else if 32 ≤ src ∧ src < 64 then L.seeInput ((src - 32) / 2) (src % 2 == 1)
  else
    let L := L.when (decide (64 ≤ src)) (·.seeSupply (src - 64))
    if (src = 18 ∨ 64 ≤ src) ∧ L.flag F.PM_WAKE_SUPPLY ∧ L.asleep ∧ L.supplyBack then L.wakeBy 18 else L

/-- PM_TIMER ms of cellar time after the entry ended. -/
def Lane.wakeTimer (L : Lane) : Lane :=
  let t := (L.word F.PM_TIMER).toNat
  if t ≠ 0 ∧ (L.pm.level = .hold ∨ L.pm.level = .cellar ∨ L.pm.level = .waking) ∧ L.pm.entered + L.cellarTime (ms t) ≤ L.now
  then L.wakeBy 17 else L

/-! ### Pad hold (R395) -/

/-- A write of PM_PADREL: each bit written 1 releases its domain's pads. -/
def Lane.pmPadrel (v : Word) (L : Lane) : Lane :=
  { L with pm := { L.pm with pads := (List.range 4).foldl (fun (n : Nat) i => if bit v.toNat i then putBit n i false else n) L.pm.pads } }

/-! ### Standby link (R396, R407) -/

/-- SB_STATUS.PARAM: the address lies outside 0x08 to 0x77. -/
def Lane.sbParam (L : Lane) : Bool := decide (L.fld F.SB_CFG_ADDR < 0x08) || decide (0x77 < L.fld F.SB_CFG_ADDR)

/-- An address on the standby link: in the final window it is not acknowledged; else its own is, and wakes the lane when enabled. Data
bytes that the host writes after it, `written` of them, are acknowledged and ignored. -/
def Lane.sbAddressMatch (addr written : Nat) (L : Lane) : Lane :=
  if !(L.flag F.SB_CFG_ENABLE) || L.sbParam || addr != L.fld F.SB_CFG_ADDR then L
  else if L.pm.phase = .window then L.raise F.SB_EVENT_WINDOW_NACK
  else (((L.raise F.SB_EVENT_MATCH).tally 21 0).tally 21 1 written).when (L.flag F.PM_WAKE_SB) (fun L => L.wakeBy 16)

/-- Byte 0 of the report: level, lane state, a latch, the shutdown flag. -/
def Lane.sbByte0 (L : Lane) : Nat :=
  L.pm.level.code + 8 * L.ky.state.code + 64 * b2n (L.word F.FC_LATCH != 0 || L.flag F.FC_WDR_LATCH) + 128 * b2n (L.flag F.TH_STATUS_SHUT_FLAG)

/-- Byte 1: the cause of the last wake. -/
def Lane.sbByte1 (L : Lane) : Nat := L.fld F.PM_STATUS_WAKE_CAUSE

/-- A read of `n` bytes by the host: the report, then 0xFF; the first four of them show in `rdata`. -/
def Lane.sbRead (n : Nat) (L : Lane) : Lane :=
  if !(L.flag F.SB_CFG_ENABLE) || L.sbParam || L.pm.phase == .window then L else
  let bs := ([BitVec.ofNat 8 L.sbByte0, BitVec.ofNat 8 L.sbByte1, 0xFF, 0xFF] : List Byte).take n
  { L.tally 21 2 n with rdata := BitVec.ofNat 32 (leNat bs) }

end Sys2Proof.Machine
end

