-- ==== Sys2Proof/Machine/Network.lean ====
section
/-! DEFINITION. Chapter 11, the lane network: schedule tables and their check, slots, transmit and receive buffers, ports, the guardians and
fault injection (R243 to R264), with the state machine and clock that chapter 12 adds to them (R265 to R279). -/

namespace Sys2Proof.Machine

/-! ### Schedule tables (R248 to R252) -/

/-- Length of a frame with `len` data bytes on the line, in units of 0.1 µs. -/
def frameTime (len : Nat) (cmac : Bool) : Nat := 8 * (26 + max 46 (22 + len + (if cmac then 4 else 0))) + 8

def Lane.lnNode (L : Lane) : Nat := L.fld F.LN_CFG_NODE
def Lane.lnCmac (L : Lane) : Bool := L.flag F.LN_CFG_CMAC
def Lane.nslot (L : Lane) (m : Nat) : Nat := L.fld F.LN_CYC_NSLOT 0 m
/-- The cycle length of a mode in µs. -/
def Lane.cycLen (L : Lane) (m : Nat) : Nat := L.fld F.LN_CYC_CYCLE_LEN 0 m
def Lane.slotLen (L : Lane) (m s : Nat) : Nat := L.fld F.LN_SLEN0_LEN 0 (256 * m + s)
/-- A field of the entry of port `p`, slot `s`, mode `m`. -/
def Lane.entry (L : Lane) (f : Fld) (m p s : Nat) : Nat := L.fld f 0 (256 * m + 64 * p + s)
/-- What the port does in a slot: 0 idle, 1 receive, 2 transmit, 3 relay. -/
def Lane.entryAct (L : Lane) (m p s : Nat) : Nat := let a := L.entry F.LN_SLOT0_ACTION m p s; if 3 < a then 0 else a
/-- The start of a slot in µs from the cycle start. -/
def Lane.slotStart (L : Lane) (m s : Nat) : Nat := (List.range s).foldl (fun (n : Nat) i => n + L.slotLen m i) 0

/-- A relay entry has its source slot (R252). -/
def Lane.relayOk (L : Lane) (m p s : Nat) : Bool :=
  let r := L.entry F.LN_SLOT0_SRC_SLOT m p s
  decide (r < s) && L.entryAct m (1 - p) r == 1

/-- The entries of a slot keep R249 and R250. -/
def Lane.slotOk (L : Lane) (m s : Nat) : Bool :=
  [0, 1].all (fun p =>
    let len := L.entry F.LN_SLOT0_LEN m p s
    decide (len ≤ 1472) && decide (L.entry F.LN_SLOT0_KIND m p s < 8)
      && (L.entryAct m p s == 0 || decide ((frameTime len L.lnCmac + 9) / 10 + 12 ≤ L.slotLen m s))
      && (L.entryAct m p s != 3 || L.relayOk m p s))

/-- LN_STATUS.PARAM (R250). -/
def Lane.lnParam (L : Lane) : Bool :=
  L.lnNode == 0 || decide (48 < L.lnNode) || decide (L.fld F.LN_CFG_ETHERTYPE < 0x600)
    || (List.range 4).any (fun m =>
      (m == 0 || L.nslot m != 0) &&
        (decide (64 < L.nslot m) || decide (L.cycLen m < 250) || decide (10000 < L.cycLen m)
          || decide (L.cycLen m < L.slotStart m (min 64 (L.nslot m)) + 20)
          || !((List.range (min 64 (L.nslot m))).all (fun s => L.slotOk m s))))

/-! ### Ports, states, network time -/

def Lane.lnPort (L : Lane) (p : Nat) : LnPortS := if p = 0 then L.ln.p0 else L.ln.p1
def Lane.updPort (L : Lane) (p : Nat) (f : LnPortS → LnPortS) : Lane :=
  if p = 0 then { L with ln := { L.ln with p0 := f L.ln.p0 } } else { L with ln := { L.ln with p1 := f L.ln.p1 } }
def Lane.updLn (L : Lane) (f : LnS → LnS) : Lane := { L with ln := f L.ln }
def Lane.portOn (L : Lane) (p : Nat) : Bool := bit L.ln.on p
def Lane.rank (L : Lane) : Nat := let r := L.fld F.LN_TCFG_RANK; if 4 < r then 0 else r
def Lane.srcTo (L : Lane) : Nat := L.fldIn F.LN_TCFG_SRC_TO 4 255
def Lane.portTo_ (L : Lane) : Nat := L.fldIn F.LN_PORTTO_PORT_TO 2 255

/-- Both ports lost: the lane network is lost (R256). -/
def Lane.netLost (L : Lane) : Bool := L.ln.p0.lost && L.ln.p1.lost

/-- Device time set from here on, and device time going on from here with its offset correction at an end. -/
def Lane.setTime (L : Lane) (t : Nat) : Lane := L.updLn (fun s => { s with timeNs := t, timeFrac := 0, timeAt := L.now, slew := 0, slewLen := 1 })
def Lane.keepTime (L : Lane) : Lane :=
  let x := L.devFine
  L.updLn (fun s => { s with timeNs := x / 8000000000, timeFrac := x % 8000000000, timeAt := L.now, slew := 0, slewLen := 1 })

/-- The action point of slot `s` in the present cycle, ns of device time. -/
def Lane.actionNs (L : Lane) (s : Nat) : Nat := L.ln.cycStart + 1000 * (L.slotStart L.ln.mode s + 2)

/-- The slot that runs at a device time, in the present cycle. -/
def Lane.slotAt (L : Lane) (t : Nat) : Option Nat :=
  if t < L.ln.cycStart then none else
  (List.range (min 64 (L.nslot L.ln.mode))).find? (fun s =>
    decide (L.ln.cycStart + 1000 * L.slotStart L.ln.mode s ≤ t) && decide (t < L.ln.cycStart + 1000 * L.slotStart L.ln.mode (s + 1)))

/-- A change of the start-up state raises STATE_CHANGE. -/
def Lane.setNet (L : Lane) (st : NetState) : Lane :=
  if L.ln.state = st then L else (L.updLn (fun s => { s with state := st })).raise F.LN_TEVENT_STATE_CHANGE

/-- The scheduler's stop: the guardian closes its windows, drops its origin and learns anew (R273); no entry runs, so that no frame is accepted
any more (R268). -/
def LnPortS.stop (s : LnPortS) : LnPortS :=
  { s with guard := { GuardS.reset with startAt := s.guard.startAt }, learned := 0, tx := none, accepted := [], someRun := 0 }

/-- What a node forgets when it leaves Sync or an integration. -/
def LnS.forget (s : LnS) (t : Nat) : LnS :=
  { s with integ := none, toSync := none, depth := 0, source := 0, ref := 0, refRank := 0, holdover := false, holdCyc := 0, samples := [], ofsHist := []
           pend := none, queued := none, switchTo := none, diverge := none, goMode := none, reqSent := none, nit := false, listenAt := t
           outAt := if s.state = .sync ∨ s.state = .off then t else s.outAt, joinWait := false
           rankCheck := false, peers := [], topoAt := none, acted := 0, done := 0, p0 := s.p0.stop, p1 := s.p1.stop }

/-- One cycle more for what the ports have kept of earlier ones: 8 cycles of heard nodes (R285), 255 of violations (R263). -/
def LnPortS.grow (s : LnPortS) : LnPortS :=
  { s with heard := (s.heard.map (fun c => (c.1, c.2.1 + 1, c.2.2))).filter (fun (c : Nat × Nat × Nat) => decide (c.2.1 < 8))
           viols := (s.viols.map (fun c => (c.1 + 1, c.2))).filter (fun (c : Nat × Nat) => decide (c.1 < 255)) }

/-- The age of what was kept at lane time `t` with age `n`: where no cycles run, the time since counts in cycles of mode 0. -/
def Lane.ageOf (L : Lane) (n t : Nat) : Nat :=
  if L.ln.state = .listen ∨ L.ln.state = .off then max n ((L.now - t) / us (max 1 (L.cycLen 0))) else n

/-- The ages as they stand when cycles begin. -/
def Lane.reAge (L : Lane) (s : LnPortS) : LnPortS :=
  { s with heard := s.heard.map (fun c => (c.1, L.ageOf c.2.1 c.2.2, c.2.2)), viols := s.viols.map (fun c => (L.ageOf c.1 c.2, c.2)) }

/-- To Listen: the listen timer starts (R268). -/
def Lane.toListen (L : Lane) : Lane := (L.updLn (fun s => s.forget L.now)).setNet .listen

/-- Both ENABLE bits 0: Off, where no heard set is formed (R285). -/
def Lane.netOff (L : Lane) : Lane :=
  (L.updLn (fun s =>
    let s := s.forget L.now
    { s with p0 := { s.p0 with heard := [] }, p1 := { s.p1 with heard := [] } })).setNet .off

/-- The receive descriptors of a port that is being enabled: VALID is 0 until a frame is accepted, and no earlier frame waits behind a lock
(R255). -/
def Lane.clearValid (L : Lane) (p : Nat) : Lane :=
  let L := L.updLn (fun n => { n with
    held := if n.lock.any (fun w => w.2 == p) then none else n.held
    swapped := n.swapped.filter (fun (c : Nat × Nat × Nat × RxHeld × RxHeld) => c.2.1 != p) })
  (List.range 64).foldl (fun (L : Lane) s =>
    let a := 0x22001000 + 0x4000 * s + 0x1000 * p
    let w := (L.memWord a).toNat
    if bit w 11 then L.setMemWord a (BitVec.ofNat 32 (putBit w 11 false)) else L) L

/-- A write of LN_CFG.ENABLE: a rise starts a port at once, a fall waits for the next cycle start where cycles run. -/
def Lane.portEnable (p : Fin 2) (L : Lane) : Lane :=
  if L.lnParam then L else
  let L := L.setFld F.LN_CFG_ENABLE (putBit (L.fld F.LN_CFG_ENABLE) p true)
  if L.portOn p then L else
  let L := L.updLn (fun s => { s with on := putBit s.on p true })
  let L := (L.updPort p (fun s => { LnPortS.reset with latched := s.latched, viols := s.viols, copy := s.copy })).clearValid p
  if L.ln.state = .off then L.toListen else L

/-! ### Guardian (R260 to R263) -/

def Lane.gvN (L : Lane) : Nat := L.fld1 F.LN_GUARD_GV_N
def Lane.gvWin (L : Lane) : Nat := L.fld1 F.LN_GUARD_GV_WIN

def Lane.updGuard (L : Lane) (p : Nat) (f : GuardS → GuardS) : Lane := L.updPort p (fun s => { s with guard := f s.guard })

/-- The port is latched closed: a transmission under way ends at once. -/
def Lane.latchPort (L : Lane) (p : Nat) : Lane := L.updPort p (fun s => { s with latched := true, tx := none })

/-- A violation on a port; GV_N of them within GV_WIN cycles latch it closed. -/
def Lane.violation (L : Lane) (p : Nat) : Lane :=
  let L := (L.raise F.LN_EVENT_VIOLATION).bump F.LN_ERR3_VIOLATION 0 p
  let vs := (0, L.now) :: (L.lnPort p).viols.filter (fun c => decide (L.ageOf c.1 c.2 < L.gvWin))
  let L := L.updPort p (fun s => { s with viols := vs })
  if (L.lnPort p).latched || decide (vs.length < L.gvN) then L
  else ((L.latchPort p).raise F.LN_EVENT_LATCH).fault 26 p

/-- The registers of which guardian `p` holds a copy: slot lengths and cycles of every mode, and the port's transmit and relay entries. -/
def Lane.guardTables (L : Lane) (p : Nat) : List (Nat × Word) :=
  L.regs.filter (fun c =>
    let o := c.1 - 0x40120000
    let k := (o - 0x600) / 4
    decide (0x40120400 ≤ c.1) && decide (o < 0x1400) &&
      (decide (o % 0x400 < 0x200)
        || (decide (k % 256 / 64 = p) && (c.2.toNat / 2 ^ 18 % 8 == 2 || c.2.toNat / 2 ^ 18 % 8 == 3))))

/-- A field of the guardian's copy; before any seal it goes by the tables. -/
def Lane.guardFld (L : Lane) (p : Nat) (f : Fld) (k : Nat) : Nat :=
  match (L.lnPort p).copy with
  | some c => f.get (cellGet (resetWord L.id (f.addr 0 k)) c (f.addr 0 k))
  | none => L.fld f 0 k

/-- The guardian's clock in counts per µs: the mean of the last 8 accepted cycles, the trimmed nominal 50 before there is one. -/
def GuardS.rate (s : GuardS) : Rat :=
  if s.rates = [] then 50 else ((s.rates.map (fun c => (c.1 : Rat) / (c.2 : Rat))).foldl (fun (a b : Rat) => a + b) 0) / ((s.rates.length : Nat) : Rat)

/-- The cycle length that the guardian predicts by, in µs. -/
def Lane.guardLen (L : Lane) (p : Nat) : Nat := L.guardFld p F.LN_CYC_CYCLE_LEN (L.lnPort p).guard.mode

/-- The guardian's own time since its last origin in ns. Between two strobes it runs as device time does, which R260 holds within 0.5 µs.
(Log entry 160: DEDUCED) -/
def Lane.guardNs (L : Lane) (p : Nat) : Option Int := (L.lnPort p).guard.origin.map (fun o => (L.devTime : Int) - o.2)

/-- The start of slot `s` of a guardian's copy in µs from its cycle start. -/
def Lane.guardSlot (L : Lane) (p s : Nat) : Nat :=
  (List.range s).foldl (fun (n : Nat) i => n + L.guardFld p F.LN_SLEN0_LEN (256 * (L.lnPort p).guard.mode + i)) 0

/-- The guardian's copy gives port `p` slot `s`: a transmit or relay entry. -/
def Lane.guardOwns (L : Lane) (p s : Nat) : Bool :=
  let m := (L.lnPort p).guard.mode
  decide (s < L.guardFld p F.LN_CYC_NSLOT m)
    && (let a := L.guardFld p F.LN_SLOT0_ACTION (256 * m + 64 * p + s)
        a == 2 || a == 3)

/-- The window that guardian `p` holds open, from 2 µs before an owned slot to 2 µs after it: the guardian's cycle and the slot, and the guardian
time in ns at which the window closes. The window of slot 0 opens in the cycle before. Of two that overlap, the later one. -/
def Lane.guardWindow (L : Lane) (p : Nat) : Option ((Nat × Nat) × Int) :=
  match L.guardNs p with
  | none => none
  | some g =>
    let open_ (base : Int) (s : Nat) : Bool :=
      L.guardOwns p s && decide (base + 1000 * (L.guardSlot p s : Int) - 2000 ≤ g) && decide (g < base + 1000 * (L.guardSlot p (s + 1) : Int) + 2000)
    let next : Int := 1000 * (L.guardLen p : Int)
    let cycle := (L.lnPort p).guard.cycle
    let shut (base : Int) (n s : Nat) : (Nat × Nat) × Int := ((cycle + n, s), base + 1000 * (L.guardSlot p (s + 1) : Int) + 2000)
    if open_ next 0 then some (shut next 1 0)
    else ((List.range 64).reverse.find? (open_ 0)).map (shut 0 0)

/-- The guardian lets a transmission of `d` tenths of a µs through: while it learns, one of at most 200 µs in 1,000 µs (R262); then one in each
window (R261). -/
def Lane.guardAllows (L : Lane) (p d : Nat) : Bool :=
  let P := L.lnPort p
  if P.learned < 8 then
    decide (d ≤ 2000) && (match P.guard.startAt with
      | some t => decide (t + us 1000 ≤ L.now)
      | none => true)
  else match L.guardWindow p with
    | none => false
    | some w => P.guard.used != some w.1

/-- A transmission let through is kept in mind. -/
def Lane.guardPass (L : Lane) (p : Nat) : Lane :=
  if (L.lnPort p).learned < 8 then L.updGuard p (fun s => { s with startAt := some L.now })
  else match L.guardWindow p with
    | none => L
    | some w => L.updGuard p (fun s => { s with used := some w.1 })

/-! ### Transmissions (R243, R251, R261) -/

/-- A frame whose last symbol has left: TX_IRQ where its entry asks for it. -/
def Lane.txEnd (L : Lane) (p : Nat) (t : LnTxS) : Lane :=
  let L := L.updPort p (fun s => { s with tx := none })
  let L := match t.frame with
    | none => L
    | some f => if p = 0 then L.updLn (fun s => { s with last0 := some f }) else L.updLn (fun s => { s with last1 := some f })
  L.when t.irq (·.raise F.LN_EVENT_TX_IRQ)

/-- What has become of port `p`'s transmission by now: complete, or cut by the close of its window (Overrun, R261). -/
def Lane.txSettle1 (L : Lane) (p : Nat) : Lane :=
  match (L.lnPort p).tx with
  | none => L
  | some t =>
    if t.shuts < t.ends ∧ t.shuts ≤ L.devTime then (L.updPort p (fun s => { s with tx := none })).violation p
    else if t.ends ≤ L.devTime then L.txEnd p t
    else L

/-- Both ports' transmissions brought up to now: every command of the lane network and every access of its registers does this first.
(Log entry 161: DESIGN CHOICE) -/
def Lane.txSettle (L : Lane) : Lane := (L.txSettle1 0).txSettle1 1

/-- The device time in ns at which the transmitter would be cut: the close of the window, or the limit of R262. -/
def Lane.guardShuts (L : Lane) (p : Nat) : Nat :=
  match L.guardWindow p, (L.lnPort p).guard.origin with
  | some w, some o => if (L.lnPort p).learned < 8 then L.devTime + 200000 else (o.2 + w.2).toNat
  | _, _ => L.devTime + 200000

/-- A port asks its guardian for a frame: it leaves, or the transmitter stays off and a violation is counted (R261). -/
def Lane.emit (L : Lane) (p : Nat) (f : LnFrame) (irq : Bool) : Lane :=
  let d := frameTime f.len f.cmac
  if !(L.guardAllows p d) then L.violation p else
  let shuts := L.guardShuts p
  let L := ((L.guardPass p).tally 18 p).tally 18 (4 + p) f.bytes.length
  L.updPort p (fun s => { s with tx := some { frame := if L.padsHeld .link then none else some f, ends := f.stamp + 100 * d, shuts := shuts, irq := irq } })

/-- The strobe of a cycle start at count `c` of the guardian's clock: within 1 µs of the prediction it is the new origin and its cycle enters the
rate, else it is a violation that takes the prediction. The first strobe sets the origin, and the 8 that end LEARNING follow it (R260, R273).
A late strobe whose absence has been counted is no second violation. (Log entry 160: DEDUCED) -/
def Lane.guardianStrobe (p : Fin 2) (c : Nat) (L : Lane) : Lane :=
  let L := L.txSettle
  if !(L.portOn p) || L.ln.state != .sync then L else
  let G := (L.lnPort p).guard
  let now : Int := (L.devTime : Int)
  match G.origin with
  | none => L.updGuard p (fun s => { s with origin := some (c, now), mode := L.ln.mode, missed := false })
  | some o =>
    let rate := G.rate
    let len := L.guardLen p
    let dev : Rat := ((((c : Int) - o.1 : Int) : Rat) - rate * (len : Rat)) / rate
    if G.missed ∧ 2 * (((c : Int) - o.1 : Int) : Rat) < rate * (len : Rat) then
      L.updGuard p (fun s => { s with missed := false, mode := L.ln.mode })
    else if -1 ≤ dev ∧ dev ≤ 1 then
      (L.updGuard p (fun s => { s with
        origin := some (c, now), rates := (((c : Int) - o.1, len) :: s.rates).take 8, mode := L.ln.mode, missed := false
        cycle := s.cycle + 1 })).updPort p
        (fun s => { s with learned := min 8 (s.learned + 1) })
    else
      ((L.updGuard p (fun s => { s with
        origin := some (o.1 + (rate * (len : Rat)).floor, now - (1000 * dev).floor), mode := L.ln.mode, missed := false
        cycle := s.cycle + 1 })).updPort p
        (fun s => { s with learned := if s.learned < 8 then 0 else 8 })).violation p

/-- No strobe by 1 µs after the prediction, at count `c` of the guardian's clock: a violation, and the prediction becomes the origin (R260). -/
def Lane.strobeMissing (p : Fin 2) (c : Nat) (L : Lane) : Lane :=
  let L := L.txSettle
  let G := (L.lnPort p).guard
  match G.origin with
  | none => L
  | some o =>
    let rate := G.rate
    let len := L.guardLen p
    let dev : Rat := ((((c : Int) - o.1 : Int) : Rat) - rate * (len : Rat)) / rate
    if !(L.portOn p) || L.ln.state != .sync || decide (dev ≤ 1) then L else
    ((L.updGuard p (fun s => { s with
      origin := some (o.1 + (rate * (len : Rat)).floor, (L.devTime : Int) - (1000 * dev).floor), missed := true, cycle := s.cycle + 1 })).updPort p
      (fun s => { s with learned := if s.learned < 8 then 0 else 8 })).violation p

/-- A transmission of `d` tenths of a µs that a port asks for outside the schedule: the guardian judges it as any other (R261). One let through
runs, and is cut where its window closes, on a port that is not latched (R263) and not already sending. -/
def Lane.guardianViolation (p : Fin 2) (d : Nat) (L : Lane) : Lane :=
  let L := L.txSettle
  if !(L.portOn p) then L
  else if !(L.guardAllows p d) then L.violation p
  else
    let t : LnTxS := { frame := none, ends := L.devTime + 100 * d, shuts := L.guardShuts p, irq := false }
    (L.guardPass p).updPort p (fun s => if s.latched || s.tx.isSome then s else { s with tx := some t })

/-- LN_CMD.REOPEN in Bench clears the latch of the named ports and their violation history; a violation in its own clock cycle counts after it
(R263). The guardian learns anew (R262). -/
def Lane.reopen (mask : Nat) (L : Lane) : Lane :=
  let L := L.txSettle
  if L.ky.state ≠ .bench then L else
  [0, 1].foldl (fun (L : Lane) p =>
    if !(bit mask p) then L else
    L.updPort p (fun s =>
      let vs := s.viols.filter (fun c => decide (c.2 / 8 = L.now / 8))
      { s with latched := decide (L.gvN ≤ vs.length), viols := vs, learned := 0 })) L

/-- The comparison of a guardian's copy in the network idle time; a difference, found or injected, latches the port (R260, R358).
(Log entries 63: DEDUCED, 68: DEDUCED) -/
def Lane.guardCompare (L : Lane) (p : Nat) : Lane :=
  let inj := L.injecting (15 + p)
  let L := L.when inj Lane.injTake
  let bad := inj || (match (L.lnPort p).copy with
    | some c => decide (c ≠ L.guardTables p)
    | none => false)
  if !bad then L else ((L.latchPort p).raise F.LN_EVENT_COPY_ERR).fault 26 p inj

/-! ### Collision, port loss (R243, R256) -/

/-- A collision during a transmission ends its frame with a jam, and the frame is not sent again. -/
def Lane.collision (p : Fin 2) (L : Lane) : Lane :=
  let L := L.txSettle
  if (L.lnPort p).tx.isNone then L
  else ((L.updPort p (fun s => { s with tx := none })).raise F.LN_EVENT_COLLISION).bump F.LN_ERR3_COLLISION 0 p

/-- The cycles without an accepted frame that have passed outside Sync: the time there counts as cycles. -/
def Lane.outCycles (L : Lane) : Nat := if L.ln.state = .sync then 0 else (L.now - L.ln.outAt) / us (max 1 (L.cycLen L.ln.mode))

/-- PORT_TO cycles without an accepted frame lose a port. (Log entry 66: DEDUCED) -/
def Lane.portLost (p : Fin 2) (L : Lane) : Lane :=
  if (L.lnPort p).lost || decide ((L.lnPort p).noneRun + L.outCycles < L.portTo_) then L
  else (L.updPort p (fun s => { s with lost := true })).raise F.LN_EVENT_PORT_LOST

/-- PORT_BACK cycles with an accepted frame each bring it back. (Log entry 66: DEDUCED) -/
def Lane.portBack (p : Fin 2) (L : Lane) : Lane :=
  if !(L.lnPort p).lost || decide ((L.lnPort p).someRun < L.fld1 F.LN_PORTTO_PORT_BACK) then L
  else (L.updPort p (fun s => { s with lost := false })).raise F.LN_EVENT_PORT_BACK

/-! ### Buffers (R253, R255) -/

def slotBase (s : Nat) : Nat := 0x22000000 + 0x4000 * s
def txWrite (s : Nat) : Nat := slotBase s
def txLive (s : Nat) : Nat := slotBase s + 0x800
def rxWindow (s p : Nat) : Nat := slotBase s + 0x1000 + 0x1000 * p

/-- A whole buffer replaced. -/
def Lane.putBuffer (L : Lane) (a n : Nat) (bs : List Byte) : Lane := (L.clearRange a n).setBytes a (bs.take n)

/-- The halves of a slot's transmit buffer swap. -/
def Lane.swapHalves (L : Lane) (s : Nat) : Lane :=
  let w := L.bytes (txWrite s) 0x5C0
  let v := L.bytes (txLive s) 0x5C0
  (L.putBuffer (txWrite s) 0x5C0 v).putBuffer (txLive s) 0x5C0 w

/-- The register that holds the commit bit of slot `s`. -/
def commitReg (hi : Bool) : Nat := if hi then F.LN_TXCOMMIT1.addr 0 0 else F.LN_TXCOMMIT0.addr 0 0

/-- The commit bits of LN_TXCOMMIT0 or LN_TXCOMMIT1 as a number. -/
def Lane.commitBits (L : Lane) (hi : Bool) : Nat := L.ln.commit / (if hi then 2 ^ 32 else 1) % 2 ^ 32

/-- A bit of LN_TXCOMMIT: the write half of a slot is committed. Bits written in this clock cycle, and of them those not set before, are kept in
mind for a lock point in the same cycle (R253). -/
def Lane.lnTxcommit (hi : Bool) (v : Word) (L : Lane) : Lane :=
  let L := (L.note (commitReg hi) v.toNat).note (commitReg hi + 1) (v.toNat &&& (L.commitBits hi ^^^ 0xFFFFFFFF))
  (List.range 32).foldl (fun (L : Lane) i =>
    if bit v.toNat i then L.updLn (fun s => { s with commit := putBit s.commit (i + (if hi then 32 else 0)) true }) else L) L

/-- An object-protocol message as bytes (R287). -/
def ObjResp.bytes (r : ObjResp) : List Byte :=
  [BitVec.ofNat 8 (r.head.service % 128 + 128), BitVec.ofNat 8 r.status] ++ leBytes 2 r.head.rid ++ leBytes 2 r.head.index
    ++ [BitVec.ofNat 8 r.head.sub, BitVec.ofNat 8 r.head.client] ++ leBytes 2 r.data.length ++ r.data

/-- The length of the frame that a slot sends next. -/
def Lane.liveLen (L : Lane) (s : Nat) : Nat := ((L.ln.len.find? (fun c => c.1 == s)).map (fun c => c.2)).getD 0

def Lane.setLiveLen (L : Lane) (s n : Nat) : Lane :=
  L.updLn (fun x => { x with len := x.len.filter (fun (c : Nat × Nat) => c.1 != s) ++ [(s, n)] })

/-- The kind of a slot's transmit entry; none when no port transmits in it. -/
def Lane.txKind (L : Lane) (m s : Nat) : Option Nat :=
  if L.portOn 0 && L.entryAct m 0 s == 2 then some (L.entry F.LN_SLOT0_KIND m 0 s)
  else if L.portOn 1 && L.entryAct m 1 s == 2 then some (L.entry F.LN_SLOT0_KIND m 1 s)
  else none

/-- The LEN of a slot's transmit entry. -/
def Lane.txEntryLen (L : Lane) (m s : Nat) : Nat :=
  if L.portOn 0 && L.entryAct m 0 s == 2 then L.entry F.LN_SLOT0_LEN m 0 s else L.entry F.LN_SLOT0_LEN m 1 s

/-- A commit of slot `s` that a lock point takes: pending, and not written in the lock point's own clock cycle (R253). -/
def Lane.commitDue (L : Lane) (s : Nat) : Bool := bit L.ln.commit s && !(bit (L.setNow (commitReg (decide (32 ≤ s)) + 1)) (s % 32))

/-- The halves of slot `s` swap and its commit bit clears, unless it was written again in this cycle. -/
def Lane.takeCommit (L : Lane) (s n : Nat) : Lane :=
  let again := bit (L.setNow (commitReg (decide (32 ≤ s)))) (s % 32)
  ((L.swapHalves s).setLiveLen s n).updLn (fun x => { x with commit := putBit x.commit s again, fresh := putBit x.fresh s true })

/-- The status sequence of slot `s` advances with a frame (R257). -/
def Lane.statusNext (L : Lane) (s : Nat) : Lane :=
  L.updLn (fun n =>
    let q := ((n.statusSeq.find? (fun c => c.1 == s)).map (·.2)).getD 0
    { n with statusSeq := (s, (q + 1) % 65536) :: n.statusSeq.filter (fun (c : Nat × Nat) => c.1 != s) })

/-- The response at the head of the queue fits slot `s` (R287). -/
def Lane.responseFits (L : Lane) (m s : Nat) : Bool := (L.oc.netTx.take 1).all (fun r => decide (r.bytes.length ≤ L.txEntryLen m s))

/-- 5 µs before a slot: a pending commit swaps the halves, else the live half goes again with STALE_TX. The runtime puts the next response that
is ready into the write half of a service-response slot and commits it (R300); a service slot with nothing to send goes with L = 0. The lock
point of slot 0 lies in the network idle time before it. (Log entry 64: DEDUCED) -/
def Lane.lnLockPoint (s : Fin 64) (L : Lane) : Lane :=
  let L := L.txSettle
  let m := if s.val = 0 then L.ln.switchTo.getD L.ln.mode else L.ln.mode
  let start := L.ln.cycStart + 1000 * (if s.val = 0 then L.cycLen L.ln.mode else L.slotStart m s)
  if L.ln.state ≠ .sync ∨ L.linkSleeps ∨ bit L.ln.done s ∨ L.nslot m ≤ s.val ∨ L.devTime + 5000 < start then L else
  let L := L.updLn (fun x => { x with done := putBit x.done s true })
  match L.txKind m s with
  | none => L
  | some k =>
    match (if k = 3 ∧ L.responseFits m s then L.oc.netTx else []) with
    | r :: q =>
      let L := ({ L with oc := { L.oc with netTx := q } }).putBuffer (txWrite s) 0x5C0 r.bytes
      L.takeCommit s r.bytes.length
    | [] =>
      if L.commitDue s then (L.takeCommit s (L.txEntryLen m s)).when (k == 1) (·.statusNext s)
      else
        let L := L.updLn (fun x => { x with fresh := putBit x.fresh s false })
        if k = 2 ∨ k = 3 then L.setLiveLen s 0
        else if 4 ≤ k then L
        else (L.setLiveLen s (L.txEntryLen m s)).raise F.LN_EVENT_STALE_TX

/-- The descriptor of an accepted frame. -/
def rxDesc (f : LnFrame) : Nat :=
  f.data.length % 2048 + 2048 + 4096 * b2n f.isNew + 8192 * b2n f.relayed + 16384 * (f.hop % 4) + 65536 * (f.cycle % 65536)

/-- A receive window filled. -/
def Lane.fillWindow (L : Lane) (s p : Nat) (x : RxHeld) : Lane :=
  let a := rxWindow s p
  ((L.setMemWord a (BitVec.ofNat 32 x.desc)).setBytes (a + 8) (leBytes 8 x.stamp)).putBuffer (a + 0x20) 0x5C0 x.data

/-- What a receive window shows. -/
def Lane.windowHeld (L : Lane) (s p : Nat) : RxHeld :=
  let a := rxWindow s p
  { desc := (L.memWord a).toNat, stamp := leNat (L.bytes (a + 8) 8), data := L.bytes (a + 0x20) 0x5C0 }

/-- An accepted frame goes to its window, or waits while the window is locked; what it replaces is kept for the clock cycle (R255). -/
def Lane.storeRx (L : Lane) (s p : Nat) (f : LnFrame) : Lane :=
  let x : RxHeld := { desc := rxDesc f, stamp := f.stamp, data := f.data }
  if L.ln.lock = some (s, p) then L.updLn (fun n => { n with held := some x })
  else
    let old := L.windowHeld s p
    (L.updLn (fun n => { n with
      swapped := (s, p, L.now, old, x) :: n.swapped.filter (fun (c : Nat × Nat × Nat × RxHeld × RxHeld) => decide (c.2.2.1 / 8 = L.now / 8)) })).fillWindow s p x

/-- A lock of window (s, p) written in the clock cycle of an acceptance keeps the frame that was readable before it (R255). -/
def Lane.lockTie (L : Lane) (s p : Nat) : Lane :=
  match L.ln.swapped.find? (fun c => c.1 == s && c.2.1 == p && decide (c.2.2.1 / 8 = L.now / 8)) with
  | none => L
  | some c => (L.fillWindow s p c.2.2.2.1).updLn (fun n => { n with held := some c.2.2.2.2 })

/-- A write of LN_RXLOCK: the previous lock is released, its newest frame becoming readable, and the named window is locked. -/
def Lane.lnRxlock (v : Word) (L : Lane) : Lane :=
  let L := ((L.setFld F.LN_RXLOCK_SLOT (F.LN_RXLOCK_SLOT.get v)).setFld F.LN_RXLOCK_PORT (F.LN_RXLOCK_PORT.get v)).setFld F.LN_RXLOCK_LOCK
    (F.LN_RXLOCK_LOCK.get v)
  let w := (F.LN_RXLOCK_SLOT.get v, F.LN_RXLOCK_PORT.get v)
  let on := F.LN_RXLOCK_LOCK.get v == 1
  if on && L.ln.lock == some w then L else
  let L := match L.ln.lock, L.ln.held with
    | some k, some x => L.fillWindow k.1 k.2 x
    | _, _ => L
  let L := L.updLn (fun n => { n with lock := if on then some w else none, held := none })
  L.when on (·.lockTie w.1 w.2)

/-! ### Fault injection on own transmissions (R264) -/

/-- A write of LN_INJ. -/
def Lane.lnInjArm (v : Word) (L : Lane) : Lane :=
  let L := ((((L.setFld F.LN_INJ_ACTION (F.LN_INJ_ACTION.get v)).setFld F.LN_INJ_PORT (F.LN_INJ_PORT.get v)).setFld F.LN_INJ_SLOT
    (F.LN_INJ_SLOT.get v)).setFld F.LN_INJ_SLOT2 (F.LN_INJ_SLOT2.get v)).setFld F.LN_INJ_CYCLES (F.LN_INJ_CYCLES.get v)
  if F.LN_INJ_ARM.get v = 0 then (L.updLn (fun s => { s with injLeft := 0 })).setFld F.LN_INJ_ARM 0 else
  let m := L.ln.mode
  let p := L.fld F.LN_INJ_PORT
  let a := L.fld F.LN_INJ_SLOT
  let b := L.fld F.LN_INJ_SLOT2
  let pairOk := L.entryAct m p a == 2 && L.entryAct m p b == 2 && L.entry F.LN_SLOT0_LEN m p a == L.entry F.LN_SLOT0_LEN m p b
  if L.lc.state ≠ .service ∨ (L.fld F.LN_INJ_ACTION = 3 ∧ !pairOk) then L.raise F.LN_EVENT_INJ_DENIED
  else (L.updLn (fun s => { s with injLeft := L.fld1 F.LN_INJ_CYCLES })).setFld F.LN_INJ_ARM 1

/-- One occurrence of the injected slot has passed. (Log entries 68: DEDUCED, 173: DEDUCED) -/
def Lane.lnInjTake (L : Lane) : Lane :=
  if 1 < L.ln.injLeft then L.updLn (fun s => { s with injLeft := s.injLeft - 1 })
  else ((L.updLn (fun s => { s with injLeft := 0 })).setFld F.LN_INJ_ARM 0).raise F.LN_EVENT_INJ_DONE

/-! ### Delays and topology (R276, R283, R285) -/

/-- The segment of port `p` of node `n` in the sealed topology. -/
def Lane.segOf (L : Lane) (n p : Nat) : Option Nat :=
  if n = 0 ∨ 48 < n then none
  else if p = 0 then (if L.flag F.LN_TOPO_P0_USED 0 (n - 1) then some (L.fld F.LN_TOPO_SEG0 0 (n - 1)) else none)
  else if L.flag F.LN_TOPO_P1_USED 0 (n - 1) then some (L.fld F.LN_TOPO_SEG1 0 (n - 1)) else none

/-- Node `n` is placed on the segment of the own port `p`. -/
def Lane.onSegment (L : Lane) (n p : Nat) : Bool :=
  match L.segOf L.lnNode p with
  | none => false
  | some s => L.segOf n 0 == some s || L.segOf n 1 == some s

/-- The delay in use to node `n` on port `p`, and whether it is measured. -/
def Lane.delay (L : Lane) (n p : Nat) : Nat × Bool :=
  match L.ln.delays.find? (fun c => c.1 == n && c.2.1 == p) with
  | some (_, _, r :: rs) =>
    (((((r :: rs).foldl (fun (a b : Int) => a + b) 0) / (((r :: rs).length : Nat) : Int)).toNat), true)
  | _ => (min 1000 (L.fld F.LN_DLYDEF_DLY), false)

/-- The CRC-32C of the sealed topology table, its 48 words in order, least significant byte first. (Log entry 65: DESIGN CHOICE) -/
def Lane.topoDigest (L : Lane) : Word :=
  crc32c ((List.range 48).map (fun i => leBytes 4 (L.reg (F.LN_TOPO_SEG0.addr 0 i)).toNat)).flatten

/-- The heard set of a port: nodes of the last 8 cycles, in Listen of as much time (R285). -/
def Lane.heardSet (L : Lane) (p : Nat) : List Nat :=
  ((L.lnPort p).heard.filter (fun c => decide (1 ≤ c.1 ∧ c.1 ≤ 48) && decide (L.ageOf c.2.1 c.2.2 < 8))).map (fun c => c.1)

def heardMask (ns : List Nat) : Nat := ns.foldl (fun (m : Nat) n => putBit m (n - 1) true) 0

/-! ### Frames sent (R251, R269, R275, R280, R285) -/

/-- A cold-start frame's data. -/
def Lane.coldData (L : Lane) : List Byte :=
  leBytes 6 L.ln.cyc ++ [BitVec.ofNat 8 L.rank, BitVec.ofNat 8 L.ln.attempt] ++ List.replicate 8 0

/-- The records of a sync frame: the newest hop-0 sync frame of each sender on each port, in ascending node address from where the last
frame left off. -/
def Lane.syncRecords (L : Lane) (r : Nat) : List SyncPeer :=
  let ps := (List.range 48).flatMap (fun n => [0, 1].flatMap (fun p => L.ln.peers.filter (fun x => x.node == n + 1 && x.port == p)))
  if ps.length ≤ r then ps else ((ps.drop (L.ln.rotate % ps.length)) ++ ps).take r

/-- A sync frame's data for LEN 16 + 12r. -/
def Lane.syncData (L : Lane) (len : Nat) : List Byte :=
  let r := (len - 16) / 12
  let recs := L.syncRecords r
  let one (x : SyncPeer) : List Byte :=
    [BitVec.ofNat 8 x.node, BitVec.ofNat 8 x.port] ++ leBytes 2 x.cyc ++ leBytes 8 x.stamp
  leBytes 6 L.ln.cyc ++ [BitVec.ofNat 8 L.ln.ref, BitVec.ofNat 8 L.ln.refRank, BitVec.ofNat 8 (L.ln.depth + 4 * b2n L.ln.holdover),
    BitVec.ofNat 8 recs.length] ++ List.replicate 6 0 ++ (recs.map one).flatten ++ List.replicate (12 * (r - recs.length)) 0

/-- The answer of this node to the change requested in the previous cycle (R281 step 2). -/
def Lane.modeNak (L : Lane) (r : ModeReqS) : Bool :=
  r.mode == L.ln.mode || L.nslot r.mode == 0 || !(bit (L.fld F.LN_TCFG_MALLOW) r.mode) || r.refuse

/-- A mode-change frame's data, from the request this node makes and the answer it gives. -/
def Lane.modeData (L : Lane) (req : Option Nat) (ans : Option ModeReqS) : List Byte :=
  let b0 := match req with
    | some m => m + 4
    | none => 0
  let a := match ans with
    | some r => [BitVec.ofNat 8 (r.mode + (if L.modeNak r then 8 else 4)), BitVec.ofNat 8 r.num, BitVec.ofNat 8 r.node]
    | none => [0, 0, 0]
  [BitVec.ofNat 8 b0, BitVec.ofNat 8 (if req.isSome then L.ln.reqNum else 0)] ++ a ++ [0, 0, 0]

/-- A discovery frame's data. -/
def Lane.discData (L : Lane) : List Byte :=
  leBytes 6 (heardMask (L.heardSet 0)) ++ leBytes 6 (heardMask (L.heardSet 1)) ++ leBytes 4 L.topoDigest.toNat
    ++ [BitVec.ofNat 8 ((L.segOf L.lnNode 0).getD 0 + 8 * b2n (L.segOf L.lnNode 0).isSome + 16 * (L.segOf L.lnNode 1).getD 0
      + 128 * b2n (L.segOf L.lnNode 1).isSome)] ++ List.replicate 7 0

/-- The data that a transmit entry of kind `k` carries. (Log entry 64: DEDUCED) -/
def Lane.txData (L : Lane) (k s len : Nat) : List Byte :=
  match k with
  | 4 => L.syncData len
  | 5 => L.coldData
  | 6 =>
    let ans := match L.ln.pend with
      | some r => if r.cyc + 1 = L.ln.cyc then some r else none
      | none => none
    L.modeData (match L.ln.reqSent with
      | some r => if r.1 = L.ln.cyc then some r.2 else none
      | none => none) ans
  | 7 => L.discData
  | _ => L.bytes (txLive s) (L.liveLen s)

/-- The frame of an own transmit entry of port `p` (R244 to R247); it carries a CMAC under the network key while LN_CFG.CMAC is 1. -/
def Lane.txFrame (L : Lane) (p k s len : Nat) : LnFrame :=
  let data := L.txData k s len
  let flags := L.id.index + 16 * b2n L.lnCmac + 64 * b2n (bit L.ln.fresh s && k != 5)
  let body := lnDest L.id.index ++ lnSource L.id.index L.lnNode p
    ++ [BitVec.ofNat 8 (L.fld F.LN_CFG_ETHERTYPE / 256), BitVec.ofNat 8 (L.fld F.LN_CFG_ETHERTYPE)]
    ++ [BitVec.ofNat 8 (1 + 16 * k), BitVec.ofNat 8 L.lnNode, BitVec.ofNat 8 flags, BitVec.ofNat 8 s] ++ leBytes 2 L.ln.cyc ++ leBytes 2 data.length
    ++ [BitVec.ofNat 8 L.ln.mode, 0] ++ leBytes 8 (L.actionNs s) ++ data
  { bytes := lnSeal (if L.lnCmac then some (L.lc.netKey, L.ln.cyc / 65536) else none) body, endOk := true, stamp := L.actionNs s }

/-- Byte OFS of a frame inverted after its CRC-32C and CMAC were formed, an OFS beyond the frame acting on the last byte before the FCS; the FCS
is formed anew, unless FCS_KEEP is 1 (R264). -/
def Lane.corrupt (L : Lane) (f : LnFrame) : LnFrame :=
  let ofs := L.fld F.LN_INJ2_OFS
  let o := if ofs < f.bytes.length then ofs else f.bytes.length - 5
  let bs := f.bytes.set o (f.bytes.getD o 0 ^^^ 0xFF)
  { f with bytes := if L.flag F.LN_INJ2_FCS_KEEP then bs else refcs bs }

/-- The port may transmit in its slots: enabled, neither latched nor closed, its guardian done learning. (Log entry 62: DEDUCED) -/
def Lane.mayTransmit (L : Lane) (p : Nat) : Bool :=
  L.portOn p && !(L.lnPort p).latched && !(L.lnPort p).closed && (L.lnPort p).learned == 8

/-- What an armed injection makes of port `p`'s transmission in slot `s`, counting the occurrence: 0 nothing, 1 dropped, 2 corrupted (R264). -/
def Lane.injAct (L : Lane) (p s : Nat) : Nat :=
  if 0 < L.ln.injLeft ∧ L.fld F.LN_INJ_PORT = p ∧ L.fld F.LN_INJ_SLOT = s then L.fld F.LN_INJ_ACTION else 0

/-- A frame of slot `s` goes out on port `p`, with the injection that stands for it. -/
def Lane.sendFrame (L : Lane) (p s : Nat) (f : LnFrame) : Lane :=
  let irq := L.entry F.LN_SLOT0_IRQ L.ln.mode p s == 1
  match L.injAct p s with
  | 1 => L
  | 2 => L.emit p (L.corrupt f) irq
  | _ => L.emit p f irq

/-- An occurrence of slot `s` on port `p` has passed, whatever the port did in it: of a reorder, that of the later slot. -/
def Lane.injPassed (L : Lane) (p s : Nat) : Lane :=
  let a := L.fld F.LN_INJ_SLOT
  let last := if L.fld F.LN_INJ_ACTION = 3 then max a (L.fld F.LN_INJ_SLOT2) else a
  L.when (decide (0 < L.ln.injLeft) && L.fld F.LN_INJ_PORT == p && s == last) Lane.lnInjTake

/-- A transmit entry at its action point. -/
def Lane.sendSlot (L : Lane) (p s : Nat) : Lane :=
  let m := L.ln.mode
  let a := L.fld F.LN_INJ_SLOT
  let b := L.fld F.LN_INJ_SLOT2
  let swap := decide (0 < L.ln.injLeft) && L.fld F.LN_INJ_PORT == p && L.fld F.LN_INJ_ACTION == 3 && (s == a || s == b)
  let x := if swap then (if s = a then b else a) else s
  L.sendFrame p s { L.txFrame p (L.entry F.LN_SLOT0_KIND m p x) x (L.entry F.LN_SLOT0_LEN m p x) with stamp := L.actionNs s }

/-- A relay entry: the frame accepted on the other port in the source slot of this cycle, one hop on (R252). -/
def Lane.relaySlot (L : Lane) (p s : Nat) : Lane :=
  let r := L.entry F.LN_SLOT0_SRC_SLOT L.ln.mode p s
  match (L.lnPort (1 - p)).accepted.find? (fun f => f.slot == r) with
  | none => L
  | some f =>
    if 3 ≤ f.hop then L.raise F.LN_EVENT_HOP_LIMIT
    else
      let M := L.sendFrame p s { f with bytes := relayBytes f.bytes, stamp := L.actionNs s }
      M.when (M.lnPort p).tx.isSome (·.tally 18 (8 + p))

/-- What this node notes of its own transmission: a sync frame with its action time, a mode-change request or answer. -/
def Lane.noteOwn (L : Lane) (s : Nat) : Lane :=
  match L.txKind L.ln.mode s with
  | some 4 =>
    let on (p : Nat) : Bool := L.mayTransmit p && L.entryAct L.ln.mode p s == 2
    L.updLn (fun x => { x with own := ((x.cyc % 65536, L.actionNs s, b2n (on 0) + 2 * b2n (on 1)) :: x.own).take 16, rotate := x.rotate + (L.txEntryLen x.mode s - 16) / 12 })
  | some 6 =>
    let me := L.lnNode
    L.updLn (fun x =>
      let pend := match x.pend with
        | some r =>
          if r.cyc + 1 = x.cyc then
            some (if L.modeNak r then { r with nak := true } else { r with acks := me :: r.acks })
          else some r
        | none => none
      { x with present := if x.present.contains me then x.present else me :: x.present, pend := pend })
  | _ => L

/-- The first KIND 6 slot after LN_MREQ.GO carries the request (R281 step 1). It stands as a request received in this slot would: one of a lower
address in the same cycle refuses it, one of a higher address gives way, and while a change of the cycle before is to be answered it is refused. -/
def Lane.startRequest (L : Lane) (s : Nat) : Lane :=
  match L.ln.goMode, L.txKind L.ln.mode s with
  | some m, some 6 =>
    L.updLn (fun x =>
      let r : ModeReqS := { mode := m, num := (x.reqNum + 1) % 256, node := L.lnNode, cyc := x.cyc, present := [], acks := [], nak := false, refuse := false }
      let x := { x with goMode := none, reqNum := (x.reqNum + 1) % 256, reqSent := some (x.cyc, m) }
      match x.pend with
      | none => { x with pend := some r }
      | some q =>
        if q.cyc = x.cyc then { x with pend := some (if q.node < L.lnNode then { r with refuse := true, nak := true } else r) }
        else { x with queued := match x.queued with
          | none => some { r with refuse := true }
          | some w => some (if w.node < L.lnNode then w else { r with refuse := true }) })
  | _, _ => L

/-- The number of cycles between cold-start frames. -/
def Lane.coldK (L : Lane) : Nat := (1100 + L.cycLen 0 - 1) / (max 1 (L.cycLen 0))

/-- The action point of a slot; in Hold the transmit entries send nothing (R389): in Sync each port transmits, relays or expects a frame by its entry; in ColdStart a cold-start frame goes
out on both ports in slot 0 of every K-th cycle. -/
def Lane.lnActionPoint (s : Fin 64) (L : Lane) : Lane :=
  let L := L.txSettle
  if L.devTime < L.actionNs s ∨ bit L.ln.acted s then L
  else if L.ln.state = .coldStart then
    if s.val ≠ 0 ∨ L.ln.cyc % L.coldK ≠ 0 ∨ 4 ≤ L.ln.csSent ∨ L.ln.csSent * L.coldK ≠ L.ln.cyc then L else
    let L := [0, 1].foldl (fun (L : Lane) p => if L.portOn p && !(L.lnPort p).latched && !L.linkSleeps then L.emit p (L.txFrame p 5 0 16) false else L) L
    L.updLn (fun x => { x with attempt := (x.attempt + 1) % 256, csSent := x.csSent + 1, csStart := L.actionNs 0 })
  else if L.ln.state ≠ .sync ∨ L.nslot L.ln.mode ≤ s.val then L
  else
    let L := L.updLn (fun x => { x with acted := putBit x.acted s true })
    let can := !L.linkSleeps && [0, 1].any (fun p => L.mayTransmit p && L.entryAct L.ln.mode p s == 2)
    let L := L.when can (fun L => L.startRequest s)
    let L := [0, 1].foldl (fun (L : Lane) p =>
      (if !(L.mayTransmit p) then L
      else if L.entryAct L.ln.mode p s = 2 then (if L.linkSleeps then L else L.sendSlot p s)
      else if L.entryAct L.ln.mode p s = 3 then L.relaySlot p s
      else L).injPassed p s) L
    L.when can (fun L => L.noteOwn s)

end Sys2Proof.Machine
end

