-- ==== Sys2Proof/Machine/NetTime.lean ====
section
/-! DEFINITION. Receiving on the lane network (R254 to R259) and chapter 12: start-up, integration, clock correction, time sources, schedule
modes and the topology check (R265 to R286). -/

namespace Sys2Proof.Machine

/-! ### Process data (R257, R258, R312) -/

/-- The mapping words of a slot up to the first 0. -/
def Lane.mapping (L : Lane) (s : Nat) : List Nat :=
  ((List.range 64).map (fun e => (cellGet 0 L.cfg.mapping (64 * s + e)).toNat)).takeWhile (fun w => w != 0)

/-- Which value of the holder's targets a mapping word names: 0 the host command, 1 the profile request, from 2 on position, rate limit and
brake demand of each actuator. -/
def rxKey (w : Nat) : Option Nat :=
  let idx := w / 65536
  let sub := w / 256 % 256
  if idx = 0x3020 ∧ sub = 0 then some 0
  else if idx = 0x3011 ∧ sub = 0 then some 1
  else if 0x2001 ≤ idx ∧ idx ≤ 0x2F01 ∧ idx % 256 = 1 ∧ 1 ≤ sub ∧ sub ≤ 3 then some (2 + 3 * ((idx - 0x2000) / 256) + (sub - 1))
  else none

/-- The mapped values of a process-data frame. -/
def unpackPd : List Nat → List Byte → List (Nat × Word)
  | [], _ => []
  | w :: ws, bs =>
    let n := w % 256
    let rest := unpackPd ws (bs.drop n)
    match rxKey w with
    | some k => (k, BitVec.ofNat 32 (leNat (bs.take n))) :: rest
    | none => rest

/-- A frame number of a client is ahead of the one taken last from it (R90). (Log entry 194: DEDUCED) -/
def Lane.pdAhead (L : Lane) (c s : Nat) : Bool :=
  match L.ky.pdNum.getD c none with
  | none => true
  | some n => let d := (s + 65536 - n) % 65536; decide (1 ≤ d ∧ d ≤ 32767)

/-- An accepted process-data frame: kept for two authority ticks; the host's report of standstill is taken from it (R48), and, when every value
lies in its range and its number is ahead, the host command and the profile request (R311, R312, R316). (Log entry 194: DEDUCED) -/
def Lane.acceptPd (L : Lane) (s : Nat) (d : List Byte) : Lane :=
  let c := (d.getD 0 0).toNat % 4
  let vals := unpackPd (L.mapping s) (d.drop 4)
  let L := { L with ky := { L.ky with
    pd := L.ky.pd ++ [(L.now, c, leNat ((d.drop 2).take 2), vals)]
    lastPd := some L.now } }
  let cmd := (vals.find? (fun v => v.1 == 0)).map (fun v => v.2.toNat)
  let L := { L with ky := { L.ky with hostStill := (cmd.map (fun w => bit w 3)).getD L.ky.hostStill } }
  let s := leNat ((d.drop 2).take 2)
  if !(vals.all pdOk) || !(L.pdAhead c s) then L else
  let start := (cmd.map (· % 2)).getD (L.ky.startEdge.getD c 0)
  let edge := start == 1 && L.ky.startEdge.getD c 0 == 0 && L.ky.state == .bench
  { L with ky := { L.ky with
      pdNum := L.ky.pdNum.set c (some s)
      hostWord := cmd.getD L.ky.hostWord
      hostProfile := ((vals.find? (fun v => v.1 == 1)).map (fun v => v.2.toNat)).getD L.ky.hostProfile
      startEdge := L.ky.startEdge.set c start
      startCmd := L.ky.startCmd || edge } }

/-! ### Time from received frames (R275 to R279) -/

/-- A delay result from this node's own sync frame and the sender's record of it, taken on this port's segment (R276): of its sync
frames of that cycle on the port, the last one that the record can be of. -/
def Lane.delayMeasure (L : Lane) (p : Nat) (f : LnFrame) : Lane :=
  let n := (f.data.getD 9 0).toNat
  let recs := (List.range n).map (fun i => (f.data.drop (16 + 12 * i)).take 12)
  match recs.find? (fun r => (r.getD 0 0).toNat == L.lnNode && L.segOf f.source ((r.getD 1 0).toNat % 2) == L.segOf L.lnNode p) with
  | none => L
  | some r =>
    let c := leNat ((r.drop 2).take 2)
    let rN := leNat ((r.drop 4).take 8)
    match L.ln.own.find? (fun x => x.1 == c && bit x.2.2 p && decide (x.2.1 ≤ rN + 1000)) with
    | none => L
    | some x =>
      if 2 < (f.cycle + 65536 - c) % 65536 then L else
      let d : Int := (((rN : Int) - (x.2.1 : Int)) + ((f.stamp : Int) - (f.action : Int))) / 2
      if d < 0 ∨ 1000 < d then L.raise F.LN_TEVENT_DELAY_BAD
      else
        L.updLn (fun s =>
          let old := match s.delays.find? (fun e => e.1 == f.source && e.2.1 == p) with
            | some e => e.2.2
            | none => []
          { s with delays := s.delays.filter (fun (e : Nat × Nat × List Int) => !(e.1 == f.source && e.2.1 == p)) ++ [(f.source, p, (d :: old).take 16)] })

/-- What a sync frame says of its sender. -/
def peerOf (p cyc : Nat) (f : LnFrame) : SyncPeer :=
  { node := f.source, port := p, depth := (f.data.getD 8 0).toNat % 4, ref := (f.data.getD 6 0).toNat, refRank := (f.data.getD 7 0).toNat,
    cyc := cyc, stamp := f.stamp, action := f.action }

/-- The candidates of the last SRC_TO whole cycles and of this one, of depth 0 to 2. -/
def Lane.candidates (L : Lane) : List SyncPeer :=
  L.ln.peers.filter (fun x => decide (x.depth ≤ 2) && decide (L.ln.cyc ≤ x.cyc + L.srcTo))

/-- The candidate of lowest depth, then of lowest address. -/
def bestPeer (ps : List SyncPeer) : Option SyncPeer :=
  ps.foldl (fun (b : Option SyncPeer) x => match b with
    | none => some x
    | some y => if x.depth < y.depth ∨ (x.depth = y.depth ∧ x.node < y.node) then some x else b) none

/-- A new time source. -/
def Lane.takeSource (L : Lane) (x : SyncPeer) : Lane :=
  (L.updLn (fun s => { s with source := x.node, depth := x.depth + 1, ref := x.ref, refRank := x.refRank, holdover := false, holdCyc := 0, srcSeen := 0 })).raise
    F.LN_TEVENT_SRC_CHANGE

/-- An accepted sync frame in Sync: records, delay, and a reference of lower rank, under which a source is taken (R279). A node keeps its
source's depth plus one and its source's reference (R266). (Log entry 140: DEDUCED) -/
def Lane.acceptSync (L : Lane) (p : Nat) (f : LnFrame) : Lane :=
  let x := peerOf p L.ln.cyc f
  let L := if f.hop = 0 then
      (L.updLn (fun s => { s with peers := s.peers.filter (fun (y : SyncPeer) => !(y.node == x.node && y.port == x.port)) ++ [x] })).delayMeasure p f
    else L
  if x.refRank = 0 ∨ L.ln.refRank ≤ x.refRank then
    (if f.hop = 0 ∧ L.ln.depth ≠ 0 ∧ x.node = L.ln.source ∧ x.depth ≤ 2 then
      L.updLn (fun s => { s with depth := x.depth + 1, ref := x.ref, refRank := x.refRank }) else L)
  else
  match bestPeer (L.candidates.filter (fun y => y.ref == x.ref)) with
  | none => L
  | some y => (L.takeSource y).updLn (fun s => { s with rankCheck := true })

/-- An accepted mode-change frame (R280, R281): the sender is present; its request is taken, refused against a lower address, or kept to
be refused while a change is pending; its answer counts. -/
def Lane.acceptMode (L : Lane) (f : LnFrame) : Lane :=
  let b0 := (f.data.getD 0 0).toNat
  let L := L.updLn (fun s => { s with present := if s.present.contains f.source then s.present else f.source :: s.present })
  let L := if !(bit b0 2) then L else
    L.updLn (fun s =>
      let r : ModeReqS := { mode := b0 % 4, num := (f.data.getD 1 0).toNat, node := f.source, cyc := s.cyc, present := [], acks := [], nak := false, refuse := false }
      match s.pend with
      | none => { s with pend := some r }
      | some q =>
        if q.cyc = s.cyc ∧ f.source < q.node then
          (if q.node = L.lnNode then { s with pend := some { q with refuse := true, nak := true } } else { s with pend := some r })
        else if decide (q.cyc + 1 = s.cyc) && (match s.queued with
          | some w => decide (f.source < w.node)
          | none => true) then { s with queued := some { r with refuse := true } }
        else s)
  let b2 := (f.data.getD 2 0).toNat
  match L.ln.pend with
  | none => L
  | some q =>
    if q.cyc + 1 ≠ L.ln.cyc ∨ (f.data.getD 3 0).toNat ≠ q.num ∨ (f.data.getD 4 0).toNat ≠ q.node ∨ b2 % 4 ≠ q.mode then L
    else if bit b2 3 then L.updLn (fun s => { s with pend := some { q with nak := true } })
    else if bit b2 2 then L.updLn (fun s => { s with pend := some { q with acks := f.source :: q.acks } })
    else L

/-- What acceptance of a frame does by its kind. -/
def Lane.acceptKind (L : Lane) (p s : Nat) (f : LnFrame) : Lane :=
  match f.kind with
  | 0 => L.acceptPd s f.data
  | 2 => if f.data.length = 0 then L else { L with oc := { L.oc with rx := L.oc.rx ++ [(.net, f.data)] } }
  | 4 => L.acceptSync p f
  | 6 => L.acceptMode f
  | 7 => if leNat ((f.data.drop 12).take 4) = L.topoDigest.toNat then L else L.updPort p (fun x => { x with bad := true })
  | _ => L

/-! ### The checks of a receive entry (R254) -/

/-- Checks 1 and 3, which also form the heard set (R285). -/
def Lane.netOk (L : Lane) (f : LnFrame) : Bool :=
  f.fcsOk && f.onNet L.id.index && f.etherType == L.fld F.LN_CFG_ETHERTYPE && f.version == 1

/-- Check 7, with `hi` as the high part of the cycle counter. -/
def Lane.cmacChecks (L : Lane) (f : LnFrame) (hi : Nat) : Bool := f.cmac == L.lnCmac && (!f.cmac || f.cmacOk L.lc.netKey hi)

/-- Check 5. -/
def lenOk (f : LnFrame) (len : Nat) : Bool := f.len == len || ((f.kind == 2 || f.kind == 3) && decide (f.len < len))

/-- Check 2, of slot `s`. -/
def Lane.onTime (L : Lane) (s : Nat) (f : LnFrame) : Bool := decide (L.actionNs s ≤ f.stamp + 1000) && decide (f.stamp ≤ L.actionNs s + 1000)

/-- Which check of a receive entry fails first; 0 when the frame passes all. -/
def Lane.rxFail (L : Lane) (p s : Nat) (f : LnFrame) (crcOk : Bool) : Nat :=
  let m := L.ln.mode
  let len := L.entry F.LN_SLOT0_LEN m p s
  if !f.fcsOk then 1
  else if !(L.onTime s f) then 2
  else if !(L.netOk f) then 3
  else if f.slot ≠ s ∨ f.cycle ≠ L.ln.cyc % 65536 ∨ f.mode ≠ m ∨ f.source ≠ L.entry F.LN_SLOT0_NODE m p s
      ∨ f.kind ≠ L.entry F.LN_SLOT0_KIND m p s then 4
  else if !(lenOk f len) then 5
  else if !crcOk then 6
  else if !(L.cmacChecks f (L.ln.cyc / 65536)) then 7
  else 0

/-- A discarded frame: RX_ERR, its counter, and for FCS, CRC and CMAC a corrected fault of source 25. -/
def Lane.rxDiscard (L : Lane) (p n : Nat) (inj : Bool) : Lane :=
  let L := L.raise F.LN_EVENT_RX_ERR
  match n with
  | 1 => (L.bump F.LN_ERR0_FCS_ERR 0 p).fault 25 p
  | 2 => L.bump F.LN_ERR1_TIMING 0 p
  | 6 => (L.bump F.LN_ERR0_CRC_ERR 0 p).fault 25 p inj
  | 7 => (L.bump F.LN_ERR2_CMAC_ERR 0 p).fault 25 p
  | _ => L.bump F.LN_ERR1_MISMATCH 0 p

/-- The source may be aligned to (R266): the depth that this frame, or else its newest sync frame, gives it is at most 2. -/
def Lane.sourceFit (L : Lane) (f : LnFrame) : Bool :=
  if f.kind = 4 then decide ((f.data.getD 8 0).toNat % 4 ≤ 2)
  else match (L.ln.peers.filter (fun x => x.node == L.ln.source)).getLast? with
    | none => true
    | some x => decide (x.depth ≤ 2)

/-- A frame on a port in Sync; in Hold it is checked and counted, and its data discarded (R389). (Log entry 140: DEDUCED) -/
def Lane.rxSync (L : Lane) (p : Nat) (f : LnFrame) (crcOk inj : Bool) : Lane :=
  match L.slotAt f.stamp with
  | none => L
  | some s =>
    let fail := L.rxFail p s f crcOk
    if L.entryAct L.ln.mode p s ≠ 1 ∨ (L.lnPort p).closed then L else
    -- checks 1 to 3 and 5 to 7, by which R282 counts the modes of the senders
    let seen := L.onTime s f && L.netOk f && lenOk f (L.entry F.LN_SLOT0_LEN L.ln.mode p s) && crcOk && L.cmacChecks f (L.ln.cyc / 65536)
    let L := L.when seen (fun L => L.updLn (fun x => { x with modes := (f.source, f.mode) :: x.modes }))
    if fail ≠ 0 then L.rxDiscard p fail inj
    else
      let L := (L.tally 18 (2 + p)).tally 18 (6 + p) f.bytes.length
      let L := L.updPort p (fun x => { x with accepted := f :: x.accepted, valid := putBit x.valid s true })
      let sleeps := L.linkSleeps
      let L := L.when (!sleeps) (fun L => (L.storeRx s p f).when (L.entry F.LN_SLOT0_IRQ L.ln.mode p s == 1) (·.raise F.LN_EVENT_RX_IRQ))
      let L := if f.hop = 0 ∧ f.source = L.ln.source ∧ L.ln.depth ≠ 0 ∧ L.sourceFit f then
          L.updLn (fun x =>
            { x with samples := x.samples ++ [(f.stamp : Int) - ((L.actionNs s + (L.delay f.source p).1 : Nat) : Int)], srcSeen := 0
                     holdover := false, holdCyc := 0 })
        else L
      if sleeps && (f.kind == 0 || f.kind == 2) then L else L.acceptKind p s f

/-! ### Integration (R272) -/

/-- The frame is accepted for integration; for its CMAC the high part comes from bytes 0 to 5 of its data (R272). -/
def Lane.integOk (L : Lane) (p : Nat) (f : LnFrame) (crcOk : Bool) : Bool :=
  L.netOk f && crcOk && L.cmacChecks f (leNat (f.data.take 6) / 65536) && f.hop == 0 && L.onSegment f.source p
    && (f.kind == 5 || (f.kind == 4 && decide ((f.data.getD 8 0).toNat % 4 ≤ 2)))

/-- Integration on a frame: device time steps to the action time plus the delay, the cycle counter and mode are taken. -/
def Lane.integrate (L : Lane) (p : Nat) (f : LnFrame) : Lane :=
  let was := L.ln.state
  let dev := L.devTime
  let stamp := f.action + (L.delay f.source p).1
  let L := L.setTime (stamp + (dev - f.stamp))
  let cold := f.kind == 5
  let L := L.updLn (fun s =>
    { s.forget L.now with
      p0 := L.reAge (s.forget L.now).p0
      p1 := L.reAge (s.forget L.now).p1
      cyc := leNat (f.data.take 6)
      mode := f.mode % 4
      cycStart := f.action - 1000 * (L.slotStart (f.mode % 4) f.slot + 2)
      integ := some {
        node := f.source
        kind := f.kind
        slot := f.slot
        missed := 0
        depth := if cold then 0 else (f.data.getD 8 0).toNat % 4
        ref := if cold then f.source else (f.data.getD 6 0).toNat
        refRank := if cold then (f.data.getD 6 0).toNat else (f.data.getD 7 0).toNat } })
  let L := L.raise F.LN_TEVENT_TIME_STEP
  let L := L.when (was == .coldStart) (·.raise F.LN_TEVENT_CS_YIELD)
  L.setNet .integrate

/-- The sender's next frame of the same kind within 1 µs of where the adopted time puts it confirms the integration. -/
def Lane.confirmInteg (L : Lane) (p : Nat) (f : LnFrame) (crcOk : Bool) : Lane :=
  match L.ln.integ with
  | none => L
  | some x =>
    if f.source ≠ x.node ∨ f.kind ≠ x.kind ∨ !(L.integOk p f crcOk) ∨ (x.missed = 0 ∧ f.slot ≤ x.slot) then L
    else if f.stamp + 1000 < L.actionNs f.slot ∨ L.actionNs f.slot + 1000 < f.stamp then L
    else L.updLn (fun s => { s with toSync := some (x.node, x.depth + 1, x.ref, x.refRank) })

/-- A frame on a port: its first symbol is stamped, whether it is accepted or not (R254, R268, R285). -/
def Lane.lnFrameReceive (p : Fin 2) (f : LnFrame) (L : Lane) : Lane :=
  let L := L.txSettle
  if !(L.portOn p) then L else
  let L := L.updPort p (fun x => { x with first := some f.stamp })
  let inj := L.injecting (13 + p)
  let L := L.when inj Lane.injTake
  let crcOk := f.crcOk && !inj
  let L := if f.hop = 0 ∧ L.netOk f then
      L.updPort p (fun x => { x with heard := (f.source, 0, L.now) :: x.heard.filter (fun (c : Nat × Nat × Nat) => c.1 != f.source) })
    else L
  match L.ln.state with
  | .off => L
  | .sync => L.rxSync p f crcOk inj
  | .integrate => L.confirmInteg p f crcOk
  | .coldStart => if L.integOk p f crcOk then L.integrate p f else L
  | .listen =>
    if L.integOk p f crcOk then L.integrate p f
    else if f.fcsOk && f.etherType == L.fld F.LN_CFG_ETHERTYPE then L.updLn (fun s => { s with listenAt := L.now, joinWait := true })
    else L

/-! ### Cycle start (R265, R277) and network idle time (R281, R282) -/

/-- Receive entries without an accepted frame in the ended cycle (R254). -/
def Lane.missCount (L : Lane) : Lane :=
  [0, 1].foldl (fun (L : Lane) p =>
    if !(L.portOn p) then L else
    (List.range (min 64 (L.nslot L.ln.mode))).foldl (fun (L : Lane) s =>
      if L.entryAct L.ln.mode p s = 1 ∧ !((L.lnPort p).accepted.any (fun f => f.slot == s))
      then (L.raise F.LN_EVENT_MISS).bump F.LN_ERR2_MISS 0 p else L) L) L

/-- The port counts of the ended cycle (R256). (Log entry 66: DEDUCED) -/
def LnPortS.endCycle (s : LnPortS) : LnPortS :=
  if s.accepted = [] then { s with noneRun := s.noneRun + 1, someRun := 0 }
  else { s with noneRun := 0, someRun := s.someRun + 1, accepted := [] }

/-- The mean of a list, rounded down. (Log entry 53: DEDUCED) -/
def meanI (xs : List Int) : Int := if xs = [] then 0 else (xs.foldl (fun (a b : Int) => a + b) 0) / ((xs.length : Nat) : Int)

/-- The clock corrections of a cycle with offset samples: −ē within ±500 ns over the next cycle, and every 8 such cycles the rate (R277).
The rate moves against the offsets, by half their sum over the time they spanned, within ±500 ppm. (Log entries 52: DEDUCED, 53: DEDUCED) -/
def Lane.clockCorrect (L : Lane) : Lane :=
  if L.ln.depth = 0 ∨ L.ln.samples = [] then L else
  let e := meanI L.ln.samples
  let c := clampI (-500) 500 e
  let hist := L.ln.ofsHist ++ [(c, L.ln.cycStart)]
  let L := L.updLn (fun s => { s with ofs := e, slew := -c, slewLen := max 1 (1000 * L.cycLen (s.switchTo.getD s.mode)), samples := [] })
  if hist.length < 8 then L.updLn (fun s => { s with ofsHist := hist })
  else
    let sum := (hist.map (fun x => x.1)).foldl (fun (a b : Int) => a + b) 0
    let span : Int := ((L.ln.cycStart + 1000 * L.cycLen L.ln.mode - (hist.headD (0, 0)).2 : Nat) : Int)
    let d := if span = 0 then 0 else sum * 1000000000 / (2 * span)
    L.updLn (fun s => { s with ofsHist := [], rate := clampI (-500000) 500000 (s.rate - d) })

/-- Entry to Sync at a cycle start: the first strobe follows (R273). -/
def Lane.enterSync (L : Lane) : Lane :=
  match L.ln.toSync with
  | none => L
  | some x =>
    let n := L.outCycles
    let L := L.updLn (fun s => { s with
      p0 := { s.p0 with noneRun := s.p0.noneRun + n }, p1 := { s.p1 with noneRun := s.p1.noneRun + n }
      toSync := none, integ := none, source := if x.2.1 = 0 then 0 else x.1, depth := x.2.1, ref := x.2.2.1, refRank := x.2.2.2, srcSeen := 0
      samples := [], holdover := false, holdCyc := 0 })
    L.setNet .sync

/-- A cycle starts. -/
def Lane.lnCycleStart (L : Lane) : Lane :=
  let L := L.txSettle
  let len := 1000 * L.cycLen L.ln.mode
  if L.ln.state = .off ∨ L.ln.state = .listen ∨ L.devTime < L.ln.cycStart + len then L else
  let sync := L.ln.state == .sync
  let L := L.when sync (fun L => (L.missCount).tally 18 10)
  let far := L.ln.rankCheck && L.ln.samples != [] && (decide (20000 < meanI L.ln.samples) || decide (meanI L.ln.samples < -20000))
  let L := L.keepTime
  let L := L.when sync Lane.clockCorrect
  let L := L.updLn (fun s => { s with
    p0 := (if sync then s.p0.endCycle else s.p0).grow, p1 := (if sync then s.p1.endCycle else s.p1).grow, cyc := (s.cyc + 1) % 2 ^ 48, cycStart := s.cycStart + len, nit := false, present := [], modes := []
    rankCheck := s.rankCheck && s.samples == [], srcSeen := s.srcSeen + 1, holdCyc := if s.holdover then s.holdCyc + 1 else 0
    done := s.done % 2, acted := 0, integ := s.integ.map (fun x => { x with missed := x.missed + 1 }) })
  let L := match L.ln.switchTo with
    | some m => (L.updLn (fun s => { s with mode := m, switchTo := none })).raise F.LN_TEVENT_MODE_SWITCH
    | none => L
  let L := L.updLn (fun s => { s with on := s.on &&& L.fld F.LN_CFG_ENABLE })
  if L.ln.on = 0 then L.netOff
  else if sync && far then L.toListen
  else L.enterSync

/-- The decision on a mode change at the start of the idle time of the cycle after the request. -/
def Lane.modeDecide (L : Lane) : Lane :=
  match L.ln.pend with
  | none => L
  | some r =>
    if r.cyc = L.ln.cyc then L.updLn (fun s => { s with pend := some { r with present := s.present } })
    else if r.cyc + 1 ≠ L.ln.cyc then L
    else
      let all := r.node :: r.present
      let ok := !r.nak && all.all (fun n => r.acks.contains n)
      let code := if ok then 1 else if r.nak then 2 else 3
      let other := if ok then L.ln.mode else r.mode
      let L := L.updLn (fun s => { s with pend := s.queued.map (fun w => { w with present := s.present }), queued := none
                                          result := (r.num, r.mode, code), diverge := some (other, s.cyc + 1)
                                          switchTo := if ok then some r.mode else none })
      if ok then L else (L.raise F.LN_TEVENT_MODE_ABORT).bump F.LN_TCNT_MODE_FAIL

/-- More senders in the other mode of the change: back to Listen (R282). -/
def Lane.modeDiverge (L : Lane) : Lane :=
  match L.ln.diverge with
  | none => L
  | some (other, c) =>
    if c ≠ L.ln.cyc then L else
    let count (m : Nat) : Nat := (((L.ln.modes.filter (fun x => x.2 == m)).map (fun x => x.1)).eraseDups).length
    let L := L.updLn (fun s => { s with diverge := none })
    if count L.ln.mode < count other then (L.raise F.LN_TEVENT_MODE_REJOIN).toListen else L

/-- The network idle time begins. -/
def Lane.networkIdleStart (L : Lane) : Lane :=
  let L := L.txSettle
  if L.ln.state = .off ∨ L.ln.state = .listen ∨ L.ln.nit
      ∨ L.devTime < L.ln.cycStart + 1000 * L.slotStart L.ln.mode (min 64 (L.nslot L.ln.mode)) then L else
  let L := L.updLn (fun s => { s with nit := true, done := 0 })
  let L := (L.guardCompare 0).guardCompare 1
  if L.ln.state ≠ .sync then L else L.modeDiverge.modeDecide

/-! ### Start-up events (R268 to R271) -/

/-- The listen timer expires with a rank: ColdStart, cycle 0 of the node's own time. -/
def Lane.listenTimeout (L : Lane) : Lane :=
  if L.ln.state ≠ .listen ∨ L.rank = 0 ∨ L.now < L.ln.listenAt + us (2 * L.cycLen 0 + 250 * (L.rank - 1)) then L else
  let L := L.updLn (fun s => { s with p0 := L.reAge s.p0, p1 := L.reAge s.p1, cyc := 0, mode := 0, cycStart := L.devTime, acted := 0, attempt := 0, csSent := 0, joinWait := false })
  L.setNet .coldStart

/-- The fourth cold-start frame has left without a collision: Sync at the next cycle start as the reference. -/
def Lane.coldStartDone (L : Lane) : Lane :=
  let L := L.txSettle
  if L.ln.state ≠ .coldStart ∨ L.ln.csSent < 4 ∨ L.ln.p0.tx.isSome ∨ L.ln.p1.tx.isSome then L
  else L.updLn (fun s => { s with toSync := some (L.lnNode, 0, L.lnNode, L.rank) })

/-- A cold-start frame has collided while it was on the line: a new run whose frame starts 1,100 µs and 250 µs per rank above 1 after it
(R271). -/
def Lane.coldStartCollision (L : Lane) : Lane :=
  let L := L.txSettle
  if L.ln.state ≠ .coldStart ∨ L.ln.csSent = 0 ∨ L.ln.csStart + 100 * frameTime 16 L.lnCmac < L.devTime then L else
  (L.updLn (fun s => { s with
    cyc := 0, csSent := 0, acted := 0, toSync := none, p0 := { s.p0 with tx := none }, p1 := { s.p1 with tx := none }
    cycStart := s.csStart + 1000 * (1100 + 250 * (L.rank - 1)) - 2000 })).raise F.LN_TEVENT_CS_COLLIDE

/-- No confirming frame by the second expected occurrence: back to Listen. -/
def Lane.integrateTimeout (L : Lane) : Lane :=
  match L.ln.integ with
  | none => L
  | some x =>
    let n := if x.kind = 5 then 2 * L.coldK else 2
    if L.ln.state ≠ .integrate ∨ L.ln.toSync.isSome ∨ x.missed < n ∨ (x.missed = n ∧ L.devTime ≤ L.actionNs x.slot + 1000) then L
    else L.toListen

/-! ### Time sources (R279) -/

/-- SRC_TO whole cycles without a frame from the source: the best candidate, the reference, or holdover; in holdover a candidate still ends it.
(Log entry 140: DEDUCED) -/
def Lane.sourceLoss (L : Lane) : Lane :=
  if L.ln.state ≠ .sync ∨ L.ln.depth = 0 ∨ L.ln.srcSeen ≤ L.srcTo then L else
  let L := L.when (!L.ln.holdover) (·.bump F.LN_TCNT_SRC_LOSS)
  let r := L.rank
  let cs := L.candidates.filter (fun x => x.node != L.ln.source && (r == 0 || (x.refRank != 0 && decide (x.refRank < r))))
  match bestPeer cs with
  | some x => L.takeSource x
  | none =>
    if L.ln.holdover then L
    else if r = 0 then (L.updLn (fun s => { s with holdover := true, holdCyc := 0 })).raise F.LN_TEVENT_HOLDOVER
    else (L.updLn (fun s => { s with source := 0, depth := 0, ref := L.lnNode, refRank := r })).raise F.LN_TEVENT_REF_TAKEN

/-- Holdover beyond HOLD cycles: Listen. -/
def Lane.holdoverLimit (L : Lane) : Lane :=
  if L.ln.state = .sync ∧ L.ln.holdover ∧ L.fld1 F.LN_TCFG_HOLD < L.ln.holdCyc then L.toListen else L

/-! ### Modes, topology, time registers -/

/-- LN_MREQ with GO: sent in the next KIND 6 slot; ignored while a change is pending or outside Sync. -/
def Lane.lnMreqGo (v : Word) (L : Lane) : Lane :=
  if F.LN_MREQ_GO.get v = 0 ∨ L.ln.state ≠ .sync ∨ L.ln.pend.isSome then L
  else L.updLn (fun s => { s with goMode := some (F.LN_MREQ_MODE.get v) })

/-- The check of one port against the sealed table: closed after 2 failed checks, open again after 2 that match (R286). -/
def Lane.topoCheckPort (L : Lane) (p : Nat) : Lane :=
  if !(L.portOn p) then L else
  let hs := L.heardSet p
  let ok := hs != [] && hs.all (fun n => L.onSegment n p) && !(L.lnPort p).bad
  let L := L.updPort p (fun s => { s with bad := false, topoFail := if ok then 0 else s.topoFail + 1, topoOk := if ok then s.topoOk + 1 else 0 })
  if !(L.lnPort p).closed && decide (2 ≤ (L.lnPort p).topoFail) then
    ((L.updPort p (fun s => { s with closed := true })).raise F.LN_TEVENT_TOPO_ERR).fault 26 p
  else if (L.lnPort p).closed && decide (2 ≤ (L.lnPort p).topoOk) then
    (L.updPort p (fun s => { s with closed := false })).raise F.LN_TEVENT_TOPO_OK
  else L

/-- In Sync, every 8 cycles. -/
def Lane.topologyCheck (L : Lane) : Lane :=
  if L.ln.state ≠ .sync ∨ L.ln.cyc % 8 ≠ 0 ∨ L.ln.topoAt = some L.ln.cyc then L
  else ((L.topoCheckPort 0).topoCheckPort 1).updLn (fun s => { s with topoAt := some s.cyc })

/-- A read of LN_TIME_LO or LN_CYC_LO latches the high word. -/
def Lane.lnTimeRead (cyc : Bool) (L : Lane) : Lane :=
  if cyc then (L.updLn (fun s => { s with cycHi := BitVec.ofNat 32 (s.cyc / 2 ^ 32) })).leadRead (BitVec.ofNat 32 L.ln.cyc)
  else (L.updLn (fun s => { s with timeHi := BitVec.ofNat 32 (L.devTime / 2 ^ 32) })).leadRead (BitVec.ofNat 32 L.devTime)

end Sys2Proof.Machine
end

