-- ==== Sys2Proof/Machine/Views.lean ====
section
/-! DEFINITION. What a register read returns: the status registers of each block as views of its state (the RO fields of the block
chapters), trapdoor mode (R360), and the bus as R335, R336 and R442 have it. -/

namespace Sys2Proof.Machine

/-- Fields put together: each with its lowest bit and its value. -/
def pack (fs : List (Nat × Nat)) : Word := BitVec.ofNat 32 (fs.foldl (fun (n : Nat) c => n + c.2 * 2 ^ c.1) 0)

/-- A mask of sixteen bits. -/
def mask16 (f : Fin 16 → Bool) : Nat := (List.finRange 16).foldl (fun (n : Nat) i => if f i then n + 2 ^ i.val else n) 0

/-! ### Clocks, power, temperature, faults -/

def Lane.viewSY (L : Lane) (o : Nat) (w : Word) : Word :=
  if o = 0 then pack [(0, b2n L.sy.lock), (1, b2n L.sy.mainPll), (2, b2n L.sy.extRef), (3, b2n L.onCrystal)] else w

def Lane.viewPM (L : Lane) (o : Nat) (w : Word) : Word :=
  if o = 8 then w ||| pack [(0, L.pm.level.code), (4, L.pm.pads)] else if o = 0x18 then pack [(0, L.pm.pads)] else w

def Lane.viewTH (L : Lane) (o : Nat) (w : Word) : Word :=
  if o = 4 then w ||| pack [(0, b2n L.th.warn), (1, b2n L.th.throttle), (2, b2n L.th.shutdown), (4, b2n L.th.flashOk)] else w

def Lane.viewFC (L : Lane) (o : Nat) (w : Word) : Word :=
  if o = 0x24 then w ||| pack [(1, b2n L.errOut), (2, b2n L.fc.pulse.isSome), (3, b2n L.fc.forced)]
  else if o = 0x38 then w ||| pack [(0, L.fc.queue.length)] else w

def Lane.viewST (L : Lane) (o : Nat) (w : Word) : Word :=
  if o = 8 then pack [(0, L.st.prog.code), (9, b2n L.st.slice.isSome), (10, b2n L.st.holds), (24, L.st.unit)]
  else if o = 0x18 then pack [(12, L.st.holder), (16, L.st.num)] else w

/-- TL_PEEK_LO reads the live tally, TL_PEEK_HI the word latched with it; TL_SNAP two words per tally. -/
def Lane.viewTL (L : Lane) (o : Nat) (w : Word) : Word :=
  if o = 0x34 then BitVec.ofNat 32 (L.tallyWord (L.fld F.TL_PEEK_BLOCK) (L.fld F.TL_PEEK_INDEX))
  else if o = 0x38 then L.tl.peekHi
  else if 0x1000 ≤ o then
    let v := cellGet 0 L.tl.snap ((o - 0x1000) / 8)
    BitVec.ofNat 32 (if o % 8 = 0 then v else v / 2 ^ 32)
  else w

/-- The Service time that remains, in whole seconds begun; 0 outside Service (LC_SVC). (Log entry 101: DEDUCED) -/
def Lane.serviceLeft (L : Lane) : Nat :=
  match L.lc.overlay with
  | none => 0
  | some o => (o.began + o.duration - L.now + (sec 1 - 1)) / sec 1

/-- Log entry 137: DEDUCED. -/
def Lane.viewLC (L : Lane) (o : Nat) (w : Word) : Word :=
  if o = 0 then
    let ov : Nat × Nat := match L.lc.overlay with
      | some x => (x.lanes, b2n x.vendor)
      | none => (0, 0)
    pack [(0, L.lc.state.code), (4, b2n L.lc.sealed), (5, b2n L.lc.otp.integratorKey.isSome), (6, b2n L.lc.netKey.isSome), (7, ov.2), (8, ov.1),
      (16, L.lc.otp.step)]
  else if o = 4 then BitVec.ofNat 32 L.serviceLeft
  else if o = 0x14 then pack [(0, L.lc.strapRead), (8, L.lc.strapExpect), (16, b2n (L.lc.taken && L.lc.strapRead == L.lc.strapExpect))]
  else w

/-- The sequence in a configuration bank's header, as stored (R421). -/
def Lane.bankSeq (L : Lane) (b : Nat) : Word := L.memWord (0x09000000 + 0x80000 * b + 0x7F000)

def Lane.viewCF (L : Lane) (o : Nat) (w : Word) : Word :=
  if o = 0 then pack [(0, L.lc.result), (8, L.lc.bank), (16, L.lc.slot), (17, b2n L.lc.trial), (24, b2n L.flashBusy), (28, L.lc.install)]
  else if o = 0x10 then L.bankSeq 0
  else if o = 0x14 then L.bankSeq 1
  else if o = 0x18 then BitVec.ofNat 32 L.lc.instNext
  else w

/-! ### Authority -/

/-- The lease that remains in µs of guardian time; 0 when not holding. (Log entry 51: DESIGN CHOICE) -/
def Lane.leaseLeft (L : Lane) : Nat :=
  match L.ky.lease with
  | some d => if L.ky.holder = some L.id then (d - L.now) / us 1 else 0
  | none => 0

/-- The silence timer in µs; it stops at 420. -/
def Lane.silenceUs (L : Lane) : Nat :=
  match L.ky.silence with
  | some s => min 420 ((L.now - s) / us 1)
  | none => 0

def Lane.viewKY (L : Lane) (o : Nat) (w : Word) : Word :=
  if o = 4 then
    let h : Nat := match L.ky.holder with
      | some x => x.index
      | none => 3
    let rank := if L.ky.state = .service then L.rankOf L.id else 3
    pack [(0, L.ky.level), (3, L.ky.state.code), (6, b2n L.ky.vtNext), (7, b2n L.ky.vtPrev), (8, h),
      (10, b2n (L.ky.lease.isSome && L.ky.holder == some L.id)), (11, b2n (h == 3)), (12, rank), (16, L.ky.epoch)]
  else if o = 8 then pack [(0, L.leaseLeft), (16, L.silenceUs)]
  else w

def Lane.viewCX (L : Lane) (o : Nat) (w : Word) : Word :=
  if o = 0 then pack [(0, b2n (L.link .N).up), (1, b2n (L.link .P).up), (2, b2n (L.link .N).remote), (3, b2n (L.link .P).remote)] else w

/-! ### Drive section -/

def Lane.viewTQ (L : Lane) (g : Fin 16) (o : Nat) (w : Word) : Word :=
  if o = 4 then
    let s := (L.grp g).tq
    let m : Nat := match s.mode with
      | .tracking => 0
      | .carrier => 1
      | .table => 2
    pack [(0, m), (2, wrap 2 s.cT), (4, b2n (s.cPsi == 1)), (5, s.sector), (9, s.vector), (12, s.paIndex), (17, b2n (s.mode == .tracking)),
      (18, b2n s.isolated), (19, b2n s.ilim), (20, s.effShare), (30, b2n (L.tqParam g))]
  else w

def Source.code : Source → Nat
  | .none => 0
  | .injection => 1
  | .observer => 2
  | .encoder => 3
  | .consensus => 4

def Lane.viewAN (L : Lane) (g : Fin 16) (o : Nat) (w : Word) : Word :=
  let s := (L.grp g).an
  if o = 4 then
    pack [(0, s.source.code), (6, b2n s.high), (7, b2n s.valid), (8, b2n s.polOk), (9, b2n s.starting),
      (10, b2n (s.source == .consensus)), (11, b2n s.disagree), (12, b2n s.alignOk), (16, s.angle)]
  else if o = 0x14 then pack [(0, s.confInj), (8, s.confObs), (16, s.confEnc), (24, s.selConf)]
  else w

/-- The commands at the pads of a group: bit 2k high, bit 2k + 1 low of leg k. -/
def Lane.padLegs (L : Lane) (g : Fin 16) : Nat :=
  (List.finRange 4).foldl (fun (n : Nat) k => match L.legPads g k with
    | .stage h l => n + b2n h * 2 ^ (2 * k.val) + b2n l * 2 ^ (2 * k.val + 1)
    | _ => n) 0

def Lane.viewLG (L : Lane) (g : Fin 16) (o : Nat) (w : Word) : Word :=
  let s := (L.grp g).lg
  let c := (L.grp g).ch
  if o = 4 then
    let f := (List.finRange 3).foldl (fun (n : Nat) k => n + b2n (L.leg g ⟨k.val, by omega⟩).fault * 2 ^ k.val) 0
    let q := (List.finRange 4).foldl (fun (n : Nat) k => n + b2n (L.leg g k).silent * 2 ^ k.val) 0
    pack [(5, b2n s.gen), (6, b2n L.sy.permit), (7, b2n (s.qcap && decide (s.period < 12500))), (8, b2n s.commit), (9, L.outState g),
      (12, s.phase), (16, q), (20, f), (24, L.padLegs g)]
  else if 0xA0 ≤ o ∧ o < 0xAC then
    let k : Fin 4 := ⟨(o - 0xA0) / 4 % 4, Nat.mod_lt _ (by decide)⟩
    pack [(0, clampN (L.dtMin g) (L.dtZc g) (L.leg g k).dtR), (16, clampN (L.dtMin g) (L.dtZc g) (L.leg g k).dtF)]
  else if o = 0xAC then pack [(0, L.dtK g), (16, L.dtK g)]
  else if 0x70 ≤ o ∧ o < 0x7C then BitVec.ofInt 32 (L.leg g ⟨(o - 0x70) / 4 % 4, Nat.mod_lt _ (by decide)⟩).acc
  else if o = 0x304 then
    pack [(0, b2n (L.chAuto g)), (2, b2n ((L.legSettle g 3).chopOn g)), (3, b2n c.fault), (4, c.cause), (6, b2n c.hot), (7, max c.step (b2n c.clamp)), (9, b2n (s.iso == .short)),
      (10, b2n c.uv), (11, b2n (L.chParam g))]
  else w

def Lane.viewSD (L : Lane) (g : Fin 16) (o : Nat) (w : Word) : Word :=
  let s := (L.grp g).sd
  if o = 4 then pack [(0, s.oc), (4, b2n s.settling), (5, b2n (L.sdParam g)), (8, s.chfault), (16, L.mfEff g)] else w

def SpdState.code : SpdState → Nat
  | .standstill => 0
  | .one => 1
  | .run => 2

def Lane.viewFB (L : Lane) (g : Fin 16) (o : Nat) (w : Word) : Word :=
  let s := (L.grp g).fb
  if o = 4 then
    pack [(1, b2n s.valid), (2, b2n s.refOk), (3, b2n s.fault), (4, b2n (L.ssiParam g)), (5, b2n (L.ptOn g)), (9, b2n s.dirNeg), (10, s.spd.code),
      (16, s.line), (24, if L.fbMode g = fbHall then s.hall else 7)]
  else if o = 0xF04 then w ||| pack [(16, b2n L.sf.excOk), (17, b2n L.sf.excFault)]
  else w

def Lane.viewSF (L : Lane) (o : Nat) (w : Word) : Word :=
  if o = 4 then pack [(0, mask16 (fun i => (L.input i).raw)), (16, mask16 (fun i => L.inLevel i))]
  else if o = 8 then
    let m (f : SupplyS → Bool) (b : Nat) : Nat := (List.finRange 4).foldl (fun (n : Nat) j =>
      n + b2n (f (L.supply ⟨(b + j.val) % 8, Nat.mod_lt _ (by decide)⟩)) * 2 ^ j.val) 0
    w ||| pack [(0, m (·.lim) 0), (4, m (·.lim) 4), (8, m (·.off) 0), (12, m (·.off) 4)]
  else if o = 0xC then pack [(0, mask16 (fun i => (L.input i).stuck || L.badStop i)), (16, mask16 (fun i => (L.input i).cross))]
  else w

/-- EG_VOTE_N and EG_VOTE_P: the last accepted vote frame of a port. -/
def Lane.viewVote (L : Lane) (v : Option VoteRx) : Word :=
  match v with
  | none => 0
  | some v => pack [(0, v.frame.release % 65536), (16, v.frame.seq % 4096), (30, b2n v.frame.stop), (31, b2n (v.fresh L.now))]

def Lane.viewEG (L : Lane) (g : Fin 16) (o : Nat) (w : Word) : Word :=
  let s := (L.grp g).eg
  if o = 4 then
    pack [(4, b2n (L.egParam g)), (5, b2n s.rateClamp), (6, b2n L.roadSet), (7, b2n (L.ceilingOn g)), (8, s.voters)]
  else if o = 0xF04 then L.viewVote L.ky.voteN
  else if o = 0xF08 then L.viewVote L.ky.voteP
  else w

/-! ### Communication -/

/-- The current slot of the cycle. -/
def Lane.curSlot (L : Lane) : Nat := (L.slotAt L.devTime).getD 0

def Lane.viewLN (L : Lane) (o : Nat) (w : Word) : Word :=
  let s := L.ln
  if o = 4 then
    pack [(0, b2n s.p0.lost), (1, b2n s.p1.lost), (2, b2n (decide (s.p0.learned < 8))), (3, b2n (decide (s.p1.learned < 8))),
      (4, b2n s.p0.latched), (5, b2n s.p1.latched), (6, s.mode), (8, L.curSlot), (14, b2n L.lnParam), (15, b2n s.nit), (16, s.cyc % 65536)]
  else if o = 0x48 then BitVec.ofNat 32 s.commit
  else if o = 0x4C then BitVec.ofNat 32 (s.commit / 2 ^ 32)
  else if o = 0x1404 then
    pack [(0, s.state.code), (8, s.depth), (10, b2n s.holdover), (11, b2n s.pend.isSome), (12, b2n s.joinWait), (13, s.refRank), (16, s.ref),
      (24, s.source)]
  else if o = 0x1410 then BitVec.ofNat 32 L.devTime
  else if o = 0x1414 then s.timeHi
  else if o = 0x1418 then BitVec.ofNat 32 s.cyc
  else if o = 0x141C then s.cycHi
  else if o = 0x1420 then BitVec.ofInt 32 s.ofs
  else if o = 0x1424 then BitVec.ofInt 32 s.rate
  else if o = 0x1434 then pack [(0, s.result.2.2), (4, s.result.2.1), (8, s.result.1)]
  else if 0x1480 ≤ o ∧ o < 0x1490 then
    let m := heardMask (L.heardSet ((o - 0x1480) / 8))
    BitVec.ofNat 32 (if o % 8 = 0 then m else m / 2 ^ 32)
  else if (0x1504 ≤ o ∧ o < 0x15C4) ∨ (0x1604 ≤ o ∧ o < 0x16C4) then
    let d := L.delay ((o - 0x1500) / 4 % 64) ((o - 0x1500) / 0x100)
    pack [(0, d.1), (31, b2n d.2)]
  else w

/-- OC_STATUS.PARAM: the node address or a bit timing lies outside the limits of R296 and R297. One bit has (NTSEG1 + NTSEG2 + 3) quanta of
(NBRP + 1) × 25 ns. (Log entry 78: DESIGN CHOICE) -/
def Lane.ocParam (L : Lane) : Bool :=
  let node := L.fld F.OC_CFG_NODE
  let n := (L.fld F.OC_NBT_NTSEG1 + L.fld F.OC_NBT_NTSEG2 + 3) * (L.fld F.OC_NBT_NBRP + 1)
  let d := (L.fld F.OC_DBT_DTSEG1 + L.fld F.OC_DBT_DTSEG2 + 3) * (L.fld F.OC_DBT_DBRP + 1)
  node == 0 || decide (48 < node)
    || decide (n < 40) || decide (320 < n) || decide (d < 5) || decide (n < d)

/-- OC_STATUS. The error counters of ISO 11898-1 are told by no command: while the lane is on the bus they are open values, and with them
whether it is error passive. (Log entries 16: DESIGN CHOICE, 77: DESIGN CHOICE) -/
def Lane.viewOC (L : Lane) (o : Nat) (w : Word) : Word :=
  if o = 4 then
    let e := if L.oc.on then (Config.freeWord L.fresh).toNat else 0
    let passive := bit e 7 || bit e 15
    pack [(0, b2n L.oc.on), (2, if L.oc.busOff then 2 else if passive then 1 else 0), (4, b2n L.ocParam), (8, L.oc.inprog.length),
      (12, L.oc.xfers.length), (16, e % 256), (24, e / 256 % 256)]
  else w

/-- An install is open (R303, EN_STATUS.INSTALL): it takes image blocks, or has taken them all and is not yet verified, nor has failed there
(R427). -/
def Lane.installOpenNow (L : Lane) : Bool := L.lc.install == 1 || L.lc.install == 2 || L.lc.install == 3

def Lane.viewEN (L : Lane) (o : Nat) (w : Word) : Word :=
  if o = 4 then pack [(0, b2n L.en.link), (1, b2n L.en.master), (3, b2n L.installOpenNow), (8, L.en.sqi)] else w

def Lane.viewSB (L : Lane) (o : Nat) (w : Word) : Word :=
  if o = 4 then pack [(0, L.sbByte0), (8, L.sbByte1), (16, b2n L.sbParam)] else w

/-- IC_PEND and the state bits of IC_SRC; LEVEL reads 0 at the sources that do not exist; IC_BUDGET counts 200 MHz cycles down. -/
def Lane.viewIC (L : Lane) (o : Nat) (w : Word) : Word :=
  if 0x40 ≤ o ∧ o < 0x60 then
    let b := 32 * ((o - 0x40) / 4)
    BitVec.ofNat 32 ((List.range 32).foldl (fun (n : Nat) i => if L.srcPend (b + i) then n + 2 ^ i else n) 0)
  else if 0x400 ≤ o ∧ o < 0x800 then
    let s := (o - 0x400) / 4
    if s = 0 ∨ 119 ≤ s then w &&& 0x00000100#32
    else w &&& 0x00000107#32 ||| pack [(16, b2n (L.srcPend s)), (17, b2n (L.ic.active.contains s)),
      (24, b2n (s == 116 && bit L.ic.latched 116))]
  else if o = 0x14 then
    match L.ic.budgetEnd with
    | none => 0
    | some t => pack [(0, (t - L.now) / 8), (31, 1)]
  else w

/-! ### A register as it reads -/

/-- The register at an address as it stands, `g` its group window. (Log entry 124: DESIGN CHOICE) -/
def Lane.viewAt (L : Lane) (b : Nat) (g : Fin 16) (o : Nat) (w : Word) : Word :=
  match b with
  | 0 => L.viewSY o w
  | 1 => L.viewPM o w
  | 2 => L.viewTH o w
  | 3 => L.viewFC o w
  | 4 => L.viewST o w
  | 5 => L.viewTL o w
  | 6 => L.viewLC o w
  | 7 => L.viewCF o w
  | 8 => L.viewKY o w
  | 9 => L.viewCX o w
  | 10 => L.viewLG g o w
  | 11 => L.viewTQ g o w
  | 12 => L.viewAN g o w
  | 13 => L.viewSD g o w
  | 14 => L.viewFB g o w
  | 16 => L.viewSF o w
  | 17 => L.viewEG g o w
  | 18 => L.viewLN o w
  | 19 => L.viewOC o w
  | 20 => L.viewEN o w
  | 21 => L.viewSB o w
  | 22 => L.viewIC o w
  | _ => w

/-- The fields with reserved encodings: the field, its first reserved encoding, the number of its registers (R12); the ranges of the sixteen
interfaces in AD_GAIN and the entry codes of the housekeeping lists stand at the end (R194). -/
def reservedCodes : List (Fld × Nat × Nat) := [
  (F.FC_INJ_CHECKER, 18, 1), (F.FC_INJ_MODE, 3, 1), (F.FC_XINJ_CLASS, 5, 1), (F.FC_TRAP_BLOCK, 23, 8), (F.LG_CTRL_POLICY, 3, 1),
  (F.LG_CTRL_SRC, 2, 1), (F.LG_CH_CTRL_CH_MODE, 2, 1), (F.TQ_CTRL_MODE_SEL, 3, 1), (F.FB_CTRL_PT_MODE, 3, 1), (F.FB_CTRL_MODE, 6, 1),
  (F.FB_SSI_PARITY, 3, 1), (F.AD_DAC_ROUTE, 3, 1), (F.SF_IN_SOURCE, 5, 16), (F.SF_IN_FUNC, 3, 16), (F.EG_CTRL_KIND, 3, 1),
  (F.LN_SLOT0_ACTION, 4, 64), (F.LN_SLOT1_ACTION, 4, 64), (F.LN_SLOT2_ACTION, 4, 64), (F.LN_SLOT3_ACTION, 4, 64), (F.LN_TCFG_RANK, 5, 1)]
  ++ (List.range 16).map (fun f => (⟨15, 0x004, 0, 2 * f, 2⟩, 3, 1))
  ++ (List.range 4).map (fun e => (⟨15, 0x040, 4, 8 * e, 7⟩, 8, 16))

/-- The field lies in the register at offset `o` of block `b`. -/
def Fld.liesAt (f : Fld) (n b o : Nat) : Bool :=
  f.blk == b && decide (f.off ≤ o) && (if n = 1 then o == f.off else decide ((o - f.off) % f.stride = 0 ∧ (o - f.off) / f.stride < n))

/-- A register word with every reserved encoding read as 0 (R12). (Log entry 144: DEDUCED) -/
def plainCodes (b o : Nat) (w : Word) : Word :=
  reservedCodes.foldl (fun (w : Word) c => if c.1.liesAt c.2.2 b o && decide (c.2.1 ≤ c.1.get w) then c.1.put w 0 else w) w

/-- The value of the register at an address, before trapdoor mode; 0 where no register lies, and where an encoding is reserved (R12, R442). -/
def Lane.regValue (L : Lane) (a : Nat) : Word :=
  match regAt a with
  | none => 0
  | some _ => plainCodes (blockOf a) (offsetOf a) (L.viewAt (blockOf a) (groupOf a) (offsetOf a) (L.reg a))

/-- One FC_TRAP entry forces a bit that firmware reads, in Blank alone (R360). -/
def Lane.trap1 (L : Lane) (a : Nat) (w : Word) (e : Nat) : Word :=
  let b := L.fld F.FC_TRAP_BLOCK 0 e
  let g := if grouped b then L.fld F.FC_TRAP_GROUP 0 e else 0
  if L.flag F.FC_TRAP_EN 0 e && decide (b ≤ 22) && a == blockBase b + 0x1000 * g + L.fld F.FC_TRAP_OFFSET 0 e
  then BitVec.ofNat 32 (putBit w.toNat (L.fld F.FC_TRAP_BIT 0 e) (L.flag F.FC_TRAP_VALUE 0 e)) else w

/-- A register as firmware reads it; an offset without a register reads 0 (R442). (Log entry 124: DESIGN CHOICE) -/
def Lane.readReg (L : Lane) (a : Nat) : Word :=
  if L.lc.state = .blank ∧ (regAt a).isSome = true then (List.range 8).foldl (fun (w : Word) e => L.trap1 a w e) (L.regValue a) else L.regValue a

/-- An access in the peripheral range that completes with a bus error: beyond a block's window, or past the last slot (R442). -/
def busHole (a : Nat) : Bool :=
  decide (0x40170000 ≤ a) || decide (windowSize (blockOf a) ≤ a % 0x10000)

/-- An access of `n` bytes to a peripheral window completes with a bus error: not an aligned word (R10), no window there (R442), or a
reset of the lane in the cycle of the access (R446). -/
def Lane.busRefuses (L : Lane) (a n : Nat) : Bool :=
  n != 4 || a % 4 != 0 || busHole a || decide (L.sy.releasedAt / 8 = L.now / 8)

/-- What a read of a register finds done: what the network's transmitter and a group's legs have come to by now. -/
def Lane.beforeRead (L : Lane) (a : Nat) : Lane := (L.when (blockOf a == 18) Lane.txSettle).when (blockOf a == 10) (·.legsSettle (groupOf a))

/-- A read of `n` bytes by the helm pair: of memory (R335, R336), where a misaligned one raises its exception (R327), or from a peripheral window
(R10, R442); what the network's transmitter and a group's legs have done by now is done first. (Log entry 150: DEDUCED) -/
def Lane.readBus (a n : Nat) (L : Lane) : Lane :=
  if L.ic.halted then L else
  if a < 0x40000000 then
    if n = 0 ∨ a % n ≠ 0 then L.trapped false 4 a
    else if memMapped a then L.leadRead (BitVec.ofNat 32 (leNat ((List.range n).map (fun i => L.busByte (a + i))))) else { L with rdata := 0, busErr := true }
  else if L.busRefuses a n then { L with rdata := 0, busErr := true } else
  let L := L.beforeRead a
  L.leadRead (L.readReg a)

end Sys2Proof.Machine
end

