-- ==== Sys2Proof/Machine/Flash.lean ====
section
/-! DEFINITION. The flash of a lane (R335) and the operations of CF_OP (R431): where slots, banks, the calibration set, the store area and
the application region lie, erasing and programming, the rollback of images in slots. -/

namespace Sys2Proof.Machine

/-! ### Where things lie (R335, R414, R421, R426) -/

def slotAddr (s : Nat) : Nat := 0x08000000 + 0x800000 * s
/-- The header of a slot, in its last sector. -/
def slotHead (s : Nat) : Nat := slotAddr s + 0x7F0000
def bankAddr (b : Nat) : Nat := 0x09000000 + 0x80000 * b
def bankHead (b : Nat) : Nat := bankAddr b + 0x7F000
def calAddr : Nat := 0x09300000
def storeAddr : Nat := 0x09340000
def appAddr : Nat := 0x09400000
def appHead : Nat := appAddr + 0xF0000

/-- A range touches one that commits, installs or WRITE_END of 0x7300 alone write. -/
def flashOwned (a n : Nat) : Bool :=
  let hit (lo hi : Nat) : Bool := decide (a < hi) && decide (lo < a + n)
  hit 0x08000000 0x09100000 || hit calAddr storeAddr || hit appAddr 0x09500000

/-! ### Erase and program -/

/-- A 64 KB sector erased. -/
def Lane.eraseSector (L : Lane) (a : Nat) : Lane := (L.eraseRange (a / 65536 * 65536) 65536).tally 7 0

/-- Sectors erased from an address, as many as `n` bytes take. -/
def Lane.eraseSpan (L : Lane) (a n : Nat) : Lane :=
  (List.range ((n + 65535) / 65536)).foldl (fun (L : Lane) i => L.eraseSector (a + 65536 * i)) L

/-- Bytes programmed: an erased byte takes the value; what programming over a byte that holds another value leaves is open, and so is the
number of pages it takes. (Log entry 93: DESIGN CHOICE) -/
def Lane.program (L : Lane) (a : Nat) (bs : List Byte) : Lane :=
  let r := L.drawBytes
  let new := (List.range bs.length).map (fun i =>
    let b := bs.getD i 0
    let old := L.byte (a + i)
    if old = 0xFF ∨ old = b then b else r.1.getD i 0)
  let p := r.2.drawNat
  (p.2.setBytes a new).tally 7 1 p.1

/-! ### CF_OP (R431) -/

/-- A CF_OP is refused: reported and counted. -/
def Lane.cfRefuse (L : Lane) : Lane := (L.raise F.CF_EVENT_REFUSED).bump F.CF_CNT_REFUSED

/-- CF_OP erase of the sector at CF_ADDR. -/
def Lane.cfErase (L : Lane) : Lane :=
  let a := (L.word F.CF_ADDR).toNat
  if L.flashBusy || !L.th.flashOk || a % 65536 != 0 || flashOwned a 65536 then L.cfRefuse
  else { L with lc := { L.lc with op := some (1, a, []) } }

/-- CF_OP program of CF_LEN bytes from CF_SRC; how many bytes a length outside 16 to 4,096 in steps of 16 moves is open.
(Log entry 93: DESIGN CHOICE) -/
def Lane.cfProgram (L : Lane) : Lane :=
  let a := (L.word F.CF_ADDR).toNat
  let n := (L.word F.CF_LEN).toNat
  let ok := decide (16 ≤ n) && decide (n ≤ 4096) && n % 16 == 0
  let r := if ok then (n, L) else (L.drawNat.1 % 4097, L.drawNat.2)
  let M := r.2
  if L.flashBusy || !L.th.flashOk || a % 16 != 0 || flashOwned a r.1 then L.cfRefuse
  else { M with lc := { M.lc with op := some (2, a, M.bytes (M.word F.CF_SRC).toNat r.1) } }

/-- The operation ends and BUSY clears. Outside the flash there is nothing to erase or program. (Log entry 94: DEDUCED) -/
def Lane.cfOpDone (L : Lane) : Lane :=
  match L.lc.op with
  | none => L
  | some (k, a, bs) =>
    let L := { L with lc := { L.lc with op := none } }
    if a < 0x08000000 ∨ 0x09800000 ≤ a then L
    else if k = 1 then L.eraseSector a else L.program a bs

end Sys2Proof.Machine
end

