-- ==== Sys2Proof/Machine/RegWrite.lean ====
section
/-! DEFINITION. A write on the bus: every register by its access codes and the rules of its block (R11 to R16, R186, R198, R237, R374),
the command registers by the commands they start, and the memories of R335 and R336. -/

namespace Sys2Proof.Machine

/-! ### Access codes -/

/-- Whether a field stands whole in a mask of bits. -/
def CntRow.mask (c : CntRow) : Nat := (2 ^ c.wid - 1) * 2 ^ c.lo

/-- A register word after a write by its access codes: RW and, until the seal, RWL bits take the value, W1C bits clear, W1S bits set. -/
def codeWrite (r : RegRow) (free : Bool) (w v : Word) : Word :=
  let rw := BitVec.ofNat 32 (r.rw ||| (if free then r.rwl else 0))
  let c := BitVec.ofNat 32 r.w1c
  let s := BitVec.ofNat 32 r.w1s
  (((w &&& ~~~rw) ||| (v &&& rw)) &&& ~~~(v &&& c)) ||| (v &&& s)

/-- A counter in a written word: a field of 0 clears it with its stuck flag, any other value is ignored; an increment of the same cycle is
counted into the cleared counter (R16). -/
def Lane.cntWrite (L : Lane) (a base : Nat) (v : Word) (c : CntRow) : Lane :=
  if v.toNat / 2 ^ c.lo % 2 ^ c.wid ≠ 0 then L else
  let one := BitVec.ofNat 32 (if L.setNow a &&& c.mask = 0 then 0 else 2 ^ c.lo)
  let L := L.setReg a (L.reg a &&& ~~~(BitVec.ofNat 32 c.mask) ||| one)
  let s := base + c.stuckOff
  L.setReg s (BitVec.ofNat 32 (putBit (L.reg s).toNat c.stuckBit false))

/-- The bits of a written register that the present state keeps as they are: fields that a running channel, interface or carrier
protects (R149, R186, R198), an ENABLE that the gate enable holds, shelf words of the runtime (KY_SHELF_OUT). -/
def Lane.heldBits (L : Lane) (b : Nat) (g : Fin 16) (o : Nat) (v : Word) : Nat :=
  if b = 13 ∧ o = 0 then
    (if L.flag F.SD_CTRL_ENABLE g then 0xFFFFFF7F else 0)
      + (if (L.grp g).lg.gen && F.SD_CTRL_ENABLE.get v == 0 then 0x80 else 0)
  else if b = 14 ∧ o = 0 then
    (if L.flag F.FB_CTRL_ENABLE g then 0xFFFFFFFE else 0)
      + (if (L.grp g).lg.gen && F.FB_CTRL_ENABLE.get v == 0 then 1 else 0)
  else if b = 14 ∧ L.flag F.FB_CTRL_ENABLE g ∧ o < 0xF00 then
    (match regAt (blockBase 14 + 0x1000 * g.val + o) with
      | some (r, _) => r.rwl
      | none => 0)
  else if b = 10 ∧ (o = 0x80 ∨ o = 0x84) ∧ L.flag F.LG_CTRL_RUN g then 2 ^ 32 - 1
  else if b = 8 ∧ 0x800 + 4 * 0xB8 ≤ o ∧ o ≤ 0x800 + 4 * 0xBF then 2 ^ 32 - 1
  else if b = 4 ∧ o = 0 ∧ !L.directAllowed then 2 ^ F.ST_CTRL_DIRECT.lo
  else if b = 4 ∧ (o = 0x28 ∨ o = 0x2C) ∧ !L.directAllowed then 2 ^ 32 - 1
  else if b = 22 ∧ (o = 0x400 ∨ (0x400 + 4 * 119 ≤ o ∧ o < 0x800)) then 7
  else 0

/-- The word stored for a register by its access codes, with the bits the state holds unchanged; a W1C bit that an event sets in the same
cycle ends set, and a bit set through W1S is noted for the events of the cycle (R13). -/
def Lane.storeReg (L : Lane) (a : Nat) (v : Word) (r : RegRow) : Lane :=
  let w := L.reg a
  let h := BitVec.ofNat 32 (L.heldBits (blockOf a) (groupOf a) (offsetOf a) v)
  let n := codeWrite r (!L.lc.sealed) w (v &&& ~~~(BitVec.ofNat 32 (L.setNow a &&& r.w1c)))
  let L := (L.setReg a ((n &&& ~~~h) ||| (w &&& h))).note a (v.toNat &&& r.w1s)
  r.cnts.foldl (fun (L : Lane) c => L.cntWrite a (a - offsetOf a) v c) L

/-! ### What a stored value sets going -/

/-- Ports of the lane network follow LN_CFG.ENABLE: a rise at once, a fall at the next cycle start, or at once where no cycles run. -/
def Lane.lnEnables (L : Lane) : Lane :=
  let L := [(0 : Fin 2), 1].foldl (fun (L : Lane) (p : Fin 2) => if bit (L.fld F.LN_CFG_ENABLE) p then L.portEnable p else L) L
  if L.ln.state = .off ∨ L.ln.state = .listen then
    let L := L.updLn (fun s => { s with on := s.on &&& L.fld F.LN_CFG_ENABLE })
    if L.ln.on = 0 ∧ L.ln.state = .listen then L.netOff else L
  else L

/-- The object channel joins or leaves the bus (OC_CFG.ENABLE, ignored while PARAM is 1). -/
def Lane.ocJoin (L : Lane) : Lane :=
  let on := L.flag F.OC_CFG_ENABLE && !L.ocParam
  if on = L.oc.on then L
  else if on then { L with oc := { L.oc with on := true, part := none } }
  else { L with oc := { L.oc with on := false, busOff := false, part := none, canTx := [] } }

/-- EN_CFG.ENABLE at 0 stops the PHY: a link that was up is lost. -/
def Lane.enStop (L : Lane) : Lane :=
  if L.en.link && !(L.flag F.EN_CFG_ENABLE) then
    ({ L with en := { L.en with link := false, sqi := 0 } }).raise F.EN_EVENT_LINK_DOWN
  else L

/-- A changed TARGET of a source that is pending or active waits (R338). -/
def Lane.retarget (L : Lane) (s : Nat) (old : Nat) : Lane :=
  if L.fld F.IC_SRC_TARGET 0 s = old ∨ L.ic.oldTarget.any (fun c => c.1 == s) ∨ !(L.srcPend s || L.ic.active.contains s) then L
  else { L with ic := { L.ic with oldTarget := (s, old) :: L.ic.oldTarget } }

/-- Supplies whose enable bit was cleared switch off (R222). -/
def Lane.suppliesFollow (L : Lane) (was : Nat) : Lane :=
  (List.finRange 8).foldl (fun (L : Lane) (s : Fin 8) => if bit was s && !(L.supplyEn s) then L.supplyEnableClear s else L) L

/-- The enable bits of the eight supplies. -/
def Lane.supplyBits (L : Lane) : Nat := (List.finRange 8).foldl (fun (n : Nat) s => if L.supplyEn s then n + 2 ^ s.val else n) 0

/-- What follows a write of a group's register: the gate enable follows its request, a channel or interface starts at a rise of its
ENABLE, a duty-register request is told in Field (R237), a carrier that
stops stands at zero (R143), legs that row 1 of R164 holds low are so at once, and leg K follows its mode (R171). -/
def Lane.groupFollow (L : Lane) (b : Nat) (g : Fin 16) (o : Nat) (v : Word) (sdWas fbWas : Bool) : Lane :=
  let L := L.when (b == 13 && !sdWas && L.flag F.SD_CTRL_ENABLE g) (·.sdStart g)
  let L := L.when (b == 14 && !fbWas && L.flag F.FB_CTRL_ENABLE g) (·.fbStart g)
  let L := L.when (b == 10 && o == 0 && F.LG_CTRL_GEN_REQ.get v == 1 && L.srcDuty g && L.lc.state == .field)
    (·.raise F.EG_EVENT_DUTY_BLOCK g)
  let L := L.when (b == 10 && o == 0) (fun L =>
    (L.when (!(L.flag F.LG_CTRL_RUN g)) (·.updLg g (fun s => { s with running := false, phase := 0 }))).restLegs g)
  (L.when (b == 10) (·.chopFollow g)).genUpdate g

/-- What follows a stored write. -/
def Lane.follow (L : Lane) (old : Lane) (a : Nat) (v : Word) : Lane :=
  let b := blockOf a
  let g := groupOf a
  let o := offsetOf a
  if grouped b then L.groupFollow b g o v (old.flag F.SD_CTRL_ENABLE g) (old.flag F.FB_CTRL_ENABLE g)
  else if b = 4 then
    L.when (!old.directAllowed && (o == 0x28 || o == 0x2C || (o == 0 && (F.ST_CTRL_DIRECT.get v == 1 || old.flag F.ST_CTRL_DIRECT)))) (·.raise F.ST_EVENT_DENIED)
  else if b = 16 ∧ o = 0 then L.suppliesFollow old.supplyBits
  else if b = 18 then L.lnEnables
  else if b = 19 then L.ocJoin
  else if b = 20 then L.enStop
  else if b = 22 ∧ 0x400 ≤ o then L.retarget ((o - 0x400) / 4) (old.fld F.IC_SRC_TARGET 0 ((o - 0x400) / 4))
  else L

/-! ### Command registers: writes that start a command of their own -/

/-- PM_CMD; a LEVEL that no lane state allows is denied (R388). (Log entry 204: DEDUCED) -/
def Lane.pmCmd (L : Lane) (v : Word) : Lane :=
  if F.PM_CMD_SLEEP.get v = 0 then L
  else if F.PM_CMD_LEVEL.get v = 2 then L.sleepHold
  else if F.PM_CMD_LEVEL.get v = 3 then L.sleepCellar
  else if L.pm.level = .awake ∨ L.pm.level = .doze then L.raise F.PM_EVENT_DENIED else L

/-- KY_CMD. -/
def Lane.kyCmd (L : Lane) (v : Word) : Lane :=
  ((L.when (F.KY_CMD_RELEASE.get v == 1) Lane.releaseCmd).when (F.KY_CMD_READMIT.get v == 1) Lane.readmitCmd).when
    (F.KY_CMD_BENCH.get v == 1) Lane.benchCmd

/-- ST_CMD. -/
def Lane.stCmd (L : Lane) (v : Word) : Lane :=
  ((L.when (F.ST_CMD_DEEP.get v == 1) Lane.deep).when (F.ST_CMD_ABORT.get v == 1) Lane.stAbort).when (F.ST_CMD_STEP.get v == 1) Lane.step1

/-- LG_CMD. -/
def Lane.lgCmd (L : Lane) (g : Fin 16) (v : Word) : Lane :=
  (L.when (F.LG_CMD_COMMIT.get v == 1) (·.lgCommit g)).when (F.LG_CMD_TRIP_CLR.get v == 1) (·.tripClr g)

/-- IC_YARD: YRUN, the doorbell, the reset, the firewall's flag and counter. -/
def Lane.icYard (L : Lane) (a : Nat) (v : Word) : Lane :=
  let L := match regAt a with
    | some (r, _) => L.storeReg a v r
    | none => L
  let L := L.when (F.IC_YARD_DOORBELL_Y.get v == 1) Lane.doorbellY
  L.when (F.IC_YARD_YRESET.get v == 1) Lane.yReset

/-- CF_OP: 01 erases, 10 programs. -/
def Lane.cfOp (L : Lane) (v : Word) : Lane :=
  if F.CF_OP_OP.get v = 1 then L.cfErase else if F.CF_OP_OP.get v = 2 then L.cfProgram else L

/-- A register whose write is a command of its own; none for every other register. -/
def Lane.cmdWrite (L : Lane) (a : Nat) (v : Word) : Option Lane :=
  let o := offsetOf a
  let g := groupOf a
  match blockOf a with
  | 0 => if o = 0x0C then some (L.lreset v) else none
  | 1 => if o = 4 then some (L.pmCmd v) else if o = 0x18 then some (L.pmPadrel v) else none
  | 2 => if o = 4 then some (if F.TH_STATUS_SHUT_FLAG.get v = 1 then L.shutFlagClear else L) else none
  | 3 => if o = 0x24 then some (L.fcErroutWrite v) else if o = 0x30 then some (L.fcInjArm v) else if o = 0x34 then some (L.fcXinjArm v)
    else if 0x80 ≤ o ∧ o < 0xA0 then some (L.fcTrapWrite ⟨(o - 0x80) / 4 % 8, Nat.mod_lt _ (by decide)⟩ v) else none
  | 4 => if o = 4 then some (L.stCmd v) else none
  | 5 => if o = 0x0C then some ((L.when (F.TL_CMD_CLEAR_WRAP.get v == 1) Lane.clearWrap).when (F.TL_CMD_ATTIC_CLEAR.get v == 1) Lane.atticClear)
    else none
  | 7 => if o = 0x2C then some (L.cfOp v) else none
  | 8 => if o = 0x0C then some (L.kyCmd v) else none
  | 10 => if o = 0x18 then some (L.lgCmd g v) else none
  | 12 => if o = 0x5C then some (L.when (F.AN_CMD_ALIGN_CAPTURE.get v == 1) (·.alignCapture g)) else none
  | 14 => if o = 0x6C then some (L.when (F.FB_CMD_SET_REF.get v == 1) (·.setRef g)) else none
  | 15 => if o = 0x300 then some (L.dacRoute v) else none
  | 18 => if o = 0x0C then some (L.reopen (F.LN_CMD_REOPEN.get v)) else if o = 0x18 then some (L.lnRxlock v)
    else if o = 0x48 then some (L.lnTxcommit false v) else if o = 0x4C then some (L.lnTxcommit true v)
    else if o = 0x60 then some (L.lnInjArm v) else if o = 0x1430 then some (L.lnMreqGo v) else none
  | 22 => if o = 4 then some (L.icComplete false (F.IC_CLAIM_SOURCE.get v)) else if o = 0x14 then some (L.icBudgetStart (F.IC_BUDGET_COUNT.get v))
    else if o = 0x18 then some (L.icYard a v)
    else if o = 0x400 + 4 * 116 ∧ F.IC_SRC_SWSET.get v = 1 then some L.swset else none
  | _ => none

/-- What a write of a group's register must not change after the fact: the leg changes that were due before it, and what a shadow register held
(R170); and the transmissions of the lane network that have ended. -/
def Lane.beforeWrite (L : Lane) (a : Nat) : Lane :=
  let g := groupOf a
  let o := offsetOf a
  let L := L.when (blockOf a == 10 || blockOf a == 17) (·.legsSettle g)
  let L := L.when (blockOf a == 18) Lane.txSettle
  L.when (blockOf a == 10 && (o == 0x20 || decide (0x40 ≤ o ∧ o < 0x4C))) (·.shadowNote g)

/-- The counters of a command register are still cleared by a write (R16). A block that a sleep entry has stopped accepts no work: a write changes its
registers alone (R390). -/
def Lane.putReg (L : Lane) (a : Nat) (v : Word) : Lane :=
  match regAt a with
  | none => L
  | some (r, _) =>
    if L.pm.acked.contains (blockOf a) then (if (L.cmdWrite a v).isSome then L else L.storeReg a v r) else
    let L := L.beforeWrite a
    if blockOf a = 22 ∧ offsetOf a = 0x400 + 4 * 116 then
      ((L.storeReg a v r).follow L a v).when (F.IC_SRC_SWSET.get v == 1) Lane.swset
    else match L.cmdWrite a v with
    | some M => M
    | none => (L.storeReg a v r).follow L a v

/-! ### Memory protection (R341, R342) -/

/-- An entry of the PMP: range, what machine and user mode may do (read 1, write 2, execute 4), locked. -/
structure PmpEntry where
  lo : Nat
  hi : Nat
  machine : Nat
  user : Nat
  locked : Bool
  deriving DecidableEq, Repr

/-- The entries that the runtime programs at boot, the lowest-numbered first; tally access opens entries 10 and 11. -/
def Lane.pmp (L : Lane) : List PmpEntry :=
  let t := if bit (L.ic.app.getD (0, 0)).2 0 then 1 else 0
  [⟨0, 0x10000, 0, 0, true⟩, ⟨slotAddr L.lc.slot, slotAddr L.lc.slot + 0x800000, 5, 0, true⟩, ⟨appAddr, appAddr + 0x100000, 1, 5, false⟩,
    ⟨0x202DF000, 0x202DF800, 3, 1, false⟩, ⟨0x202DF800, 0x202E0000, 3, 3, false⟩, ⟨0x202E0000, 0x20300000, 3, 3, false⟩,
    ⟨0x20000000, 0x20300000, 3, 0, false⟩, ⟨0x08000000, 0x09800000, 1, 0, false⟩, ⟨0x21000000, 0x21100000, 3, 0, false⟩,
    ⟨0x22000000, 0x22100000, 3, 0, false⟩, ⟨0x23000000, 0x23080000, 3, t, false⟩, ⟨blockBase 5, blockBase 5 + 0x4000, 3, t, false⟩,
    ⟨0x24000000, 0x24040000, 3, 0, false⟩, ⟨0x25000000, 0x25040000, 3, 0, false⟩, ⟨0x40000000, 2 ^ 32, 3, 0, false⟩,
    ⟨0, 2 ^ 32, 0, 0, true⟩]

/-- An access of the kinds in `want` at an address is allowed once the runtime has been entered; the lowest matching entry decides, and binds
machine mode when it is locked. (Log entry 174: DEDUCED) -/
def Lane.pmpMay (L : Lane) (user : Bool) (want a : Nat) : Bool :=
  !L.lc.booted || (match L.pmp.find? (fun e => decide (e.lo ≤ a) && decide (a < e.hi)) with
    | some e => (if user then e.user else if e.locked then e.machine else 7) &&& want == want
    | none => false)

/-! ### Control and status registers of the cores (R326, R327, R342) -/

/-- What a CSR of a core reads: the identities, the counters of Zicntr, device time, the external interrupt (MTIP is never set), and of the helm pair
the hpm counters with their selections and the counters that user mode may read. None for a CSR that the manual leaves to the RISC-V
specifications. -/
def Lane.readCsr (L : Lane) (yard : Bool) (n : Nat) : Option Word :=
  let count (k : Nat) : Nat := L.tallyWord 5 k % 2 ^ 48
  if n = 0xF11 then some 0
  else if n = 0xF12 then some (if yard then 0x3193 else 0x3192)
  else if n = 0xF13 then some 0x42
  else if n = 0xF14 then some (if yard then 1 else 0)
  else if n = 0xC00 ∨ n = 0xB00 then some (BitVec.ofNat 32 (L.cycles yard))
  else if n = 0xC80 ∨ n = 0xB80 then some (BitVec.ofNat 32 (L.cycles yard / 2 ^ 32))
  else if n = 0xC02 ∨ n = 0xB02 then some (BitVec.ofNat 32 (L.instret yard))
  else if n = 0xC82 ∨ n = 0xB82 then some (BitVec.ofNat 32 (L.instret yard / 2 ^ 32))
  else if n = 0xC01 then some (BitVec.ofNat 32 L.devTime)
  else if n = 0xC81 then some (BitVec.ofNat 32 (L.devTime / 2 ^ 32))
  else if n = 0x344 then some (BitVec.ofNat 32 (2 ^ 11 * b2n (if yard then L.meipYard else L.meip)))
  else if yard then none
  else if n = 0x306 then some (if bit (L.ic.app.getD (0, 0)).2 0 then 0xFFFFFFFF else 7)
  else if (0xB03 ≤ n ∧ n ≤ 0xB1F) ∨ (0xC03 ≤ n ∧ n ≤ 0xC1F) then some (BitVec.ofNat 32 (count (n % 256 - 3)))
  else if (0xB83 ≤ n ∧ n ≤ 0xB9F) ∨ (0xC83 ≤ n ∧ n ≤ 0xC9F) then some (BitVec.ofNat 32 (count (n % 128 - 3) / 2 ^ 32))
  else if 0x323 ≤ n ∧ n ≤ 0x33F then
    let v := L.tl.hpm.getD (n - 0x323) 0
    some (BitVec.ofNat 32 (if v < 65536 then v else 0))
  else none

/-- A CSR read of the helm pair: what it reads comes from outside the pair's instruction stream and is recorded for the trail core (R332).
(Log entry 150: DEDUCED) -/
def Lane.csrRead (L : Lane) (n : Nat) : Lane :=
  match L.readCsr false n with
  | some w => L.leadRead w
  | none => L

/-! ### The bus (R335, R336, R340, R442) -/

/-- What a store of `n` bytes does to the byte memories: the save area of the larder belongs to the hardware (R394), and of the link buffers
the write halves alone take it (R255). (Log entry 116: DEDUCED) -/
def Lane.memStore (L : Lane) (a n : Nat) (v : Word) : Lane :=
  if 0x22000000 ≤ a ∧ a < 0x22100000 ∧ 0x5C0 ≤ a % 0x4000 then L
  else L.setBytes a (leBytes n v.toNat)

/-- `n` bytes written by the helm pair. A misaligned store raises its exception (mcause 6, R327) and changes nothing; in a peripheral window
anything but an aligned word ends in a bus error (R10). One that the PMP refuses raises an access fault (mcause 7), which in machine mode stops the
tick task (R340). Outside the map, in flash and boot ROM, or past a window the access ends in a bus error. A halted pair issues nothing (R331). An
exception of the application (`user`) ends its tick (R345). (Log entries 106: DESIGN CHOICE, 116: DEDUCED) -/
def Lane.registerWrite (user : Bool) (a n : Nat) (v : Word) (L : Lane) : Lane :=
  if L.ic.halted || (user && !L.appRuns) then L
  else if user && (n == 0 || a % n != 0) then (L.trapped true 6 a).appAbort 1
  else if user && !(L.pmpMay true 2 a) then (L.trapped true 7 a).appAbort 1
  else if n = 0 ∨ a % n ≠ 0 then
    if a < 0x40000000 then L.trapped false 6 a else { L.trapped false 6 a with busErr := true }
  else if !(L.pmpMay false 2 a) then L.taskFault 7 a
  else if a < 0x40000000 then
    if !(memMapped a) || memReadOnly a || (decide (0x25000000 ≤ a) && decide (a < 0x25010000)) then { L with busErr := true }
    else ({ L with busErr := false }).memStore a n v
  else if L.busRefuses a n then { L with busErr := true }
  else ({ L with busErr := false }).putReg a v

/-- A store of the lead core as the compare buffer lets it go (R328, R329): it is issued once the trail core has emitted the same transaction, and one
that differs is a mismatch, which blocks it. (Log entry 174: DEDUCED) -/
def Lane.pairWrite (a : Nat) (x : StoreData) (L : Lane) : Lane :=
  if L.ic.halted then L
  else if x.agrees a then L.registerWrite x.user a x.size x.value else L.pairMismatch

end Sys2Proof.Machine
end

