-- ==== Sys2Proof/Machine/Dictionary.lean ====
section
/-! DEFINITION. The object dictionary (chapter 14): its entries with access and type, what each reads, the range, state and access rules of a
write, and the writes of values and register images (R304 to R325). -/

namespace Sys2Proof.Machine

/-! ### Entries (R304, R305) -/

/-- The access codes of R14; `rx` is a mirrored value that process data alone sets, read only for services (R311); `img` a register
image that is written by the access codes of its register (R317). -/
inductive Access where
  | ro
  | rw
  | rws
  | wo
  | cmd
  | img
  deriving DecidableEq, Repr

/-- The types of R14: a number of so many bytes, BOOL, F32, and raw bytes or text of a length between two bounds. -/
inductive EType where
  | num (n : Nat)
  | bool
  | f32
  | blob (lo hi : Nat)
  deriving DecidableEq, Repr

structure Entry where
  acc : Access
  ty : EType
  deriving DecidableEq, Repr

/-- A length fits a type (R305). (Log entry 86: DEDUCED) -/
def EType.fits (t : EType) (n : Nat) : Bool :=
  match t with
  | .num k => n == k
  | .bool => n == 1
  | .f32 => n == 4
  | .blob lo hi => decide (lo ≤ n) && decide (n ≤ hi)

/-- The block and the offset base of an image entry, with its group (R313, R315, R316, R318, R319). -/
def imageBase (idx : Nat) : Option (Nat × Nat) :=
  if idx = 0x1F10 then some (19, 0)
  else if idx = 0x1F11 then some (20, 0)
  else if idx = 0x3F00 then some (8, 0)
  else if idx = 0x3F01 then some (9, 0)
  else if idx = 0x4F00 then some (18, 0)
  else if idx = 0x4F01 then some (18, 0x1400)
  else if idx = 0x5F00 then some (16, 0)
  else if idx = 0x5F01 then some (15, 0)
  else if 0x2000 ≤ idx ∧ idx < 0x3000 ∧ 0x10 ≤ idx % 256 ∧ idx % 256 ≤ 0x15 then
    some (([11, 12, 10, 13, 14, 17] : List Nat).getD (idx % 256 - 0x10) 11, 0x1000 * ((idx - 0x2000) / 256))
  else none

/-- The registers of 0x5F02 (R319). -/
def image5F02 : List Nat :=
  [F.FB_EXC_EXC_AMP.addr 0 0, F.FB_EXC_MON_AMP.addr 0 0, F.EG_VOTE_OWN_VOTE.addr 0 0, F.EG_VOTE_N_VOTES.addr 0 0, F.EG_VOTE_P_VOTES.addr 0 0, F.AN_XCHG_TX_NUM.addr 0 0]

/-- The register address that an image entry names. -/
def imageAddr (idx sub : Nat) : Option Nat :=
  if sub = 0 ∨ 255 < sub then none
  else if idx = 0x5F02 then image5F02[sub - 1]?
  else match imageBase idx with
    | some (b, o) => some (blockBase b + o + 4 * (sub - 1))
    | none => none

/-- A register of no access code but RO. -/
def RegRow.readOnly (r : RegRow) : Bool := r.rw == 0 && r.rwl == 0 && r.w1c == 0 && r.w1s == 0 && r.cnts.isEmpty

/-- The entry of a register image (R317): none where no register is defined or it is write only. -/
def imageEntry (idx sub : Nat) : Option Entry :=
  match imageAddr idx sub with
  | none => none
  | some a =>
    if !(grouped (blockOf a)) && windowSize (blockOf a) ≤ a % 0x10000 then none else
    match regAt a with
    | none => none
    | some (r, _) =>
      if r.wo then none
      else if r.readOnly || (idx == 0x5F02 && decide (3 ≤ sub) && decide (sub ≤ 5)) then some ⟨.ro, .num 4⟩
      else some ⟨.img, .num 4⟩

/-- A list of entries by rising sub-index from 1. -/
def nth (es : List Entry) (sub : Nat) : Option Entry := if sub = 0 then none else es[sub - 1]?

/-- An entry reached at sub-index 0 only. -/
def one (e : Entry) (sub : Nat) : Option Entry := if sub = 0 then some e else none

/-- The same entry at the sub-indices 1 to `n`. -/
def many (n : Nat) (e : Entry) (sub : Nat) : Option Entry := if 1 ≤ sub ∧ sub ≤ n then some e else none

def u8 : Entry := ⟨.ro, .num 1⟩
def u16 : Entry := ⟨.ro, .num 2⟩
def u32 : Entry := ⟨.ro, .num 4⟩
def u64 : Entry := ⟨.ro, .num 8⟩
def rf32 : Entry := ⟨.ro, .f32⟩
def rbool : Entry := ⟨.ro, .bool⟩
def sNum (n : Nat) : Entry := ⟨.rws, .num n⟩
def sF32 : Entry := ⟨.rws, .f32⟩
def sBool : Entry := ⟨.rws, .bool⟩
def cBool : Entry := ⟨.cmd, .bool⟩

/-- 0x1000 to 0x1FFF (R313). -/
def entry1 (idx sub : Nat) : Option Entry :=
  match idx with
  | 0x1000 => nth [u32, u32, u8, u8, ⟨.ro, .blob 0 16⟩, u16, u8] sub
  | 0x1008 => one ⟨.ro, .blob 0 32⟩ sub
  | 0x100A => one u32 sub
  | 0x100B => one u8 sub
  | 0x1010 => one u64 sub
  | _ => imageEntry idx sub

/-- An actuator's entries (R314), by the low byte of the index. -/
def entry2 (idx sub : Nat) : Option Entry :=
  match idx % 256 with
  | 0x00 => nth [sBool, sNum 1, sBool, sF32, sNum 4, sF32, sF32] sub
  | 0x01 => nth [u32, rf32, rf32] sub
  | 0x02 => nth [u32, rf32, rf32, rf32, rf32, u16, u8, u8] sub
  | 0x03 => many 5 sF32 sub
  | 0x18 => many 2 cBool sub
  | _ => imageEntry idx sub

/-- 0x3000 to 0x3FFF (R316). -/
def entry3 (idx sub : Nat) : Option Entry :=
  match idx with
  | 0x3000 => one u8 sub
  | 0x3001 => nth [u8, u16, u8] sub
  | 0x3002 => many 3 u8 sub
  | 0x3003 => nth [rbool, u8, u32, rf32] sub
  | 0x3010 => one u8 sub
  | 0x3011 => one u8 sub
  | 0x3012 => one ⟨.cmd, .num 1⟩ sub
  | 0x3020 => one u16 sub
  | 0x3021 => one cBool sub
  | 0x3022 => one cBool sub
  | 0x3030 => one (sNum 1) sub
  | 0x3031 => nth [sF32, sF32, sF32, sNum 2, sNum 2, sNum 1, sNum 4] sub
  | 0x3050 => many 3 cBool sub
  | 0x3060 => many 64 u32 sub
  | _ => imageEntry idx sub

/-- 0x4000 to 0x4FFF (R318). -/
def entry4 (idx sub : Nat) : Option Entry :=
  if 0x4010 ≤ idx ∧ idx ≤ 0x4013 then nth [sNum 2, sNum 1] sub
  else if 0x4020 ≤ idx ∧ idx ≤ 0x4023 then many 64 (sNum 2) sub
  else if 0x4030 ≤ idx ∧ idx ≤ 0x4037 then many 64 (sNum 4) sub
  else if 0x4100 ≤ idx ∧ idx ≤ 0x413F then many 64 (sNum 4) sub
  else if idx = 0x4200 then many 48 (sNum 4) sub
  else if idx = 0x4310 then one ⟨.cmd, .num 1⟩ sub
  else imageEntry idx sub

/-- 0x5000 to 0x5FFF (R319). -/
def entry5 (idx sub : Nat) : Option Entry :=
  match idx with
  | 0x5000 => one u16 sub
  | 0x5001 => one u8 sub
  | 0x5002 => one u32 sub
  | 0x5010 => nth [⟨.rw, .blob 8 256⟩] sub
  | 0x5030 => one u16 sub
  | 0x5031 => one u16 sub
  | _ => imageEntry idx sub

/-- 0x6000 to 0x6FFF (R321). -/
def entry6 (idx sub : Nat) : Option Entry :=
  if idx = 0x6000 then nth [u32, rbool, u8, rbool, rbool] sub
  else if idx = 0x6010 then nth [u64, u32, u64] sub
  else if 0x6100 ≤ idx ∧ idx < 0x6140 then nth [u8, u16, u32, u32] sub
  else if idx = 0x6400 then many 4 rf32 sub
  else if idx = 0x6401 then many 5 rf32 sub
  else if idx = 0x6F00 then nth [u32, u32, ⟨.rw, .num 4⟩, ⟨.ro, .blob 64 64⟩] sub
  else none

/-- 0x7000 to 0x7FFF (R322). -/
def entry7 (idx sub : Nat) : Option Entry :=
  match idx with
  | 0x7000 => nth [u8, u8, u32, rbool] sub
  | 0x7002 => many 3 ⟨.ro, .blob 64 64⟩ sub
  | 0x7004 => nth [u8, u32, u32] sub
  | 0x7010 => one ⟨.ro, .blob 32 32⟩ sub
  | 0x7011 => one ⟨.cmd, .blob 0 1024⟩ sub
  | 0x7020 => one ⟨.cmd, .blob 32 32⟩ sub
  | 0x7021 => one ⟨.ro, .blob 0 1024⟩ sub
  | 0x7100 => one ⟨.wo, .blob 0 65536⟩ sub
  | 0x7101 => one cBool sub
  | 0x7102 => one u8 sub
  | 0x7200 => nth [⟨.cmd, .num 4⟩, cBool, cBool] sub
  | 0x7202 => nth [u8, u32] sub
  | 0x7300 => one ⟨.rw, .blob 0 65536⟩ sub
  | 0x7400 => nth [u8, sNum 1] sub
  | _ => none

/-- 0x8000 to 0x8FFF (R325). -/
def entry8 (idx sub : Nat) : Option Entry :=
  if idx = 0x8000 then nth [⟨.rw, .num 2⟩, u32] sub
  else if 0x8100 ≤ idx ∧ idx ≤ 0x8116 then (if 1 ≤ sub ∧ tallyValid (idx - 0x8100) (sub - 1) then some u64 else none)
  else if idx = 0x8800 then many 10 rf32 sub
  else if idx = 0x8900 ∨ idx = 0x8901 then many 4 u16 sub
  else none

/-- An entry listed in the tables of chapter 14. -/
def entryListed (idx sub : Nat) : Option Entry :=
  match idx / 0x1000 with
  | 1 => entry1 idx sub
  | 2 => entry2 idx sub
  | 3 => entry3 idx sub
  | 4 => entry4 idx sub
  | 5 => entry5 idx sub
  | 6 => entry6 idx sub
  | 7 => entry7 idx sub
  | 8 => entry8 idx sub
  | _ => none

/-- The highest sub-index in use of an entry that has some. -/
def highSub (idx : Nat) : Nat := ((List.range 255).reverse.find? (fun i => (entryListed idx (i + 1)).isSome)).elim 0 (· + 1)

/-- An entry by index and sub-index; sub-index 0 of an entry with further ones holds the highest in use. -/
def entryAt (idx sub : Nat) : Option Entry :=
  match entryListed idx sub with
  | some e => some e
  | none => if sub = 0 ∧ (entryListed idx 1).isSome ∨ sub = 0 ∧ highSub idx ≠ 0 then some u8 else none

/-! ### What an entry reads -/

def wordBytes (w : Word) : List Byte := leBytes 4 w.toNat
def f32Bytes (x : Rat) : List Byte := wordBytes (f32of x)
def intBytes (i : Int) : List Byte := leBytes 4 (wrap 32 i)

/-- The actuator that an index names. -/
def actOf (idx : Nat) : Fin 16 := ⟨(idx - 0x2000) / 256 % 16, Nat.mod_lt _ (by decide)⟩

/-- "TD3192 Deshabin". -/
def deviceName : List Byte := [0x54, 0x44, 0x33, 0x31, 0x39, 0x32, 0x20, 0x44, 0x65, 0x73, 0x68, 0x61, 0x62, 0x69, 0x6E]

def Lane.read1 (L : Lane) (idx sub : Nat) : List Byte :=
  match idx, sub with
  | 0x1000, 1 => leBytes 4 0x6A4D
  | 0x1000, 2 => leBytes 4 0x3192
  | 0x1000, 3 => byteOf dieSet
  | 0x1000, 4 => byteOf packageRev
  | 0x1000, 5 => L.lc.otp.serial.take 16
  | 0x1000, 6 => leBytes 2 Config.dateCode
  | 0x1000, 7 => byteOf L.id.index
  | 0x1008, _ => deviceName
  | 0x100A, _ => L.bytes (slotAddr L.lc.slot + 88) 4
  | 0x100B, _ => byteOf L.lc.slot
  | 0x1010, _ => leBytes 8 L.devTime
  | _, _ => []

/-- A register, and a field of it, as the runtime reads them for an entry: by a firmware read, which trapdoor mode may force (R12, R360). -/
def Lane.rdWord (L : Lane) (f : Fld) (g : Nat := 0) (k : Nat := 0) : Word := L.readReg (f.addr g k)
def Lane.rdFld (L : Lane) (f : Fld) (g : Nat := 0) (k : Nat := 0) : Nat := f.get (L.rdWord f g k)

/-- Star flags (0x2n02 sub-index 8). -/
def Lane.starFlags (L : Lane) (n : Fin 16) : Nat :=
  L.rdFld F.TQ_STATUS_ISOLATED n + 2 * L.rdFld F.TQ_STATUS_TRACKING n + 4 * b2n (L.grp n).lg.tripHold + 8 * L.rdFld F.LG_CH_STATUS_FAULT n
    + 16 * L.rdFld F.FB_STATUS_FAULT n + 32 * b2n (L.live n)

def Lane.read2 (L : Lane) (idx sub : Nat) : List Byte :=
  let n := actOf idx
  let a := L.cfg.acts[n]
  let s := L.grp n
  match idx % 256, sub with
  | 0x00, 1 => byteOf (b2n a.inUse)
  | 0x00, 2 => byteOf (L.rdFld F.EG_CTRL_KIND n)
  | 0x00, 3 => byteOf (L.rdFld F.EG_CTRL_BRK_NEG n)
  | 0x00, 4 => wordBytes a.radius
  | 0x00, 5 => leBytes 4 a.pathTol
  | 0x00, 6 => wordBytes (L.rdWord F.KY_TOL_TOL 0 n)
  | 0x00, 7 => wordBytes a.rated
  | 0x01, _ => wordBytes (L.shelfIn (0x23 + 3 * n + sub))
  | 0x02, 1 => intBytes (L.ownPos n)
  | 0x02, 2 => f32Bytes (L.omegaAct n)
  | 0x02, 3 => f32Bytes s.tq.dUse
  | 0x02, 4 => f32Bytes s.tq.tRef
  | 0x02, 5 => f32Bytes s.tq.tHat
  | 0x02, 6 => leBytes 2 (L.rdFld F.TQ_STATUS_EFF_SHARE n)
  | 0x02, 7 => byteOf (L.rdFld F.AN_STATUS_SOURCE n)
  | 0x02, 8 => byteOf (L.starFlags n)
  | 0x03, _ => wordBytes (a.gains.getD (sub - 1) 0)
  | _, _ => []

/-- A lane's state as the applied shelf has it; before any shelf was applied the default of R316, Booting. (Log entry 83: DEDUCED) -/
def Lane.shelfState (L : Lane) (o : Nat) : Nat :=
  let w := (L.shelfIn 0).toNat
  if w / 256 % 512 = 0 then 1 else w / 2 ^ (8 + 3 * o) % 8

/-- The entries of R316; the host command and the profile request, which no shelf word holds, read what the process data brought last (R311).
(Log entry 82: DEDUCED) -/
def Lane.read3 (L : Lane) (idx sub : Nat) : List Byte :=
  let w0 := (L.shelfIn 0).toNat
  match idx, sub with
  | 0x3000, _ => byteOf (w0 % 8)
  | 0x3001, 1 => byteOf (L.rdFld F.KY_STATUS_HOLDER)
  | 0x3001, 2 => leBytes 2 (L.rdFld F.KY_STATUS_EPOCH)
  | 0x3001, 3 => byteOf (L.rdFld F.KY_STATUS_RANK)
  | 0x3002, _ => byteOf (L.shelfState (sub - 1))
  | 0x3003, 1 => byteOf (w0 / 64 % 2)
  | 0x3003, 2 => byteOf (L.shelfIn 0xB4).toNat
  | 0x3003, 3 => wordBytes (L.shelfIn 0xB5)
  | 0x3003, 4 => wordBytes (L.shelfIn 0xB7)
  | 0x3010, _ => byteOf (w0 / 8 % 8)
  | 0x3011, _ => byteOf L.ky.hostProfile
  | 0x3020, _ => leBytes 2 L.ky.hostWord
  | 0x3030, _ => byteOf L.cfg.gateLanes
  | 0x3031, 1 => wordBytes L.cfg.decel
  | 0x3031, 2 => wordBytes L.cfg.ramp
  | 0x3031, 3 => wordBytes L.cfg.stillSpeed
  | 0x3031, 4 => leBytes 2 L.cfg.stillTime
  | 0x3031, 5 => leBytes 2 L.cfg.holdTime
  | 0x3031, 6 => byteOf L.cfg.limitTime
  | 0x3031, 7 => leBytes 4 L.cfg.hostTimeout
  | 0x3060, _ => wordBytes (L.shelfIn (0xBF + sub))
  | _, _ => []

/-- The address of the LN_SLOT image of 0x4030 + 2m + p, sub-index s + 1. -/
def slotImage (idx sub : Nat) : Nat :=
  F.LN_SLOT0_ACTION.addr 0 (256 * ((idx - 0x4030) / 2) + 64 * ((idx - 0x4030) % 2) + (sub - 1))

def Lane.read4 (L : Lane) (idx sub : Nat) : List Byte :=
  if 0x4010 ≤ idx ∧ idx ≤ 0x4013 then
    (if sub = 1 then leBytes 2 (L.rdFld F.LN_CYC_CYCLE_LEN 0 (idx - 0x4010)) else byteOf (L.rdFld F.LN_CYC_NSLOT 0 (idx - 0x4010)))
  else if 0x4020 ≤ idx ∧ idx ≤ 0x4023 then leBytes 2 (L.rdFld F.LN_SLEN0_LEN 0 (256 * (idx - 0x4020) + (sub - 1)))
  else if 0x4030 ≤ idx ∧ idx ≤ 0x4037 then wordBytes (L.readReg (slotImage idx sub))
  else if 0x4100 ≤ idx ∧ idx ≤ 0x413F then wordBytes (cellGet 0 L.cfg.mapping (64 * (idx - 0x4100) + (sub - 1)))
  else if idx = 0x4200 then wordBytes (L.rdWord F.LN_TOPO_SEG0 0 (sub - 1))
  else []

/-- Stop inputs active per lane (R319). -/
def Lane.stopInputs (L : Lane) : Nat :=
  let m := putBit 0 L.id.index L.anyStop
  let m := putBit m L.id.next.index (L.sibStop .N)
  putBit m L.id.prev.index (L.sibStop .P)

def Lane.read5 (L : Lane) (idx : Nat) : List Byte :=
  match idx with
  | 0x5000 => leBytes 2 (L.rdFld F.SF_STATUS_FILTERED)
  | 0x5001 => byteOf L.stopInputs
  | 0x5002 => wordBytes (L.rdWord F.SF_FAULT_STUCK)
  | 0x5010 => L.fc.ioReport
  | 0x5030 => leBytes 2 (L.shelfIn 1).toNat
  | 0x5031 => leBytes 2 (L.rdFld F.EG_VOTE_OWN_VOTE)
  | _ => []

/-- The record number of the oldest and the newest record of the log; 0 while it holds none. -/
def Lane.oldestRec (L : Lane) : Nat := (L.fc.nextRec + 2 ^ 32 - L.fc.logged) % 2 ^ 32
def Lane.newestRec (L : Lane) : Nat := if L.fc.logged = 0 then 0 else (L.fc.nextRec + 2 ^ 32 - 1) % 2 ^ 32

/-- A record number in the span of the log. -/
def Lane.recHeld (L : Lane) (n : Nat) : Bool := decide ((n + 2 ^ 32 - L.oldestRec) % 2 ^ 32 < L.fc.logged)

/-- A reading of a temperature sensor in °C; what a sensor not yet read gives is open. (Log entry 111: DEDUCED) -/
def Lane.tempC (L : Lane) (j : Nat) : Rat :=
  match L.th.read.getD j none with
  | some t => (t : Rat) / 10
  | none => Config.freeRat L.fresh

/-- A supply voltage: of the four rails what the newest housekeeping conversion of its entry code gives (R194); the scale of a code, a rail not yet
converted and VIN_FIELD, which has no entry code, are open. (Log entry 193: DESIGN CHOICE) -/
def Lane.railVolts (L : Lane) (k : Nat) : Rat :=
  match L.ad.rails.getD k none with
  | some code => Config.railVolts k code
  | none => Config.freeRat L.fresh

def Lane.read6 (L : Lane) (idx sub : Nat) : List Byte :=
  let u := idx - 0x6100
  if idx = 0x6000 then (match sub with
    | 1 => wordBytes (L.rdWord F.FC_STATE)
    | 2 => byteOf (b2n L.latched)
    | 3 => byteOf (L.rdFld F.FC_RCNT_COUNT)
    | 4 => byteOf (L.rdFld F.FC_RCNT_STUCK)
    | _ => byteOf (L.rdFld F.FC_ERROUT_LEVEL))
  else if idx = 0x6010 then (match sub with
    | 1 => wordBytes (L.rdWord F.ST_END_LO) ++ wordBytes (L.rdWord F.ST_END_HI)
    | 2 => wordBytes (L.rdWord F.ST_RUNS)
    | _ => wordBytes (L.rdWord F.ST_FAILED_LO) ++ wordBytes (L.rdWord F.ST_FAILED_HI))
  else if idx = 0x6400 then f32Bytes (L.tempC (sub - 1))
  else if idx = 0x6401 then f32Bytes (L.railVolts (sub - 1))
  else if idx = 0x6F00 then (match sub with
    | 1 => leBytes 4 (if L.fc.logged = 0 then 0 else L.oldestRec)
    | 2 => leBytes 4 L.newestRec
    | 3 => leBytes 4 L.oc.record
    | _ => if L.fc.logged = 0 then List.replicate 64 0 else L.bytes (logAddr L.oc.record) 64)
  else match sub with
    | 1 => byteOf (L.rdFld F.ST_UNIT_STATUS 0 u)
    | 2 => leBytes 2 (L.rdFld F.ST_UNIT_COVERAGE 0 u)
    | 3 => wordBytes (L.rdWord F.ST_DUR 0 u)
    | _ => wordBytes (L.rdWord F.ST_SIG 0 u)

/-- The calibration set in force in flash: the stored one, or the factory's where the area has never been written (R425).
(Log entries 21: DESIGN CHOICE, 96: DESIGN CHOICE, 172: DESIGN CHOICE) -/
def Lane.calSet (L : Lane) : List Byte :=
  if leNat (L.bytes calAddr 4) = 0x4C414343 then L.bytes calAddr (min 65536 (16 + leNat (L.bytes (calAddr + 5) 4) + 4)) else Config.factorySet

/-- The image in the running slot; one that does not fit the slot is none (R414). -/
def Lane.firmware (L : Lane) : List Byte :=
  let n := (L.memWord (slotAddr L.lc.slot + 16)).toNat
  if 0x7F0000 < n then [] else L.bytes (slotAddr L.lc.slot) n

/-- The configuration sequence of a bank; 0 where its header holds none (R17). -/
def Lane.seqOf (L : Lane) (b : Nat) : Nat := let s := (L.bankSeq b).toNat; if s = 2 ^ 32 - 1 then 0 else s

def Lane.read7 (L : Lane) (idx sub : Nat) : List Byte :=
  match idx, sub with
  | 0x7000, 1 => byteOf (L.rdFld F.LC_STATE_LCS)
  | 0x7000, 2 => byteOf L.lc.otp.step
  | 0x7000, 3 => wordBytes (L.rdWord F.LC_SVC_S)
  | 0x7000, _ => byteOf (L.rdFld F.LC_STATE_SEALED)
  | 0x7002, 1 => sha512 L.firmware
  | 0x7002, 2 => L.lc.digest
  | 0x7002, _ => sha512 L.calSet
  | 0x7004, 1 => byteOf (if L.lc.bank < 2 then L.lc.bank else 0xFF)
  | 0x7004, 2 => leBytes 4 (if L.lc.bank < 2 then L.seqOf L.lc.bank else 0)
  | 0x7004, _ => leBytes 4 (L.seqOf (if L.lc.bank = 0 then 1 else 0))
  | 0x7010, _ => L.lc.challenge.getD []
  | 0x7021, _ => L.lc.report
  | 0x7102, _ => byteOf (L.rdFld F.CF_STATUS_RESULT)
  | 0x7202, 1 => byteOf (L.rdFld F.CF_STATUS_INSTALL)
  | 0x7202, _ => wordBytes (L.rdWord F.CF_NEXT)
  | 0x7300, _ => L.calSet
  | 0x7400, 1 => byteOf (L.rdFld F.LC_STRAP_READ)
  | 0x7400, _ => byteOf L.cfg.straps
  | _, _ => []

def Lane.read8 (L : Lane) (idx sub : Nat) : List Byte :=
  if idx = 0x8000 then (if sub = 1 then leBytes 2 (L.rdFld F.TL_CFG_WINDOW) else wordBytes (L.rdWord F.TL_SNAPNUM))
  else if idx < 0x8800 then (let k := 2 * (64 * (idx - 0x8100) + (sub - 1))
    wordBytes (L.rdWord F.TL_SNAP 0 k) ++ wordBytes (L.rdWord F.TL_SNAP 0 (k + 1)))
  else if idx = 0x8800 then wordBytes (L.rdWord F.TL_BW 0 (sub - 1))
  else leBytes 2 (L.rdFld F.TL_TD_SHARE 0 (4 * (idx - 0x8900) + (sub - 1)))

/-- The value of an entry that may be read. (Log entry 16: DESIGN CHOICE) -/
def Lane.entryRead (L : Lane) (idx sub : Nat) : List Byte :=
  match entryListed idx sub with
  | none => byteOf (highSub idx)
  | some _ =>
    match imageAddr idx sub with
    | some a => wordBytes (L.readReg a)
    | none =>
      match idx / 0x1000 with
      | 1 => L.read1 idx sub
      | 2 => L.read2 idx sub
      | 3 => L.read3 idx sub
      | 4 => L.read4 idx sub
      | 5 => L.read5 idx
      | 6 => L.read6 idx sub
      | 7 => L.read7 idx sub
      | _ => L.read8 idx sub

/-! ### What a write may do (R305, R308 to R317, R324) -/

/-- The number that the bytes of a value give. -/
def numOf (bs : List Byte) : Nat := leNat bs

/-- An F32 value between two F32 words, both included. (Log entry 28: DESIGN CHOICE) -/
def f32Between (w lo hi : Word) : Bool := decide (f32val lo ≤ f32val w) && decide (f32val w ≤ f32val hi)

def between (v lo hi : Nat) : Bool := decide (lo ≤ v) && decide (v ≤ hi)

/-- The ranges of the actuator entries (R314). (Log entry 28: DESIGN CHOICE) -/
def Lane.range2 (L : Lane) (idx sub : Nat) (bs : List Byte) : Bool :=
  let n := actOf idx
  let v := numOf bs
  let w : Word := BitVec.ofNat 32 v
  let brake := L.fld F.EG_CTRL_KIND n == 2
  match idx % 256, sub with
  | 0x00, 2 => decide (v ≤ 2)
  | 0x00, 4 => f32Between w 0x3DCCCCCD 0x40200000 || (decide (f32val w = 0) && !brake)
  | 0x00, 5 => decide (v ≤ 10000)
  | 0x00, 7 => decide (0 < f32val w) || (decide (f32val w = 0) && !brake)
  | 0x03, _ => decide (0 ≤ f32val w)
  | _, _ => true

/-- The ranges of R316. (Log entry 28: DESIGN CHOICE) -/
def range3 (idx sub : Nat) (bs : List Byte) : Bool :=
  let v := numOf bs
  let w : Word := BitVec.ofNat 32 v
  match idx, sub with
  | 0x3012, _ => decide (v ≤ 3)
  | 0x3030, _ => between v 2 3
  | 0x3031, 1 => f32Between w 0x3F000000 0x40A00000
  | 0x3031, 2 => f32Between w 0x3F800000 0x42C80000
  | 0x3031, 3 => f32Between w 0x3C23D70A 0x3F000000
  | 0x3031, 4 => between v 100 5000
  | 0x3031, 5 => decide (v ≤ 600)
  | 0x3031, 6 => between v 2 120
  | 0x3031, 7 => between v 2000 1000000
  | _, _ => true

/-- The register word that an RWS entry of R318 writes whole; none for the others. -/
def netAddr (idx sub : Nat) : Option Nat :=
  if 0x4030 ≤ idx ∧ idx ≤ 0x4037 then some (slotImage idx sub)
  else if idx = 0x4200 then some (F.LN_TOPO_SEG0.addr 0 (sub - 1))
  else none

/-- A word with no reserved bit of its register set (R317). (Log entry 27: DEDUCED) -/
def namedOnly (a : Nat) (w : Word) : Bool :=
  match regAt a with
  | some (r, _) => w.toNat &&& (2 ^ 32 - 1 - r.named) == 0
  | none => false

/-- The ranges of R318: lengths as wide as their fields. -/
def range4 (idx sub : Nat) (bs : List Byte) : Bool :=
  let v := numOf bs
  if 0x4010 ≤ idx ∧ idx ≤ 0x4013 then (if sub = 1 then decide (v < 2 ^ 14) else decide (v ≤ 64))
  else if 0x4020 ≤ idx ∧ idx ≤ 0x4023 then decide (v < 2 ^ 14)
  else if idx = 0x4310 then decide (v ≤ 3)
  else match netAddr idx sub with
    | some a => namedOnly a (BitVec.ofNat 32 v)
    | none => true

/-- The reaction reporting record (R363). (Log entry 84: DEDUCED) -/
def reportOk (bs : List Byte) : Bool := (bs.drop 8).take 32 |>.all (fun b => decide (b.toNat ≤ 16)) |> fun x => x && (bs.drop 40).all (fun b => b == 0)

/-- One record of a calibration set: block, group, offset, mask, value (R425). -/
def calRecord (bs : List Byte) : Nat × Nat × Nat × Word × Word :=
  ((bs.getD 0 0).toNat, (bs.getD 1 0).toNat, leNat ((bs.drop 2).take 2), BitVec.ofNat 32 (leNat ((bs.drop 4).take 4)),
    BitVec.ofNat 32 (leNat ((bs.drop 8).take 4)))

/-- The records of a calibration set, 12 bytes each after its header. (Log entry 96: DESIGN CHOICE) -/
def calRecords (bs : List Byte) : List (Nat × Nat × Nat × Word × Word) :=
  let n := leNat ((bs.drop 5).take 4) / 12
  (List.range n).map (fun i => calRecord ((bs.drop (16 + 12 * i)).take 12))

/-- A record addresses AD_CAL, SD_OFS, AN_ENC or SY_TRIM. -/
def calAllowed (r : Nat × Nat × Nat × Word × Word) : Bool :=
  let o := r.2.2.1
  (r.1 == 15 && [0x310, 0x314, 0x318, 0x31C].contains o && r.2.1 == 0) || (r.1 == 13 && [0x40, 0x44, 0x48, 0x4C].contains o && decide (r.2.1 < 16))
    || (r.1 == 12 && o == F.AN_ENC_MULT.off && decide (r.2.1 < 16)) || (r.1 == 0 && o == 0x10 && r.2.1 == 0)

/-- A calibration set that a write takes (R425): header, records that it may hold, CRC-32C. (Log entry 96: DESIGN CHOICE) -/
def calOk (bs : List Byte) : Bool :=
  let n := leNat ((bs.drop 5).take 4)
  leNat (bs.take 4) == 0x4C414343 && bs.getD 4 0 == 1 && bs.length == 20 + n && n % 12 == 0 && (calRecords bs).all calAllowed
    && leNat (bs.drop (16 + n)) == (crc32c (bs.take (16 + n))).toNat

/-- A value lies in its entry's range (R305, R313 to R325). (Log entry 27: DEDUCED) -/
def Lane.inRange (L : Lane) (idx sub : Nat) (e : Entry) (bs : List Byte) : Bool :=
  let v := numOf bs
  let typ : Bool := match e.ty with
    | .bool => if e.acc = .cmd then v == 1 else decide (v ≤ 1)
    | .f32 => f32finite (BitVec.ofNat 32 v)
    | _ => true
  typ &&
    match imageAddr idx sub with
    | some a => namedOnly a (BitVec.ofNat 32 v)
    | none =>
      match idx / 0x1000 with
      | 2 => L.range2 idx sub bs
      | 3 => range3 idx sub bs
      | 4 => range4 idx sub bs
      | 5 => idx != 0x5010 || reportOk bs
      | 6 => !(idx == 0x6F00 && sub == 3) || L.recHeld v
      | 7 => idx != 0x7300 || calOk bs
      | 8 => !(idx == 0x8000 && sub == 1) || between v 1 60000
      | _ => true

/-- The lane serves service writes: Bench, Shadow, Service (R309). -/
def Lane.servesWrites (L : Lane) : Bool := L.ky.state == .bench || L.ky.state == .shadow || L.ky.state == .service

/-- R14: an RWS entry is writable. -/
def Lane.rwsOpen (L : Lane) : Bool := (L.lc.state == .blank || L.lc.state == .service) && !L.lc.sealed

/-- The drive blocks of the images of R315. -/
def driveBlock (b : Nat) : Bool := b == 10 || b == 11 || b == 12 || b == 13 || b == 14 || b == 17

/-- The bits of a written image that a register of R308 would ignore in the present state, beside those that it keeps on every write: AD_DAC with a
front-end route outside Bench (R195), LN_INJ.ARM where it is denied (R264), an ENABLE while PARAM is 1. -/
def Lane.ignoredBits (L : Lane) (a : Nat) (w : Word) : Nat :=
  let g := groupOf a
  let o := offsetOf a
  match blockOf a with
  | 11 => if o = 0 ∧ F.TQ_CTRL_ENABLE.get w = 1 ∧ L.tqParam g then (F.TQ_CTRL_ENABLE.put 0 1).toNat else 0
  | 15 => if o = 0x300 ∧ F.AD_DAC_ROUTE.get w = 2 ∧ L.ky.state ≠ .bench then 2 ^ 32 - 1 else 0
  | 18 => if o = 0 ∧ (L.setReg a w).lnParam then (F.LN_CFG_ENABLE.put 0 (F.LN_CFG_ENABLE.get w)).toNat
    else if o = 0x60 ∧ F.LN_INJ_ARM.get w = 1 ∧ !((L.lnInjArm w).flag F.LN_INJ_ARM) then (F.LN_INJ_ARM.put 0 1).toNat else 0
  | 19 => if o = 0 ∧ (L.setReg a w).ocParam then (F.OC_CFG_ENABLE.put 0 (F.OC_CFG_ENABLE.get w)).toNat else 0
  | _ => 0

/-- An image write is permitted (R308, R309, R317): of RWL fields by the RWS rule, of other settings of a drive block in Bench and the Service
life-cycle state, of a register that holds both by the bits that change; and no changed bit may be one that the register would now ignore.
(Log entry 85: DEDUCED) -/
def Lane.imageMay (L : Lane) (a : Nat) (w : Word) : Bool :=
  match regAt a with
  | none => false
  | some (r, _) =>
    let old := L.reg a
    let cn := r.cnts.foldl (fun (n : Nat) c => n + c.mask) 0
    let ch := ((old ^^^ w) &&& BitVec.ofNat 32 (r.rw ||| r.rwl)).toNat
    let rwl := ch &&& r.rwl
    let rw := ch &&& r.rw
    let held := ch &&& (L.heldBits (blockOf a) (groupOf a) (offsetOf a) w ||| L.ignoredBits a w)
    let settings := r.rw != 0 || (r.w1s != 0)
    L.servesWrites && ((rwl == 0 && (r.rwl == 0 || r.rw != 0)) || L.rwsOpen) && held == 0
      && (!(driveBlock (blockOf a)) || !settings || cn != 0 || (rw == 0 && r.rwl != 0) || (L.ky.state == .bench && L.lc.state == .service))

/-- The state rules of a write that is no command (R309, R323). (Log entry 84: DEDUCED) -/
def Lane.stateMay (L : Lane) (idx sub : Nat) (e : Entry) (bs : List Byte) : Bool :=
  match e.acc with
  | .rws => L.rwsOpen && L.ky.state != .withdrawn
  | .rw => L.servesWrites && (idx != 0x7300 || (L.lc.state == .service && L.ky.state == .bench))
  | .wo => L.servesWrites
  | .img => match imageAddr idx sub with
    | some a => L.imageMay a (BitVec.ofNat 32 (numOf bs))
    | none => false
  | _ => true

/-- The final response of these writes waits for flash work (R293). (Log entry 80: DESIGN CHOICE) -/
def flashEntry (idx : Nat) : Bool := idx == 0x5010 || idx == 0x7300 || idx == 0x7101 || idx == 0x7200

/-! ### The value written -/

def Lane.setAct (L : Lane) (n : Fin 16) (f : ActCfg → ActCfg) : Lane := { L with cfg := { L.cfg with acts := L.cfg.acts.set n (f L.cfg.acts[n]) } }

/-- A field written through its register. -/
def Lane.putFld (L : Lane) (f : Fld) (v g k : Nat) : Lane := L.putReg (f.addr g k) (f.put (L.reg (f.addr g k)) v)

def Lane.store2 (L : Lane) (idx sub : Nat) (bs : List Byte) : Lane :=
  let n := actOf idx
  let v := numOf bs
  let w : Word := BitVec.ofNat 32 v
  match idx % 256, sub with
  | 0x00, 1 => L.setAct n (fun a => { a with inUse := v == 1 })
  | 0x00, 2 => L.putFld F.EG_CTRL_KIND v n 0
  | 0x00, 3 => L.putFld F.EG_CTRL_BRK_NEG v n 0
  | 0x00, 4 => L.setAct n (fun a => { a with radius := w })
  | 0x00, 5 => L.setAct n (fun a => { a with pathTol := v })
  | 0x00, 6 => L.putReg (F.KY_TOL_TOL.addr 0 n) w
  | 0x00, 7 => L.setAct n (fun a => { a with rated := w })
  | 0x03, _ => L.setAct n (fun a => { a with gains := a.gains.set (sub - 1) w })
  | _, _ => L

def Lane.store3 (L : Lane) (idx sub : Nat) (bs : List Byte) : Lane :=
  let v := numOf bs
  let w : Word := BitVec.ofNat 32 v
  match idx, sub with
  | 0x3030, _ => { L with cfg := { L.cfg with gateLanes := v } }
  | 0x3031, 1 => { L with cfg := { L.cfg with decel := w } }
  | 0x3031, 2 => { L with cfg := { L.cfg with ramp := w } }
  | 0x3031, 3 => { L with cfg := { L.cfg with stillSpeed := w } }
  | 0x3031, 4 => { L with cfg := { L.cfg with stillTime := v } }
  | 0x3031, 5 => { L with cfg := { L.cfg with holdTime := v } }
  | 0x3031, 6 => { L with cfg := { L.cfg with limitTime := v } }
  | 0x3031, 7 => { L with cfg := { L.cfg with hostTimeout := v } }
  | _, _ => L

def Lane.store4 (L : Lane) (idx sub : Nat) (bs : List Byte) : Lane :=
  let v := numOf bs
  if 0x4010 ≤ idx ∧ idx ≤ 0x4013 then
    (if sub = 1 then L.putFld F.LN_CYC_CYCLE_LEN v 0 (idx - 0x4010) else L.putFld F.LN_CYC_NSLOT v 0 (idx - 0x4010))
  else if 0x4020 ≤ idx ∧ idx ≤ 0x4023 then L.putFld F.LN_SLEN0_LEN v 0 (256 * (idx - 0x4020) + (sub - 1))
  else if 0x4100 ≤ idx ∧ idx ≤ 0x413F then
    { L with cfg := { L.cfg with mapping := cellSet 0 L.cfg.mapping (64 * (idx - 0x4100) + (sub - 1)) (BitVec.ofNat 32 v) } }
  else match netAddr idx sub with
    | some a => L.putReg a (BitVec.ofNat 32 v)
    | none => L

/-- A value written to an entry that is neither a command nor flash work. (Log entry 80: DESIGN CHOICE) -/
def Lane.entryStore (L : Lane) (idx sub : Nat) (bs : List Byte) : Lane :=
  let v := numOf bs
  match imageAddr idx sub with
  | some a => L.putReg a (BitVec.ofNat 32 v)
  | none =>
    match idx / 0x1000 with
    | 2 => L.store2 idx sub bs
    | 3 => L.store3 idx sub bs
    | 4 => L.store4 idx sub bs
    | 6 => if idx = 0x6F00 then { L with oc := { L.oc with record := v } } else L
    | 7 =>
      if idx = 0x7100 then { L with lc := { L.lc with image := bs } }
      else if idx = 0x7400 then { L with cfg := { L.cfg with straps := v % 256 } }
      else L
    | 8 => L.setFld F.TL_CFG_WINDOW v
    | _ => L

end Sys2Proof.Machine
end

