-- ==== Sys2Proof/Machine/LifeCycle.lean ====
section
/-! DEFINITION. Chapter 20, life cycle, trust, configuration and in-service update: secure boot, the load of a configuration, commits,
unlock tokens, attestation, installs with their trial, retirement, and the end of a wake (R398, R409 to R431, R440). -/

namespace Sys2Proof.Machine

/-! ### Numbers under R15 and R17 -/

/-- Sequence `a` is newer than `b` (R17). -/
def newer (a b : Nat) : Bool := decide (1 ≤ (a + 2 ^ 32 - b) % 2 ^ 32) && decide ((a + 2 ^ 32 - b) % 2 ^ 32 ≤ 0x7FFFFFFF)

/-- A sequence number that a header may hold. -/
def seqWritten (s : Nat) : Bool := s != 0 && s != 0xFFFFFFFF

/-- The next sequence number: after 0xFFFF_FFFE comes 1 (R15). -/
def seqNext (s : Nat) : Nat := if 0xFFFFFFFE ≤ s then 1 else s + 1

/-- A part of a list of bytes. -/
def part (bs : List Byte) (o n : Nat) : List Byte := (bs.drop o).take n

/-! ### Images and slots (R414) -/

/-- An image that starts at flash address `a` passes the checks of R414 but for its slot header: magic, product, die set, digest of the
body, signature with `key`, and a rollback step of at least the OTP step; it has a header and fits a slot. (Log entry 22: DEDUCED) -/
def Lane.imageOk (L : Lane) (a : Nat) (key : List Byte) : Bool :=
  let h := L.bytes a 512
  let size := leNat (part h 16 4)
  decide (512 ≤ size) && decide (size ≤ 0x7F0000) && leNat (part h 0 4) == 0x4D494854 && leNat (part h 8 4) == 0x3192 && h.getD 12 0 == 0x42
    && part h 24 64 == sha512 (L.bytes (a + 512) (size - 512)) && sigOk key (part h 0 380) (part h 380 132)
    && decide (L.lc.otp.step ≤ (h.getD 6 0).toNat)

/-- The install sequence in a slot's header. -/
def Lane.slotSeq (L : Lane) (s : Nat) : Nat := (L.memWord (slotHead s)).toNat

/-- A slot is valid (R414). -/
def Lane.slotValid (L : Lane) (s : Nat) : Bool :=
  seqWritten (L.slotSeq s) && L.byte (slotHead s + 76) != 0 && L.bytes (slotHead s + 4) 64 == sha512 (L.bytes (slotAddr s) 512)
    && L.imageOk (slotAddr s) L.lc.otp.vendorKey

/-- The valid slots, newest first. -/
def Lane.slotOrder (L : Lane) : List Nat :=
  (if newer (L.slotSeq 1) (L.slotSeq 0) then [1, 0] else [0, 1]).filter (fun s => L.slotValid s)

/-- A slot is confirmed. -/
def Lane.confirmedSlot (L : Lane) (s : Nat) : Bool := L.byte (slotHead s + 72) == 0

/-- The first unused try byte of a slot. -/
def Lane.tryByte (L : Lane) (s : Nat) : Option Nat := [73, 74, 75].find? (fun o => L.byte (slotHead s + o) == 0xFF)

/-- The rollback step of the image in a slot. -/
def Lane.slotStep (L : Lane) (s : Nat) : Nat := (L.byte (slotAddr s + 6)).toNat

/-- The OTP step raised to that of a confirmed slot (R414). -/
def Lane.raiseStep (L : Lane) (s : Nat) : Lane :=
  { L with lc := { L.lc with otp := { L.lc.otp with step := max L.lc.otp.step (min 64 (L.slotStep s)) } } }

/-- The address of the image being installed and of its header. -/
def Lane.instBase (L : Lane) : Nat := if L.lc.instApp then appAddr else slotAddr (1 - L.lc.slot % 2)
def Lane.instHead (L : Lane) : Nat := if L.lc.instApp then appHead else slotHead (1 - L.lc.slot % 2)

/-- Log entry 88: DEDUCED. -/
def Lane.blockStored (L : Lane) (b : Nat) : Bool := L.lc.stored.any (fun c => c.1 == b)

/-- The blocks of the image. -/
def Lane.blockCount (L : Lane) : Nat := (L.lc.instSize + 65535) / 65536

/-- The first block that is not stored; the number of blocks where every one is. -/
def Lane.firstMissing (L : Lane) : Nat := ((List.range L.blockCount).find? (fun b => !(L.blockStored b))).getD L.blockCount

/-- 0x7202 sub-index 2 and CF_NEXT follow the journal. -/
def Lane.noteNext (L : Lane) : Lane := { L with lc := { L.lc with instNext := min L.lc.instSize (65536 * L.firstMissing) } }

/-- The bytes of a journal entry (R427): block number, two reserved bytes, length, SHA-512 of the block. -/
def journalEntry (c : Nat × Nat × List Byte) : List Byte := leBytes 2 c.1 ++ [0, 0] ++ leBytes 4 c.2.1 ++ c.2.2

/-- A block enters the journal, behind the entries that stand in the sector. (Log entry 95: DESIGN CHOICE) -/
def Lane.journal (L : Lane) (b : Nat) (bs : List Byte) : Lane :=
  let c := (b, bs.length, sha512 bs)
  let L := L.program (L.instHead + 0x100 + 72 * L.lc.stored.length) (journalEntry c)
  { L with lc := { L.lc with stored := L.lc.stored ++ [c] } }

/-- The journalled blocks whose bytes still have the digest of their entry (R430). -/
def Lane.journalCheck (L : Lane) : Lane :=
  { L with lc := { L.lc with stored := L.lc.stored.filter (fun c => sha512 (L.bytes (L.instBase + 65536 * c.1) c.2.1) == c.2.2) } }

/-- What an install in progress at a reset becomes (R430). (Log entry 98: DEDUCED) -/
def Lane.installAfterBoot (L : Lane) : Lane :=
  let n := L.lc.install
  if n = 1 ∨ n = 2 then (L.journalCheck.setInstall 1).noteNext
  else if n = 3 then L.setInstall 2
  else if n = 4 then L.setInstall (if L.lc.instApp then 7 else if L.lc.trial then 5 else 8)
  else if n = 5 ∨ n = 6 then L.setInstall (if L.lc.trial then 5 else 8)
  else L

/-- The runtime is entered from slot `s`: the reset cause is logged and cleared (R439). -/
def Lane.enterSlot (L : Lane) (s : Nat) (trial : Bool) : Lane :=
  let L := { L with lc := { L.lc with slot := s, trial := trial, booted := true } }
  let L := L.when (!trial) (fun L => L.raiseStep s)
  let w := L.word ⟨0, 8, 0, 0, 32⟩
  let L := (L.log 9 3 0xFF 0 0xFFFF [w.toNat]).setWord ⟨0, 8, 0, 0, 32⟩ (w &&& 0xFFFFFFC0#32)
  L.installAfterBoot

/-- The boot ROM's choice: the newest valid slot that is confirmed, or has a try left, which is spent. -/
def Lane.bootFrom (L : Lane) : List Nat → Option Lane
  | [] => none
  | s :: ss =>
    if L.confirmedSlot s then some (L.enterSlot s false)
    else match L.tryByte s with
      | some o => some ((L.program (slotHead s + o) [0]).enterSlot s true)
      | none => L.bootFrom ss

/-- Secure boot (R414, R440): with no slot to boot the lane stays Withdrawn, its helm pair halted. A lane that a latch holds in Withdrawn
boots as well, and stays there. -/
def Lane.secureBoot (L : Lane) : Lane :=
  if L.sy.resetHeld || L.lc.booted || L.ic.halted || !(L.ky.state == .booting || L.ky.state == .withdrawn) then L else
  match L.bootFrom L.slotOrder with
  | some M => M
  | none => ({ L with ic := { L.ic with halted := true } }).bootFail

/-! ### Configuration images (R418, R419) -/

/-- The sections of an image: type and data; none where one overruns or is of a reserved type. -/
def sections : Nat → List Byte → Option (List (Nat × List Byte))
  | _, [] => some []
  | 0, _ => none
  | f + 1, bs =>
    let t := leNat (bs.take 2)
    let n := leNat (part bs 2 2)
    if bs.length < 4 + n ∨ t = 0 ∨ 5 < t then none
    else (sections f (bs.drop (4 + n))).map (fun r => (t, part bs 4 n) :: r)

/-- The data of the first section of a type. -/
def sectionOf (ss : List (Nat × List Byte)) (t : Nat) : Option (List Byte) := (ss.find? (fun c => c.1 == t)).map (·.2)

/-- The sections of a whole image. -/
def imageSections (bs : List Byte) : Option (List (Nat × List Byte)) := sections bs.length (part bs 32 (bs.length - 164))

def imageSealed (bs : List Byte) : Bool := bit (bs.getD 5 0).toNat 0
def imageEnrols (bs : List Byte) : Bool := bit (bs.getD 5 0).toNat 1

/-- The format of an image: header, size, sections, an enrolment section where the flag says so. -/
def imageFormat (bs : List Byte) : Bool :=
  decide (164 ≤ bs.length) && decide (bs.length ≤ 65536) && leNat (bs.take 4) == 0x47464E43 && bs.getD 4 0 == 1
    && leNat (part bs 24 4) == bs.length
    && (match imageSections bs with
      | some ss => !(imageEnrols bs) || (match sectionOf ss 5 with
        | some e => e.length == 265
        | none => false)
      | none => false)

/-- The enrolment section of an image: the integrator key and the vendor's signature. -/
def enrolment (bs : List Byte) : List Byte := ((imageSections bs).bind (fun ss => sectionOf ss 5)).getD []

/-- The vendor signature of an enrolment section verifies (R418). -/
def Lane.enrolOk (L : Lane) (bs : List Byte) : Bool :=
  let e := enrolment bs
  sigOk L.lc.otp.vendorKey (e.take 133 ++ padTo 16 L.lc.otp.serial) (e.drop 133)

/-- The signature of an image with a key. -/
def imageSigned (bs key : List Byte) : Bool := sigOk key (bs.take (bs.length - 132)) (bs.drop (bs.length - 132))

/-- An image under R419 in the present life-cycle state: the commit result code, 0 when it passes. -/
def Lane.imageCheck (L : Lane) (bs : List Byte) : Nat :=
  let enrolled := L.lc.otp.integratorKey.getD []
  if !(imageFormat bs) then 2
  else if part bs 8 16 ≠ padTo 16 L.lc.otp.serial then 3
  else match L.lc.state with
    | .blank => 0
    | .provisioned =>
      if !(imageSealed bs) || !(imageEnrols bs) then 5
      else if L.enrolOk bs && imageSigned bs ((enrolment bs).take 133) then 0 else 4
    | .field =>
      if !(imageSealed bs) || (imageEnrols bs && decide ((enrolment bs).take 133 ≠ enrolled)) then 5
      else if imageSigned bs enrolled then 0 else 4
    | .service =>
      if imageEnrols bs && decide ((enrolment bs).take 133 ≠ enrolled) then 5
      else if imageSigned bs enrolled then 0 else 4
    | .retired => 5

/-! ### The load of a configuration (R420, R421, R423, R425) -/

/-- The image that a bank's header describes. -/
def Lane.bankImage (L : Lane) (b : Nat) : List Byte := L.bytes (bankAddr b) (min 65536 (L.memWord (bankHead b + 4)).toNat)

/-- A bank can be taken. -/
def Lane.bankOk (L : Lane) (b : Nat) : Bool :=
  seqWritten (L.bankSeq b).toNat && L.bytes (bankHead b + 8) 64 == sha512 (L.bankImage b) && L.imageCheck (L.bankImage b) == 0

/-- The bank that boot takes: the newest that can be taken. -/
def Lane.bankTaken (L : Lane) : Option Nat :=
  (if newer (L.bankSeq 1).toNat (L.bankSeq 0).toNat then [1, 0] else [0, 1]).find? (fun b => L.bankOk b)

/-- The register loads of a section: 8 bytes each. -/
def Lane.loadRegs (L : Lane) (bs : List Byte) : Lane :=
  (List.range (bs.length / 8)).foldl (fun (L : Lane) i =>
    let r := part bs (8 * i) 8
    let b := (r.getD 0 0).toNat
    let a := blockBase b + (if grouped b then 0x1000 * ((r.getD 1 0).toNat % 16) else 0) + leNat (part r 2 2)
    if b ≤ 22 then L.putReg a (BitVec.ofNat 32 (leNat (part r 4 4))) else L) L

/-- The dictionary values of a section; those that are no value of a configuration entry are passed over. (Log entry 102: DEDUCED) -/
def Lane.loadValues (L : Lane) : Nat → List Byte → Lane
  | 0, _ => L
  | f + 1, bs =>
    if bs.length < 4 then L else
    let idx := leNat (bs.take 2)
    let sub := (bs.getD 2 0).toNat
    let n := (bs.getD 3 0).toNat
    let v := part bs 4 n
    let L := match entryListed idx sub with
      | some e => if (e.acc == Access.rws || e.acc == Access.img) && e.ty.fits v.length && L.inRange idx sub e v then L.entryStore idx sub v else L
      | none => L
    L.loadValues f (bs.drop (4 + n))

/-- Every register load and dictionary value of an image, in its order. (Log entry 67: DEDUCED) -/
def Lane.loadSections (L : Lane) (ss : List (Nat × List Byte)) : Lane :=
  ss.foldl (fun (L : Lane) c => if c.1 = 1 then L.loadRegs c.2 else if c.1 = 2 then L.loadValues c.2.length c.2 else L) L

/-- One calibration record applied (R425). -/
def Lane.calApply (L : Lane) (r : Nat × Nat × Nat × Word × Word) : Lane :=
  let a := blockBase r.1 + (if grouped r.1 then 0x1000 * (r.2.1 % 16) else 0) + r.2.2.1
  L.setReg a ((L.reg a &&& ~~~r.2.2.2.1) ||| (r.2.2.2.2 &&& r.2.2.2.1))

/-- The calibration area has never been written: the factory set stands. (Log entry 21: DESIGN CHOICE) -/
def Lane.calFactory (L : Lane) : Bool := leNat (L.bytes calAddr 4) != 0x4C414343

/-- Every record of the set in force applied; the factory set holds 0 for the offset of every current channel (R196, R425). -/
def Lane.calLoad (L : Lane) : Lane :=
  let M := (calRecords L.calSet).foldl Lane.calApply L
  if L.calFactory then M.eachGroup (fun M g => (List.range 4).foldl (fun (M : Lane) k => M.setFld F.SD_OFS_OFFSET 0 g k) M) else M

/-- The application whose digest the configuration requires: none required, or present. -/
def Lane.appOk (L : Lane) (want : List Byte) : Bool :=
  want.all (· == 0) || want == sha512 (L.bytes appAddr (min 983040 (L.memWord (appAddr + 16)).toNat))

/-- The application of a taken configuration runs: owned actuators and flags from its header behind the image header, its init entry called
with a budget of 10 ms (R345), its yard code copied to yard SRAM. (Log entries 113: DEDUCED, 114: DESIGN CHOICE, 196: DESIGN CHOICE) -/
def Lane.appStart (L : Lane) (want : List Byte) : Lane :=
  let h := appAddr + 0x200
  if want.all (· == 0) || L.memWord h != 0x50415948#32 then { L with ic := { L.ic with app := none } } else
  let own := (leNat (L.bytes (h + 8) 2), leNat (L.bytes (h + 10) 2))
  let L := { L with ic := { L.ic with app := some own, init := true, budgetEnd := some (L.now + ms 10), appBudget := true } }
  let o := (L.memWord (h + 0x14)).toNat
  let n := min 0x3F000 (L.memWord (h + 0x18)).toNat
  if n = 0 then L else L.setBytes 0x24000000 (L.bytes (appAddr + o) n)

/-- No bank can be taken: node 1, the object channel enabled at its reset bit timing, the lane-network ports left disabled. -/
def Lane.noConfig (L : Lane) : Lane :=
  let L := ([0x20, 0x24, 0x28] : List Nat).foldl (fun (L : Lane) o => L.setReg (blockBase 19 + o) (resetWord L.id (blockBase 19 + o))) L
  let L := { L with lc := { L.lc with loaded := true, taken := false, sealed := false, bank := 3, digest := List.replicate 64 0 } }
  ((L.setFld F.OC_CFG_NODE 1).setFld F.OC_CFG_ENABLE 1).ocJoin

/-- The network key of the lane's own entry (R420), which fails without a transport key; an image without the section brings none.
(Log entry 102: DEDUCED) -/
def Lane.unwrapKey (L : Lane) (ss : List (Nat × List Byte)) : Option Lane :=
  match sectionOf ss 4 with
  | none => some { L with lc := { L.lc with netKey := none } }
  | some w =>
    if w.length ≠ 72 then none
    else (L.lc.otp.trKey.bind (fun t => netKeyOf t (padTo 16 L.lc.otp.serial) L.id.index (part w (24 * L.id.index) 24))).map
      (fun k => { L with lc := { L.lc with netKey := some k } })

/-- A bank is taken: its values are loaded, its checks made, and the configuration is sealed where it says so; a check that fails sends the
lane to Withdrawn (R421). (Log entries 63: DEDUCED, 103: DEDUCED, 172: DESIGN CHOICE) -/
def Lane.takeBank (L : Lane) (b : Nat) (straps : Nat) : Lane :=
  let bs := L.bankImage b
  let ss := (imageSections bs).getD []
  let L := { L with cfg := .reset, lc := { L.lc with taken := true, bank := b, digest := sha512 bs, loaded := true } }
  let L := L.loadSections ss
  let L := { L with lc := { L.lc with strapExpect := L.cfg.straps } }
  let want := (sectionOf ss 3).getD []
  if !(L.appOk want) then L.bootFail else
  match L.unwrapKey ss with
  | none => ({ L with lc := { L.lc with netKey := none } }).raise F.LC_EVENT_KEY_FAIL |>.bootFail
  | some L =>
    if !L.calFactory && !(calOk L.calSet) then L.bootFail else
    let L := L.calLoad
    let judged := L.lc.state == .field || L.lc.state == .service
    if judged && straps % 256 != L.cfg.straps then L.bootFail else
    let L := { L with lc := { L.lc with sealed := imageSealed bs } }
    let L := if imageSealed bs then ((L.updPort 0 (fun s => { s with copy := some (L.guardTables 0) })).updPort 1 (fun s => { s with copy := some (L.guardTables 1) })) else L
    ((L.badStopReport.appStart want).portEnable 0).portEnable 1

/-- The straps as boot reads them, in Field and Service (R423). -/
def Lane.bootStraps (straps : Nat) (L : Lane) : Lane :=
  if L.lc.state = .field ∨ L.lc.state = .service then { L with lc := { L.lc with strapRead := straps % 256 } } else L

/-- After runtime entry boot takes the newest bank that can be taken, or none; the seal straps read `straps`. A Retired lane holds no
configuration and stays Withdrawn. -/
def Lane.configLoad (straps : Nat) (L : Lane) : Lane :=
  if !L.runtime || L.lc.loaded || !(L.ky.state == .booting || L.ky.state == .withdrawn) then L else
  let L := ({ L with lc := { L.lc with netKey := none } }).bootStraps straps
  if L.lc.state = .retired then
    let L := { L with lc := { L.lc with loaded := true } }
    if L.ky.state = .booting then L.toWithdrawn else L
  else match L.bankTaken with
    | none => L.noConfig.bootToBench
    | some b => (L.takeBank b straps).bootToBench

/-- Every 100 ms the running lane reads its straps: a change is told and counted, and has no other effect (R423).
(Log entries 35: DEDUCED, 103: DEDUCED) -/
def Lane.strapReadNow (pat : Nat) (L : Lane) : Lane :=
  if !L.runtime || !(L.lc.state == .field || L.lc.state == .service) || pat % 256 == L.lc.strapRead then L
  else (({ L with lc := { L.lc with strapRead := pat % 256 } }).raise F.LC_EVENT_STRAP_CHANGE).bump F.LC_CNT_STRAP_CHG

/-! ### Unlock (R323, R415) -/

/-- A new challenge, which voids the previous one. -/
def Lane.unlockChallenge (L : Lane) : Lane :=
  let r := L.drawBytes
  ({ r.2 with lc := { r.2.lc with challenge := some (padTo 32 r.1) } }).raise F.LC_EVENT_CHALLENGE

/-- A token that the lane accepts. (Log entries 22: DEDUCED, 100: DEDUCED) -/
def Lane.tokenOk (L : Lane) (t : List Byte) : Bool :=
  let key : Option (List Byte) := match (t.getD 4 0).toNat with
    | 0 => L.lc.otp.integratorKey
    | 1 => some L.lc.otp.vendorKey
    | _ => none
  t.length == 260 && t.getD 0 0 == 1 && bit (t.getD 1 0).toNat L.id.index
    && decide (1 ≤ leNat (part t 2 2)) && decide (leNat (part t 2 2) ≤ 480)
    && (match L.lc.challenge with
      | some c => part t (16 + 32 * L.id.index) 32 == c
      | none => false)
    && part t 112 16 == padTo 16 L.lc.otp.serial
    && (match key with
      | some k => sigOk k (t.take 128) (t.drop 128)
      | none => false)

/-- An unlock token in Field: the check consumes the challenge; an accepted one starts Service. (Log entry 100: DEDUCED) -/
def Lane.unlockToken (t : List Byte) (L : Lane) : Lane :=
  if L.lc.state ≠ .field || !L.servesWrites then L else
  let ok := L.tokenOk t
  let L := { L with lc := { L.lc with challenge := none } }
  if !ok then (L.raise F.LC_EVENT_TOKEN_BAD).bump F.LC_CNT_TOKEN_BAD else
  let L := { L with lc := { L.lc with overlay := some {
    began := L.now
    duration := sec (60 * leNat (part t 2 2))
    lanes := (t.getD 1 0).toNat % 8
    vendor := t.getD 4 0 == 1 } } }
  (L.raise F.LC_EVENT_SVC_START).eachGroup (fun L g => L.genUpdate g)

/-- The remaining Service time reaches 0: Field from this cycle on, and every permission that rests on Service ends; a lane whose active
configuration is unsealed resets (R411). The cellar counts whatever the lane does; in a lane held in reset nothing else ends.
(Log entries 34: DESIGN CHOICE, 99: DEDUCED) -/
def Lane.serviceTimeExpiry (L : Lane) : Lane :=
  match L.lc.overlay with
  | none => L
  | some o =>
    if L.now < o.began + L.cellarTime o.duration then L
    else if L.sy.resetHeld then { L with lc := { L.lc with overlay := none } }
    else
    let L := ({ L with lc := { L.lc with overlay := none } }).raise F.LC_EVENT_SVC_END
    let L := (L.eachGroup (fun L g => L.genUpdate g)).injWatch
    let L := L.when (L.st.prog == .direct) Lane.endRun
    let L := ({ L with fc := { L.fc with xinjLeft := 0 }, ln := { L.ln with injLeft := 0 }, sy := { L.sy with debugHalt := false } }).setFld F.FC_XINJ_ARM 0
    let L := L.setFld F.LN_INJ_ARM 0
    if L.lc.taken && !L.lc.sealed then L.rebootBy F.SY_RSTCAUSE_FW else L

/-! ### Attestation (R416, R417) -/

/-- A nonce starts the build of a report. -/
def Lane.attestationNonce (nonce : List Byte) (L : Lane) : Lane :=
  if !L.servesWrites then L else { L with lc := { L.lc with attest := some (L.now, padTo 32 nonce) } }

/-- The body of a report. -/
def Lane.reportBody (L : Lane) (nonce : List Byte) : List Byte :=
  leBytes 4 0x54505452 ++ [1, BitVec.ofNat 8 L.id.index, BitVec.ofNat 8 L.lc.state.code, BitVec.ofNat 8 L.lc.otp.step]
    ++ padTo 16 L.lc.otp.serial ++ padTo 64 (sha512 L.firmware) ++ padTo 64 L.lc.digest ++ padTo 64 (sha512 L.calSet)
    ++ leBytes 4 (if L.lc.bank < 2 then L.seqOf L.lc.bank else 0)
    ++ [BitVec.ofNat 8 (L.lc.slot + 128 * b2n L.lc.trial), BitVec.ofNat 8 (b2n L.lc.sealed + 2 * b2n L.latched), 0, 0]
    ++ leBytes 8 L.devTime ++ leBytes 4 (L.tallyWord 0 0 % 2 ^ 32) ++ [BitVec.ofNat 8 (L.fld F.FC_RCNT_COUNT), 0, 0, 0]
    ++ padTo 32 nonce ++ padTo 133 L.lc.otp.idPub ++ padTo 133 L.lc.otp.trPub ++ [0, 0]

/-- The report becomes readable, signed except in Blank and Retired. -/
def Lane.attestDone (L : Lane) : Lane :=
  match L.lc.attest with
  | none => L
  | some a =>
    let body := L.reportBody a.2
    let unsigned := L.lc.state == .blank || L.lc.state == .retired
    let sig := if unsigned then List.replicate 132 0 else padTo 132 (signature (L.lc.otp.idKey.getD []) body)
    ({ L with lc := { L.lc with attest := none, report := body ++ sig } }).raise F.LC_EVENT_ATTEST_DONE

/-! ### Commit (R419, R422) -/

/-- The bank that a commit writes. -/
def Lane.inactiveBank (L : Lane) : Nat := if L.lc.bank = 0 then 1 else 0

/-- A commit fails with a result code. -/
def Lane.commitFail (L : Lane) (code : Nat) : Lane :=
  ({ L with lc := { L.lc with result := code, commit := none } }).raise F.CF_EVENT_COMMIT_FAIL

/-- 0x7101 in Bench: the image in RAM is released (R323) and checked, the inactive bank erased and programmed; `ok`: the erase, the programming and the read-back
succeeded. -/
def Lane.configCommit (ok : Bool) (L : Lane) : Lane :=
  if L.ky.state ≠ .bench || L.lc.commit.isSome || !L.th.flashOk then L else
  let bs := L.lc.image
  let L := { L with lc := { L.lc with image := [] } }
  let code := L.imageCheck bs
  if code ≠ 0 then L.commitFail code else
  let b := L.inactiveBank
  let L := (L.eraseSpan (bankAddr b) 0x80000).program (bankAddr b) bs
  if ok then { L with lc := { L.lc with commit := some L.now } } else L.commitFail 6

/-- Steps 5 and 6 of a commit: the key of an enrolling image and Field into OTP, the header, the result, the record. (Log entry 31: DEDUCED) -/
def Lane.commitHeader (L : Lane) : Lane :=
  match L.lc.commit with
  | none => L
  | some _ =>
    let b := L.inactiveBank
    let bs := L.bytes (bankAddr b) (min 65536 (L.memWord (bankAddr b + 24)).toNat)
    let L := if L.lc.otp.lcs = .provisioned then
        { L with lc := { L.lc with otp := { L.lc.otp with lcs := .field, integratorKey := some ((enrolment bs).take 133) } } }
      else L
    let s := if L.lc.bank < 2 then seqNext (L.bankSeq L.lc.bank).toNat else 1
    let L := L.program (bankHead b) (leBytes 4 s ++ leBytes 4 bs.length ++ padTo 64 (sha512 bs))
    let L := { L with lc := { L.lc with commit := none, commitDone := some L.now, result := 1 } }
    ((L.log 7 3 0xFF 0 0xFFFF [s]).raise F.CF_EVENT_COMMIT_DONE).tally 7 2

/-- The commit completes and the lane resets into the new bank. (Log entries 34: DESIGN CHOICE, 211: DESIGN CHOICE) -/
def Lane.configCommitComplete (L : Lane) : Lane :=
  let L := L.commitHeader
  match L.lc.commitDone with
  | none => L
  | some _ => L.rebootBy F.SY_RSTCAUSE_FW

/-! ### Install (R426 to R429) -/

/-- The host reports a bit of 0x3020, on the lane's own network or through a sibling. (Log entry 104: DEDUCED) -/
def Lane.hostSays (L : Lane) (i : Nat) (f : CoordFrame → Bool) : Bool :=
  L.hostBit i || (L.cx.n.up && L.cx.coordN.any f) || (L.cx.p.up && L.cx.coordP.any f)

/-- The conditions on the lanes and the host under which an install opens. -/
def Lane.installLanes (L : Lane) : Bool :=
  let still := L.hostSays 3 (·.standstill)
  L.ky.state == .bench && ((L.sib .N == 4 && L.sib .P == 4 && (L.hostSays 2 (·.motionGrant) || still)) || (L.serviceCount == 0 && still))

/-- No install stands open, in verification or on trial. (Log entry 97: DEDUCED) -/
def Lane.installFree (L : Lane) : Bool := L.lc.install == 0 || decide (7 ≤ L.lc.install)

/-- An install opens: the sector of the inactive slot's header and journal is erased, and the install takes image blocks.
(Log entries 79: DEDUCED, 97: DEDUCED) -/
def Lane.installNow (size : Nat) (L : Lane) : Lane :=
  let L := L.eraseSector (slotHead (1 - L.lc.slot % 2))
  let L := { L with
    lc := { L.lc with
      instApp := false
      instSize := size
      instNext := 0
      stored := []
      deepOk := false
      trialBad := false
      lostLane := false }
    en := { L.en with bufs := [], noneAt := none } }
  L.setInstall 1

/-- 0x7200 sub-index 1 under its conditions. -/
def Lane.installOpen (size : Nat) (L : Lane) : Lane :=
  if !L.installLanes || !L.installFree || !L.th.flashOk then L else L.installNow size

/-- 0x7200 sub-index 2: verification of a stored image. (Log entry 79: DEDUCED) -/
def Lane.installVerify (L : Lane) : Lane :=
  if L.ky.state ≠ .bench || L.lc.install ≠ 2 || !L.th.flashOk then L else L.setInstall 3

/-- The image to install passes R414. -/
def Lane.instImageOk (L : Lane) : Bool :=
  if L.lc.instApp then (match L.lc.otp.integratorKey with
    | some k => L.imageOk L.instBase k
    | none => false)
  else L.imageOk L.instBase L.lc.otp.vendorKey

/-- Verification ends: the header is written and the lane resets, or the install has failed.
(Log entries 34: DESIGN CHOICE, 211: DESIGN CHOICE) -/
def Lane.verifyDone (L : Lane) : Lane :=
  if L.lc.install ≠ 3 then L
  else if !L.instImageOk then ((L.raise F.CF_EVENT_VERIFY_FAIL).bump F.CF_CNT_VERIFY_FAIL).setInstall 8
  else
    let h := L.bytes L.instBase 512
    let s := seqNext (L.slotSeq L.lc.slot)
    let L := L.program L.instHead (leBytes 4 s ++ padTo 64 (sha512 h) ++ part h 16 4 ++ [0xFF, 0xFF, 0xFF, 0xFF, 0xFF])
    (L.setInstall 4).rebootBy F.SY_RSTCAUSE_FW

/-- The target slot of an install is invalidated. -/
def Lane.invalidate (L : Lane) : Lane :=
  let a := if L.lc.install = 4 then L.instHead else slotHead L.lc.slot
  L.program (a + 76) [0]

/-- An install in states 1 to 6 is aborted (R429), once Tj permits the flash work (R406). (Log entries 34: DESIGN CHOICE, 208: DEDUCED) -/
def Lane.abortInstall (L : Lane) : Lane :=
  let n := L.lc.install
  if n = 0 ∨ 7 ≤ n ∨ !L.th.flashOk then L else
  let L := if n ≤ 3 then L.eraseSector L.instHead else L.invalidate
  let L := { L with en := { L.en with bufs := [] }, lc := { L.lc with lostLane := false } }
  let L := (L.raise F.CF_EVENT_INSTALL_ABORT).setInstall 9
  if 5 ≤ n then L.rebootBy F.SY_RSTCAUSE_FW else L

/-- INSTALL_ABORT: by the command of 0x7200 sub-index 3 in Bench (`cmd`), or because a lane has left Service. (Log entry 79: DEDUCED) -/
def Lane.installAbort (cmd : Bool) (L : Lane) : Lane :=
  if (cmd && L.ky.state == .bench) || (!cmd && L.lc.lostLane) then L.abortInstall else L

/-- A failed deep program or a Shadow mismatch ends the trial, once Tj permits the flash work (R406): the slot is invalidated and the lane resets into the confirmed one (R428).
(Log entries 34: DESIGN CHOICE, 208: DEDUCED) -/
def Lane.trialFail (L : Lane) : Lane :=
  if !L.lc.trialBad || !(L.lc.install == 5 || L.lc.install == 6) || !L.th.flashOk then L else
  let L := { L with lc := { L.lc with trialBad := false } }
  ((L.invalidate.raise F.CF_EVENT_TRIAL_FAIL).setInstall 8).rebootBy F.SY_RSTCAUSE_FW

/-- Entry to Service confirms the trial slot (R428), once Tj permits the flash work (R406). (Log entry 208: DEDUCED) -/
def Lane.confirm (L : Lane) : Lane :=
  if !L.lc.trial || !L.lc.deepOk || !(L.lc.install == 5 || L.lc.install == 6) || !L.th.flashOk then L else
  let L := (L.program (slotHead L.lc.slot + 72) [0]).raiseStep L.lc.slot
  (({ L with lc := { L.lc with trial := false } }).raise F.CF_EVENT_CONFIRMED).setInstall 7

/-! ### RETIRE and factory programming (R410, R360) -/

/-- RETIRE in Blank or Service: every secret key and the integrator key are zeroised, Retired is programmed; the lane resets and stays
Withdrawn. (Log entry 34: DESIGN CHOICE) -/
def Lane.retire (L : Lane) : Lane :=
  if L.sy.resetHeld || !(L.lc.state == .blank || L.lc.state == .service) then L else
  let L := { L with lc := { L.lc with
    otp := { L.lc.otp with lcs := .retired, idKey := none, trKey := none, integratorKey := none }
    overlay := none
    netKey := none } }
  let L := L.laneReset.release
  if L.ky.state = .booting then L.toWithdrawn else L

/-- Factory programming: Blank to Provisioned, with the identity and transport keys made and the vendor key programmed; the trapdoor entries
are cleared. -/
def Lane.factoryProvision (L : Lane) : Lane :=
  if L.sy.resetHeld || L.lc.state ≠ .blank then L else
  let r := L.drawBytes
  let q := r.2.drawBytes
  let L := { q.2 with lc := { q.2.lc with
    otp := { q.2.lc.otp with
      lcs := .provisioned
      idKey := some (padTo 66 r.1)
      trKey := some (padTo 66 q.1)
      vendorKey := Config.vendorKey
      idPub := padTo 133 (publicKey (padTo 66 r.1))
      trPub := padTo 133 (publicKey (padTo 66 q.1)) } } }
  L.trapClear

/-! ### The end of a wake (R389, R398, R399) -/

/-- The registers of the save area put back. -/
def Lane.restoreRegs (L : Lane) (rs : List (Nat × Word)) : Lane :=
  rs.foldl (fun (L : Lane) c => L.setReg c.1 ((L.reg c.1 &&& ~~~(BitVec.ofNat 32 (saveMask c.1))) ||| c.2)) L

/-- The configuration after a wake: the retained values where the save area is good and names the active image, else a load from flash.
(Log entry 105: DEDUCED) -/
def Lane.wakeConfig (same : Bool) (straps : Nat) (L : Lane) : Lane :=
  if same then L else
  let L := L.bootStraps straps
  match L.bankTaken with
    | none => L.noConfig
    | some b => L.takeBank b straps

/-- The links of a lane that wakes out of Cellar are enabled again. (Log entries 29: DEDUCED, 67: DEDUCED) -/
def Lane.wakeLinks (again : Bool) (L : Lane) : Lane :=
  if !again then L else
  let L := if L.lc.taken then (L.portEnable 0).portEnable 1 else L
  (L.setFld F.OC_CFG_ENABLE 1).ocJoin

/-- The deep program that a wake runs (R399): on all units, where one was interrupted from the unit at which it was (R373). -/
def Lane.wakeDeep (L : Lane) : Lane :=
  let left := L.st.todo
  let L := L.startProgram .deep
  { L with st := { L.st with todo := left ++ L.st.todo.filter (fun u => !(left.contains u)) } }

/-- A failed verification at a wake is a fatal fault (R398): no source of R350 is named for it, so the record names none.
(Log entries 32: DEDUCED, 33: DEDUCED) -/
def Lane.wakeFail (L : Lane) : Lane := ((L.raise F.FC_EVENT_FATAL).log 0 2 0xFF 0 0xFFFF []).bootFail

/-- A wake whose slot was verified: the runtime is entered, the configuration stands, the links run, and the deep program starts. -/
def Lane.wakeEnter (same cellar : Bool) (straps : Nat) (L : Lane) : Lane :=
  let L := { L with lc := { L.lc with booted := true, loaded := true } }
  let L := (L.raise F.PM_EVENT_WOKE).wakeConfig same straps
  L.when (L.ky.state == .bench) (fun L => (L.wakeLinks (cellar && same)).wakeDeep)

/-- The save area is put back, or found bad. -/
def Lane.wakeRestore (saveOk : Bool) (L : Lane) : Lane :=
  let saved := L.pm.saved.getD ([], [])
  let L := { L with pm := { L.pm with level := .awake, phase := .none, saved := if saveOk then L.pm.saved else none, wakes := 0 }, tl := { L.tl with windowAt := L.ky.tick } }
  if saveOk then L.restoreRegs saved.1 else L.raise F.PM_EVENT_LARDER_BAD

/-- Domains are restored and verified, the runtime is entered: `saveOk` says that the save area's CRC passed, `slotOk` that the boot ROM
verified the active slot, `straps` what a load from flash would read. (Log entries 33: DEDUCED, 110: DEDUCED) -/
def Lane.wakeComplete (saveOk slotOk : Bool) (straps : Nat) (L : Lane) : Lane :=
  if L.pm.level ≠ .waking then L else
  let same := saveOk && (L.pm.saved.getD ([], [])).2 == L.lc.digest
  let cellar := L.pm.cellar
  let L := L.wakeRestore saveOk
  if slotOk then L.wakeEnter same cellar straps
  else ({ L with ic := { L.ic with halted := true } }).wakeFail

end Sys2Proof.Machine
end

