-- ==== Sys2Proof/Machine/ObjectChannel.lean ====
section
/-! DEFINITION. The object channel of a lane (R287 to R300): messages, the checks of a request, transfers, requests in progress, duplicates, and
the CAN FD carrier. -/

namespace Sys2Proof.Machine

/-! ### Messages (R287, R288, R300) -/

/-- The status codes of R289 that the lane forms. -/
def stOk : Nat := 0x00
def stBusy : Nat := 0x01
def stNoEntry : Nat := 0x02
def stAccess : Nat := 0x03
def stState : Nat := 0x04
def stRange : Nat := 0x05
def stLength : Nat := 0x06
def stSequence : Nat := 0x07
def stCheck : Nat := 0x08
def stNoResource : Nat := 0x09
def stTemp : Nat := 0x0B
def stService : Nat := 0x0C
def stSegmented : Nat := 0x0D

/-- The service codes of R288. -/
def svcRead : Nat := 1
def svcWrite : Nat := 2
def svcReadSeg : Nat := 3
def svcWriteInit : Nat := 4
def svcWriteSeg : Nat := 5
def svcWriteEnd : Nat := 6
def svcAbort : Nat := 7

/-- A request as bytes. -/
def ObjHead.bytes (h : ObjHead) (data : List Byte) : List Byte :=
  [BitVec.ofNat 8 h.service, 0] ++ leBytes 2 h.rid ++ leBytes 2 h.index ++ [BitVec.ofNat 8 h.sub, BitVec.ofNat 8 h.client]
    ++ leBytes 2 data.length ++ data

/-- A message taken apart; none when it is shorter than its header or than its data. (Log entry 69: DEDUCED) -/
def parseMsg (bs : List Byte) : Option (ObjHead × List Byte) :=
  let n := leNat (part bs 8 2)
  if bs.length < 10 + n then none
  else some (⟨(bs.getD 0 0).toNat, leNat (part bs 2 2), leNat (part bs 4 2), (bs.getD 6 0).toNat, (bs.getD 7 0).toNat⟩, part bs 10 n)

/-- The device's service-response slots of the active mode in the order in which their lock points come (R253, R300). -/
def Lane.responseSlots (L : Lane) : List Nat :=
  let all := (List.range (L.nslot L.ln.mode)).filter (fun s => L.txKind L.ln.mode s == some 3)
  let ahead (s : Nat) : Bool := decide (L.devTime + 5000 < L.ln.cycStart + 1000 * L.slotStart L.ln.mode s)
  all.filter ahead ++ all.filter (fun s => !(ahead s))

/-- The length of the service-response slot that the next response will go in, behind those that wait. (Log entry 74: DEDUCED) -/
def Lane.netSlotLen (L : Lane) : Nat :=
  match L.responseSlots with
  | [] => 0
  | x :: xs => L.txEntryLen L.ln.mode ((x :: xs).getD (L.oc.netTx.length % (xs.length + 1)) x)

/-- The capacity C of a carrier. (Log entry 74: DEDUCED) -/
def Lane.capacity (L : Lane) : Carrier → Nat
  | .can => 54
  | .net => L.netSlotLen - 10

/-! ### Responses (R290, R294) -/

/-- The lane takes requests: Bench, Shadow, Service, and Withdrawn for reads. -/
def Lane.answers (L : Lane) : Bool := L.servesWrites || L.ky.state == .withdrawn

/-- The CAN frames that a message takes (R298). -/
def Lane.canFrames (L : Lane) (n : Nat) : Nat := if L.flag F.OC_CFG_FD then 1 else (n + 7) / 8

/-- The octets of their data fields, padding included. (Log entry 76: DEDUCED) -/
def Lane.canBytes (L : Lane) (n : Nat) : Nat :=
  if L.flag F.OC_CFG_FD then (([8, 12, 16, 20, 24, 32, 48] : List Nat).find? (fun k => decide (n ≤ k))).getD 64 else 8 * ((n + 7) / 8)

/-- The identifier of part `p` of a message that the lane sends to a client (R297). -/
def Lane.canId (L : Lane) (client p : Nat) (last : Bool) : Nat :=
  2 ^ 24 * L.fld F.OC_CFG_BASE + 2 ^ 23 + 2 ^ 17 * L.fld F.OC_CFG_NODE + 2 ^ 15 * L.id.index + 2 ^ 11 * (client % 16) + 2 ^ 7 * (p % 8)
    + 2 ^ 6 * b2n last

/-- The frames of a response, each with its identifier and its data field: one CAN FD frame, or classical parts of 8 bytes (R298). -/
def Lane.canWire (L : Lane) (r : ObjResp) : List (Nat × List Byte) :=
  let n := L.canFrames r.bytes.length
  let bs := padTo (L.canBytes r.bytes.length) r.bytes
  (List.range n).map (fun p =>
    (L.canId r.head.client p (p + 1 == n), if n = 1 then bs else part bs (8 * p) 8))

/-- A response handed to its carrier. (Log entry 76: DEDUCED) -/
def Lane.send (L : Lane) (c : Carrier) (r : ObjResp) : Lane :=
  let L := { L with oc := { L.oc with last := some r } }
  match c with
  | .net => { L with oc := { L.oc with netTx := L.oc.netTx ++ [r] } }
  | .can =>
    if !L.oc.on then L else
    let n := 10 + r.data.length
    (({ L with oc := { L.oc with canTx := L.oc.canTx ++ [(r, L.now)], wire := L.canWire r, canAt := L.now } }).tally 19 0 (L.canFrames n)).tally 19 2 (L.canBytes n)

/-- The window of a client. -/
def Lane.window (L : Lane) (client : Nat) : List (Nat × Option ObjResp) :=
  ((L.oc.windows.find? (fun c => c.1 == client)).map (·.2)).getD []

def Lane.setWindow (L : Lane) (client : Nat) (w : List (Nat × Option ObjResp)) : Lane :=
  { L with oc := { L.oc with windows := (client, w) :: L.oc.windows.filter (fun (c : Nat × List (Nat × Option ObjResp)) => c.1 != client) } }

/-- What the window holds for an identifier: none when it is new. -/
def Lane.known (L : Lane) (client rid : Nat) : Option (Option ObjResp) := ((L.window client).find? (fun c => c.1 == rid)).map (·.2)

/-- A new identifier enters its client's window of 16. -/
def Lane.enter (L : Lane) (client rid : Nat) : Lane := L.setWindow client (((rid, none) :: L.window client).take 16)

/-- The final response of a request: cached with its identifier and sent. -/
def Lane.finish (L : Lane) (c : Carrier) (h : ObjHead) (status : Nat) (data : List Byte) : Lane :=
  let r : ObjResp := { head := h, status := status, data := data }
  let L := L.setWindow h.client ((L.window h.client).map (fun e => if e.1 = h.rid then (e.1, some r) else e))
  (L.send c r).tally 19 4

/-- A BUSY. -/
def Lane.sendBusy (L : Lane) (c : Carrier) (h : ObjHead) : Lane := L.send c { head := h, status := stBusy, data := [] }

/-! ### Transfers (R291) -/

def Lane.xferOf (L : Lane) (client : Nat) : Option XferS := L.oc.xfers.find? (fun x => x.client == client)

def Lane.dropXfer (L : Lane) (client : Nat) : Lane :=
  { L with oc := { L.oc with xfers := L.oc.xfers.filter (fun (x : XferS) => x.client != client) } }

/-- The open transfer of a client is closed unfinished. -/
def Lane.closeXfer (L : Lane) (client : Nat) : Lane :=
  match L.xferOf client with
  | none => L
  | some x => (L.dropXfer client).when x.write (·.raise F.OC_EVENT_XFER_CLOSED)

/-- A transfer opened or changed. -/
def Lane.putXfer (L : Lane) (x : XferS) : Lane :=
  { L.dropXfer x.client with oc := { (L.dropXfer x.client).oc with xfers := x :: (L.dropXfer x.client).oc.xfers } }

/-- A request of a client ends its idle time. -/
def Lane.touch (L : Lane) (client : Nat) : Lane :=
  match L.xferOf client with
  | none => L
  | some x => L.putXfer { x with last := L.now }

/-- The client's transfer, of the direction asked for, to the entry that the request names. (Log entry 72: DEDUCED) -/
def Lane.xferFor (L : Lane) (h : ObjHead) (write : Bool) : Option XferS :=
  (L.xferOf h.client).filter (fun x => x.write == write && x.index == h.index && x.sub == h.sub)

/-! ### Commands of the dictionary (R324) -/

/-- The condition of a command. -/
def Lane.cmdMay (L : Lane) (idx sub : Nat) : Bool :=
  match idx with
  | 0x3012 => L.ky.holder == some L.id
  | 0x3021 => L.ky.state == .bench
  | 0x3022 => L.ky.state == .service
  | 0x3050 => if sub = 1 then L.ky.state == .service else if sub = 2 then L.ky.state == .bench else L.ky.holder == some L.id
  | 0x4310 => L.ln.state == .sync && L.ln.pend.isNone
  | 0x7011 => L.lc.state == .field && L.servesWrites
  | 0x7020 => L.servesWrites
  | 0x7101 => L.ky.state == .bench
  | 0x7200 => if sub = 1 then L.installLanes && L.installFree else L.ky.state == .bench && (sub != 2 || L.lc.install == 2)
  | _ => if idx / 0x1000 = 2 ∧ idx % 256 = 0x18 then (if sub = 1 then L.ky.state == .bench else L.lc.state == .service && L.servesWrites) else false

/-- SET_PROFILE: the profile that the holder places in its next shelf (R61, R310). -/
def Lane.setProfile (v : Nat) (L : Lane) : Lane :=
  if L.ky.holder = some L.id ∧ v ≤ 3 then { L with ky := { L.ky with profileReq := some v } } else L

/-- START_COMMAND: the start command of 0x3021, reported in the lane's coordination frames while it is in Bench (R47).
(Log entry 46: DEDUCED) -/
def Lane.startCommand (L : Lane) : Lane := if L.ky.state = .bench then { L with ky := { L.ky with startCmd := true } } else L

/-- STOP_COMMAND: the stop command of 0x3022 (R50). (Log entry 46: DEDUCED) -/
def Lane.stopCommand (L : Lane) : Lane := if L.ky.state = .service then { L with ky := { L.ky with stopCmd := true } } else L

/-- The action of a command that causes no flash work, with the status of its response. -/
def Lane.cmdRun (L : Lane) (idx sub : Nat) (bs : List Byte) : Lane × Nat :=
  let v := numOf bs
  match idx with
  | 0x3012 => (L.setProfile v, stOk)
  | 0x3021 => (L.startCommand, stOk)
  | 0x3022 => (L.stopCommand, stOk)
  | 0x3050 => (if sub = 1 then L.benchCmd else if sub = 2 then L.readmitCmd else L.releaseCmd, stOk)
  | 0x4310 => (L.lnMreqGo (F.LN_MREQ_GO.put (F.LN_MREQ_MODE.put 0 v) 1), stOk)
  | 0x7011 => (L.unlockToken bs, if L.tokenOk bs then stOk else stRange)
  | 0x7020 => (L.attestationNonce bs, stOk)
  | _ => (if sub = 1 then L.setRef (actOf idx) else L.alignCapture (actOf idx), stOk)

/-! ### The checks of a request (R290, R305, R308, R309, R323) -/

/-- A write whose final response waits for flash work. -/
def flashWork (h : ObjHead) : Bool := (h.service == svcWrite || h.service == svcWriteEnd) && flashEntry h.index

/-- The value that a WRITE or WRITE_END brings. -/
def Lane.written (L : Lane) (h : ObjHead) (data : List Byte) : List Byte :=
  if h.service = svcWriteEnd then (match L.xferFor h true with
    | some x => x.data
    | none => [])
  else data

/-- Eight requests are in progress, or a transfer would be the fifth. (Log entry 71: DEDUCED) -/
def Lane.noResource (L : Lane) (c : Carrier) (h : ObjHead) : Bool :=
  let opens := h.service == svcWriteInit || (h.service == svcRead && decide (L.capacity c < (L.entryRead h.index h.sub).length))
  decide (8 ≤ L.oc.inprog.length) || (opens && decide (4 ≤ (L.oc.xfers.filter (fun x => x.client != h.client)).length))

/-- WRITE_END: all bytes received, size and CRC-32C match. Without a transfer there is nothing to check. (Log entry 72: DEDUCED) -/
def Lane.checkFits (L : Lane) (h : ObjHead) (data : List Byte) : Bool :=
  match L.xferFor h true with
  | some x => h.service != svcWriteEnd || data.length != 8
      || (x.data.length == x.size && leNat (data.take 4) == x.size && leNat (data.drop 4) == (crc32c x.data).toNat)
  | none => true

/-- A transfer is open, and the offset of WRITE_SEG fits it (R292). (Log entry 72: DEDUCED) -/
def Lane.sequenceFits (L : Lane) (h : ObjHead) (data : List Byte) : Bool :=
  if h.service = svcReadSeg then (L.xferFor h false).isSome
  else if h.service = svcWriteSeg then (match L.xferFor h true with
    | some x => decide (data.length < 4)
        || (decide (leNat (data.take 4) ≤ x.data.length) && decide (leNat (data.take 4) + (data.length - 4) ≤ x.size))
    | none => false)
  else if h.service = svcWriteEnd then (L.xferFor h true).isSome
  else if h.service = svcAbort then (L.xferFor h true).isSome || (L.xferFor h false).isSome
  else true

/-- DLEN fits the service, and the length of a value its entry. -/
def Lane.lengthFits (L : Lane) (h : ObjHead) (e : Option Entry) (data : List Byte) : Bool :=
  let typed (n : Nat) : Bool := match e with
    | some e => e.ty.fits n
    | none => true
  if h.service = svcRead ∨ h.service = svcAbort then data.length == 0
  else if h.service = svcWrite then typed data.length
  else if h.service = svcReadSeg then data.length == 4
  else if h.service = svcWriteInit then data.length == 4 && between (leNat data) 1 65536 && typed (leNat data)
  else if h.service = svcWriteSeg then decide (4 ≤ data.length)
  else data.length == 8 && typed (L.written h data).length

/-- The value, or the offset of READ_SEG, lies in its range. -/
def Lane.rangeFits (L : Lane) (h : ObjHead) (e : Option Entry) (data : List Byte) : Bool :=
  if h.service = svcReadSeg then (match L.xferFor h false with
    | some x => decide (leNat data ≤ x.size)
    | none => true)
  else if h.service = svcWrite ∨ h.service = svcWriteEnd then (match e with
    | some e => L.inRange h.index h.sub e (L.written h data)
    | none => true)
  else true

/-- The lane state and the life-cycle state allow the request; an image write that WRITE_INIT announces is judged by its value at WRITE_END.
(Log entry 73: DEDUCED) -/
def Lane.stateFits (L : Lane) (h : ObjHead) (e : Option Entry) (data : List Byte) : Bool :=
  if h.service = svcRead ∨ h.service = svcReadSeg then true
  else if L.ky.state = .withdrawn then false
  else if h.service = svcWrite ∨ h.service = svcWriteEnd ∨ h.service = svcWriteInit then (match e with
    | some e =>
      if e.acc = .cmd then L.cmdMay h.index h.sub
      else if h.service = svcWriteInit ∧ e.acc = .img then L.servesWrites
      else L.stateMay h.index h.sub e (L.written h data)
    | none => true)
  else true

/-- The access code allows the service. -/
def accessFits (h : ObjHead) (e : Option Entry) : Bool :=
  match e with
  | none => true
  | some e =>
    if h.service = svcRead then !(e.acc == .wo || e.acc == .cmd)
    else if h.service = svcWrite ∨ h.service = svcWriteInit ∨ h.service = svcWriteEnd then e.acc != .ro
    else true

/-- The entry is present; a selected log record that has been overwritten is not. -/
def Lane.present (L : Lane) (h : ObjHead) (e : Option Entry) : Bool :=
  if h.service = svcReadSeg ∨ h.service = svcWriteSeg ∨ h.service = svcAbort then true
  else e.isSome && !(h.service == svcRead && h.index == 0x6F00 && h.sub == 4 && L.fc.logged != 0 && !(L.recHeld L.oc.record))

/-- The first check that fails, from 0x0B down to 0x02; 0 when all pass. (Log entries 72: DEDUCED, 73: DEDUCED) -/
def Lane.verdict (L : Lane) (c : Carrier) (h : ObjHead) (data : List Byte) : Nat :=
  let e := entryAt h.index h.sub
  if flashWork h && !L.th.flashOk then stTemp
  else if L.noResource c h then stNoResource
  else if !(L.checkFits h data) then stCheck
  else if !(L.sequenceFits h data) then stSequence
  else if !(L.lengthFits h e data) then stLength
  else if !(L.rangeFits h e data) then stRange
  else if !(L.stateFits h e data) then stState
  else if !(accessFits h e) then stAccess
  else if !(L.present h e) then stNoEntry
  else stOk

/-! ### Execution -/

/-- A request joins those in progress. (Log entry 70: DEDUCED) -/
def Lane.addJob (L : Lane) (c : Carrier) (h : ObjHead) (j : FlashJob) : Lane :=
  { L with oc := { L.oc with inprog := L.oc.inprog ++ [{ head := h, carrier := c, since := L.now, lastBusy := L.now, job := j }] } }

/-- A write that flash work finishes: the work starts, and with it what does not wait for its end. (Log entry 79: DEDUCED) -/
def Lane.startWork (L : Lane) (c : Carrier) (h : ObjHead) (bs : List Byte) : Lane :=
  if h.index = 0x5010 then L.addJob c h (.record bs)
  else if h.index = 0x7300 then L.addJob c h (.calibration bs)
  else if h.index = 0x7101 then (L.drawBool.2.addJob c h .commit).configCommit L.drawBool.1
  else if h.sub = 1 then L.addJob c h (.openInstall (numOf bs))
  else if h.sub = 2 then (L.addJob c h .verify).installVerify
  else (L.addJob c h .abort).installAbort true

/-- The register that an image entry names is read: what is due by now is done first, and a low word of LN_TIME and LN_CYC latches its high
word (R317). -/
def Lane.imageFetch (L : Lane) (a : Nat) : Lane :=
  let L := L.beforeRead a
  (L.when (a == F.LN_TIME_LO.addr 0 0) (·.lnTimeRead false)).when (a == F.LN_CYC_LO.addr 0 0) (·.lnTimeRead true)

/-- READ: the value, or a snapshot of a value wider than C. A read of 0x7010 draws its challenge first. -/
def Lane.readValue (L : Lane) (c : Carrier) (h : ObjHead) : Lane :=
  let L := L.when (h.index == 0x7010) Lane.unlockChallenge
  let L := match imageAddr h.index h.sub with
    | some a => L.imageFetch a
    | none => L
  let v := L.entryRead h.index h.sub
  let L := { L with fresh := L.fresh + 1 }
  if v.length ≤ L.capacity c then L.finish c h stOk v else
  let L := (L.closeXfer h.client).putXfer ⟨h.client, false, h.index, h.sub, v.length, v, L.now⟩
  L.finish c h stSegmented (leBytes 4 v.length)

/-- A whole value reaches its entry. -/
def Lane.writeValue (L : Lane) (c : Carrier) (h : ObjHead) (bs : List Byte) : Lane :=
  if flashEntry h.index then L.startWork c h bs
  else match entryAt h.index h.sub with
    | some e =>
      if e.acc = .cmd then
        let r := L.cmdRun h.index h.sub bs
        r.1.finish c h r.2 []
      else (L.entryStore h.index h.sub bs).finish c h stOk []
    | none => L

/-- WRITE_SEG: bytes appended, or those that an offset below covers rewritten. -/
def segData (old : List Byte) (o : Nat) (bs : List Byte) : List Byte := old.take o ++ bs ++ old.drop (o + bs.length)

/-- A request that has passed its checks. -/
def Lane.execute (L : Lane) (c : Carrier) (h : ObjHead) (data : List Byte) : Lane :=
  if h.service = svcRead then L.readValue c h
  else if h.service = svcWrite then L.writeValue c h data
  else if h.service = svcReadSeg then (match L.xferFor h false with
    | some x => L.finish c h stOk (part x.data (leNat data) (L.capacity c))
    | none => L)
  else if h.service = svcWriteInit then
    ((L.closeXfer h.client).putXfer ⟨h.client, true, h.index, h.sub, leNat data, [], L.now⟩).finish c h stOk []
  else if h.service = svcWriteSeg then (match L.xferFor h true with
    | some x => (L.putXfer { x with data := segData x.data (leNat (data.take 4)) (data.drop 4) }).finish c h stOk []
    | none => L)
  else if h.service = svcWriteEnd then
    (if h.index = 0x7011 ∧ !(L.tokenOk (L.written h data)) then L.closeXfer h.client else L.dropXfer h.client).writeValue c h (L.written h data)
  else (L.closeXfer h.client).finish c h stOk []

/-- The status that the checks of a request come to: an unknown service code first, and in Withdrawn every service but the reads is answered with
STATE (R290). -/
def Lane.judged (L : Lane) (c : Carrier) (h : ObjHead) (data : List Byte) : Nat :=
  if h.service < 1 ∨ 7 < h.service then stService
  else if L.ky.state = .withdrawn ∧ h.service ≠ svcRead ∧ h.service ≠ svcReadSeg then stState else L.verdict c h data

/-- A request is executed, or answered with the check that fails (R290). A WRITE_END that fails closes its transfer. -/
def Lane.judge (L : Lane) (c : Carrier) (h : ObjHead) (data : List Byte) : Lane :=
  let v := L.judged c h data
  if v = stOk then L.execute c h data else
  let L := L.when (v == stNoResource) (·.raise F.OC_EVENT_NO_RESOURCE)
  let L := L.when (h.service == svcWriteEnd && (L.xferFor h true).isSome) (·.closeXfer h.client)
  L.finish c h v []

/-- The received message of a request leaves the queue. -/
def Lane.takeMsg (L : Lane) (c : Carrier) (bs : List Byte) : Lane := { L with oc := { L.oc with rx := L.oc.rx.erase (c, bs) } }

/-- A repeated identifier: the cached response, or a BUSY while the request is in progress, on the carrier of the repeat. -/
def Lane.duplicate (L : Lane) (c : Carrier) (h : ObjHead) (r : Option ObjResp) : Lane :=
  let L := match r with
    | some r => L.send c r
    | none => L.sendBusy c h
  (L.raise F.OC_EVENT_DUP).bump F.OC_CNT1_DUP

/-- A request writes the value of an entry. -/
def writesValue (h : ObjHead) : Bool :=
  (h.service == svcWrite || h.service == svcWriteEnd) && (entryAt h.index h.sub).any (fun e => e.acc != .cmd)

/-- A request must follow an earlier one: of its own client, or that writes the same entry (R290). -/
def follows (h earlier : ObjHead) : Bool :=
  h.client == earlier.client || (writesValue h && writesValue earlier && h.index == earlier.index && h.sub == earlier.sub)

/-- A request has to wait for one in progress. (Log entry 70: DEDUCED) -/
def Lane.mustWait (L : Lane) (h : ObjHead) : Bool := L.oc.inprog.any (fun r => follows h r.head)

/-- A request accepted on carrier `c`: a repeat is answered from its client's window; a new one is executed, or waits in progress while one that it
must follow does. -/
def Lane.accept (c : Carrier) (h : ObjHead) (data : List Byte) (L : Lane) : Lane :=
  if !L.answers then L else
  let L := L.touch h.client
  match L.known h.client h.rid with
  | some r => L.duplicate c h r
  | none =>
    let L := L.enter h.client h.rid
    if L.mustWait h && decide (L.oc.inprog.length < 8) then L.addJob c h (.wait data) else L.judge c h data

/-- A request on carrier `c`, whose message leaves the queue. (Log entry 70: DEDUCED) -/
def Lane.serve (c : Carrier) (h : ObjHead) (data : List Byte) (L : Lane) : Lane := (L.takeMsg c (h.bytes data)).accept c h data

/-- The head of a request of one service. -/
def headOf (service client rid index sub : Nat) : ObjHead :=
  { service := service, rid := rid % 65536, index := index % 65536, sub := sub % 256, client := client % 16 }

def Lane.readRequest (c : Carrier) (client rid index sub : Nat) (L : Lane) : Lane := L.serve c (headOf svcRead client rid index sub) []
def Lane.writeRequest (c : Carrier) (client rid index sub : Nat) (data : List Byte) (L : Lane) : Lane :=
  L.serve c (headOf svcWrite client rid index sub) data
def Lane.readSegRequest (c : Carrier) (client rid index sub offset : Nat) (L : Lane) : Lane :=
  L.serve c (headOf svcReadSeg client rid index sub) (leBytes 4 offset)
def Lane.writeInitRequest (c : Carrier) (client rid index sub size : Nat) (L : Lane) : Lane :=
  L.serve c (headOf svcWriteInit client rid index sub) (leBytes 4 size)
def Lane.writeSegRequest (c : Carrier) (client rid index sub offset : Nat) (data : List Byte) (L : Lane) : Lane :=
  L.serve c (headOf svcWriteSeg client rid index sub) (leBytes 4 offset ++ data)
def Lane.writeEndRequest (c : Carrier) (client rid index sub size : Nat) (crc : Word) (L : Lane) : Lane :=
  L.serve c (headOf svcWriteEnd client rid index sub) (leBytes 4 size ++ wordBytes crc)
def Lane.abortRequest (c : Carrier) (client rid index sub : Nat) (L : Lane) : Lane := L.serve c (headOf svcAbort client rid index sub) []

/-! ### In progress (R293) -/

/-- A BUSY every 5 ms while a request is in progress; the first one within 5 ms of its acceptance. -/
def Lane.busyInterval (client rid : Nat) (L : Lane) : Lane :=
  match L.oc.inprog.find? (fun r => r.head.client == client && r.head.rid == rid) with
  | none => L
  | some r =>
    if r.lastBusy ≠ r.since ∧ L.now < r.lastBusy + us 4500 then L else
    let L := { L with oc := { L.oc with
      inprog := L.oc.inprog.map (fun (q : ReqS) => if q.head = r.head then { q with lastBusy := L.now } else q) } }
    L.sendBusy r.carrier r.head

/-- What the end of flash work does, with the final status. A commit or a verification that has failed answers a status that the manual does
not name. (Log entry 81: DESIGN CHOICE) -/
def Lane.endWork (L : Lane) (j : FlashJob) : Lane × Nat :=
  match j with
  | .record bs => ({ L with fc := { L.fc with ioReport := bs } }, stOk)
  | .calibration bs => ((L.eraseSpan calAddr 0x40000).program calAddr bs, stOk)
  | .commit => if L.lc.commit.isSome then (L.commitHeader, stOk) else (L.drawNat.2, L.drawNat.1 % 14)
  | .openInstall n => (L.installNow n, stOk)
  | .verify => if L.lc.install == 3 && L.instImageOk then (L, stOk) else (L.drawNat.2, L.drawNat.1 % 14)
  | .abort => (L, stOk)
  | .wait _ => (L, stOk)

/-- The data of a request that waits; none when its own flash work is under way. -/
def ReqS.waits (r : ReqS) : Option (List Byte) :=
  match r.job with
  | .wait data => some data
  | _ => none

/-- The first request that waits and has nothing left to follow: `busy` are the requests under way, `before` those that wait and came earlier. -/
def nextWaiting (busy : List ReqS) : List ReqS → List ReqS → Option (ReqS × List Byte)
  | _, [] => none
  | before, r :: rs =>
    match r.waits with
    | none => nextWaiting busy before rs
    | some data =>
      if busy.any (fun q => follows r.head q.head) || before.any (fun q => follows r.head q.head) then nextWaiting busy (r :: before) rs
      else some (r, data)

/-- The requests that waited are executed in order, as far as nothing that they must follow is in progress. -/
def Lane.runWaiting : Nat → Lane → Lane
  | 0, L => L
  | f + 1, L =>
    match nextWaiting (L.oc.inprog.filter (fun r => r.waits == none)) [] L.oc.inprog with
    | none => L
    | some (r, data) =>
      let L := { L with oc := { L.oc with inprog := L.oc.inprog.filter (fun (q : ReqS) => q.head != r.head) } }
      (L.judge r.carrier r.head data).runWaiting f

/-- FLASH_WORK_DONE: the final response of the request, and then those that waited for it. A verification ends in its result. -/
def Lane.flashWorkDone (client rid : Nat) (L : Lane) : Lane :=
  match L.oc.inprog.find? (fun r => r.head.client == client && r.head.rid == rid) with
  | none => L
  | some r =>
    match r.job with
    | .wait _ => L
    | j =>
      let L := { L with oc := { L.oc with inprog := L.oc.inprog.filter (fun (q : ReqS) => q.head != r.head) } }
      let e := L.endWork j
      let L := (e.1.finish r.carrier r.head e.2 []).runWaiting 8
      if j = .verify then L.verifyDone else L

/-- XFER_TO in ms. -/
def Lane.xferTo (L : Lane) : Nat := L.fldIn F.OC_TIME_XFER_TO 100 60000

/-- XFER_TO of idle time closes a client's transfer. -/
def Lane.xferTimeout (client : Nat) (L : Lane) : Lane :=
  match L.xferOf client with
  | none => L
  | some x => if L.now < x.last + ms L.xferTo then L else (L.closeXfer client).raise F.OC_EVENT_XFER_TIMEOUT

/-! ### CAN (R296 to R299) -/

/-- The request commands can spell a message: a known service with as many data bytes as their operands make. -/
def spelled (h : ObjHead) (n : Nat) : Bool :=
  if h.service = svcRead ∨ h.service = svcAbort then n == 0
  else if h.service = svcReadSeg ∨ h.service = svcWriteInit then n == 4
  else if h.service = svcWriteSeg then decide (4 ≤ n)
  else if h.service = svcWriteEnd then n == 8
  else h.service == svcWrite

/-- A received message that is none is dropped, and one that no request command spells is accepted here: its service code is unknown or its DLEN
fits no such service (R289). (Log entry 69: DEDUCED) -/
def Lane.scanRx (L : Lane) : Lane :=
  if !(L.acts .core 0x20 && L.runtime) then L else
  L.oc.rx.foldl (fun (L : Lane) m =>
    match parseMsg m.2 with
    | none => L.takeMsg m.1 m.2
    | some (h, d) => if spelled h d.length then L else (L.takeMsg m.1 m.2).accept m.1 h d) L

/-- A message is discarded. (Log entry 75: DEDUCED) -/
def Lane.ocDiscard (L : Lane) : Lane :=
  (({ L with oc := { L.oc with part := none } }).raise F.OC_EVENT_RX_DISCARD).bump F.OC_CNT1_RX_DISCARD

/-- A whole message of a client. -/
def Lane.canMessage (L : Lane) (client : Nat) (bs : List Byte) : Lane :=
  let L := { L with oc := { L.oc with part := none } }
  match parseMsg bs with
  | none => L.ocDiscard
  | some (h, d) =>
    if h.client ≠ client then L.ocDiscard
    else ({ L with oc := { L.oc with rx := L.oc.rx ++ [(Carrier.can, bs.take (10 + d.length))] } }).scanRx

/-- An identifier names this lane as the destination of a request (R297). -/
def Lane.canForUs (L : Lane) (id : Nat) : Bool :=
  id / 2 ^ 24 % 32 == L.fld F.OC_CFG_BASE && id / 2 ^ 23 % 2 == 0 && id / 2 ^ 17 % 64 == L.fld F.OC_CFG_NODE
    && id / 2 ^ 15 % 4 == L.id.index && id / 2 ^ 10 % 2 == 0 && id % 64 == 0

/-- A part of a message in its place (R298): one FD frame, or classical parts of 8 bytes counted from 0. (Log entry 75: DEDUCED) -/
def Lane.canPart (L : Lane) (client p : Nat) (last : Bool) (data : List Byte) : Lane :=
  if L.flag F.OC_CFG_FD then
    if p = 0 ∧ last then L.canMessage client data else L.ocDiscard
  else if p = 0 then
    if last then L.canMessage client data
    else { L with oc := { L.oc with part := some { client := client, next := 1, data := data, at_ := L.now } } }
  else match L.oc.part with
    | some q =>
      if q.client ≠ client ∨ q.next ≠ p then L.ocDiscard
      else if last then L.canMessage client (q.data ++ data)
      else { L with oc := { L.oc with part := some { q with next := p + 1, data := q.data ++ data, at_ := L.now } } }
    | none => L.ocDiscard

/-- CAN_FRAME_RECEIVE: a frame with identifier `id`; remote frames, 11-bit frames and those of others are ignored. In Hold
it is acknowledged and counted, no more (R389). -/
def Lane.canFrameReceive (ext remote : Bool) (id : Nat) (data : List Byte) (L : Lane) : Lane :=
  let room := if L.flag F.OC_CFG_FD then 64 else 8
  let L := L.when L.oc.on (fun L => { L with oc := { L.oc with canAt := L.now } })
  if !L.oc.on || L.oc.busOff || !ext || remote || !(L.canForUs id) || decide (room < data.length) then L
  else if L.linkSleeps then (L.tally 19 1).tally 19 3 data.length
  else ((L.tally 19 1).tally 19 3 data.length).canPart (id / 2 ^ 11 % 16) (id / 2 ^ 7 % 8) (bit id 6) data

/-- No next part within 10 ms. -/
def Lane.canPartTimeout (L : Lane) : Lane :=
  match L.oc.part with
  | none => L
  | some q => if L.now < q.at_ + ms 10 then L else L.ocDiscard

/-- RETX_BUDGET in 10 µs. -/
def Lane.retxBudget (L : Lane) : Nat := L.fldIn F.OC_TIME_RETX_BUDGET 50 2000

/-- A queued response of a request is aborted once the budget has passed; those queued before it have left. (Log entry 76: DEDUCED) -/
def Lane.retxBudgetExpiry (client rid : Nat) (L : Lane) : Lane :=
  let mine (r : ObjResp × Nat) : Bool := r.1.head.client == client && r.1.head.rid == rid
  match L.oc.canTx.find? mine with
  | none => L
  | some r =>
    if L.now < r.2 + us (10 * L.retxBudget) then L else
    let L := { L with oc := { L.oc with canTx := (L.oc.canTx.dropWhile (fun x => !(mine x))).drop 1 } }
    (L.raise F.OC_EVENT_TX_ABORT).bump F.OC_CNT0_TX_ABORT

/-- Bus-off: queued responses are dropped; their requests stay complete and cached. -/
def Lane.busOffEnter (L : Lane) : Lane :=
  if !L.oc.on || L.oc.busOff then L
  else (({ L with oc := { L.oc with busOff := true, part := none, canTx := [] } }).raise F.OC_EVENT_BUS_OFF).bump F.OC_CNT0_BUS_OFF

/-- 128 occurrences of 11 recessive bits end bus-off. -/
def Lane.busOffRecovery (L : Lane) : Lane := { L with oc := { L.oc with busOff := false } }

/-- A lane-network frame with what its acceptance brings to the object channel (R300). -/
def Lane.netFrameReceive (p : Fin 2) (f : LnFrame) (L : Lane) : Lane := (L.lnFrameReceive p f).scanRx

end Sys2Proof.Machine
end

