-- ==== Sys2Proof/Machine/Stream.lean ====
section
/-! DEFINITION. The 100BASE-T1 port of a lane (R301 to R303, R385): frames sent and received, and the blocks of a firmware image (R427). -/

namespace Sys2Proof.Machine

/-! ### Frames (R301, R302) -/

/-- The EtherType of every frame. -/
def Lane.enType (L : Lane) : Nat := let v := L.fld F.EN_CFG_ETHERTYPE; if v < 0x600 then 0x88B5 else v

/-- The outbound rate limit in Mbit/s. -/
def Lane.enRate (L : Lane) : Nat := L.fldIn F.EN_STREAM_RATE 1 90

/-- The octets of a frame with so much data, FCS included. (Log entry 89: DEDUCED) -/
def enSize (n : Nat) : Nat := max 60 (36 + n) + 4

/-- A frame from destination to FCS, with the CRC-32C of its content. -/
def Lane.enFrame (L : Lane) (stream seq offset : Nat) (data : List Byte) : List Byte :=
  let body : List Byte := [1, BitVec.ofNat 8 stream] ++ leBytes 2 seq ++ leBytes 4 offset ++ leBytes 2 data.length ++ leBytes 8 L.devTime ++ data
  let source : List Byte := [0x02, 0x47, 0x56, BitVec.ofNat 8 (0x10 + L.id.index), 0x00, BitVec.ofNat 8 L.lnNode]
  let bs := leBytes 4 (L.word F.EN_DST_LO).toNat ++ leBytes 2 (L.fld F.EN_DST_HI_DST) ++ source
    ++ [BitVec.ofNat 8 (L.enType / 256), BitVec.ofNat 8 L.enType] ++ body ++ leBytes 4 (crc32c body).toNat
  let bs := bs ++ List.replicate (60 - bs.length) 0
  bs ++ fcsOf bs

/-- The sequence number of a stream's next frame. -/
def Lane.enSeq (L : Lane) (stream : Nat) : Nat := ((L.en.seqs.find? (fun c => c.1 == stream)).map (·.2)).getD 0

/-- Octets sent in the last millisecond. -/
def Lane.enRecent (L : Lane) : List (Nat × Nat) := L.en.sentAt.filter (fun c => decide (L.now < c.1 + ms 1))

/-- Octets that the port may still send so that its rate in the last millisecond stays within RATE. (Log entry 89: DEDUCED) -/
def Lane.enLeft (L : Lane) : Nat := 125 * L.enRate - L.enRecent.foldl (fun (m : Nat) c => m + c.2) 0

/-- The data bytes that the next frame may carry; none while not even the shortest frame may leave. (Log entry 89: DEDUCED) -/
def Lane.enRoom (L : Lane) : Option Nat := if L.enLeft < 64 then none else some (min 1456 (L.enLeft - 40))

/-- A frame leaves; while the link is down it is lost. (Log entry 90: DEDUCED) -/
def Lane.enSend (L : Lane) (stream offset : Nat) (data : List Byte) : Lane :=
  let q := L.enSeq stream
  let L := { L with en := { L.en with
    seqs := (stream, (q + 1) % 65536) :: L.en.seqs.filter (fun (c : Nat × Nat) => c.1 != stream)
    sentAt := (L.now, enSize data.length) :: L.enRecent
    wire := if L.en.link then L.enFrame stream q offset data else L.en.wire } }
  (L.tally 20 0).tally 20 2 (enSize data.length)

/-- The records at the head of a queue whose numbers follow one another. -/
def runLen : Nat → List Nat → Nat
  | _, [] => 0
  | n, x :: xs => if x = n then 1 + runLen (n + 1) xs else 0

/-- What stream 1, 2 or 3 sends next in a frame of at most `room` data bytes: its offset, its data, and the lane without it.
(Log entries 90: DEDUCED, 91: DESIGN CHOICE) -/
def Lane.streamNext (L : Lane) (stream room : Nat) : Option (Nat × List Byte × Lane) :=
  match stream with
  | 1 => L.en.snapOut.map (fun x =>
      let d := part x.2 x.1 room
      let o := x.1 + d.length
      (x.1, d, { L with en := { L.en with snapOut := if x.2.length ≤ o then none else some (o, x.2) } }))
  | 2 => match L.en.atticOut with
    | [] => none
    | r :: rs =>
      let k := min (min 45 (room / 32)) (runLen r.1 ((r :: rs).map (·.1)))
      some (32 * r.1 % 2 ^ 32, ((r :: rs).take k).flatMap (fun c => L.bytes (0x23000000 + 32 * c.2) 32), { L with en := { L.en with atticOut := (r :: rs).drop k } })
  | 3 => match L.en.logOut with
    | [] => none
    | n :: ns =>
      let k := min (min 22 (room / 64)) (runLen n (n :: ns))
      some (64 * n % 2 ^ 32, ((n :: ns).take k).flatMap (fun i => L.bytes (logAddr i) 64), { L with en := { L.en with logOut := (n :: ns).drop k } })
  | _ => none

/-- The acknowledgements that wait leave, as many as the rate limit lets (R302, R303). (Log entry 89: DEDUCED) -/
def Lane.sendAcks (L : Lane) : Lane :=
  L.en.acks.foldl (fun (L : Lane) (c : Nat × Nat) =>
    if L.enRoom.isNone then L
    else ({ L with en := { L.en with acks := L.en.acks.drop 1 } }).enSend 5 0 (leBytes 4 (65536 * c.1) ++ [BitVec.ofNat 8 c.2, 0, 0, 0])) L

/-- STREAM_FRAME_SEND: the acknowledgements that wait, and then a running stream that has data sends its next frame, within the rate limit.
(Log entry 90: DEDUCED) -/
def Lane.streamFrameSend (stream : Nat) (L : Lane) : Lane :=
  let L := L.sendAcks
  if !(L.streamOn stream) then L else
  match L.enRoom with
  | none => L
  | some room =>
    match L.streamNext stream room with
    | none => L
    | some (o, d, M) => if d = [] then L else M.enSend stream o d

/-- EN_LINK_CHANGE: the PHY reports its link with the signal quality. -/
def Lane.enLinkChange (up : Bool) (sqi : Fin 8) (L : Lane) : Lane :=
  let up := up && L.flag F.EN_CFG_ENABLE
  let was := L.en.link
  let L := { L with en := { L.en with link := up, sqi := if up then sqi.val else 0, master := if up then L.flag F.EN_CFG_ROLE else L.en.master } }
  if up && !was then L.raise F.EN_EVENT_LINK_UP else if !up && was then L.raise F.EN_EVENT_LINK_DOWN else L

/-! ### Image data (R303, R427) -/

/-- The acknowledgement of a block, behind those that wait for the rate limit. (Log entry 89: DEDUCED) -/
def Lane.ackBlock (L : Lane) (b status : Nat) : Lane := ({ L with en := { L.en with acks := L.en.acks ++ [(b, status)] } }).sendAcks

/-- The size of a block. -/
def Lane.blockSize (L : Lane) (b : Nat) : Nat := min 65536 (L.lc.instSize - 65536 * b)

/-- The two lowest blocks not yet acknowledged. -/
def Lane.blockWindow (L : Lane) : List Nat := ((List.range (min 128 L.blockCount)).filter (fun b => !(L.blockStored b))).take 2

def Lane.blockPieces (L : Lane) (b : Nat) : List (Nat × List Byte) := ((L.en.bufs.find? (fun c => c.1 == b)).map (·.2)).getD []

def Lane.setPieces (L : Lane) (b : Nat) (ps : List (Nat × List Byte)) : Lane :=
  let rest := L.en.bufs.filter (fun (c : Nat × List (Nat × List Byte)) => c.1 != b)
  { L with en := { L.en with bufs := if ps = [] then rest else (b, ps) :: rest } }

/-- An image frame outside the buffered blocks. (Log entry 87: DEDUCED) -/
def Lane.enDrop (L : Lane) : Lane := (L.raise F.EN_EVENT_RX_DROP).bump F.EN_CNT_RX_DROP

/-- Image data with no install open: status 2, at most once in 100 ms. -/
def Lane.answerNone (L : Lane) (b : Nat) : Lane :=
  if (match L.en.noneAt with
    | some t => decide (L.now < t + ms 100)
    | none => false) then L
  else ({ L with en := { L.en with noneAt := some L.now } }).ackBlock b 2

/-- State 2 once every block is stored (R427), also where the last of them was stored before a reset (R430). (Log entry 88: DEDUCED) -/
def Lane.allStored (L : Lane) : Lane := L.when (L.lc.install == 1 && decide (L.blockCount ≤ L.firstMissing)) (·.setInstall 2)

/-- Image data of an open install; the last bytes of a block that has been stored already are acknowledged again.
(Log entries 87: DEDUCED, 88: DEDUCED) -/
def Lane.imageData (L : Lane) (offset : Nat) (data : List Byte) : Lane :=
  let b := offset / 65536
  let o := offset % 65536
  if L.blockStored b then (if L.blockSize b ≤ o + data.length then (L.ackBlock b 0).allStored else L)
  else if !(L.blockWindow.contains b) || decide (L.blockSize b < o + data.length) then L.enDrop
  else L.setPieces b (L.blockPieces b ++ [(o, data)])

/-- What a received frame says (R301). -/
def enData (bs : List Byte) : List Byte := part bs 32 (leNat (part bs 22 2))
def enOffset (bs : List Byte) : Nat := leNat (part bs 18 4)

/-- A frame for the port: a whole one of its EtherType. (Log entry 87: DEDUCED) -/
def Lane.enForUs (L : Lane) (bs : List Byte) : Bool :=
  L.en.link && decide (64 ≤ bs.length) && decide (bs.length ≤ 1518) && refcs bs == bs
    && 256 * (bs.getD 12 0).toNat + (bs.getD 13 0).toNat == L.enType

/-- Version 1, the inbound stream, L in its range, and the CRC-32C (R301, R302). -/
def enFrameOk (bs : List Byte) : Bool :=
  let n := leNat (part bs 22 2)
  bs.getD 14 0 == 1 && bs.getD 15 0 == 4 && decide (n ≤ 1456) && part bs (32 + n) 4 == leBytes 4 (crc32c (part bs 14 (18 + n))).toNat

/-- IMAGE_FRAME_RECEIVE: a frame of the port, its bytes from destination to FCS. (Log entry 87: DEDUCED) -/
def Lane.imageFrameReceive (bs : List Byte) (L : Lane) : Lane :=
  if !(L.enForUs bs) then L else
  let L := (L.sendAcks.tally 20 1).tally 20 3 bs.length
  if !(enFrameOk bs) then (L.raise F.EN_EVENT_CRC_ERR).bump F.EN_CNT_CRC_ERR
  else if !L.installOpenNow then L.answerNone (enOffset bs / 65536)
  else L.imageData (enOffset bs) (enData bs)

/-- A piece put in by its offset. -/
def insPiece (p : Nat × List Byte) : List (Nat × List Byte) → List (Nat × List Byte)
  | [] => [p]
  | q :: qs => if p.1 < q.1 then p :: q :: qs else q :: insPiece p qs

/-- One piece laid over the bytes before it: none at a gap, or where an overlap holds different data. -/
def layPiece (m : Option (List Byte)) (p : Nat × List Byte) : Option (List Byte) :=
  m.bind (fun bs =>
    let old := part bs p.1 p.2.length
    if bs.length < p.1 ∨ old ≠ p.2.take old.length then none else some (bs ++ p.2.drop old.length))

/-- The bytes of a block that its pieces cover whole. -/
def layPieces (n : Nat) (ps : List (Nat × List Byte)) : Option (List Byte) :=
  ((ps.foldr insPiece []).foldl layPiece (some [])).filter (fun bs => bs.length == n)

/-- The last bytes of a block have arrived. (Log entry 88: DEDUCED) -/
def Lane.blockEnded (L : Lane) (b : Nat) : Bool := (L.blockPieces b).any (fun p => decide (L.blockSize b ≤ p.1 + p.2.length))

/-- Block 0 is judged: the kind and the size of the image (R426). -/
def Lane.kindOk (L : Lane) (h : List Byte) : Bool :=
  let kind := (h.getD 5 0).toNat
  leNat (part h 16 4) == L.lc.instSize && decide (512 ≤ L.lc.instSize)
    && ((kind == 0 && decide (L.lc.instSize ≤ 0x7F0000)) || (kind == 1 && decide (L.lc.instSize ≤ 983040) && L.serviceCount == 0))

/-- An application image goes to the application region, whose header and journal sector is erased. (Log entry 97: DEDUCED) -/
def Lane.takeKind (L : Lane) (h : List Byte) : Lane :=
  if h.getD 5 0 = 1 then ({ L with lc := { L.lc with instApp := true } }).eraseSector appHead else L

/-- A block is to be sent again. -/
def Lane.blockBad (L : Lane) (b : Nat) : Lane := ((L.setPieces b []).raise F.EN_EVENT_BLOCK_BAD).ackBlock b 1

/-- A block that does not read back right is erased and sent again. (Log entry 88: DEDUCED) -/
def Lane.readBackBad (L : Lane) (b : Nat) : Lane :=
  (((L.eraseSector (L.instBase + 65536 * b)).raise F.CF_EVENT_VERIFY_FAIL).bump F.CF_CNT_VERIFY_FAIL).blockBad b

/-- A block is stored and journalled, with the state 2 after the last one. (Log entry 88: DEDUCED) -/
def Lane.storeBlock (L : Lane) (b : Nat) (bs : List Byte) : Lane :=
  let a := L.instBase + 65536 * b
  let L := (L.eraseSector a).program a bs
  let L := L.journal b bs
  ((((L.setPieces b []).raise F.EN_EVENT_BLOCK_DONE).raise F.CF_EVENT_BLOCK_STORED).ackBlock b 0).noteNext.allStored

/-- IMAGE_BLOCK_STORED: the pieces of block `b` are judged once its last bytes are there; `ok`: it was programmed and read back right. Later
blocks wait for block 0, which names the kind; one whose kind or size fails closes the install, and the answer says that none is open. -/
def Lane.imageBlockStored (b : Nat) (ok : Bool) (L : Lane) : Lane :=
  if L.lc.install ≠ 1 || !(L.blockEnded b) || (b != 0 && !(L.blockStored 0)) || !L.th.flashOk then L else
  match layPieces (L.blockSize b) (L.blockPieces b) with
  | none => L.blockBad b
  | some bs =>
    if b = 0 && !(L.kindOk bs) then ((L.setPieces 0 []).setInstall 8).answerNone 0
    else
      let L := L.when (b == 0) (·.takeKind bs)
      if ok then L.storeBlock b bs else L.readBackBad b

end Sys2Proof.Machine
end

