-- ==== Sys2Proof/Machine/Boundary.lean ====
section
/-! DEFINITION. The authority tick boundary with everything a lane does there (R28, R41 to R48, R68, R76, R89, R92, R258, R343, R368), and the
coordination frames of the siblings. -/

namespace Sys2Proof.Machine

/-! ### Status slots (R257, R258) -/

/-- The bytes of a mapped entry. -/
def Lane.mappedBytes (L : Lane) (w : Nat) : List Byte := padTo (w % 256) (L.entryRead (w / 65536) (w / 256 % 256))

/-- The data field of the status frame of slot `s`. -/
def Lane.statusData (L : Lane) (s seq : Nat) : List Byte :=
  byteOf L.ky.state.code ++ byteOf L.ky.level ++ leBytes 2 seq ++ (L.mapping s).flatMap (fun w => L.mappedBytes w)

/-- The status data of slot `s` written to its write half and committed. (Log entry 92: DEDUCED) -/
def Lane.statusSlot (L : Lane) (s : Nat) : Lane :=
  let q := ((L.ln.statusSeq.find? (fun c => c.1 == s)).map (·.2)).getD 0
  let bs := padTo (L.txEntryLen L.ln.mode s) (L.statusData s q)
  let L := { L with fresh := L.fresh + 1 }
  let L := L.putBuffer (txWrite s) 0x5C0 bs
  L.lnTxcommit (decide (32 ≤ s)) (BitVec.ofNat 32 (2 ^ (s % 32)))

/-- The runtime commits every status slot of the active mode. (Log entry 92: DEDUCED) -/
def Lane.statusCommit (L : Lane) : Lane :=
  ((List.range (L.nslot L.ln.mode)).filter (fun s => L.txKind L.ln.mode s == some 1)).foldl Lane.statusSlot L

/-! ### What is judged for the tick that closes -/

/-- Comparison, setpoints and shelf of the tick that closes; the flag says that a disagreement calls for a stop (R66, R68, R76, R77, R89, R92).
(Log entry 42: DEDUCED) -/
def Lane.closeOutputs (L : Lane) : Lane × Bool :=
  let a := L.showPattern.decisionTable
  let b := a.1.dualCompare
  (b.1.shadowCompare.applySetpoints.shelfApply, a.2 || b.2)

/-- A sibling that was in Service has left it (R429). -/
def Lane.watchLost (was : Nat) (L : Lane) : Lane := L.when (decide (L.serviceCount < was)) Lane.serviceLoss

/-- A trial with its deep program passed asks for READMIT once the siblings serve (R428). (Log entry 131: DEDUCED) -/
def Lane.trialReadmit (L : Lane) : Lane :=
  if L.lc.install == 5 && L.lc.deepOk && L.ky.state == .bench && L.st.failed == 0 && (L.sib .N == 4 || L.sib .P == 4)
      && !L.ky.stopSeen then L.readmitCmd
  else L

/-- In state 5 the runtime starts the deep program (R428). -/
def Lane.trialDeep (L : Lane) : Lane := if L.lc.install == 5 && !L.lc.deepOk && !L.lc.trialBad then L.deep else L

/-- The transitions of the lane and what it learns of its siblings (R41 to R47, R84 to R86, R92): `closed` the tick that closes, `opened` the
boundary that opened it. (Log entry 42: DEDUCED) -/
def Lane.transitions (closed opened : Nat) (L : Lane) : Lane :=
  let was := L.serviceCount
  let L := ((((L.sibStates closed).voteReasons.voteOut).linkDownBench opened).silentSibs closed).watchLost was
  let L := L.trialReadmit.requests closed
  ((L.startGate closed Lane.confirm).shadowToService Lane.confirm).bootToBench.startUpRun.trialDeep

/-- The key at the boundary (R70, R81, R82): a pending claim takes effect, a holder whose lane network is lost gives the key up, any other
holder renews; `due` had to acknowledge its last renewal. (Log entries 45: DEDUCED, 130: DEDUCED) -/
def Lane.keyDuties (due : List LaneId) (L : Lane) : Lane :=
  let L := L.claimEffect
  if L.netLost then L.giveUp else L.renewalSend due

/-- Level, host loss, standstill and controlled stop (R43, R48, R50, R52, R468). -/
def Lane.stopDuties (dis : Bool) (closed : Nat) (L : Lane) : Lane :=
  ((((L.levelUpdate).hostLossJudge closed).standstillEval).stopJudge dis closed).brakeRamp

/-! ### The tick task of the tick that opens (R343) -/

/-- The comparisons of the closed tick go into the next authority frame; agreed inputs, loops and setpoints of the tick that opens. -/
def Lane.tickInputs (agreeN agreeP : Option Bool) (L : Lane) : Lane :=
  let L := L.agreedInputs
  let L := { L with ky := { L.ky with agreeN := agreeN, agreeP := agreeP, spN := none, spP := none } }
  L.inputRecord.ownSetpoints

/-- An application that runs hands its outputs over at the end of its window; else the authority frame leaves with the runtime's setpoints.
(Log entry 47: DEDUCED) -/
def Lane.tickApp (L : Lane) : Lane :=
  let L := L.openWindow
  if L.ic.window then L else L.sendSetpoints

/-- In Service a trial slot whose confirmation waited for Tj is confirmed (R406, R428). -/
def Lane.confirmDue (L : Lane) : Lane := L.when (L.ky.state == .service) Lane.confirm

/-- The tick task. `first`: the lane held no key at the last boundary. -/
def Lane.tickTask (first : Bool) (agreeN agreeP : Option Bool) (L : Lane) : Lane :=
  ((((L.statusCommit.tickInputs agreeN agreeP).tickApp).holderShelf first).writeShares).throttleRamp.confirmDue.injWatch

/-! ### The coordination frame (R28, R367, R368, R389, R467) -/

/-- The token is passed, and the coordination frame goes out on both links, with the stop command that was waiting. (Log entry 46: DEDUCED) -/
def Lane.sendCoord (L : Lane) : Lane :=
  let r := L.tokenPass
  let L := r.1
  if !L.mainRuns then L else
  let fr := L.coordFrame L.st.num L.st.holder r.2 L.st.lastHeld
  let fr := { fr with toCellar := L.pm.cellar && L.committed, noToken := L.pm.level == .hold || L.pm.level == .cellar }
  let L := L.sent (.coord fr)
  { L with
    cx := { L.cx with seq := fr.seq }
    out := { L.out with coord := some fr }
    ky := { L.ky with stopCmd := false, startCmd := L.ky.startCmd && L.ky.state == .bench } }

/-- The tick counter advances, source 112 is raised. -/
def Lane.openTick (L : Lane) : Lane :=
  (({ L with ky := { L.ky with tick := (L.ky.tick + 1) % 2 ^ 32, boundary := L.now } }).latchSrc 112).tally 8 0

/-- The runtime does its part: it has been entered, its pair runs, and no sleep entry has stopped it. (Log entry 44: DEDUCED) -/
def Lane.taskRuns (L : Lane) : Bool := L.runtime && L.ic.taskStop.isNone && !(L.pm.acked.contains 0x20)

/-- A boundary with the runtime. (Log entry 42: DEDUCED) -/
def Lane.fullBoundary (L : Lane) : Lane :=
  let closed := L.ky.tick
  let opened := L.ky.boundary
  let first := L.ky.renewals == []
  let due := L.ackers
  let agreeN := L.ownPair .N
  let agreeP := L.ownPair .P
  let r := L.closeOutputs
  let L := r.1.demandLatch (r.1.ky.state == .service)
  let L := (((L.transitions closed opened).keyDuties due).stopDuties r.2 closed).dozeBoundary
  L.openTick.tickTask first agreeN agreeP

/-- The thermal monitor's share of a boundary, while its domain is powered (R404). -/
def Lane.throttleTick (L : Lane) : Lane := L.when (L.powered .core) Lane.throttleRamp

/-- A boundary without it: what the blocks do by themselves. (Log entry 44: DEDUCED) -/
def Lane.bareBoundary (L : Lane) : Lane :=
  (((L.demandLatch false).sibStates L.ky.tick).silentSibs L.ky.tick).dozeBoundary.bootToBench.startUpRun.openTick.throttleTick.injWatch

/-- AUTHORITY_TICK_BOUNDARY. In Hold the lane sends its coordination frame and nothing else (R389). -/
def Lane.authorityTickBoundary (L : Lane) : Lane :=
  if L.ky.state == .off || L.sy.resetHeld || L.pm.level == .cellar then L else
  let L := ({ L with cx := { L.cx with keyTick := [] } } : Lane).flushKeys.taskMissed
  if L.pm.level == .hold then L.openTick.sendCoord
  else if L.taskRuns then L.fullBoundary.sendCoord
  else L.bareBoundary.sendCoord

/-! ### The start of a slice (R364, R368) -/

/-- A lane-network port is in the network idle time for the next `len` µs (R248); with no cycle of its own it has no slot.
(Log entry 203: DESIGN CHOICE) -/
def Lane.netIdle (L : Lane) (p len : Nat) : Bool :=
  let m := L.ln.mode
  let t := L.devTime
  !(L.portOn p) || L.ln.state == .off || L.ln.state == .listen
    || (decide (L.ln.cycStart + 1000 * L.slotStart m (L.nslot m) ≤ t) && decide (t + 1000 * len ≤ L.ln.cycStart + 1000 * L.cycLen m))

/-- The gap that a slice of a unit needs is there for `len` µs (R364): the network idle time, 200 µs of CAN idle, no stream, the yard core in reset, for
the LBIST of a drive unit the gate enables low; the other gaps are the block's own. -/
def Lane.gapFree (L : Lane) (u len : Nat) : Bool :=
  if u = 2 then !(L.flag F.IC_YARD_YRUN)
  else if u = 34 ∨ u = 35 then L.netIdle (u - 34) len
  else if u = 37 then !L.oc.on || decide (L.oc.canAt + us 200 ≤ L.now)
  else if u = 38 then (List.range 4).all (fun i => !(L.streamOn (i + 1)))
  else if replayUnit u ∧ L.st.prog ≠ .periodic then (List.finRange 16).all (fun g => !(L.grp g).lg.gen)
  else true

/-- The holder starts a slice of `len` µs of the unit whose turn it is, in the unit's domain and its gap (R364), when it can end at least 3 µs before
the next boundary (R368). -/
def Lane.sliceStart (len : Nat) (L : Lane) : Lane :=
  let L := L.startUpRun.skipContinuous
  match L.st.todo with
  | [] => L
  | u :: _ =>
    if !L.st.holds || L.st.slice.isSome || L.st.prog == .idle || L.ky.state == .withdrawn || L.ky.state == .off
      || len == 0 || decide (50 < len) || decide (L.ky.boundary + us 50 < L.now + us (len + 3)) || !(L.powered (unitDomain u))
      || !(L.gapFree u len) then L
    else
      let x : SliceS := { unit := u, began := L.now, len := len, group := L.st.replay, inputs := none, copy := bit L.st.copy u }
      ({ L with st := { L.st with slice := some x, unit := u } }).setFld F.ST_UNIT_STATUS 3 0 u

/-! ### Coordination frames of the siblings (R28, R85, R367) -/

/-- A frame kept under the tick it belongs to: the one whose opening boundary lies nearest its arrival, the later one at the middle. -/
def Lane.keepCoord (L : Lane) (p : Port) (fr : CoordFrame) : Lane :=
  let k := if L.now < L.ky.boundary + us 25 then L.ky.tick else (L.ky.tick + 1) % 2 ^ 32
  let add (l : List (Nat × CoordFrame)) : List (Nat × CoordFrame) := ((k, fr) :: l.filter (fun c => c.1 != k)).take 2
  match p with
  | .N => { L with cx := { L.cx with coordN := some fr, recN := add L.cx.recN } }
  | .P => { L with cx := { L.cx with coordP := some fr, recP := add L.cx.recP } }

/-- When a declaration that a frame reports has been made at the latest: a frame reports its sender's state at the boundary that opens the
tick it belongs to (R28), and a report of the third lane what it heard a tick before. (Log entry 178: DEDUCED) -/
def Lane.reportedAt (L : Lane) (third : Bool) : Nat :=
  (if L.now < L.ky.boundary + us 25 then L.ky.boundary else L.now) - (if third then us 50 else 0)

/-- The link on a port is reported down by its far end or by the third lane, or no longer. -/
def Lane.remoteDown (L : Lane) (p : Port) (down third : Bool) : Lane :=
  let k := L.link p
  L.setLink p { k with remote := down, declAt := if down && !k.remote && !k.declared then L.reportedAt third else k.declAt }

/-- The newest frame of the lane that a link leads to reports it down. -/
def Lane.endDown (L : Lane) (p : Port) : Bool :=
  match p with
  | .N => L.cx.coordN.any (·.downP)
  | .P => L.cx.coordP.any (·.downN)

/-- What the newest frames of both siblings say of a link: the end that it leads to, or the third lane, has declared it down. -/
def Lane.learntDown (L : Lane) (p : Port) : Bool :=
  L.endDown p || (match p with
    | .N => L.cx.coordP.any (·.downFar)
    | .P => L.cx.coordN.any (·.downFar))

/-- What they say of the link between the two siblings. -/
def Lane.learntFar (L : Lane) : Bool := L.cx.coordN.any (·.downN) || L.cx.coordP.any (·.downP)

/-- The reports of byte 15 taken (R85). -/
def Lane.takeReports (L : Lane) : Lane :=
  let far := L.learntFar
  let at_ := if far && !L.cx.farDown then L.reportedAt false else L.cx.farAt
  let L := { L with cx := { L.cx with farDown := far, farAt := at_ } }
  (L.remoteDown .N (L.learntDown .N) (!(L.endDown .N))).remoteDown .P (L.learntDown .P) (!(L.endDown .P))

/-- COORDINATION_FRAME_RECEIVE. A frame that names another sender than the lane at its port is not taken. One that reports Withdrawn casts the
vote of R84 and asserts the veto line of R86. (Log entry 41: DEDUCED) -/
def Lane.coordinationFrameReceive (p : Port) (fr : CoordFrame) (ok : Bool) (L : Lane) : Lane :=
  let r := L.rxFrame p ok 40
  let L := r.1
  if !r.2 || fr.sender != (L.id.at p).index then L else
  let gone := fr.state == 5 && L.sib p == 4 && L.ky.state == .service
  let L := ((L.keepCoord p fr).takeReports.tokenReceive p fr).when gone (·.castVote (L.id.at p))
  L.selfVoted.vetoes.injWatch

end Sys2Proof.Machine
end

