-- ==== Sys2Proof/Machine/State.lean ====
section
/-! DEFINITION. The state of the package as plain data: the three lanes, and the queue of the commands that wait. -/

namespace Sys2Proof.Machine

/-- The package: `pending` holds the commands that wait, first in, first out; `a`, `b` and `c` are the lanes A, B and C (R19). Nothing else
is shared: the lanes meet through the frames that commands carry. (Log entry 2: DESIGN CHOICE) -/
structure State where
  pending : List Instr
  a : Lane
  b : Lane
  c : Lane
  deriving DecidableEq, Repr

/-- How a command could stop the model with a fault: in no way. Every error that the manual describes is a state of the package (a bus error,
an event, a fault record, a lane that withdraws), so there is no constructor; that is safe. (Log entry 7: DEDUCED) -/
inductive Fault where
  deriving DecidableEq, Repr

/-- Why a command could be refused. (Log entry 7: DEDUCED) -/
inductive Refusal where
  /-- Raised by an arm of `exec` whose command has no meaning yet; no arm is one. Safe: the machine stops. -/
  | notModelled (mnemonic : String)
  deriving DecidableEq, Repr

/-- One lane. -/
def State.lane (s : State) : LaneId → Lane
  | .A => s.a
  | .B => s.b
  | .C => s.c

/-- One lane replaced. -/
def State.setLane (s : State) (l : LaneId) (x : Lane) : State :=
  match l with
  | .A => { s with a := x }
  | .B => { s with b := x }
  | .C => { s with c := x }

/-- The package before its supplies have come up: every register at its reset value (R445), every lane in reset, no command waiting.
(Log entry 17: DEDUCED) -/
def State.reset : State := { pending := [], a := .reset .A, b := .reset .B, c := .reset .C }

end Sys2Proof.Machine
end

