-- ==== Sys2Proof/Machine/Apply.lean ====
section
/-! DEFINITION. How a command reaches a lane: the time it brings, the supply domain that must run for it (R388, R389), the blocks that a sleep
entry has stopped (R390, R391), and what holds after every command. -/

namespace Sys2Proof.Machine

/-- An effect of a block that runs; else nothing happens. (Log entry 8: DEDUCED) -/
def gate (d : Domain) (b : Nat) (f : Lane → Lane) (L : Lane) : Lane := if L.acts d b then f L else L

/-- The helm pair can reach block `b`: the block runs, and the pair runs and is not halted (R331, R390). (Log entry 8: DEDUCED) -/
def Lane.pairActs (L : Lane) (d : Domain) (b : Nat) : Bool := L.acts d b && L.acts .core 0x20 && !L.ic.halted

/-- What comes in on the pads of domain `d` reaches block `b`: the block runs and the pads are not held (R395). (Log entry 8: DEDUCED) -/
def Lane.inActs (L : Lane) (d : Domain) (b : Nat) : Bool := L.acts d b && !(L.padsHeld d)

/-- Block `b` of the drive domain runs and its clock does not rest in Doze (R387). (Log entry 8: DEDUCED) -/
def Lane.awakeActs (L : Lane) (b : Nat) : Bool := L.acts .drive b && !L.dozing

/-- An access of the helm pair to a block that runs; a pair that is halted, or that a sleep entry has stopped, issues none (R331, R390).
(Log entry 8: DEDUCED) -/
def gatePair (d : Domain) (b : Nat) (f : Lane → Lane) (L : Lane) : Lane := if L.pairActs d b then f L else L

/-- What comes in on the pads of a block that runs: held pads deliver nothing (R395). (Log entry 8: DEDUCED) -/
def gateIn (d : Domain) (b : Nat) (f : Lane → Lane) (L : Lane) : Lane := if L.inActs d b then f L else L

/-- An effect of a drive block whose clock rests in Doze (R387). (Log entry 8: DEDUCED) -/
def gateAwake (b : Nat) (f : Lane → Lane) (L : Lane) : Lane := if L.awakeActs b then f L else L

/-- The same of what comes in on its pads. -/
def gateAwakeIn (b : Nat) (f : Lane → Lane) (L : Lane) : Lane :=
  if L.awakeActs b && L.inActs .drive b then f L else L

/-- An effect of the lane's runtime: its helm pair runs and has entered it. (Log entry 8: DEDUCED) -/
def gateTask (f : Lane → Lane) (L : Lane) : Lane := if L.acts .core 0x20 && L.runtime then f L else L

/-- The lane's time moves on to that of a command, never back. (Log entry 3: DESIGN CHOICE) -/
def Lane.advance (L : Lane) (t : Nat) : Lane := { L with now := max L.now t }

/-- After a command: lane and time are what they were, and the interrupt sources settle (R338). -/
def Lane.after (l : LaneId) (now : Nat) (L : Lane) : Lane := ({ L with id := l, now := now }).icSettle

/-- A command's effect `f` on lane `l` at its time `t`; the other lanes and the queue stay as they are (R33).
(Log entries 2: DESIGN CHOICE, 121: DESIGN CHOICE) -/
def onLane (l : LaneId) (t : Nat) (f : Lane → Lane) (s : State) : Host.Outcome State Fault Refusal :=
  let L := (s.lane l).advance t
  .next (s.setLane l ((f L).after l L.now))

end Sys2Proof.Machine
end

