-- ==== Sys2Proof/Machine/CmdAuthority.lean ====
section
/-! DEFINITION. Authority: boundary and exchange ticks, cross-lane frames, key, votes, stop: the meaning of each command of the family on the whole package (the `Lane` operation that each of them
calls says what it does, in the file of its block). -/

namespace Sys2Proof.Machine

/-- AUTHORITY_TICK_BOUNDARY (R68): Every 50 µs the lane applies setpoints, judges lane transitions and runs its tick task. -/
def execAuthorityTickBoundary (l : LaneId) (t : Nat) (s : State) : Host.Outcome State Fault Refusal :=
  onLane l t (gate .link 8 Lane.authorityTickBoundary) s

/-- TICK_DEADLINE (R344): The tick task misses step 9 by the 47 µs deadline, which is a fatal fault. -/
def execTickDeadline (l : LaneId) (t : Nat) (s : State) : Host.Outcome State Fault Refusal :=
  onLane l t (gate .core 0x20 Lane.tickDeadline) s

/-- EXCHANGE_TICK (R132): Every 10 µs the lane sends its angle and vote frames on both links. -/
def execExchangeTick (l : LaneId) (t : Nat) (rttN : Nat) (rttP : Nat) (s : State) : Host.Outcome State Fault Refusal :=
  onLane l t (gate .link 9 (Lane.exchangeTick rttN rttP)) s

/-- VOTE_FRAME_RECEIVE (R238): A vote frame is accepted or rejected, and its star, release, STOP and vote bits are taken. -/
def execVoteFrameReceive (l : LaneId) (t : Nat) (p : Port) (fr : VoteFrame) (ok : Bool) (s : State) : Host.Outcome State Fault Refusal :=
  onLane l t (gate .link 9 (Lane.voteFrameReceive p fr ok)) s

/-- ANGLE_FRAME_RECEIVE (R133): An angle frame is accepted and stamped for extrapolation. -/
def execAngleFrameReceive (l : LaneId) (t : Nat) (p : Port) (fr : AngleFrame) (ok : Bool) (s : State) : Host.Outcome State Fault Refusal :=
  onLane l t (gate .link 9 (Lane.angleFrameReceive p fr ok)) s

/-- SETPOINT_FRAME_RECEIVE (R75): A sibling's setpoint frame is taken for output comparison and position agreement. -/
def execSetpointFrameReceive (l : LaneId) (t : Nat) (p : Port) (fr : SetpointFrame) (ok : Bool) (s : State) : Host.Outcome State Fault Refusal :=
  onLane l t (gate .link 9 (Lane.setpointFrameReceive p fr ok)) s

/-- SHELF_FRAME_RECEIVE (R88): A shelf frame is received for application at the boundary. -/
def execShelfFrameReceive (l : LaneId) (t : Nat) (p : Port) (fr : ShelfFrame) (ok : Bool) (s : State) : Host.Outcome State Fault Refusal :=
  onLane l t (gate .link 9 (Lane.shelfFrameReceive p fr ok)) s

/-- COORDINATION_FRAME_RECEIVE (R28): A coordination frame is assigned to an authority tick and its state, token, votes and reports are taken. -/
def execCoordinationFrameReceive (l : LaneId) (t : Nat) (p : Port) (fr : CoordFrame) (ok : Bool) (s : State) : Host.Outcome State Fault Refusal :=
  onLane l t (gate .link 9 (Lane.coordinationFrameReceive p fr ok)) s

/-- RENEWAL_RECEIVE (R72): A renewal restarts the silence timer, may be recognised, and is acknowledged. -/
def execRenewalReceive (l : LaneId) (t : Nat) (p : Port) (m : KeyMsg) (ok : Bool) (s : State) : Host.Outcome State Fault Refusal :=
  onLane l t (gate .link 9 (Lane.renewalReceive p m ok)) s

/-- RENEWAL_ACK_RECEIVE (R70): Once every lane in Service or Shadow has acknowledged, the holder restarts its lease. -/
def execRenewalAckReceive (l : LaneId) (t : Nat) (p : Port) (m : KeyMsg) (ok : Bool) (s : State) : Host.Outcome State Fault Refusal :=
  onLane l t (gate .link 9 (Lane.renewalAckReceive p m ok)) s

/-- CLAIM_RECEIVE (R82): A claim is acknowledged or not, and a claimant of higher rank withdraws. -/
def execClaimReceive (l : LaneId) (t : Nat) (p : Port) (m : KeyMsg) (ok : Bool) (s : State) : Host.Outcome State Fault Refusal :=
  onLane l t (gate .link 9 (Lane.claimReceive p m ok)) s

/-- CLAIM_ACK_RECEIVE (R82): A claimant collects an acknowledgement of its claim. -/
def execClaimAckReceive (l : LaneId) (t : Nat) (p : Port) (m : KeyMsg) (ok : Bool) (s : State) : Host.Outcome State Fault Refusal :=
  onLane l t (gate .link 9 (Lane.claimAckReceive p m ok)) s

/-- CLAIM_WITHDRAWAL_RECEIVE (R82): A claim withdrawal ends that claim as pending. -/
def execClaimWithdrawalReceive (l : LaneId) (t : Nat) (p : Port) (m : KeyMsg) (ok : Bool) (s : State) : Host.Outcome State Fault Refusal :=
  onLane l t (gate .link 9 (Lane.claimWithdrawalReceive p m ok)) s

/-- RELEASE_RECEIVE (R82): A release naming this lane makes it claim the key. -/
def execReleaseReceive (l : LaneId) (t : Nat) (p : Port) (m : KeyMsg) (ok : Bool) (s : State) : Host.Outcome State Fault Refusal :=
  onLane l t (gate .link 9 (Lane.releaseReceive p m ok)) s

/-- REVOCATION_RECEIVE (R80): Revocations from both non-holders clear the holder's key and it answers with a release. -/
def execRevocationReceive (l : LaneId) (t : Nat) (p : Port) (m : KeyMsg) (ok : Bool) (s : State) : Host.Outcome State Fault Refusal :=
  onLane l t (gate .link 9 (Lane.revocationReceive p m ok)) s

/-- LINK_SILENCE (R30): No valid frame for 20 µs, or three CRC failures, declares a cross-lane link down. -/
def execLinkSilence (l : LaneId) (t : Nat) (p : Port) (s : State) : Host.Outcome State Fault Refusal :=
  onLane l t (gate .link 9 (Lane.linkSilence p)) s

/-- LINK_UP (R30): 100 consecutive valid frames bring a cross-lane link up. -/
def execLinkUp (l : LaneId) (t : Nat) (p : Port) (s : State) : Host.Outcome State Fault Refusal :=
  onLane l t (gate .link 9 (Lane.linkUp p)) s

/-- LEASE_EXPIRY (R71): The holder's lease timer reaches zero, and hardware clears its key. -/
def execLeaseExpiry (l : LaneId) (t : Nat) (s : State) : Host.Outcome State Fault Refusal :=
  onLane l t (gate .core 8 Lane.leaseExpiry) s

/-- SILENCE_THRESHOLD (R72): The silence timer reaches 350 µs or 420 µs, and the lane enters the interregnum or claims the key by rank. -/
def execSilenceThreshold (l : LaneId) (t : Nat) (s : State) : Host.Outcome State Fault Refusal :=
  onLane l t (gate .core 8 Lane.silenceThreshold) s

/-- INTERREGNUM_TIMEOUT (R69): A lane in Service held 1,000 µs in the interregnum takes its gate enables low and counts as Withdrawn. -/
def execInterregnumTimeout (l : LaneId) (t : Nat) (s : State) : Host.Outcome State Fault Refusal :=
  onLane l t (gate .core 8 Lane.interregnumTimeout) s

/-- VOTE_EXPIRY (R84): A cast vote leaves force after 200 µs. -/
def execVoteExpiry (l : LaneId) (t : Nat) (v : LaneId) (s : State) : Host.Outcome State Fault Refusal :=
  onLane l t (gate .core 8 (Lane.voteExpiry v)) s

/-- STANDSTILL_CONFIRM (R54): Ground speed below standstill speed for the standstill time confirms standstill and removes brake release. -/
def execStandstillConfirm (l : LaneId) (t : Nat) (s : State) : Host.Outcome State Fault Refusal :=
  onLane l t (gateTask Lane.standstillConfirm) s

/-- STOP_TIME_LIMIT (R54): Standstill unconfirmed at the stop time limit removes brake release at once. -/
def execStopTimeLimit (l : LaneId) (t : Nat) (s : State) : Host.Outcome State Fault Refusal :=
  onLane l t (gateTask Lane.stopTimeLimit) s

/-- STEERING_HOLD_END (R54): After the steering hold time the steering torque demand ramps to zero over 100 ms. -/
def execSteeringHoldEnd (l : LaneId) (t : Nat) (s : State) : Host.Outcome State Fault Refusal :=
  onLane l t (gateTask Lane.steeringHoldEnd) s

/-- STOP_END (R54): The steering ramp reaches zero and the controlled stop ends. -/
def execStopEnd (l : LaneId) (t : Nat) (s : State) : Host.Outcome State Fault Refusal :=
  onLane l t (gateTask Lane.stopEnd) s

/-- BENCH (R41): KY_CMD.BENCH requests Service to Bench, with a release first by the holder. -/
def execBench (l : LaneId) (t : Nat) (s : State) : Host.Outcome State Fault Refusal :=
  onLane l t (gatePair .core 8 Lane.benchCmd) s

/-- READMIT (R41): KY_CMD.READMIT requests Bench to Shadow. -/
def execReadmit (l : LaneId) (t : Nat) (s : State) : Host.Outcome State Fault Refusal :=
  onLane l t (gatePair .core 8 Lane.readmitCmd) s

/-- RELEASE (R81): KY_CMD.RELEASE clears the holder's key and sends a release naming rank 1. -/
def execRelease (l : LaneId) (t : Nat) (s : State) : Host.Outcome State Fault Refusal :=
  onLane l t (gatePair .core 8 Lane.releaseCmd) s

end Sys2Proof.Machine
end

