-- ==== Sys2Proof/Machine/CmdCompute.lean ====
section
/-! DEFINITION. Fault hub, compute section and self-test: the meaning of each command of the family on the whole package (the `Lane` operation that each of them
calls says what it does, in the file of its block). -/

namespace Sys2Proof.Machine

/-- FAULT_REPORT (R350): A checker reports a detected error, which the hub classifies, records and acts on. -/
def execFaultReport (l : LaneId) (t : Nat) (source : Nat) (unit : Nat) (inj : Bool) (s : State) : Host.Outcome State Fault Refusal :=
  onLane l t (gate .core (if srcClass source = 2 then 0xFF else 3) (Lane.faultReport source unit inj)) s

/-- ERR_OUT_PULSE_END (R353): An ERR_OUT pulse ends after 10–12 µs. -/
def execErrOutPulseEnd (l : LaneId) (t : Nat) (s : State) : Host.Outcome State Fault Refusal :=
  onLane l t (gate .core 3 Lane.errOutPulseEnd) s

/-- QUIET_PERIOD_END (R355): QUIET ms without a fault leave the fault state, count a recovery and may reset the lane. -/
def execQuietPeriodEnd (l : LaneId) (t : Nat) (source : Nat) (s : State) : Host.Outcome State Fault Refusal :=
  onLane l t (gate .core 3 (Lane.quietPeriodEnd source)) s

/-- LOG_RECORD_WRITE (R362): A queued event-log record is written to flash when the temperature allows. -/
def execLogRecordWrite (l : LaneId) (t : Nat) (s : State) : Host.Outcome State Fault Refusal :=
  onLane l t (gate .core 3 Lane.logRecordWrite) s

/-- FC_ERROUT_WRITE (R353): A write of FC_ERROUT.HOLD holds or releases ERR_OUT. -/
def execFcErroutWrite (l : LaneId) (t : Nat) (v : Word) (s : State) : Host.Outcome State Fault Refusal :=
  onLane l t (gatePair .core 3 (Lane.fcErroutWrite v)) s

/-- FC_INJ_ARM (R358): Arming FC_INJ inverts check bits for the next COUNT checks, or is denied. -/
def execFcInjArm (l : LaneId) (t : Nat) (v : Word) (s : State) : Host.Outcome State Fault Refusal :=
  onLane l t (gatePair .core 3 (Lane.fcInjArm v)) s

/-- FC_XINJ_ARM (R359): Arming FC_XINJ drops, corrupts or reorders own cross-lane frames of one class. -/
def execFcXinjArm (l : LaneId) (t : Nat) (v : Word) (s : State) : Host.Outcome State Fault Refusal :=
  onLane l t (gatePair .core 3 (Lane.fcXinjArm v)) s

/-- FC_TRAP_WRITE (R360): An FC_TRAP entry in Blank forces the read value of one status bit. -/
def execFcTrapWrite (l : LaneId) (t : Nat) (e : Fin 8) (v : Word) (s : State) : Host.Outcome State Fault Refusal :=
  onLane l t (gatePair .core 3 (Lane.fcTrapWrite e v)) s

/-- PAIR_MISMATCH (R331): A helm pair transaction mismatch halts both cores and is fatal. -/
def execPairMismatch (l : LaneId) (t : Nat) (s : State) : Host.Outcome State Fault Refusal :=
  onLane l t (gate .core 0x20 Lane.pairMismatch) s

/-- COMPARE_TIMEOUT (R330): A lead transaction unmatched for 1,024 cycles counts as a mismatch. -/
def execCompareTimeout (l : LaneId) (t : Nat) (cycles : Nat) (s : State) : Host.Outcome State Fault Refusal :=
  onLane l t (gate .core 0x20 (Lane.compareTimeout cycles)) s

/-- WATCHDOG_EXPIRY (R350): The watchdog expires, which is fatal source 9. -/
def execWatchdogExpiry (l : LaneId) (t : Nat) (s : State) : Host.Outcome State Fault Refusal :=
  onLane l t (gate .core 0x20 Lane.watchdogExpiry) s

/-- INTERRUPT_TAKE (R333): The pair takes an interrupt at the same retirement count in both cores. -/
def execInterruptTake (l : LaneId) (t : Nat) (n : Nat) (s : State) : Host.Outcome State Fault Refusal :=
  onLane l t (gate .core 0x20 (Lane.interruptTake n)) s

/-- IC_CLAIM (R338): A read of the claim register returns and activates the highest pending source and stacks the threshold. -/
def execIcClaim (l : LaneId) (t : Nat) (yard : Bool) (s : State) : Host.Outcome State Fault Refusal :=
  onLane l t (gate .core 22 (Lane.icClaim yard)) s

/-- IC_COMPLETE (R338): Writing a source number completes it and restores the stacked threshold. -/
def execIcComplete (l : LaneId) (t : Nat) (yard : Bool) (source : Nat) (s : State) : Host.Outcome State Fault Refusal :=
  onLane l t (gate .core 22 (Lane.icComplete yard source)) s

/-- IC_VECTOR_READ (R338): A read of IC_VECTOR claims and returns the vector address. -/
def execIcVectorRead (l : LaneId) (t : Nat) (s : State) : Host.Outcome State Fault Refusal :=
  onLane l t (gatePair .core 0x20 Lane.icVectorRead) s

/-- IC_BUDGET_START (R345): A write of IC_BUDGET starts or stops a count-down. -/
def execIcBudgetStart (l : LaneId) (t : Nat) (cycles : Nat) (s : State) : Host.Outcome State Fault Refusal :=
  onLane l t (gatePair .core 0x20 (Lane.icBudgetStart cycles)) s

/-- BUDGET_EXPIRY (R345): The budget timer reaches 0, makes source 117 pending and aborts the application's tick. -/
def execBudgetExpiry (l : LaneId) (t : Nat) (s : State) : Host.Outcome State Fault Refusal :=
  onLane l t (gate .core 0x20 Lane.budgetExpiry) s

/-- SWSET (R337): IC_SRC.SWSET makes source 116 pending. -/
def execSwset (l : LaneId) (t : Nat) (s : State) : Host.Outcome State Fault Refusal :=
  onLane l t (gatePair .core 22 Lane.swset) s

/-- DOORBELL_H (R349): The yard core rings source 114 at the helm pair. -/
def execDoorbellH (l : LaneId) (t : Nat) (s : State) : Host.Outcome State Fault Refusal :=
  onLane l t (gate .core 0x21 Lane.doorbellH) s

/-- DOORBELL_Y (R337): The helm pair rings source 115 at the yard core. -/
def execDoorbellY (l : LaneId) (t : Nat) (s : State) : Host.Outcome State Fault Refusal :=
  onLane l t (gatePair .core 0x20 Lane.doorbellY) s

/-- YRESET (R349): IC_YARD.YRESET resets the yard core alone. -/
def execYreset (l : LaneId) (t : Nat) (s : State) : Host.Outcome State Fault Refusal :=
  onLane l t (gatePair .core 0x20 Lane.yReset) s

/-- YARD_FIREWALL_REFUSE (R348): A refused yard access gets a bus error, sets FW_ERR and is counted. -/
def execYardFirewallRefuse (l : LaneId) (t : Nat) (a : Nat) (write : Bool) (s : State) : Host.Outcome State Fault Refusal :=
  onLane l t (gate .core 0x21 (Lane.yardFirewallRefuse a write)) s

/-- FIREWALL_STORM (R350): 1,000 refused yard accesses within 1 ms reset the yard core as a contained fault. -/
def execFirewallStorm (l : LaneId) (t : Nat) (s : State) : Host.Outcome State Fault Refusal :=
  onLane l t (gate .core 0x21 Lane.firewallStorm) s

/-- TICK_DONE (R347): The application ends its tick by ecall. -/
def execTickDone (l : LaneId) (t : Nat) (s : State) : Host.Outcome State Fault Refusal :=
  onLane l t (gateTask Lane.tickDone) s

/-- LOG (R347): The application logs a code and value by ecall. -/
def execLog (l : LaneId) (t : Nat) (call : AppCall) (value : Word) (s : State) : Host.Outcome State Fault Refusal :=
  onLane l t (gateTask (Lane.appCall call value)) s

/-- TALLY (R347): The application reads a tally from the last snapshot by ecall. -/
def execTally (l : LaneId) (t : Nat) (b : Nat) (idx : Nat) (s : State) : Host.Outcome State Fault Refusal :=
  onLane l t (gateTask (Lane.appTally b idx)) s

/-- MAIL (R347): The application posts a message to the yard core by ecall. -/
def execMail (l : LaneId) (t : Nat) (addr : Nat) (len : Nat) (s : State) : Host.Outcome State Fault Refusal :=
  onLane l t (gateTask (Lane.appMail addr len)) s

/-- SLICE_START (R368): The token holder starts a self-test slice that can end 3 µs before its next boundary. -/
def execSliceStart (l : LaneId) (t : Nat) (len : Nat) (s : State) : Host.Outcome State Fault Refusal :=
  onLane l t (gate .core 4 (Lane.sliceStart len)) s

/-- SLICE_END (R364): A slice ends and records pass or fail of its unit. -/
def execSliceEnd (l : LaneId) (t : Nat) (pass : Bool) (last : Bool) (sig : Word) (s : State) : Host.Outcome State Fault Refusal :=
  onLane l t (gate .core 4 (Lane.sliceEnd pass last sig)) s

/-- TOKEN_CREATE (R369): After 1 ms without a pass, the qualifying lane creates a new token. -/
def execTokenCreate (l : LaneId) (t : Nat) (s : State) : Host.Outcome State Fault Refusal :=
  onLane l t (gate .core 4 Lane.tokenCreate) s

/-- PERIODIC_RUN_START (R371): At each self-test cycle start the periodic program starts, or CYCLE_LATE is raised. -/
def execPeriodicRunStart (l : LaneId) (t : Nat) (s : State) : Host.Outcome State Fault Refusal :=
  onLane l t (gate .core 4 Lane.periodicRunStart) s

/-- DEEP (R371): ST_CMD.DEEP starts the deep program in Bench. -/
def execDeep (l : LaneId) (t : Nat) (s : State) : Host.Outcome State Fault Refusal :=
  onLane l t (gatePair .core 4 Lane.deep) s

/-- ST_ABORT (R371): ST_CMD.ABORT ends the running program after its slice. -/
def execStAbort (l : LaneId) (t : Nat) (s : State) : Host.Outcome State Fault Refusal :=
  onLane l t (gatePair .core 4 Lane.stAbort) s

/-- STEP (R374): ST_CMD.STEP runs one slice of the lowest selected unit under direct control. -/
def execStep (l : LaneId) (t : Nat) (s : State) : Host.Outcome State Fault Refusal :=
  onLane l t (gatePair .core 4 Lane.step1) s

end Sys2Proof.Machine
end

