-- ==== Sys2Proof/Machine/CmdDrive.lean ====
section
/-! DEFINITION. Drive section of a group: ticks, legs, link, currents, feedback and rotor angle: the meaning of each command of the family on the whole package (the `Lane` operation that each of them
calls says what it does, in the file of its block). -/

namespace Sys2Proof.Machine

/-- DECISION_TICK (R94): Every 500 main-clock cycles all sixteen torque engines, angle units and per-tick checks of the lane run one decision tick. -/
def execDecisionTick (l : LaneId) (t : Nat) (xs : List GroupSample) (s : State) : Host.Outcome State Fault Refusal :=
  onLane l t (gate .drive 11 (Lane.decisionTick xs)) s

/-- DEFERRED_LEG_CHANGE (R154): A table-mode change deferred for MINPULSE takes effect at the first 625 ps step at which it may. -/
def execDeferredLegChange (l : LaneId) (t : Nat) (g : Fin 16) (k : Fin 4) (s : State) : Host.Outcome State Fault Refusal :=
  onLane l t (gate .drive 10 (Lane.deferredLegChange g k)) s

/-- CARRIER_PERIOD_START (R143): A carrier period of a group starts, and the commit, QCAP, trip-hold end, handover, duties and widths take effect in order. -/
def execCarrierPeriodStart (l : LaneId) (t : Nat) (g : Fin 16) (clocks : List Nat) (illegal : Nat) (s : State) : Host.Outcome State Fault Refusal :=
  onLane l t (gateAwake 10 (Lane.carrierPeriodStart g clocks illegal)) s

/-- GEN_HOLD_END (R167): 2.0 µs after the gate enable rises, legs take their first commands. -/
def execGenHoldEnd (l : LaneId) (t : Nat) (g : Fin 16) (s : State) : Host.Outcome State Fault Refusal :=
  onLane l t (gate .drive 10 (Lane.genHoldEnd g)) s

/-- SWITCHING_NODE_EDGE (R156): A sense edge is stamped and classed, and dead time is adapted on natural edges. -/
def execSwitchingNodeEdge (l : LaneId) (t : Nat) (g : Fin 16) (k : Fin 4) (rising : Bool) (cross : Option Nat) (clocks : List Nat) (s : State) : Host.Outcome State Fault Refusal :=
  onLane l t (gateAwakeIn 10 (Lane.switchingNodeEdge g k rising cross clocks)) s

/-- OVERCURRENT_TRIP (R187): A sinc2 phase current at or above SD_OC turns the legs off and enters trip hold. -/
def execOvercurrentTrip (l : LaneId) (t : Nat) (g : Fin 16) (u : List Nat) (v : List Nat) (w : List Nat) (s : State) : Host.Outcome State Fault Refusal :=
  onLane l t (gate .drive 13 (Lane.overcurrentTrip g (joinPhases u v w))) s

/-- EG_OVERCURRENT (R236): A sinc2 current at or above EG_OC puts the group off. -/
def execEgOvercurrent (l : LaneId) (t : Nat) (g : Fin 16) (u : List Nat) (v : List Nat) (w : List Nat) (s : State) : Host.Outcome State Fault Refusal :=
  onLane l t (gate .drive 17 (Lane.egOvercurrent g (joinPhases u v w))) s

/-- EG_OVERVOLTAGE (R236): Fast-path vDC at or above EG_OV for 1.0 µs puts the group off. -/
def execEgOvervoltage (l : LaneId) (t : Nat) (g : Fin 16) (clocks : List Nat) (s : State) : Host.Outcome State Fault Refusal :=
  onLane l t (gate .drive 17 (Lane.egOvervoltage g clocks)) s

/-- SWITCH_TOKEN_RETURN (R236): A switching token returns after SW_INT, releasing a held leg change. -/
def execSwitchTokenReturn (l : LaneId) (t : Nat) (g : Fin 16) (k : Fin 4) (s : State) : Host.Outcome State Fault Refusal :=
  onLane l t (gate .drive 17 (Lane.switchTokenReturn g k)) s

/-- CHANNEL_STUCK (R191): 128 equal bits on a channel set CHFAULT and isolate the star or put the group off. -/
def execChannelStuck (l : LaneId) (t : Nat) (g : Fin 16) (x : ChannelBits) (s : State) : Host.Outcome State Fault Refusal :=
  onLane l t (gate .drive 13 (Lane.channelStuck g x.channel x.clocks)) s

/-- SETTLING_END (R186): 3M modulator clocks after ENABLE rises, SETTLING clears. -/
def execSettlingEnd (l : LaneId) (t : Nat) (g : Fin 16) (s : State) : Host.Outcome State Fault Refusal :=
  onLane l t (gate .drive 13 (Lane.settlingEnd g)) s

/-- OV_QUALIFIED (R177): Fast-path vDC at or above VOV2 or VOV3 for OV_QUAL isolates the star or puts the group off. -/
def execOvQualified (l : LaneId) (t : Nat) (g : Fin 16) (x : ThresholdBits) (s : State) : Host.Outcome State Fault Refusal :=
  onLane l t (gate .drive 10 (Lane.ovQualified g x.third x.clocks)) s

/-- UNDERVOLTAGE_TRIP (R181): Fast-path vDC below VUV_TRIP for UV_T isolates the star. -/
def execUndervoltageTrip (l : LaneId) (t : Nat) (x : GroupBits) (s : State) : Host.Outcome State Fault Refusal :=
  onLane l t (gate .drive 10 (Lane.undervoltageTrip x.group x.clocks)) s

/-- ADC_FRAME (R192): Every 5 µs the ADCs hold and convert their front-end inputs and two housekeeping entries. -/
def execAdcFrame (l : LaneId) (t : Nat) (fe : List Int) (hk : List Int) (temp : List Int) (s : State) : Host.Outcome State Fault Refusal :=
  onLane l t (gate .field 15 (Lane.adcFrame fe hk temp)) s

/-- SSI_TRANSFER (R206): At every SSI_FRAMES-th frame start an SSI transfer is clocked in. -/
def execSsiTransfer (l : LaneId) (t : Nat) (f : Fin 16) (dataHigh : Bool) (s : State) : Host.Outcome State Fault Refusal :=
  onLane l t (gateIn .drive 14 (Lane.ssiTransfer f dataHigh)) s

/-- SSI_TRANSFER_DONE (R207): A completed SSI transfer is decoded and checked, or failed with SSI_ERR. -/
def execSsiTransferDone (l : LaneId) (t : Nat) (f : Fin 16) (word : Nat) (par : Bool) (last : Bool) (s : State) : Host.Outcome State Fault Refusal :=
  onLane l t (gateIn .drive 14 (Lane.ssiTransferDone f word par last)) s

/-- INCREMENTAL_EDGE (R200): A filtered quadrature change counts ±1 or is an illegal transition. -/
def execIncrementalEdge (l : LaneId) (t : Nat) (f : Fin 16) (x : IncrLevels) (held : Nat) (s : State) : Host.Outcome State Fault Refusal :=
  onLane l t (gateIn .drive 14 (Lane.incrementalEdge f x.a x.b x.z held)) s

/-- Z_EDGE (R201): A rising Z edge sets the reference or checks it. -/
def execZEdge (l : LaneId) (t : Nat) (x : ZRise) (s : State) : Host.Outcome State Fault Refusal :=
  onLane l t (gateIn .drive 14 (Lane.zEdge x.interface x.held)) s

/-- SET_REF (R201): FB_CMD.SET_REF sets the incremental count to REF_POS and sets REF_OK. -/
def execSetRef (l : LaneId) (t : Nat) (f : Fin 16) (s : State) : Host.Outcome State Fault Refusal :=
  onLane l t (gatePair .drive 14 (Lane.setRef f)) s

/-- HALL_CHANGE (R208): A change of Hall pattern steps the sector count or raises HALL_INVALID. -/
def execHallChange (l : LaneId) (t : Nat) (f : Fin 16) (x : HallLevels) (s : State) : Host.Outcome State Fault Refusal :=
  onLane l t (gateIn .drive 14 (Lane.hallChange f x.pattern x.held)) s

/-- HALL_INVALID_HOLD (R208): A pattern of 000 or 111 held over 1 µs raises HALL_INVALID. -/
def execHallInvalidHold (l : LaneId) (t : Nat) (f : Fin 16) (s : State) : Host.Outcome State Fault Refusal :=
  onLane l t (gate .drive 14 (Lane.hallInvalidHold f)) s

/-- LINE_FAULT (R210): A receiver's differential or common-mode fault for 2 µs sets LINE and possibly FAULT. -/
def execLineFault (l : LaneId) (t : Nat) (f : Fin 16) (rcv : Fin 3) (s : State) : Host.Outcome State Fault Refusal :=
  onLane l t (gateIn .drive 14 (Lane.lineFault f rcv)) s

/-- SPEED_TIMEOUT (R212): No step for SPD_TO returns the speed state to Standstill. -/
def execSpeedTimeout (l : LaneId) (t : Nat) (f : Fin 16) (s : State) : Host.Outcome State Fault Refusal :=
  onLane l t (gate .drive 14 (Lane.speedTimeout f)) s

/-- EXCITATION_HALF_PERIOD (R204): The measured excitation amplitude of a half period is checked, and EXC_FAULT is set after three failures. -/
def execExcitationHalfPeriod (l : LaneId) (t : Nat) (amp : Nat) (limited : Bool) (s : State) : Host.Outcome State Fault Refusal :=
  onLane l t (gate .field 15 (Lane.excitationHalfPeriod amp limited)) s

/-- POLARITY_TEST (R139): Pulses along ±d decide the magnet polarity or repeat up to three tests. -/
def execPolarityTest (l : LaneId) (t : Nat) (g : Fin 16) (lo : List Nat) (hi : List Nat) (s : State) : Host.Outcome State Fault Refusal :=
  onLane l t (gate .drive 12 (Lane.polarityTest g (joinPairs lo hi))) s

/-- START_FAIL (R139): Injection confidence fails to reach CMIN in 5 ms, or three tests fail, and the star is isolated. -/
def execStartFail (l : LaneId) (t : Nat) (g : Fin 16) (s : State) : Host.Outcome State Fault Refusal :=
  onLane l t (gate .drive 12 (Lane.startFail g)) s

/-- POLARITY_WAIT_END (R139): After waiting up to 3 ms for a sibling POL_OK, the lane tests polarity itself. -/
def execPolarityWaitEnd (l : LaneId) (t : Nat) (g : Fin 16) (s : State) : Host.Outcome State Fault Refusal :=
  onLane l t (gate .drive 12 (Lane.polarityWaitEnd g)) s

/-- LOCAL_SOURCE_RETURN (R135): A lost observer or injection in agreement with consensus for 1 ms is returned to use. -/
def execLocalSourceReturn (l : LaneId) (t : Nat) (g : Fin 16) (src : Source) (s : State) : Host.Outcome State Fault Refusal :=
  onLane l t (gate .drive 12 (Lane.localSourceReturn g src)) s

/-- ENCODER_ALIGN (R131): Encoder agreement held 100 ms sets ALIGN_OK, or a difference beyond ENC_WIN for 10 ms sets ENC_MISALIGN. -/
def execEncoderAlign (l : LaneId) (t : Nat) (g : Fin 16) (ok : Bool) (s : State) : Host.Outcome State Fault Refusal :=
  onLane l t (gate .drive 12 (Lane.encoderAlign g ok)) s

/-- ALIGN_CAPTURE (R131): AN_CMD.ALIGN_CAPTURE stores the encoder offset in AN_ENC_CAPT. -/
def execAlignCapture (l : LaneId) (t : Nat) (g : Fin 16) (s : State) : Host.Outcome State Fault Refusal :=
  onLane l t (gatePair .drive 12 (Lane.alignCapture g)) s

/-- PEER_STALE (R133): A sibling estimate passes 30 µs of elapsed time and becomes unusable. -/
def execPeerStale (l : LaneId) (t : Nat) (g : Fin 16) (p : Port) (s : State) : Host.Outcome State Fault Refusal :=
  onLane l t (gate .drive 12 (Lane.peerStale g p)) s

/-- LG_COMMIT (R146): LG_CMD.COMMIT makes a commit pending. -/
def execLgCommit (l : LaneId) (t : Nat) (g : Fin 16) (s : State) : Host.Outcome State Fault Refusal :=
  onLane l t (gatePair .drive 10 (Lane.lgCommit g)) s

/-- TRIP_CLR (R166): LG_CMD.TRIP_CLR ends a trip hold while the comparators are clear. -/
def execTripClr (l : LaneId) (t : Nat) (g : Fin 16) (s : State) : Host.Outcome State Fault Refusal :=
  onLane l t (gatePair .drive 10 (Lane.tripClr g)) s

/-- DAC_ROUTE (R195): A write of AD_DAC routes the loopback DAC, or is refused with DAC_DENIED outside Bench. -/
def execDacRoute (l : LaneId) (t : Nat) (v : Word) (s : State) : Host.Outcome State Fault Refusal :=
  onLane l t (gatePair .field 15 (Lane.dacRoute v)) s

end Sys2Proof.Machine
end

