-- ==== Sys2Proof/Machine/CmdField.lean ====
section
/-! DEFINITION. Field die: die-to-die link, safety inputs, field supplies: the meaning of each command of the family on the whole package (the `Lane` operation that each of them
calls says what it does, in the file of its block). -/

namespace Sys2Proof.Machine

/-- D2D_FRAME_RECEIVE (R25): A die-to-die frame is received and CRC-checked every 1.0 µs. -/
def execD2dFrameReceive (l : LaneId) (t : Nat) (field : Bool) (x : D2dFrame) (s : State) : Host.Outcome State Fault Refusal :=
  onLane l t (gate .field 16 (if field then Lane.fieldFrame x.ok else Lane.d2dFrameReceive x.ok x.temp)) s

/-- D2D_LINK_LOSS (R26): Two CRC failures or 4 µs without a frame lose the die-to-die link, which is fatal, and the field die switches off. -/
def execD2dLinkLoss (l : LaneId) (t : Nat) (s : State) : Host.Outcome State Fault Refusal :=
  onLane l t (gate .field 16 Lane.d2dLinkLoss) s

/-- INPUT_SAMPLE (R223): The field die samples every safety input each 10 µs, and the filter updates. -/
def execInputSample (l : LaneId) (t : Nat) (raw : Nat) (s : State) : Host.Outcome State Fault Refusal :=
  onLane l t (gateIn .field 16 (Lane.inputSample raw)) s

/-- OFF_PULSE_START (R221): A pulsed supply switches off for 200 µs at its phase of device time. -/
def execOffPulseStart (l : LaneId) (t : Nat) (j : Fin 4) (s : State) : Host.Outcome State Fault Refusal :=
  onLane l t (gate .field 16 (Lane.offPulseStart j)) s

/-- TEST_SAMPLE (R225): 180 µs into an off-pulse, test samples judge pass, stuck or cross for each input. -/
def execTestSample (l : LaneId) (t : Nat) (j : Fin 4) (raw : Nat) (s : State) : Host.Outcome State Fault Refusal :=
  onLane l t (gateIn .field 16 (Lane.testSample j raw)) s

/-- TEST_CYCLE_END (R226): At each 20 ms test cycle end, input faults clear after 4 clean cycles. -/
def execTestCycleEnd (l : LaneId) (t : Nat) (s : State) : Host.Outcome State Fault Refusal :=
  onLane l t (gate .field 16 Lane.testCycleEnd) s

/-- SUPPLY_LIMIT_TRIP (R222): A field supply in current limit for 10 ms switches off and sets OFF. -/
def execSupplyLimitTrip (l : LaneId) (t : Nat) (supply : Fin 8) (s : State) : Host.Outcome State Fault Refusal :=
  onLane l t (gate .field 16 (Lane.supplyLimitTrip supply)) s

/-- SUPPLY_RETRY (R222): 1 s after a switch-off an enabled supply retries. -/
def execSupplyRetry (l : LaneId) (t : Nat) (supply : Fin 8) (limited : Bool) (s : State) : Host.Outcome State Fault Refusal :=
  onLane l t (gate .field 16 (Lane.supplyRetry supply limited)) s

/-- SUPPLY_ENABLE_CLEAR (R222): Clearing a supply's enable bit switches it off and clears its OFF bit and time in limit. -/
def execSupplyEnableClear (l : LaneId) (t : Nat) (supply : Fin 8) (s : State) : Host.Outcome State Fault Refusal :=
  onLane l t (gatePair .field 16 (Lane.supplyEnableClear supply)) s

/-- SUPPLY_CURRENT_LIMIT (R222): A field supply's load drives it into or out of current limit, setting or clearing its LIM bit and starting or ending its 10 ms time in limit. -/
def execSupplyCurrentLimit (l : LaneId) (t : Nat) (supply : Fin 8) (inLimit : Bool) (s : State) : Host.Outcome State Fault Refusal :=
  onLane l t (gate .field 16 (Lane.supplyCurrentLimit supply inLimit)) s

end Sys2Proof.Machine
end

