-- ==== Sys2Proof/Machine/CmdLife.lean ====
section
/-! DEFINITION. Configuration, install, 100BASE-T1 port, flash and life cycle: the meaning of each command of the family on the whole package (the `Lane` operation that each of them
calls says what it does, in the file of its block). -/

namespace Sys2Proof.Machine

/-- CONFIG_COMMIT (R422): 0x7101 checks, erases, programs and reads back the image into the inactive bank. -/
def execConfigCommit (l : LaneId) (t : Nat) (ok : Bool) (s : State) : Host.Outcome State Fault Refusal :=
  onLane l t (gateTask (Lane.configCommit ok)) s

/-- CONFIG_COMMIT_COMPLETE (R422): The bank header is written, the result is recorded and the lane resets into the new bank. -/
def execConfigCommitComplete (l : LaneId) (t : Nat) (s : State) : Host.Outcome State Fault Refusal :=
  onLane l t (gateTask Lane.configCommitComplete) s

/-- INSTALL_OPEN (R426): 0x7200 sub-index 1 opens an install and erases the target header and journal sector. -/
def execInstallOpen (l : LaneId) (t : Nat) (size : Nat) (s : State) : Host.Outcome State Fault Refusal :=
  onLane l t (gateTask (Lane.installOpen size)) s

/-- INSTALL_VERIFY (R427): 0x7200 sub-index 2 starts verification of the stored image. -/
def execInstallVerify (l : LaneId) (t : Nat) (s : State) : Host.Outcome State Fault Refusal :=
  onLane l t (gateTask Lane.installVerify) s

/-- VERIFY_DONE (R427): Verification ends with the slot header written and a reset, or with state 8. -/
def execVerifyDone (l : LaneId) (t : Nat) (s : State) : Host.Outcome State Fault Refusal :=
  onLane l t (gateTask Lane.verifyDone) s

/-- INSTALL_ABORT (R429): An install is aborted by command or by a lane leaving Service. -/
def execInstallAbort (l : LaneId) (t : Nat) (cmd : Bool) (s : State) : Host.Outcome State Fault Refusal :=
  onLane l t (gateTask (Lane.installAbort cmd)) s

/-- TRIAL_FAIL (R428): A failed deep program or Shadow mismatch invalidates the trial slot and resets the lane. -/
def execTrialFail (l : LaneId) (t : Nat) (s : State) : Host.Outcome State Fault Refusal :=
  onLane l t (gateTask Lane.trialFail) s

/-- IMAGE_FRAME_RECEIVE (R303): A stream 4 image frame is buffered, dropped or answered with status 2. -/
def execImageFrameReceive (l : LaneId) (t : Nat) (dst : List Byte) (src : List Byte) (etherType : List Byte) (head : List Byte) (data : List Byte) (fcs : List Byte) (s : State) : Host.Outcome State Fault Refusal :=
  onLane l t (gateIn .link 20 (Lane.imageFrameReceive (dst ++ src ++ etherType ++ head ++ data ++ fcs))) s

/-- IMAGE_BLOCK_STORED (R303): A complete block is stored, read back and journalled, and its acknowledgement is sent. -/
def execImageBlockStored (l : LaneId) (t : Nat) (b : Nat) (ok : Bool) (s : State) : Host.Outcome State Fault Refusal :=
  onLane l t (gateTask (Lane.imageBlockStored b ok)) s

/-- EN_LINK_CHANGE (R302): The 100BASE-T1 link comes up or goes down. -/
def execEnLinkChange (l : LaneId) (t : Nat) (up : Bool) (sqi : Fin 8) (s : State) : Host.Outcome State Fault Refusal :=
  onLane l t (gateIn .link 20 (Lane.enLinkChange up sqi)) s

/-- STREAM_FRAME_SEND (R302): An outbound stream frame is sent within the rate limit. -/
def execStreamFrameSend (l : LaneId) (t : Nat) (stream : Nat) (s : State) : Host.Outcome State Fault Refusal :=
  onLane l t (gate .link 20 (Lane.streamFrameSend stream)) s

/-- CF_ERASE (R431): CF_OP erase starts erasing a 64 KB sector, or is refused. -/
def execCfErase (l : LaneId) (t : Nat) (s : State) : Host.Outcome State Fault Refusal :=
  onLane l t (gatePair .core 7 Lane.cfErase) s

/-- CF_PROGRAM (R431): CF_OP program starts programming CF_LEN bytes, or is refused. -/
def execCfProgram (l : LaneId) (t : Nat) (s : State) : Host.Outcome State Fault Refusal :=
  onLane l t (gatePair .core 7 Lane.cfProgram) s

/-- CF_OP_DONE (R431): An accepted flash operation ends and BUSY clears. -/
def execCfOpDone (l : LaneId) (t : Nat) (s : State) : Host.Outcome State Fault Refusal :=
  onLane l t (gate .core 7 Lane.cfOpDone) s

/-- SERVICE_TIME_EXPIRY (R411): The remaining Service time reaches 0 and the lane returns to Field. -/
def execServiceTimeExpiry (l : LaneId) (t : Nat) (s : State) : Host.Outcome State Fault Refusal :=
  onLane l t Lane.serviceTimeExpiry s

/-- RETIRE (R410): The private TAP instruction RETIRE zeroises the keys and programs Retired. -/
def execRetire (l : LaneId) (t : Nat) (s : State) : Host.Outcome State Fault Refusal :=
  onLane l t Lane.retire s

/-- FACTORY_PROVISION (R410): Factory programming through private TAP instructions moves Blank to Provisioned. -/
def execFactoryProvision (l : LaneId) (t : Nat) (s : State) : Host.Outcome State Fault Refusal :=
  onLane l t Lane.factoryProvision s

end Sys2Proof.Machine
end

