-- ==== Sys2Proof/Machine/CmdNetwork.lean ====
section
/-! DEFINITION. Lane network: the meaning of each command of the family on the whole package (the `Lane` operation that each of them
calls says what it does, in the file of its block). -/

namespace Sys2Proof.Machine

/-- LN_CYCLE_START (R265): A lane-network cycle starts, and the cycle counter advances. -/
def execLnCycleStart (l : LaneId) (t : Nat) (s : State) : Host.Outcome State Fault Refusal :=
  onLane l t (gate .link 18 Lane.lnCycleStart) s

/-- LN_LOCK_POINT (R253): 5 µs before a slot, the transmit buffer halves swap on a pending commit or resend with STALE_TX. -/
def execLnLockPoint (l : LaneId) (t : Nat) (slot : Fin 64) (s : State) : Host.Outcome State Fault Refusal :=
  onLane l t (gate .link 18 (Lane.lnLockPoint slot)) s

/-- LN_ACTION_POINT (R251): At a slot's action point the port transmits, relays or expects a frame by its entry. -/
def execLnActionPoint (l : LaneId) (t : Nat) (slot : Fin 64) (s : State) : Host.Outcome State Fault Refusal :=
  onLane l t (gate .link 18 (Lane.lnActionPoint slot)) s

/-- LN_FRAME_RECEIVE (R254): A frame on a port is checked in order and accepted or discarded with its counter. -/
def execLnFrameReceive (l : LaneId) (t : Nat) (p : Fin 2) (f : LnFrame) (s : State) : Host.Outcome State Fault Refusal :=
  onLane l t (gateIn .link 18 (Lane.netFrameReceive p f)) s

/-- NETWORK_IDLE_START (R248): The network idle time begins. -/
def execNetworkIdleStart (l : LaneId) (t : Nat) (s : State) : Host.Outcome State Fault Refusal :=
  onLane l t (gate .link 18 Lane.networkIdleStart) s

/-- PORT_LOST (R256): PORT_TO cycles without an accepted frame lose a port. -/
def execPortLost (l : LaneId) (t : Nat) (p : Fin 2) (s : State) : Host.Outcome State Fault Refusal :=
  onLane l t (gate .link 18 (Lane.portLost p)) s

/-- PORT_BACK (R256): PORT_BACK cycles with accepted frames bring a port back. -/
def execPortBack (l : LaneId) (t : Nat) (p : Fin 2) (s : State) : Host.Outcome State Fault Refusal :=
  onLane l t (gate .link 18 (Lane.portBack p)) s

/-- GUARDIAN_STROBE (R260): The scheduler's strobe at a cycle start is accepted as origin or is a violation. -/
def execGuardianStrobe (l : LaneId) (t : Nat) (p : Fin 2) (count : Nat) (s : State) : Host.Outcome State Fault Refusal :=
  onLane l t (gate .link 18 (Lane.guardianStrobe p count)) s

/-- STROBE_MISSING (R260): No strobe by 1 µs after the prediction is a STROBE violation. -/
def execStrobeMissing (l : LaneId) (t : Nat) (x : PortCount) (s : State) : Host.Outcome State Fault Refusal :=
  onLane l t (gate .link 18 (Lane.strobeMissing x.port x.count)) s

/-- GUARDIAN_VIOLATION (R261): A transmission outside or overrunning its window is blocked and counted. -/
def execGuardianViolation (l : LaneId) (t : Nat) (x : PortSpan) (s : State) : Host.Outcome State Fault Refusal :=
  onLane l t (gate .link 18 (Lane.guardianViolation x.port x.span)) s

/-- COLLISION (R243): A collision ends the frame with a jam, without retransmission. -/
def execCollision (l : LaneId) (t : Nat) (p : Fin 2) (s : State) : Host.Outcome State Fault Refusal :=
  onLane l t (gateIn .link 18 (Lane.collision p)) s

/-- COLD_START_COLLISION (R271): A collided cold-start frame makes the node back off by rank. -/
def execColdStartCollision (l : LaneId) (t : Nat) (s : State) : Host.Outcome State Fault Refusal :=
  onLane l t (gateIn .link 18 Lane.coldStartCollision) s

/-- LISTEN_TIMEOUT (R269): The listen timer expires and a node with non-zero rank enters ColdStart. -/
def execListenTimeout (l : LaneId) (t : Nat) (s : State) : Host.Outcome State Fault Refusal :=
  onLane l t (gate .link 18 Lane.listenTimeout) s

/-- COLD_START_DONE (R268): The fourth cold-start frame sent without collision puts the node in Sync at depth 0. -/
def execColdStartDone (l : LaneId) (t : Nat) (s : State) : Host.Outcome State Fault Refusal :=
  onLane l t (gate .link 18 Lane.coldStartDone) s

/-- INTEGRATE_TIMEOUT (R268): No confirming frame by the second expected occurrence returns the node to Listen. -/
def execIntegrateTimeout (l : LaneId) (t : Nat) (s : State) : Host.Outcome State Fault Refusal :=
  onLane l t (gate .link 18 Lane.integrateTimeout) s

/-- SOURCE_LOSS (R279): SRC_TO cycles without a frame from the time source change the source, take the reference or start holdover. -/
def execSourceLoss (l : LaneId) (t : Nat) (s : State) : Host.Outcome State Fault Refusal :=
  onLane l t (gate .link 18 Lane.sourceLoss) s

/-- HOLDOVER_LIMIT (R279): Holdover beyond HOLD cycles returns the node to Listen. -/
def execHoldoverLimit (l : LaneId) (t : Nat) (s : State) : Host.Outcome State Fault Refusal :=
  onLane l t (gate .link 18 Lane.holdoverLimit) s

/-- TOPOLOGY_CHECK (R286): Every 8 cycles each port is checked against the sealed topology and closed or reopened. -/
def execTopologyCheck (l : LaneId) (t : Nat) (s : State) : Host.Outcome State Fault Refusal :=
  onLane l t (gate .link 18 Lane.topologyCheck) s

/-- PORT_ENABLE (R268): A rising LN_CFG.ENABLE bit starts the port's network start-up in Listen. -/
def execPortEnable (l : LaneId) (t : Nat) (p : Fin 2) (s : State) : Host.Outcome State Fault Refusal :=
  onLane l t (gatePair .link 18 (Lane.portEnable p)) s

/-- REOPEN (R263): LN_CMD.REOPEN in Bench clears a port latch and its violation history. -/
def execReopen (l : LaneId) (t : Nat) (mask : Nat) (s : State) : Host.Outcome State Fault Refusal :=
  onLane l t (gatePair .link 18 (Lane.reopen mask)) s

/-- LN_TXCOMMIT (R253): A set bit of LN_TXCOMMIT commits the write half of a slot. -/
def execLnTxcommit (l : LaneId) (t : Nat) (hi : Bool) (v : Word) (s : State) : Host.Outcome State Fault Refusal :=
  onLane l t (gatePair .link 18 (Lane.lnTxcommit hi v)) s

/-- LN_RXLOCK (R255): A write of LN_RXLOCK locks or unlocks a receive window. -/
def execLnRxlock (l : LaneId) (t : Nat) (v : Word) (s : State) : Host.Outcome State Fault Refusal :=
  onLane l t (gatePair .link 18 (Lane.lnRxlock v)) s

/-- LN_INJ_ARM (R264): Arming LN_INJ drops, corrupts or reorders own transmissions, or is denied. -/
def execLnInjArm (l : LaneId) (t : Nat) (v : Word) (s : State) : Host.Outcome State Fault Refusal :=
  onLane l t (gatePair .link 18 (Lane.lnInjArm v)) s

/-- LN_MREQ_GO (R281): LN_MREQ.GO sends a mode-change request in the next KIND 6 slot. -/
def execLnMreqGo (l : LaneId) (t : Nat) (v : Word) (s : State) : Host.Outcome State Fault Refusal :=
  onLane l t (gatePair .link 18 (Lane.lnMreqGo v)) s

/-- LN_TIME_READ (R265): A read of LN_TIME_LO or LN_CYC_LO latches the high word. -/
def execLnTimeRead (l : LaneId) (t : Nat) (cyc : Bool) (s : State) : Host.Outcome State Fault Refusal :=
  onLane l t (gatePair .link 18 (Lane.lnTimeRead cyc)) s

end Sys2Proof.Machine
end

