-- ==== Sys2Proof/Machine/CmdObject.lean ====
section
/-! DEFINITION. Object channel and dictionary: the meaning of each command of the family on the whole package (the `Lane` operation that each of them
calls says what it does, in the file of its block). -/

namespace Sys2Proof.Machine

/-- CAN_FRAME_RECEIVE (R297): A CAN frame addressed to the lane is assembled into a message or discarded. -/
def execCanFrameReceive (l : LaneId) (t : Nat) (ext : Bool) (remote : Bool) (id : Nat) (data : List Byte) (s : State) : Host.Outcome State Fault Refusal :=
  onLane l t (gateIn .link 19 (Lane.canFrameReceive ext remote id data)) s

/-- CAN_PART_TIMEOUT (R298): No next part within 10 ms discards the message being assembled. -/
def execCanPartTimeout (l : LaneId) (t : Nat) (s : State) : Host.Outcome State Fault Refusal :=
  onLane l t (gate .link 19 Lane.canPartTimeout) s

/-- RETX_BUDGET_EXPIRY (R299): RETX_BUDGET passes and the message is aborted with TX_ABORT. -/
def execRetxBudgetExpiry (l : LaneId) (t : Nat) (client : Nat) (rid : Nat) (s : State) : Host.Outcome State Fault Refusal :=
  onLane l t (gate .link 19 (Lane.retxBudgetExpiry client rid)) s

/-- BUS_OFF (R296): The controller goes bus-off and drops queued responses. -/
def execBusOff (l : LaneId) (t : Nat) (s : State) : Host.Outcome State Fault Refusal :=
  onLane l t (gateIn .link 19 Lane.busOffEnter) s

/-- BUS_OFF_RECOVERY (R296): 128 occurrences of 11 recessive bits end bus-off. -/
def execBusOffRecovery (l : LaneId) (t : Nat) (s : State) : Host.Outcome State Fault Refusal :=
  onLane l t (gate .link 19 Lane.busOffRecovery) s

/-- READ (R288): READ returns an entry's value or opens a segmented read transfer. -/
def execRead (l : LaneId) (t : Nat) (via : Carrier) (client : Nat) (rid : Nat) (index : Nat) (sub : Nat) (s : State) : Host.Outcome State Fault Refusal :=
  onLane l t (gateTask (Lane.readRequest via client rid index sub)) s

/-- WRITE (R288): WRITE sets an entry's value or starts a CMD action. -/
def execWrite (l : LaneId) (t : Nat) (via : Carrier) (client : Nat) (rid : Nat) (index : Nat) (sub : Nat) (data : List Byte) (s : State) : Host.Outcome State Fault Refusal :=
  onLane l t (gateTask (Lane.writeRequest via client rid index sub data)) s

/-- READ_SEG (R288): READ_SEG returns bytes of the snapshot from an offset. -/
def execReadSeg (l : LaneId) (t : Nat) (via : Carrier) (client : Nat) (rid : Nat) (index : Nat) (sub : Nat) (offset : Nat) (s : State) : Host.Outcome State Fault Refusal :=
  onLane l t (gateTask (Lane.readSegRequest via client rid index sub offset)) s

/-- WRITE_INIT (R291): WRITE_INIT opens a write transfer after checking its total size. -/
def execWriteInit (l : LaneId) (t : Nat) (via : Carrier) (client : Nat) (rid : Nat) (index : Nat) (sub : Nat) (size : Nat) (s : State) : Host.Outcome State Fault Refusal :=
  onLane l t (gateTask (Lane.writeInitRequest via client rid index sub size)) s

/-- WRITE_SEG (R292): WRITE_SEG appends or rewrites bytes of the open transfer. -/
def execWriteSeg (l : LaneId) (t : Nat) (via : Carrier) (client : Nat) (rid : Nat) (index : Nat) (sub : Nat) (offset : Nat) (data : List Byte) (s : State) : Host.Outcome State Fault Refusal :=
  onLane l t (gateTask (Lane.writeSegRequest via client rid index sub offset data)) s

/-- WRITE_END (R292): WRITE_END checks size and CRC and makes the entry take the new value whole. -/
def execWriteEnd (l : LaneId) (t : Nat) (via : Carrier) (client : Nat) (rid : Nat) (index : Nat) (sub : Nat) (size : Nat) (crc : Word) (s : State) : Host.Outcome State Fault Refusal :=
  onLane l t (gateTask (Lane.writeEndRequest via client rid index sub size crc)) s

/-- ABORT (R291): ABORT closes the client's open transfer. -/
def execAbort (l : LaneId) (t : Nat) (via : Carrier) (client : Nat) (rid : Nat) (index : Nat) (sub : Nat) (s : State) : Host.Outcome State Fault Refusal :=
  onLane l t (gateTask (Lane.abortRequest via client rid index sub)) s

/-- BUSY_INTERVAL (R293): Every 5 ms a request in progress receives a BUSY. -/
def execBusyInterval (l : LaneId) (t : Nat) (client : Nat) (rid : Nat) (s : State) : Host.Outcome State Fault Refusal :=
  onLane l t (gateTask (Lane.busyInterval client rid)) s

/-- FLASH_WORK_DONE (R293): Flash work of a request completes and its final response is sent. -/
def execFlashWorkDone (l : LaneId) (t : Nat) (client : Nat) (rid : Nat) (s : State) : Host.Outcome State Fault Refusal :=
  onLane l t (gateTask (Lane.flashWorkDone client rid)) s

/-- XFER_TIMEOUT (R291): XFER_TO of idle time closes a client's open transfer. -/
def execXferTimeout (l : LaneId) (t : Nat) (client : Nat) (s : State) : Host.Outcome State Fault Refusal :=
  onLane l t (gateTask (Lane.xferTimeout client)) s

/-- SET_PROFILE (R61): The set-profile command of 0x3012 is placed in the holder's shelf. -/
def execSetProfile (l : LaneId) (t : Nat) (v : Nat) (s : State) : Host.Outcome State Fault Refusal :=
  onLane l t (gateTask (Lane.setProfile v)) s

/-- START_COMMAND (R47): The start command of 0x3021 is reported in the lane's coordination frame. -/
def execStartCommand (l : LaneId) (t : Nat) (s : State) : Host.Outcome State Fault Refusal :=
  onLane l t (gateTask Lane.startCommand) s

/-- STOP_COMMAND (R50): The stop command of 0x3022 starts a controlled stop. -/
def execStopCommand (l : LaneId) (t : Nat) (s : State) : Host.Outcome State Fault Refusal :=
  onLane l t (gateTask Lane.stopCommand) s

/-- UNLOCK_CHALLENGE (R323): A read of 0x7010 draws a new challenge and voids the previous one. -/
def execUnlockChallenge (l : LaneId) (t : Nat) (s : State) : Host.Outcome State Fault Refusal :=
  onLane l t (gateTask Lane.unlockChallenge) s

/-- UNLOCK_TOKEN (R415): A token written to 0x7011 is checked and either starts Service or fails with TOKEN_BAD. -/
def execUnlockToken (l : LaneId) (t : Nat) (token : List Byte) (s : State) : Host.Outcome State Fault Refusal :=
  onLane l t (gateTask (Lane.unlockToken token)) s

/-- ATTESTATION_NONCE (R416): A nonce written to 0x7020 starts building a signed report. -/
def execAttestationNonce (l : LaneId) (t : Nat) (nonce : List Byte) (s : State) : Host.Outcome State Fault Refusal :=
  onLane l t (gateTask (Lane.attestationNonce nonce)) s

/-- ATTEST_DONE (R417): The attestation report becomes readable, and ATTEST_DONE is raised. -/
def execAttestDone (l : LaneId) (t : Nat) (s : State) : Host.Outcome State Fault Refusal :=
  onLane l t (gateTask Lane.attestDone) s

end Sys2Proof.Machine
end

