-- ==== Sys2Proof/Machine/CmdPower.lean ====
section
/-! DEFINITION. Power, tallies and the register bus: the meaning of each command of the family on the whole package (the `Lane` operation that each of them
calls says what it does, in the file of its block). -/

namespace Sys2Proof.Machine

/-- SLEEP_HOLD (R390): PM_CMD with SLEEP and LEVEL Hold starts the prepare phase of Hold entry. -/
def execSleepHold (l : LaneId) (t : Nat) (s : State) : Host.Outcome State Fault Refusal :=
  onLane l t (gatePair .core 1 Lane.sleepHold) s

/-- SLEEP_CELLAR (R390): PM_CMD with SLEEP and LEVEL Cellar starts the prepare phase of Cellar entry. -/
def execSleepCellar (l : LaneId) (t : Nat) (s : State) : Host.Outcome State Fault Refusal :=
  onLane l t (gatePair .core 1 Lane.sleepCellar) s

/-- PREPARE_ANSWER (R390): A block answers ACK or REFUSE, leading to the next prepare, commit or roll-back. -/
def execPrepareAnswer (l : LaneId) (t : Nat) (streaming : Bool) (s : State) : Host.Outcome State Fault Refusal :=
  onLane l t (Lane.prepareAnswer streaming) s

/-- PREPARE_TIMEOUT (R391): A block silent for 100 µs counts as refusing with TIMEOUT. -/
def execPrepareTimeout (l : LaneId) (t : Nat) (s : State) : Host.Outcome State Fault Refusal :=
  onLane l t Lane.prepareTimeout s

/-- DRAIN_EXPIRY (R393): Transfers still in flight 50 µs after commit are aborted. -/
def execDrainExpiry (l : LaneId) (t : Nat) (drained : Nat) (aborted : List Nat) (s : State) : Host.Outcome State Fault Refusal :=
  onLane l t (Lane.drainExpiry drained aborted) s

/-- LARDER_SAVE_DONE (R394): The larder save completes, pads are latched and domains power off. -/
def execLarderSaveDone (l : LaneId) (t : Nat) (s : State) : Host.Outcome State Fault Refusal :=
  onLane l t Lane.larderSaveDone s

/-- FINAL_WINDOW_END (R396): The 6-cycle final window ends with the wake logic armed. -/
def execFinalWindowEnd (l : LaneId) (t : Nat) (s : State) : Host.Outcome State Fault Refusal :=
  onLane l t Lane.finalWindowEnd s

/-- WAKE_SOURCE (R397): An enabled wake source is recognised, and the wake sequence starts. -/
def execWakeSource (l : LaneId) (t : Nat) (src : Nat) (s : State) : Host.Outcome State Fault Refusal :=
  onLane l t (Lane.wakeSource src) s

/-- WAKE_TIMER (R397): PM_TIMER ms after entry the timer wake source sets. -/
def execWakeTimer (l : LaneId) (t : Nat) (s : State) : Host.Outcome State Fault Refusal :=
  onLane l t Lane.wakeTimer s

/-- WAKE_COMPLETE (R398): Domains are restored and verified, the runtime is entered and WOKE is raised. -/
def execWakeComplete (l : LaneId) (t : Nat) (saveOk : Bool) (slotOk : Bool) (straps : Nat) (s : State) : Host.Outcome State Fault Refusal :=
  onLane l t (Lane.wakeComplete saveOk slotOk straps) s

/-- DOZE (R388): PM_CTRL.DOZE requests or ends Doze at the next boundary. -/
def execDoze (l : LaneId) (t : Nat) (on : Bool) (s : State) : Host.Outcome State Fault Refusal :=
  onLane l t (gatePair .core 1 (Lane.doze on)) s

/-- PM_PADREL (R395): Writing PM_PADREL releases a domain's held pads. -/
def execPmPadrel (l : LaneId) (t : Nat) (v : Word) (s : State) : Host.Outcome State Fault Refusal :=
  onLane l t (gatePair .core 1 (Lane.pmPadrel v)) s

/-- SB_ADDRESS_MATCH (R407): The standby link acknowledges its own address and wakes the lane if enabled. -/
def execSbAddressMatch (l : LaneId) (t : Nat) (addr : Nat) (written : Nat) (s : State) : Host.Outcome State Fault Refusal :=
  onLane l t (Lane.sbAddressMatch addr written) s

/-- SB_READ (R407): A standby-link read returns the level, lane state, latch and shutdown report bytes. -/
def execSbRead (l : LaneId) (t : Nat) (n : Nat) (s : State) : Host.Outcome State Fault Refusal :=
  onLane l t (Lane.sbRead n) s

/-- CELLAR_OVERTEMP (R405): The cellar comparator trips at 150 °C in Hold or Cellar and acts as a shutdown. -/
def execCellarOvertemp (l : LaneId) (t : Nat) (s : State) : Host.Outcome State Fault Refusal :=
  onLane l t Lane.cellarOvertemp s

/-- SHUT_FLAG_CLEAR (R405): Writing SHUT_FLAG below 130 °C clears the shutdown flag. -/
def execShutFlagClear (l : LaneId) (t : Nat) (s : State) : Host.Outcome State Fault Refusal :=
  onLane l t (gatePair .core 2 Lane.shutFlagClear) s

/-- TALLY_WINDOW_END (R376): At the boundary ending a window, every tally is latched into a snapshot. -/
def execTallyWindowEnd (l : LaneId) (t : Nat) (counts : List (Nat × Nat)) (s : State) : Host.Outcome State Fault Refusal :=
  onLane l t (gate .core 5 (Lane.tallyWindowEnd counts)) s

/-- SNAPSHOT_READY (R377): The snapshot half is filled and made readable, and SNAP is raised. -/
def execSnapshotReady (l : LaneId) (t : Nat) (s : State) : Host.Outcome State Fault Refusal :=
  onLane l t (gate .core 5 Lane.snapshotReady) s

/-- CLEAR_WRAP (R378): TL_CMD.CLEAR_WRAP clears every wrap flag and wrap count. -/
def execClearWrap (l : LaneId) (t : Nat) (s : State) : Host.Outcome State Fault Refusal :=
  onLane l t (gatePair .core 5 Lane.clearWrap) s

/-- ATTIC_CLEAR (R383): TL_CMD.ATTIC_CLEAR resets the attic index and WRAPPED. -/
def execAtticClear (l : LaneId) (t : Nat) (s : State) : Host.Outcome State Fault Refusal :=
  onLane l t (gatePair .core 5 Lane.atticClear) s

/-- ATTIC_SAMPLE (R382): Every PERIOD-th selected core event is written to the attic or dropped. -/
def execAtticSample (l : LaneId) (t : Nat) (code : Nat) (pc : Word) (insn : Word) (data : Word) (lat : Nat) (user : Bool) (busy : Bool) (s : State) : Host.Outcome State Fault Refusal :=
  onLane l t (gate .core 5 (Lane.atticSample code pc insn data lat user busy)) s

/-- TL_PEEK_READ (R375): A read of TL_PEEK_LO latches the live tally for TL_PEEK_HI. -/
def execTlPeekRead (l : LaneId) (t : Nat) (s : State) : Host.Outcome State Fault Refusal :=
  onLane l t (gatePair .core 5 Lane.tlPeekRead) s

/-- HPM_COUNTER_WRITE (R381): A machine-mode write sets the low 48 bits of an mhpmcounter. -/
def execHpmCounterWrite (l : LaneId) (t : Nat) (csr : Nat) (v : Word) (s : State) : Host.Outcome State Fault Refusal :=
  onLane l t (gatePair .core 0x20 (Lane.hpmCounterWrite csr v)) s

/-- REGISTER_WRITE (R11): A write to a register with no row of its own acts by its access code. -/
def execRegisterWrite (l : LaneId) (t : Nat) (a : Nat) (x : StoreData) (s : State) : Host.Outcome State Fault Refusal :=
  onLane l t (gate .core 0x20 (Lane.pairWrite a x)) s

end Sys2Proof.Machine
end

