-- ==== Sys2Proof/Machine/CmdReset.lean ====
section
/-! DEFINITION. Supplies, resets, clocks and boot: the meaning of each command of the family on the whole package (the `Lane` operation that each of them
calls says what it does, in the file of its block). -/

namespace Sys2Proof.Machine

/-- RAIL_LOSS (R41): A lane supply falls below its assert level, so the lane goes to Off and is held in reset. -/
def execRailLoss (l : LaneId) (t : Nat) (r : Fin 5) (s : State) : Host.Outcome State Fault Refusal :=
  onLane l t (Lane.railLoss r) s

/-- RST_N_LOW (R437): A.RST_N held low for at least 1 µs causes a lane reset with the pad states of R438. -/
def execRstNLow (l : LaneId) (t : Nat) (s : State) : Host.Outcome State Fault Refusal :=
  onLane l t Lane.rstNLow s

/-- LANE_RESET_RELEASE (R436): 2.0 ms after every rail has passed its release level, lane reset is released and the lane enters Booting. -/
def execLaneResetRelease (l : LaneId) (t : Nat) (clksel : Bool) (s : State) : Host.Outcome State Fault Refusal :=
  onLane l t (Lane.laneResetRelease clksel) s

/-- CELLAR_RESET (R437): VDD_AO falls below its assert level, clearing the cellar, its latches and the Service overlay. -/
def execCellarReset (l : LaneId) (t : Nat) (s : State) : Host.Outcome State Fault Refusal :=
  onLane l t Lane.cellarReset s

/-- RAIL_OUT_OF_WINDOW (R436): A rail stays outside its monitor window for 10 µs, which is fatal fault source 13. -/
def execRailOutOfWindow (l : LaneId) (t : Nat) (r : Fin 5) (s : State) : Host.Outcome State Fault Refusal :=
  onLane l t (gate .core 0 (Lane.railOutOfWindow r)) s

/-- TAP_RESET (R437): The TAP enters test-logic-reset and its instruction register takes IDCODE. -/
def execTapReset (l : LaneId) (t : Nat) (s : State) : Host.Outcome State Fault Refusal :=
  onLane l t Lane.tapReset s

/-- LRESET (R439): SY_CMD.LRESET written with the unlock code in Booting, Bench or Withdrawn resets the lane 10 µs later. -/
def execLreset (l : LaneId) (t : Nat) (v : Word) (s : State) : Host.Outcome State Fault Refusal :=
  onLane l t (gatePair .core 0 (Lane.lreset v)) s

/-- PLL_LOCK (R433): The main PLL locks and the main island switches from the guardian oscillator to the PLL without a glitch. -/
def execPllLock (l : LaneId) (t : Nat) (s : State) : Host.Outcome State Fault Refusal :=
  onLane l t (gate .core 0 Lane.pllLock) s

/-- PLL_LOCK_TIMEOUT (R433): The PLL has not locked 5 ms after reset release, so the lane is Withdrawn with source 11 and NOLOCK set for the next boot. -/
def execPllLockTimeout (l : LaneId) (t : Nat) (s : State) : Host.Outcome State Fault Refusal :=
  onLane l t (gate .core 0 Lane.pllLockTimeout) s

/-- PLL_LOCK_LOST (R433): PLL lock is lost after the switch, which is fatal source 11 and withdraws guardian permission. -/
def execPllLockLost (l : LaneId) (t : Nat) (s : State) : Host.Outcome State Fault Refusal :=
  onLane l t (gate .core 0 Lane.pllLockLost) s

/-- MAIN_CLOCK_STOP (R162): The guardian detects the main clock stopped and withdraws permission within 2 µs. -/
def execMainClockStop (l : LaneId) (t : Nat) (s : State) : Host.Outcome State Fault Refusal :=
  onLane l t (gate .core 0 Lane.mainClockStop) s

/-- GUARDIAN_COUNT_WINDOW (R73): Each 10 µs main-clock window counts guardian cycles; a count outside 470–530 clears the key and withdraws the lane. -/
def execGuardianCountWindow (l : LaneId) (t : Nat) (cnt : Nat) (s : State) : Host.Outcome State Fault Refusal :=
  onLane l t (gate .core 0 (Lane.guardianCountWindow cnt)) s

/-- RC_COUNT_WINDOW (R434): Each 100 µs window counts cellar RC cycles; a count outside 85–115 sets RC_DEV. -/
def execRcCountWindow (l : LaneId) (t : Nat) (cnt : Nat) (s : State) : Host.Outcome State Fault Refusal :=
  onLane l t (gate .core 0 (Lane.rcCountWindow cnt)) s

/-- X32_FAIL (R434): A bad 32.768 kHz period or no edge for 100 RC cycles sets X32_FAIL and moves the cellar timer to the RC oscillator. -/
def execX32Fail (l : LaneId) (t : Nat) (s : State) : Host.Outcome State Fault Refusal :=
  onLane l t Lane.x32Fail s

/-- SECURE_BOOT (R414): The boot ROM selects and verifies a firmware slot, confirmed first or on trial by a try byte, or halts the lane Withdrawn. -/
def execSecureBoot (l : LaneId) (t : Nat) (s : State) : Host.Outcome State Fault Refusal :=
  onLane l t (gate .core 0 Lane.secureBoot) s

/-- CONFIG_LOAD (R421): After runtime entry, boot takes the newest valid configuration bank or finds none and enables the CAN object channel at node 1. -/
def execConfigLoad (l : LaneId) (t : Nat) (straps : Nat) (s : State) : Host.Outcome State Fault Refusal :=
  onLane l t (gate .core 0 (Lane.configLoad straps)) s

/-- STRAP_READ (R423): Every 100 ms the running lane reads its straps, and a change raises STRAP_CHANGE and is counted. -/
def execStrapRead (l : LaneId) (t : Nat) (pat : Nat) (s : State) : Host.Outcome State Fault Refusal :=
  onLane l t (gateTask (Lane.strapReadNow pat)) s

/-- RST_N_RELEASE (R41): A.RST_N returns high while every lane supply is valid, releasing lane reset so that the lane passes from Off into Booting. -/
def execRstNRelease (l : LaneId) (t : Nat) (clksel : Bool) (s : State) : Host.Outcome State Fault Refusal :=
  onLane l t (Lane.rstNRelease clksel) s

/-- RAIL_RETURN (R436): A lane rail rises past its release level, which starts the 2.0 ms count to lane reset release once all rails are up and, for VDD_AO, releases the cellar from reset. -/
def execRailReturn (l : LaneId) (t : Nat) (r : Fin 5) (s : State) : Host.Outcome State Fault Refusal :=
  onLane l t (Lane.railReturn r) s

/-- TAP_UPDATE (R164): A new TAP instruction (HIGHZ, EXTEST, CLAMP or a private debug halt or resume) or a boundary-register update takes effect, changing the pad rows of R164 or halting or resuming the helm pair. -/
def execTapUpdate (l : LaneId) (t : Nat) (instr : Option TapInstr) (bsr : Option (List Bool)) (s : State) : Host.Outcome State Fault Refusal :=
  onLane l t (Lane.tapUpdate instr bsr) s

end Sys2Proof.Machine
end

