-- ==== Sys2Proof/Machine/Dispatch.lean ====
section
/-! DEFINITION. What each command does to the package, its queue aside: one arm per constructor. -/

namespace Sys2Proof.Machine

def exec (i : Instr) (s : State) : Host.Outcome State Fault Refusal :=
  match i with
  | .railLoss l t r => Sys2Proof.Machine.execRailLoss l t r s
  | .rstNLow l t => Sys2Proof.Machine.execRstNLow l t s
  | .laneResetRelease l t clksel => Sys2Proof.Machine.execLaneResetRelease l t clksel s
  | .cellarReset l t => Sys2Proof.Machine.execCellarReset l t s
  | .railOutOfWindow l t r => Sys2Proof.Machine.execRailOutOfWindow l t r s
  | .tapReset l t => Sys2Proof.Machine.execTapReset l t s
  | .lreset l t v => Sys2Proof.Machine.execLreset l t v s
  | .pllLock l t => Sys2Proof.Machine.execPllLock l t s
  | .pllLockTimeout l t => Sys2Proof.Machine.execPllLockTimeout l t s
  | .pllLockLost l t => Sys2Proof.Machine.execPllLockLost l t s
  | .mainClockStop l t => Sys2Proof.Machine.execMainClockStop l t s
  | .guardianCountWindow l t cnt => Sys2Proof.Machine.execGuardianCountWindow l t cnt s
  | .rcCountWindow l t cnt => Sys2Proof.Machine.execRcCountWindow l t cnt s
  | .x32Fail l t => Sys2Proof.Machine.execX32Fail l t s
  | .secureBoot l t => Sys2Proof.Machine.execSecureBoot l t s
  | .configLoad l t straps => Sys2Proof.Machine.execConfigLoad l t straps s
  | .strapRead l t pat => Sys2Proof.Machine.execStrapRead l t pat s
  | .decisionTick l t xs => Sys2Proof.Machine.execDecisionTick l t xs s
  | .deferredLegChange l t g k => Sys2Proof.Machine.execDeferredLegChange l t g k s
  | .authorityTickBoundary l t => Sys2Proof.Machine.execAuthorityTickBoundary l t s
  | .tickDeadline l t => Sys2Proof.Machine.execTickDeadline l t s
  | .exchangeTick l t rttN rttP => Sys2Proof.Machine.execExchangeTick l t rttN rttP s
  | .carrierPeriodStart l t g clocks illegal => Sys2Proof.Machine.execCarrierPeriodStart l t g clocks illegal s
  | .genHoldEnd l t g => Sys2Proof.Machine.execGenHoldEnd l t g s
  | .switchingNodeEdge l t g k rising cross clocks => Sys2Proof.Machine.execSwitchingNodeEdge l t g k rising cross clocks s
  | .overcurrentTrip l t g u v w => Sys2Proof.Machine.execOvercurrentTrip l t g u v w s
  | .egOvercurrent l t g u v w => Sys2Proof.Machine.execEgOvercurrent l t g u v w s
  | .egOvervoltage l t g clocks => Sys2Proof.Machine.execEgOvervoltage l t g clocks s
  | .switchTokenReturn l t g k => Sys2Proof.Machine.execSwitchTokenReturn l t g k s
  | .channelStuck l t g x => Sys2Proof.Machine.execChannelStuck l t g x s
  | .settlingEnd l t g => Sys2Proof.Machine.execSettlingEnd l t g s
  | .ovQualified l t g x => Sys2Proof.Machine.execOvQualified l t g x s
  | .undervoltageTrip l t x => Sys2Proof.Machine.execUndervoltageTrip l t x s
  | .adcFrame l t fe hk temp => Sys2Proof.Machine.execAdcFrame l t fe hk temp s
  | .ssiTransfer l t f dataHigh => Sys2Proof.Machine.execSsiTransfer l t f dataHigh s
  | .ssiTransferDone l t f word par last => Sys2Proof.Machine.execSsiTransferDone l t f word par last s
  | .incrementalEdge l t f x held => Sys2Proof.Machine.execIncrementalEdge l t f x held s
  | .zEdge l t x => Sys2Proof.Machine.execZEdge l t x s
  | .setRef l t f => Sys2Proof.Machine.execSetRef l t f s
  | .hallChange l t f x => Sys2Proof.Machine.execHallChange l t f x s
  | .hallInvalidHold l t f => Sys2Proof.Machine.execHallInvalidHold l t f s
  | .lineFault l t f rcv => Sys2Proof.Machine.execLineFault l t f rcv s
  | .speedTimeout l t f => Sys2Proof.Machine.execSpeedTimeout l t f s
  | .excitationHalfPeriod l t amp limited => Sys2Proof.Machine.execExcitationHalfPeriod l t amp limited s
  | .polarityTest l t g lo hi => Sys2Proof.Machine.execPolarityTest l t g lo hi s
  | .startFail l t g => Sys2Proof.Machine.execStartFail l t g s
  | .polarityWaitEnd l t g => Sys2Proof.Machine.execPolarityWaitEnd l t g s
  | .localSourceReturn l t g src => Sys2Proof.Machine.execLocalSourceReturn l t g src s
  | .encoderAlign l t g ok => Sys2Proof.Machine.execEncoderAlign l t g ok s
  | .alignCapture l t g => Sys2Proof.Machine.execAlignCapture l t g s
  | .peerStale l t g p => Sys2Proof.Machine.execPeerStale l t g p s
  | .voteFrameReceive l t p fr ok => Sys2Proof.Machine.execVoteFrameReceive l t p fr ok s
  | .angleFrameReceive l t p fr ok => Sys2Proof.Machine.execAngleFrameReceive l t p fr ok s
  | .setpointFrameReceive l t p fr ok => Sys2Proof.Machine.execSetpointFrameReceive l t p fr ok s
  | .shelfFrameReceive l t p fr ok => Sys2Proof.Machine.execShelfFrameReceive l t p fr ok s
  | .coordinationFrameReceive l t p fr ok => Sys2Proof.Machine.execCoordinationFrameReceive l t p fr ok s
  | .renewalReceive l t p m ok => Sys2Proof.Machine.execRenewalReceive l t p m ok s
  | .renewalAckReceive l t p m ok => Sys2Proof.Machine.execRenewalAckReceive l t p m ok s
  | .claimReceive l t p m ok => Sys2Proof.Machine.execClaimReceive l t p m ok s
  | .claimAckReceive l t p m ok => Sys2Proof.Machine.execClaimAckReceive l t p m ok s
  | .claimWithdrawalReceive l t p m ok => Sys2Proof.Machine.execClaimWithdrawalReceive l t p m ok s
  | .releaseReceive l t p m ok => Sys2Proof.Machine.execReleaseReceive l t p m ok s
  | .revocationReceive l t p m ok => Sys2Proof.Machine.execRevocationReceive l t p m ok s
  | .linkSilence l t p => Sys2Proof.Machine.execLinkSilence l t p s
  | .linkUp l t p => Sys2Proof.Machine.execLinkUp l t p s
  | .leaseExpiry l t => Sys2Proof.Machine.execLeaseExpiry l t s
  | .silenceThreshold l t => Sys2Proof.Machine.execSilenceThreshold l t s
  | .interregnumTimeout l t => Sys2Proof.Machine.execInterregnumTimeout l t s
  | .voteExpiry l t v => Sys2Proof.Machine.execVoteExpiry l t v s
  | .d2dFrameReceive l t field x => Sys2Proof.Machine.execD2dFrameReceive l t field x s
  | .d2dLinkLoss l t => Sys2Proof.Machine.execD2dLinkLoss l t s
  | .inputSample l t raw => Sys2Proof.Machine.execInputSample l t raw s
  | .offPulseStart l t j => Sys2Proof.Machine.execOffPulseStart l t j s
  | .testSample l t j raw => Sys2Proof.Machine.execTestSample l t j raw s
  | .testCycleEnd l t => Sys2Proof.Machine.execTestCycleEnd l t s
  | .supplyLimitTrip l t supply => Sys2Proof.Machine.execSupplyLimitTrip l t supply s
  | .supplyRetry l t supply limited => Sys2Proof.Machine.execSupplyRetry l t supply limited s
  | .supplyEnableClear l t supply => Sys2Proof.Machine.execSupplyEnableClear l t supply s
  | .standstillConfirm l t => Sys2Proof.Machine.execStandstillConfirm l t s
  | .stopTimeLimit l t => Sys2Proof.Machine.execStopTimeLimit l t s
  | .steeringHoldEnd l t => Sys2Proof.Machine.execSteeringHoldEnd l t s
  | .stopEnd l t => Sys2Proof.Machine.execStopEnd l t s
  | .bench l t => Sys2Proof.Machine.execBench l t s
  | .readmit l t => Sys2Proof.Machine.execReadmit l t s
  | .release l t => Sys2Proof.Machine.execRelease l t s
  | .lgCommit l t g => Sys2Proof.Machine.execLgCommit l t g s
  | .tripClr l t g => Sys2Proof.Machine.execTripClr l t g s
  | .dacRoute l t v => Sys2Proof.Machine.execDacRoute l t v s
  | .lnCycleStart l t => Sys2Proof.Machine.execLnCycleStart l t s
  | .lnLockPoint l t slot => Sys2Proof.Machine.execLnLockPoint l t slot s
  | .lnActionPoint l t slot => Sys2Proof.Machine.execLnActionPoint l t slot s
  | .lnFrameReceive l t p f => Sys2Proof.Machine.execLnFrameReceive l t p f s
  | .networkIdleStart l t => Sys2Proof.Machine.execNetworkIdleStart l t s
  | .portLost l t p => Sys2Proof.Machine.execPortLost l t p s
  | .portBack l t p => Sys2Proof.Machine.execPortBack l t p s
  | .guardianStrobe l t p count => Sys2Proof.Machine.execGuardianStrobe l t p count s
  | .strobeMissing l t x => Sys2Proof.Machine.execStrobeMissing l t x s
  | .guardianViolation l t x => Sys2Proof.Machine.execGuardianViolation l t x s
  | .collision l t p => Sys2Proof.Machine.execCollision l t p s
  | .coldStartCollision l t => Sys2Proof.Machine.execColdStartCollision l t s
  | .listenTimeout l t => Sys2Proof.Machine.execListenTimeout l t s
  | .coldStartDone l t => Sys2Proof.Machine.execColdStartDone l t s
  | .integrateTimeout l t => Sys2Proof.Machine.execIntegrateTimeout l t s
  | .sourceLoss l t => Sys2Proof.Machine.execSourceLoss l t s
  | .holdoverLimit l t => Sys2Proof.Machine.execHoldoverLimit l t s
  | .topologyCheck l t => Sys2Proof.Machine.execTopologyCheck l t s
  | .portEnable l t p => Sys2Proof.Machine.execPortEnable l t p s
  | .reopen l t mask => Sys2Proof.Machine.execReopen l t mask s
  | .lnTxcommit l t hi v => Sys2Proof.Machine.execLnTxcommit l t hi v s
  | .lnRxlock l t v => Sys2Proof.Machine.execLnRxlock l t v s
  | .lnInjArm l t v => Sys2Proof.Machine.execLnInjArm l t v s
  | .lnMreqGo l t v => Sys2Proof.Machine.execLnMreqGo l t v s
  | .lnTimeRead l t cyc => Sys2Proof.Machine.execLnTimeRead l t cyc s
  | .canFrameReceive l t ext remote id data => Sys2Proof.Machine.execCanFrameReceive l t ext remote id data s
  | .canPartTimeout l t => Sys2Proof.Machine.execCanPartTimeout l t s
  | .retxBudgetExpiry l t client rid => Sys2Proof.Machine.execRetxBudgetExpiry l t client rid s
  | .busOff l t => Sys2Proof.Machine.execBusOff l t s
  | .busOffRecovery l t => Sys2Proof.Machine.execBusOffRecovery l t s
  | .read l t via client rid index sub => Sys2Proof.Machine.execRead l t via client rid index sub s
  | .write l t via client rid index sub data => Sys2Proof.Machine.execWrite l t via client rid index sub data s
  | .readSeg l t via client rid index sub offset => Sys2Proof.Machine.execReadSeg l t via client rid index sub offset s
  | .writeInit l t via client rid index sub size => Sys2Proof.Machine.execWriteInit l t via client rid index sub size s
  | .writeSeg l t via client rid index sub offset data => Sys2Proof.Machine.execWriteSeg l t via client rid index sub offset data s
  | .writeEnd l t via client rid index sub size crc => Sys2Proof.Machine.execWriteEnd l t via client rid index sub size crc s
  | .abort l t via client rid index sub => Sys2Proof.Machine.execAbort l t via client rid index sub s
  | .busyInterval l t client rid => Sys2Proof.Machine.execBusyInterval l t client rid s
  | .flashWorkDone l t client rid => Sys2Proof.Machine.execFlashWorkDone l t client rid s
  | .xferTimeout l t client => Sys2Proof.Machine.execXferTimeout l t client s
  | .setProfile l t v => Sys2Proof.Machine.execSetProfile l t v s
  | .startCommand l t => Sys2Proof.Machine.execStartCommand l t s
  | .stopCommand l t => Sys2Proof.Machine.execStopCommand l t s
  | .unlockChallenge l t => Sys2Proof.Machine.execUnlockChallenge l t s
  | .unlockToken l t token => Sys2Proof.Machine.execUnlockToken l t token s
  | .attestationNonce l t nonce => Sys2Proof.Machine.execAttestationNonce l t nonce s
  | .attestDone l t => Sys2Proof.Machine.execAttestDone l t s
  | .configCommit l t ok => Sys2Proof.Machine.execConfigCommit l t ok s
  | .configCommitComplete l t => Sys2Proof.Machine.execConfigCommitComplete l t s
  | .installOpen l t size => Sys2Proof.Machine.execInstallOpen l t size s
  | .installVerify l t => Sys2Proof.Machine.execInstallVerify l t s
  | .verifyDone l t => Sys2Proof.Machine.execVerifyDone l t s
  | .installAbort l t cmd => Sys2Proof.Machine.execInstallAbort l t cmd s
  | .trialFail l t => Sys2Proof.Machine.execTrialFail l t s
  | .imageFrameReceive l t dst src etherType head data fcs => Sys2Proof.Machine.execImageFrameReceive l t dst src etherType head data fcs s
  | .imageBlockStored l t b ok => Sys2Proof.Machine.execImageBlockStored l t b ok s
  | .enLinkChange l t up sqi => Sys2Proof.Machine.execEnLinkChange l t up sqi s
  | .streamFrameSend l t stream => Sys2Proof.Machine.execStreamFrameSend l t stream s
  | .cfErase l t => Sys2Proof.Machine.execCfErase l t s
  | .cfProgram l t => Sys2Proof.Machine.execCfProgram l t s
  | .cfOpDone l t => Sys2Proof.Machine.execCfOpDone l t s
  | .serviceTimeExpiry l t => Sys2Proof.Machine.execServiceTimeExpiry l t s
  | .retire l t => Sys2Proof.Machine.execRetire l t s
  | .factoryProvision l t => Sys2Proof.Machine.execFactoryProvision l t s
  | .faultReport l t source unit inj => Sys2Proof.Machine.execFaultReport l t source unit inj s
  | .errOutPulseEnd l t => Sys2Proof.Machine.execErrOutPulseEnd l t s
  | .quietPeriodEnd l t source => Sys2Proof.Machine.execQuietPeriodEnd l t source s
  | .logRecordWrite l t => Sys2Proof.Machine.execLogRecordWrite l t s
  | .fcErroutWrite l t v => Sys2Proof.Machine.execFcErroutWrite l t v s
  | .fcInjArm l t v => Sys2Proof.Machine.execFcInjArm l t v s
  | .fcXinjArm l t v => Sys2Proof.Machine.execFcXinjArm l t v s
  | .fcTrapWrite l t e v => Sys2Proof.Machine.execFcTrapWrite l t e v s
  | .pairMismatch l t => Sys2Proof.Machine.execPairMismatch l t s
  | .compareTimeout l t cycles => Sys2Proof.Machine.execCompareTimeout l t cycles s
  | .watchdogExpiry l t => Sys2Proof.Machine.execWatchdogExpiry l t s
  | .interruptTake l t n => Sys2Proof.Machine.execInterruptTake l t n s
  | .icClaim l t yard => Sys2Proof.Machine.execIcClaim l t yard s
  | .icComplete l t yard source => Sys2Proof.Machine.execIcComplete l t yard source s
  | .icVectorRead l t => Sys2Proof.Machine.execIcVectorRead l t s
  | .icBudgetStart l t cycles => Sys2Proof.Machine.execIcBudgetStart l t cycles s
  | .budgetExpiry l t => Sys2Proof.Machine.execBudgetExpiry l t s
  | .swset l t => Sys2Proof.Machine.execSwset l t s
  | .doorbellH l t => Sys2Proof.Machine.execDoorbellH l t s
  | .doorbellY l t => Sys2Proof.Machine.execDoorbellY l t s
  | .yreset l t => Sys2Proof.Machine.execYreset l t s
  | .yardFirewallRefuse l t a write => Sys2Proof.Machine.execYardFirewallRefuse l t a write s
  | .firewallStorm l t => Sys2Proof.Machine.execFirewallStorm l t s
  | .tickDone l t => Sys2Proof.Machine.execTickDone l t s
  | .log l t call value => Sys2Proof.Machine.execLog l t call value s
  | .tally l t b idx => Sys2Proof.Machine.execTally l t b idx s
  | .mail l t addr len => Sys2Proof.Machine.execMail l t addr len s
  | .sliceStart l t len => Sys2Proof.Machine.execSliceStart l t len s
  | .sliceEnd l t pass last sig => Sys2Proof.Machine.execSliceEnd l t pass last sig s
  | .tokenCreate l t => Sys2Proof.Machine.execTokenCreate l t s
  | .periodicRunStart l t => Sys2Proof.Machine.execPeriodicRunStart l t s
  | .deep l t => Sys2Proof.Machine.execDeep l t s
  | .stAbort l t => Sys2Proof.Machine.execStAbort l t s
  | .step l t => Sys2Proof.Machine.execStep l t s
  | .sleepHold l t => Sys2Proof.Machine.execSleepHold l t s
  | .sleepCellar l t => Sys2Proof.Machine.execSleepCellar l t s
  | .prepareAnswer l t streaming => Sys2Proof.Machine.execPrepareAnswer l t streaming s
  | .prepareTimeout l t => Sys2Proof.Machine.execPrepareTimeout l t s
  | .drainExpiry l t drained aborted => Sys2Proof.Machine.execDrainExpiry l t drained aborted s
  | .larderSaveDone l t => Sys2Proof.Machine.execLarderSaveDone l t s
  | .finalWindowEnd l t => Sys2Proof.Machine.execFinalWindowEnd l t s
  | .wakeSource l t src => Sys2Proof.Machine.execWakeSource l t src s
  | .wakeTimer l t => Sys2Proof.Machine.execWakeTimer l t s
  | .wakeComplete l t saveOk slotOk straps => Sys2Proof.Machine.execWakeComplete l t saveOk slotOk straps s
  | .doze l t on => Sys2Proof.Machine.execDoze l t on s
  | .pmPadrel l t v => Sys2Proof.Machine.execPmPadrel l t v s
  | .sbAddressMatch l t addr written => Sys2Proof.Machine.execSbAddressMatch l t addr written s
  | .sbRead l t n => Sys2Proof.Machine.execSbRead l t n s
  | .cellarOvertemp l t => Sys2Proof.Machine.execCellarOvertemp l t s
  | .shutFlagClear l t => Sys2Proof.Machine.execShutFlagClear l t s
  | .tallyWindowEnd l t counts => Sys2Proof.Machine.execTallyWindowEnd l t counts s
  | .snapshotReady l t => Sys2Proof.Machine.execSnapshotReady l t s
  | .clearWrap l t => Sys2Proof.Machine.execClearWrap l t s
  | .atticClear l t => Sys2Proof.Machine.execAtticClear l t s
  | .atticSample l t code pc insn data lat user busy => Sys2Proof.Machine.execAtticSample l t code pc insn data lat user busy s
  | .tlPeekRead l t => Sys2Proof.Machine.execTlPeekRead l t s
  | .hpmCounterWrite l t csr v => Sys2Proof.Machine.execHpmCounterWrite l t csr v s
  | .registerWrite l t a x => Sys2Proof.Machine.execRegisterWrite l t a x s
  | .rstNRelease l t clksel => Sys2Proof.Machine.execRstNRelease l t clksel s
  | .railReturn l t r => Sys2Proof.Machine.execRailReturn l t r s
  | .tapUpdate l t instr bsr => Sys2Proof.Machine.execTapUpdate l t instr bsr s
  | .supplyCurrentLimit l t supply inLimit => Sys2Proof.Machine.execSupplyCurrentLimit l t supply inLimit s

end Sys2Proof.Machine
end

