-- ==== Sys2Proof/Safety.lean ====
section
/-! DEFINITION. The terms that statements about the package use: which lane a command reaches and when, what it does there, which
commands reach a lane that is held in reset, and the invariant of every lane. -/

namespace Sys2Proof

/-- The lane that a command reaches. -/
def Instr.lane : Instr → LaneId
  | .railLoss l _ _ => l
  | .rstNLow l _ => l
  | .laneResetRelease l _ _ => l
  | .cellarReset l _ => l
  | .railOutOfWindow l _ _ => l
  | .tapReset l _ => l
  | .lreset l _ _ => l
  | .pllLock l _ => l
  | .pllLockTimeout l _ => l
  | .pllLockLost l _ => l
  | .mainClockStop l _ => l
  | .guardianCountWindow l _ _ => l
  | .rcCountWindow l _ _ => l
  | .x32Fail l _ => l
  | .secureBoot l _ => l
  | .configLoad l _ _ => l
  | .strapRead l _ _ => l
  | .decisionTick l _ _ => l
  | .deferredLegChange l _ _ _ => l
  | .authorityTickBoundary l _ => l
  | .tickDeadline l _ => l
  | .exchangeTick l _ _ _ => l
  | .carrierPeriodStart l _ _ _ _ => l
  | .genHoldEnd l _ _ => l
  | .switchingNodeEdge l _ _ _ _ _ _ => l
  | .overcurrentTrip l _ _ _ _ _ => l
  | .egOvercurrent l _ _ _ _ _ => l
  | .egOvervoltage l _ _ _ => l
  | .switchTokenReturn l _ _ _ => l
  | .channelStuck l _ _ _ => l
  | .settlingEnd l _ _ => l
  | .ovQualified l _ _ _ => l
  | .undervoltageTrip l _ _ => l
  | .adcFrame l _ _ _ _ => l
  | .ssiTransfer l _ _ _ => l
  | .ssiTransferDone l _ _ _ _ _ => l
  | .incrementalEdge l _ _ _ _ => l
  | .zEdge l _ _ => l
  | .setRef l _ _ => l
  | .hallChange l _ _ _ => l
  | .hallInvalidHold l _ _ => l
  | .lineFault l _ _ _ => l
  | .speedTimeout l _ _ => l
  | .excitationHalfPeriod l _ _ _ => l
  | .polarityTest l _ _ _ _ => l
  | .startFail l _ _ => l
  | .polarityWaitEnd l _ _ => l
  | .localSourceReturn l _ _ _ => l
  | .encoderAlign l _ _ _ => l
  | .alignCapture l _ _ => l
  | .peerStale l _ _ _ => l
  | .voteFrameReceive l _ _ _ _ => l
  | .angleFrameReceive l _ _ _ _ => l
  | .setpointFrameReceive l _ _ _ _ => l
  | .shelfFrameReceive l _ _ _ _ => l
  | .coordinationFrameReceive l _ _ _ _ => l
  | .renewalReceive l _ _ _ _ => l
  | .renewalAckReceive l _ _ _ _ => l
  | .claimReceive l _ _ _ _ => l
  | .claimAckReceive l _ _ _ _ => l
  | .claimWithdrawalReceive l _ _ _ _ => l
  | .releaseReceive l _ _ _ _ => l
  | .revocationReceive l _ _ _ _ => l
  | .linkSilence l _ _ => l
  | .linkUp l _ _ => l
  | .leaseExpiry l _ => l
  | .silenceThreshold l _ => l
  | .interregnumTimeout l _ => l
  | .voteExpiry l _ _ => l
  | .d2dFrameReceive l _ _ _ => l
  | .d2dLinkLoss l _ => l
  | .inputSample l _ _ => l
  | .offPulseStart l _ _ => l
  | .testSample l _ _ _ => l
  | .testCycleEnd l _ => l
  | .supplyLimitTrip l _ _ => l
  | .supplyRetry l _ _ _ => l
  | .supplyEnableClear l _ _ => l
  | .standstillConfirm l _ => l
  | .stopTimeLimit l _ => l
  | .steeringHoldEnd l _ => l
  | .stopEnd l _ => l
  | .bench l _ => l
  | .readmit l _ => l
  | .release l _ => l
  | .lgCommit l _ _ => l
  | .tripClr l _ _ => l
  | .dacRoute l _ _ => l
  | .lnCycleStart l _ => l
  | .lnLockPoint l _ _ => l
  | .lnActionPoint l _ _ => l
  | .lnFrameReceive l _ _ _ => l
  | .networkIdleStart l _ => l
  | .portLost l _ _ => l
  | .portBack l _ _ => l
  | .guardianStrobe l _ _ _ => l
  | .strobeMissing l _ _ => l
  | .guardianViolation l _ _ => l
  | .collision l _ _ => l
  | .coldStartCollision l _ => l
  | .listenTimeout l _ => l
  | .coldStartDone l _ => l
  | .integrateTimeout l _ => l
  | .sourceLoss l _ => l
  | .holdoverLimit l _ => l
  | .topologyCheck l _ => l
  | .portEnable l _ _ => l
  | .reopen l _ _ => l
  | .lnTxcommit l _ _ _ => l
  | .lnRxlock l _ _ => l
  | .lnInjArm l _ _ => l
  | .lnMreqGo l _ _ => l
  | .lnTimeRead l _ _ => l
  | .canFrameReceive l _ _ _ _ _ => l
  | .canPartTimeout l _ => l
  | .retxBudgetExpiry l _ _ _ => l
  | .busOff l _ => l
  | .busOffRecovery l _ => l
  | .read l _ _ _ _ _ _ => l
  | .write l _ _ _ _ _ _ _ => l
  | .readSeg l _ _ _ _ _ _ _ => l
  | .writeInit l _ _ _ _ _ _ _ => l
  | .writeSeg l _ _ _ _ _ _ _ _ => l
  | .writeEnd l _ _ _ _ _ _ _ _ => l
  | .abort l _ _ _ _ _ _ => l
  | .busyInterval l _ _ _ => l
  | .flashWorkDone l _ _ _ => l
  | .xferTimeout l _ _ => l
  | .setProfile l _ _ => l
  | .startCommand l _ => l
  | .stopCommand l _ => l
  | .unlockChallenge l _ => l
  | .unlockToken l _ _ => l
  | .attestationNonce l _ _ => l
  | .attestDone l _ => l
  | .configCommit l _ _ => l
  | .configCommitComplete l _ => l
  | .installOpen l _ _ => l
  | .installVerify l _ => l
  | .verifyDone l _ => l
  | .installAbort l _ _ => l
  | .trialFail l _ => l
  | .imageFrameReceive l _ _ _ _ _ _ _ => l
  | .imageBlockStored l _ _ _ => l
  | .enLinkChange l _ _ _ => l
  | .streamFrameSend l _ _ => l
  | .cfErase l _ => l
  | .cfProgram l _ => l
  | .cfOpDone l _ => l
  | .serviceTimeExpiry l _ => l
  | .retire l _ => l
  | .factoryProvision l _ => l
  | .faultReport l _ _ _ _ => l
  | .errOutPulseEnd l _ => l
  | .quietPeriodEnd l _ _ => l
  | .logRecordWrite l _ => l
  | .fcErroutWrite l _ _ => l
  | .fcInjArm l _ _ => l
  | .fcXinjArm l _ _ => l
  | .fcTrapWrite l _ _ _ => l
  | .pairMismatch l _ => l
  | .compareTimeout l _ _ => l
  | .watchdogExpiry l _ => l
  | .interruptTake l _ _ => l
  | .icClaim l _ _ => l
  | .icComplete l _ _ _ => l
  | .icVectorRead l _ => l
  | .icBudgetStart l _ _ => l
  | .budgetExpiry l _ => l
  | .swset l _ => l
  | .doorbellH l _ => l
  | .doorbellY l _ => l
  | .yreset l _ => l
  | .yardFirewallRefuse l _ _ _ => l
  | .firewallStorm l _ => l
  | .tickDone l _ => l
  | .log l _ _ _ => l
  | .tally l _ _ _ => l
  | .mail l _ _ _ => l
  | .sliceStart l _ _ => l
  | .sliceEnd l _ _ _ _ => l
  | .tokenCreate l _ => l
  | .periodicRunStart l _ => l
  | .deep l _ => l
  | .stAbort l _ => l
  | .step l _ => l
  | .sleepHold l _ => l
  | .sleepCellar l _ => l
  | .prepareAnswer l _ _ => l
  | .prepareTimeout l _ => l
  | .drainExpiry l _ _ _ => l
  | .larderSaveDone l _ => l
  | .finalWindowEnd l _ => l
  | .wakeSource l _ _ => l
  | .wakeTimer l _ => l
  | .wakeComplete l _ _ _ _ => l
  | .doze l _ _ => l
  | .pmPadrel l _ _ => l
  | .sbAddressMatch l _ _ _ => l
  | .sbRead l _ _ => l
  | .cellarOvertemp l _ => l
  | .shutFlagClear l _ => l
  | .tallyWindowEnd l _ _ => l
  | .snapshotReady l _ => l
  | .clearWrap l _ => l
  | .atticClear l _ => l
  | .atticSample l _ _ _ _ _ _ _ _ => l
  | .tlPeekRead l _ => l
  | .hpmCounterWrite l _ _ _ => l
  | .registerWrite l _ _ _ => l
  | .rstNRelease l _ _ => l
  | .railReturn l _ _ => l
  | .tapUpdate l _ _ _ => l
  | .supplyCurrentLimit l _ _ _ => l

/-- The lane time at which a command reaches its lane. -/
def Instr.time : Instr → Nat
  | .railLoss _ t _ => t
  | .rstNLow _ t => t
  | .laneResetRelease _ t _ => t
  | .cellarReset _ t => t
  | .railOutOfWindow _ t _ => t
  | .tapReset _ t => t
  | .lreset _ t _ => t
  | .pllLock _ t => t
  | .pllLockTimeout _ t => t
  | .pllLockLost _ t => t
  | .mainClockStop _ t => t
  | .guardianCountWindow _ t _ => t
  | .rcCountWindow _ t _ => t
  | .x32Fail _ t => t
  | .secureBoot _ t => t
  | .configLoad _ t _ => t
  | .strapRead _ t _ => t
  | .decisionTick _ t _ => t
  | .deferredLegChange _ t _ _ => t
  | .authorityTickBoundary _ t => t
  | .tickDeadline _ t => t
  | .exchangeTick _ t _ _ => t
  | .carrierPeriodStart _ t _ _ _ => t
  | .genHoldEnd _ t _ => t
  | .switchingNodeEdge _ t _ _ _ _ _ => t
  | .overcurrentTrip _ t _ _ _ _ => t
  | .egOvercurrent _ t _ _ _ _ => t
  | .egOvervoltage _ t _ _ => t
  | .switchTokenReturn _ t _ _ => t
  | .channelStuck _ t _ _ => t
  | .settlingEnd _ t _ => t
  | .ovQualified _ t _ _ => t
  | .undervoltageTrip _ t _ => t
  | .adcFrame _ t _ _ _ => t
  | .ssiTransfer _ t _ _ => t
  | .ssiTransferDone _ t _ _ _ _ => t
  | .incrementalEdge _ t _ _ _ => t
  | .zEdge _ t _ => t
  | .setRef _ t _ => t
  | .hallChange _ t _ _ => t
  | .hallInvalidHold _ t _ => t
  | .lineFault _ t _ _ => t
  | .speedTimeout _ t _ => t
  | .excitationHalfPeriod _ t _ _ => t
  | .polarityTest _ t _ _ _ => t
  | .startFail _ t _ => t
  | .polarityWaitEnd _ t _ => t
  | .localSourceReturn _ t _ _ => t
  | .encoderAlign _ t _ _ => t
  | .alignCapture _ t _ => t
  | .peerStale _ t _ _ => t
  | .voteFrameReceive _ t _ _ _ => t
  | .angleFrameReceive _ t _ _ _ => t
  | .setpointFrameReceive _ t _ _ _ => t
  | .shelfFrameReceive _ t _ _ _ => t
  | .coordinationFrameReceive _ t _ _ _ => t
  | .renewalReceive _ t _ _ _ => t
  | .renewalAckReceive _ t _ _ _ => t
  | .claimReceive _ t _ _ _ => t
  | .claimAckReceive _ t _ _ _ => t
  | .claimWithdrawalReceive _ t _ _ _ => t
  | .releaseReceive _ t _ _ _ => t
  | .revocationReceive _ t _ _ _ => t
  | .linkSilence _ t _ => t
  | .linkUp _ t _ => t
  | .leaseExpiry _ t => t
  | .silenceThreshold _ t => t
  | .interregnumTimeout _ t => t
  | .voteExpiry _ t _ => t
  | .d2dFrameReceive _ t _ _ => t
  | .d2dLinkLoss _ t => t
  | .inputSample _ t _ => t
  | .offPulseStart _ t _ => t
  | .testSample _ t _ _ => t
  | .testCycleEnd _ t => t
  | .supplyLimitTrip _ t _ => t
  | .supplyRetry _ t _ _ => t
  | .supplyEnableClear _ t _ => t
  | .standstillConfirm _ t => t
  | .stopTimeLimit _ t => t
  | .steeringHoldEnd _ t => t
  | .stopEnd _ t => t
  | .bench _ t => t
  | .readmit _ t => t
  | .release _ t => t
  | .lgCommit _ t _ => t
  | .tripClr _ t _ => t
  | .dacRoute _ t _ => t
  | .lnCycleStart _ t => t
  | .lnLockPoint _ t _ => t
  | .lnActionPoint _ t _ => t
  | .lnFrameReceive _ t _ _ => t
  | .networkIdleStart _ t => t
  | .portLost _ t _ => t
  | .portBack _ t _ => t
  | .guardianStrobe _ t _ _ => t
  | .strobeMissing _ t _ => t
  | .guardianViolation _ t _ => t
  | .collision _ t _ => t
  | .coldStartCollision _ t => t
  | .listenTimeout _ t => t
  | .coldStartDone _ t => t
  | .integrateTimeout _ t => t
  | .sourceLoss _ t => t
  | .holdoverLimit _ t => t
  | .topologyCheck _ t => t
  | .portEnable _ t _ => t
  | .reopen _ t _ => t
  | .lnTxcommit _ t _ _ => t
  | .lnRxlock _ t _ => t
  | .lnInjArm _ t _ => t
  | .lnMreqGo _ t _ => t
  | .lnTimeRead _ t _ => t
  | .canFrameReceive _ t _ _ _ _ => t
  | .canPartTimeout _ t => t
  | .retxBudgetExpiry _ t _ _ => t
  | .busOff _ t => t
  | .busOffRecovery _ t => t
  | .read _ t _ _ _ _ _ => t
  | .write _ t _ _ _ _ _ _ => t
  | .readSeg _ t _ _ _ _ _ _ => t
  | .writeInit _ t _ _ _ _ _ _ => t
  | .writeSeg _ t _ _ _ _ _ _ _ => t
  | .writeEnd _ t _ _ _ _ _ _ _ => t
  | .abort _ t _ _ _ _ _ => t
  | .busyInterval _ t _ _ => t
  | .flashWorkDone _ t _ _ => t
  | .xferTimeout _ t _ => t
  | .setProfile _ t _ => t
  | .startCommand _ t => t
  | .stopCommand _ t => t
  | .unlockChallenge _ t => t
  | .unlockToken _ t _ => t
  | .attestationNonce _ t _ => t
  | .attestDone _ t => t
  | .configCommit _ t _ => t
  | .configCommitComplete _ t => t
  | .installOpen _ t _ => t
  | .installVerify _ t => t
  | .verifyDone _ t => t
  | .installAbort _ t _ => t
  | .trialFail _ t => t
  | .imageFrameReceive _ t _ _ _ _ _ _ => t
  | .imageBlockStored _ t _ _ => t
  | .enLinkChange _ t _ _ => t
  | .streamFrameSend _ t _ => t
  | .cfErase _ t => t
  | .cfProgram _ t => t
  | .cfOpDone _ t => t
  | .serviceTimeExpiry _ t => t
  | .retire _ t => t
  | .factoryProvision _ t => t
  | .faultReport _ t _ _ _ => t
  | .errOutPulseEnd _ t => t
  | .quietPeriodEnd _ t _ => t
  | .logRecordWrite _ t => t
  | .fcErroutWrite _ t _ => t
  | .fcInjArm _ t _ => t
  | .fcXinjArm _ t _ => t
  | .fcTrapWrite _ t _ _ => t
  | .pairMismatch _ t => t
  | .compareTimeout _ t _ => t
  | .watchdogExpiry _ t => t
  | .interruptTake _ t _ => t
  | .icClaim _ t _ => t
  | .icComplete _ t _ _ => t
  | .icVectorRead _ t => t
  | .icBudgetStart _ t _ => t
  | .budgetExpiry _ t => t
  | .swset _ t => t
  | .doorbellH _ t => t
  | .doorbellY _ t => t
  | .yreset _ t => t
  | .yardFirewallRefuse _ t _ _ => t
  | .firewallStorm _ t => t
  | .tickDone _ t => t
  | .log _ t _ _ => t
  | .tally _ t _ _ => t
  | .mail _ t _ _ => t
  | .sliceStart _ t _ => t
  | .sliceEnd _ t _ _ _ => t
  | .tokenCreate _ t => t
  | .periodicRunStart _ t => t
  | .deep _ t => t
  | .stAbort _ t => t
  | .step _ t => t
  | .sleepHold _ t => t
  | .sleepCellar _ t => t
  | .prepareAnswer _ t _ => t
  | .prepareTimeout _ t => t
  | .drainExpiry _ t _ _ => t
  | .larderSaveDone _ t => t
  | .finalWindowEnd _ t => t
  | .wakeSource _ t _ => t
  | .wakeTimer _ t => t
  | .wakeComplete _ t _ _ _ => t
  | .doze _ t _ => t
  | .pmPadrel _ t _ => t
  | .sbAddressMatch _ t _ _ => t
  | .sbRead _ t _ => t
  | .cellarOvertemp _ t => t
  | .shutFlagClear _ t => t
  | .tallyWindowEnd _ t _ => t
  | .snapshotReady _ t => t
  | .clearWrap _ t => t
  | .atticClear _ t => t
  | .atticSample _ t _ _ _ _ _ _ _ => t
  | .tlPeekRead _ t => t
  | .hpmCounterWrite _ t _ _ => t
  | .registerWrite _ t _ _ => t
  | .rstNRelease _ t _ => t
  | .railReturn _ t _ => t
  | .tapUpdate _ t _ _ => t
  | .supplyCurrentLimit _ t _ _ => t

/-- The commands that reach a lane although it is held in reset or its domains are off: supplies, reset pins and TAP, the course of sleep
and wake, the standby link, and what happens to a lane outside its operation. -/
def Instr.reachesReset : Instr → Bool
  | .railLoss _ _ _
  | .rstNLow _ _
  | .laneResetRelease _ _ _
  | .cellarReset _ _
  | .tapReset _ _
  | .x32Fail _ _
  | .retire _ _
  | .factoryProvision _ _
  | .prepareAnswer _ _ _
  | .prepareTimeout _ _
  | .drainExpiry _ _ _ _
  | .larderSaveDone _ _
  | .finalWindowEnd _ _
  | .wakeSource _ _ _
  | .wakeTimer _ _
  | .wakeComplete _ _ _ _ _
  | .sbAddressMatch _ _ _ _
  | .sbRead _ _ _
  | .cellarOvertemp _ _
  | .rstNRelease _ _ _
  | .railReturn _ _ _
  | .tapUpdate _ _ _ _
  | .serviceTimeExpiry _ _ => true
  | .railOutOfWindow _ _ _
  | .lreset _ _ _
  | .pllLock _ _
  | .pllLockTimeout _ _
  | .pllLockLost _ _
  | .mainClockStop _ _
  | .guardianCountWindow _ _ _
  | .rcCountWindow _ _ _
  | .secureBoot _ _
  | .configLoad _ _ _
  | .strapRead _ _ _
  | .decisionTick _ _ _
  | .deferredLegChange _ _ _ _
  | .authorityTickBoundary _ _
  | .tickDeadline _ _
  | .exchangeTick _ _ _ _
  | .carrierPeriodStart _ _ _ _ _
  | .genHoldEnd _ _ _
  | .switchingNodeEdge _ _ _ _ _ _ _
  | .overcurrentTrip _ _ _ _ _ _
  | .egOvercurrent _ _ _ _ _ _
  | .egOvervoltage _ _ _ _
  | .switchTokenReturn _ _ _ _
  | .channelStuck _ _ _ _
  | .settlingEnd _ _ _
  | .ovQualified _ _ _ _
  | .undervoltageTrip _ _ _
  | .adcFrame _ _ _ _ _
  | .ssiTransfer _ _ _ _
  | .ssiTransferDone _ _ _ _ _ _
  | .incrementalEdge _ _ _ _ _
  | .zEdge _ _ _
  | .setRef _ _ _
  | .hallChange _ _ _ _
  | .hallInvalidHold _ _ _
  | .lineFault _ _ _ _
  | .speedTimeout _ _ _
  | .excitationHalfPeriod _ _ _ _
  | .polarityTest _ _ _ _ _
  | .startFail _ _ _
  | .polarityWaitEnd _ _ _
  | .localSourceReturn _ _ _ _
  | .encoderAlign _ _ _ _
  | .alignCapture _ _ _
  | .peerStale _ _ _ _
  | .voteFrameReceive _ _ _ _ _
  | .angleFrameReceive _ _ _ _ _
  | .setpointFrameReceive _ _ _ _ _
  | .shelfFrameReceive _ _ _ _ _
  | .coordinationFrameReceive _ _ _ _ _
  | .renewalReceive _ _ _ _ _
  | .renewalAckReceive _ _ _ _ _
  | .claimReceive _ _ _ _ _
  | .claimAckReceive _ _ _ _ _
  | .claimWithdrawalReceive _ _ _ _ _
  | .releaseReceive _ _ _ _ _
  | .revocationReceive _ _ _ _ _
  | .linkSilence _ _ _
  | .linkUp _ _ _
  | .leaseExpiry _ _
  | .silenceThreshold _ _
  | .interregnumTimeout _ _
  | .voteExpiry _ _ _
  | .d2dFrameReceive _ _ _ _
  | .d2dLinkLoss _ _
  | .inputSample _ _ _
  | .offPulseStart _ _ _
  | .testSample _ _ _ _
  | .testCycleEnd _ _
  | .supplyLimitTrip _ _ _
  | .supplyRetry _ _ _ _
  | .supplyEnableClear _ _ _
  | .standstillConfirm _ _
  | .stopTimeLimit _ _
  | .steeringHoldEnd _ _
  | .stopEnd _ _
  | .bench _ _
  | .readmit _ _
  | .release _ _
  | .lgCommit _ _ _
  | .tripClr _ _ _
  | .dacRoute _ _ _
  | .lnCycleStart _ _
  | .lnLockPoint _ _ _
  | .lnActionPoint _ _ _
  | .lnFrameReceive _ _ _ _
  | .networkIdleStart _ _
  | .portLost _ _ _
  | .portBack _ _ _
  | .guardianStrobe _ _ _ _
  | .strobeMissing _ _ _
  | .guardianViolation _ _ _
  | .collision _ _ _
  | .coldStartCollision _ _
  | .listenTimeout _ _
  | .coldStartDone _ _
  | .integrateTimeout _ _
  | .sourceLoss _ _
  | .holdoverLimit _ _
  | .topologyCheck _ _
  | .portEnable _ _ _
  | .reopen _ _ _
  | .lnTxcommit _ _ _ _
  | .lnRxlock _ _ _
  | .lnInjArm _ _ _
  | .lnMreqGo _ _ _
  | .lnTimeRead _ _ _
  | .canFrameReceive _ _ _ _ _ _
  | .canPartTimeout _ _
  | .retxBudgetExpiry _ _ _ _
  | .busOff _ _
  | .busOffRecovery _ _
  | .read _ _ _ _ _ _ _
  | .write _ _ _ _ _ _ _ _
  | .readSeg _ _ _ _ _ _ _ _
  | .writeInit _ _ _ _ _ _ _ _
  | .writeSeg _ _ _ _ _ _ _ _ _
  | .writeEnd _ _ _ _ _ _ _ _ _
  | .abort _ _ _ _ _ _ _
  | .busyInterval _ _ _ _
  | .flashWorkDone _ _ _ _
  | .xferTimeout _ _ _
  | .setProfile _ _ _
  | .startCommand _ _
  | .stopCommand _ _
  | .unlockChallenge _ _
  | .unlockToken _ _ _
  | .attestationNonce _ _ _
  | .attestDone _ _
  | .configCommit _ _ _
  | .configCommitComplete _ _
  | .installOpen _ _ _
  | .installVerify _ _
  | .verifyDone _ _
  | .installAbort _ _ _
  | .trialFail _ _
  | .imageFrameReceive _ _ _ _ _ _ _ _
  | .imageBlockStored _ _ _ _
  | .enLinkChange _ _ _ _
  | .streamFrameSend _ _ _
  | .cfErase _ _
  | .cfProgram _ _
  | .cfOpDone _ _
  | .faultReport _ _ _ _ _
  | .errOutPulseEnd _ _
  | .quietPeriodEnd _ _ _
  | .logRecordWrite _ _
  | .fcErroutWrite _ _ _
  | .fcInjArm _ _ _
  | .fcXinjArm _ _ _
  | .fcTrapWrite _ _ _ _
  | .pairMismatch _ _
  | .compareTimeout _ _ _
  | .watchdogExpiry _ _
  | .interruptTake _ _ _
  | .icClaim _ _ _
  | .icComplete _ _ _ _
  | .icVectorRead _ _
  | .icBudgetStart _ _ _
  | .budgetExpiry _ _
  | .swset _ _
  | .doorbellH _ _
  | .doorbellY _ _
  | .yreset _ _
  | .yardFirewallRefuse _ _ _ _
  | .firewallStorm _ _
  | .tickDone _ _
  | .log _ _ _ _
  | .tally _ _ _ _
  | .mail _ _ _ _
  | .sliceStart _ _ _
  | .sliceEnd _ _ _ _ _
  | .tokenCreate _ _
  | .periodicRunStart _ _
  | .deep _ _
  | .stAbort _ _
  | .step _ _
  | .sleepHold _ _
  | .sleepCellar _ _
  | .doze _ _ _
  | .pmPadrel _ _ _
  | .shutFlagClear _ _
  | .tallyWindowEnd _ _ _
  | .snapshotReady _ _
  | .clearWrap _ _
  | .atticClear _ _
  | .atticSample _ _ _ _ _ _ _ _ _
  | .tlPeekRead _ _
  | .hpmCounterWrite _ _ _ _
  | .registerWrite _ _ _ _
  | .supplyCurrentLimit _ _ _ _ => false

namespace Machine

/-- Lane `l` as a command of time `t` finds it. -/
def State.seen (s : State) (l : LaneId) (t : Nat) : Lane := (s.lane l).advance t

/-- Command `i` at `s` answers the next state in which lane `l` has become `L` (its interrupt sources settled, its name and its time as the
command found them) and nothing else has changed: no other lane, and not the queue. -/
def Does (i : Instr) (l : LaneId) (t : Nat) (s : State) (L : Lane) : Prop :=
  exec i s = .next (s.setLane l (L.after l (s.seen l t).now))

/-- What holds of lane `l` in every state: it carries its own name, and a source whose changed target still waits is pending or active
(R338). -/
def Lane.Settled (l : LaneId) (L : Lane) : Prop :=
  L.id = l ∧ ∀ c ∈ L.ic.oldTarget, L.srcPend c.1 = true ∨ c.1 ∈ L.ic.active

/-- The invariant of the package. -/
def State.Inv (s : State) : Prop := ∀ l : LaneId, (s.lane l).Settled l

/-- A request that is new to a lane that answers, from a client with nothing in progress. -/
def Lane.newRequest (L : Lane) (c : Carrier) (h : ObjHead) (data : List Byte) : Prop :=
  (L.takeMsg c (h.bytes data)).answers = true ∧ ((L.takeMsg c (h.bytes data)).touch h.client).known h.client h.rid = none ∧
    (((L.takeMsg c (h.bytes data)).touch h.client).enter h.client h.rid).mustWait h = false

/-- The lane with a new request taken from the receive queue, its client's idle time ended and its identifier in the client's window. -/
def Lane.admitted (L : Lane) (c : Carrier) (h : ObjHead) (data : List Byte) : Lane :=
  ((L.takeMsg c (h.bytes data)).touch h.client).enter h.client h.rid

end Machine

end Sys2Proof
end

