-- ==== Sys2Proof/Certificates/Slice0/Obligations.lean ====
section
/-! DEFINITION. The statements for the provers. In each of them `L` is the lane as the command finds it, and a clause `Does c l t s M` says that
command `c` answers a next state in which that lane is `M` and everything else is as before; so a clause states the result, and with it that
whatever `M` does not name is unchanged. All of them rest on the model's form: log entries 2 (commands bring their lane and time), 5 (frames are
operands), 7 (no command stops), 8 (a block that does not run takes no command), 15 (open values) and 23 (outcomes are operands). -/

open Sys2Proof Sys2Proof.Machine

/-! ### The queue, the lanes and time -/

/-- The command at the front of the queue is run with the rest of the queue: what `step` adds to `exec` on this block.
With no command waiting the package idles (the model's choice, log entry 1).
What rests here on a choice of the model and not on the spec alone: log entry 1 (DESIGN CHOICE). -/
def Obligations.StepRunsFrontCommand : Prop :=
  (
    ∀ (c : Instr) (s : State), step { s with pending := c :: s.pending } = exec c s
  ) ∧
  (
    ∀ s : State, s.pending = [] → step s = .next s
  )

/-- Every command answers a next state, in which only its own lane has changed: no other lane and not the queue (R33).
What rests here on a choice of the model and not on the spec alone: log entries 2 (DESIGN CHOICE), 7 (DEDUCED). -/
def Obligations.CommandChangesOnlyItsLane : Prop :=
  ∀ (i : Instr) (s : State), ∃ s', exec i s = .next s' ∧ s'.pending = s.pending ∧ ∀ l, l ≠ i.lane → s'.lane l = s.lane l

/-- What a command makes of its lane depends on that lane alone: two packages whose lanes of that name are equal stay equal there (R33).
What rests here on a choice of the model and not on the spec alone: log entry 2 (DESIGN CHOICE). -/
def Obligations.CommandReadsOnlyItsLane : Prop :=
  ∀ (i : Instr) (s₁ s₂ t₁ t₂ : State), s₁.lane i.lane = s₂.lane i.lane → exec i s₁ = .next t₁ → exec i s₂ = .next t₂ →
    t₁.lane i.lane = t₂.lane i.lane

/-- A whole queue run to its end leaves a lane exactly as the commands to that lane alone would: whatever the other lanes are sent, it is
isolated from it (R33).
What rests here on a choice of the model and not on the spec alone: log entries 1 (DESIGN CHOICE), 2 (DESIGN CHOICE), 5 (DESIGN CHOICE). -/
def Obligations.LaneIsIsolatedOverRuns : Prop :=
  ∀ (l : LaneId) (q : List Instr) (s : State), ∃ t u : State,
    Sys2Proof.core.run q.length { s with pending := q } = .next t ∧
    Sys2Proof.core.run (q.filter (fun i => decide (i.lane = l))).length { s with pending := q.filter (fun i => decide (i.lane = l)) } = .next u ∧
    t.lane l = u.lane l

/-- No step takes a lane's time back.
What rests here on a choice of the model and not on the spec alone: log entry 3 (DESIGN CHOICE). -/
def Obligations.LaneTimeNeverGoesBack : Prop :=
  ∀ (s s' : State), step s = .next s' → ∀ l, (s.lane l).now ≤ (s'.lane l).now

/-- Every step keeps the invariant: the lanes keep their names, and a waiting target belongs to a source that is pending or active.
What rests here on a choice of the model and not on the spec alone: log entries 1 (DESIGN CHOICE), 2 (DESIGN CHOICE). -/
def Obligations.EveryStepKeepsSettledLanes : Prop :=
  ∀ (s s' : State), s.Inv → step s = .next s' → s'.Inv

/-- The invariant holds right after reset.
What rests here on a choice of the model and not on the spec alone: log entry 17 (DEDUCED). -/
def Obligations.ResetLanesAreSettled : Prop := State.reset.Inv

/-- A lane that is held in reset takes nothing but its supplies, pins, TAP and sleep and life-cycle events: every other command leaves it as
it stands, but for its time.
What rests here on a choice of the model and not on the spec alone: log entry 8 (DEDUCED). -/
def Obligations.LaneHeldInResetTakesNoCommand : Prop :=
  ∀ (i : Instr) (s : State), i.reachesReset = false → (s.lane i.lane).sy.resetHeld = true →
    Does i i.lane i.time s (s.seen i.lane i.time)

/-! ### Supplies, resets, clocks and boot -/

/-- A rail below its assert level, RST_N low (R41, R436, R437): the lane is held in reset, its SRAM lost with a supply, the cause shown;
VDD_AO takes the cellar's content as well. A rail that returns starts the 2.0 ms count when it is the last of the five.
Lane reset is released 2.0 ms after the last rail, with RST_N high, and not before; CLKSEL is read then (R432, R436, R440).
What rests here on a choice of the model and not on the spec alone: log entries 19 (DEDUCED), 110 (DEDUCED). -/
def Obligations.RailsPinAndReleaseOfReset : Prop :=
  (
    ∀ (s : State) (l : LaneId) (t : Nat), let L := s.seen l t
      let H := L.holdReset
      let lost : List Host.Cell := H.mem.filter (fun c => decide (c.1 < 0x20000000) || (decide (0x25000000 ≤ c.1) && decide (c.1 < 0x25040000)))
      (∀ r : Fin 5, r ≠ 3 → Does (.railLoss l t r) l t s
        (({ H with mem := lost, sy := { H.sy with rails := putBit H.sy.rails r false } }).raise F.SY_RSTCAUSE_RAIL)) ∧
      Does (.railLoss l t 3) l t s (({ H with mem := lost, sy := { H.sy with rails := putBit H.sy.rails 3 false } }).cellarClear) ∧
      Does (.cellarReset l t) l t s (({ H with mem := lost, sy := { H.sy with rails := putBit H.sy.rails 3 false } }).cellarClear) ∧
      Does (.rstNLow l t) l t s (({ H with sy := { H.sy with rstN := false } }).raise F.SY_RSTCAUSE_PIN) ∧
      (∀ r : Fin 5, L.sy.rails ≠ 31 → putBit L.sy.rails r true = 31 →
        Does (.railReturn l t r) l t s { L with sy := { L.sy with rails := 31, railsAt := L.now } }) ∧
      (∀ r : Fin 5, putBit L.sy.rails r true ≠ 31 →
        Does (.railReturn l t r) l t s { L with sy := { L.sy with rails := putBit L.sy.rails r true } })
  ) ∧
  (
    ∀ (s : State) (l : LaneId) (t : Nat) (k : Bool), let L := s.seen l t
      (L.sy.resetHeld = true → L.sy.rails = 31 → L.sy.rstN = true → L.sy.railsAt + ms 2 ≤ L.now →
        Does (.laneResetRelease l t k) l t s ({ L with sy := { L.sy with extRef := k } }).release) ∧
      (L.sy.resetHeld = false ∨ L.sy.rails ≠ 31 ∨ L.sy.rstN = false ∨ L.now < L.sy.railsAt + ms 2 → Does (.laneResetRelease l t k) l t s L) ∧
      (L.sy.resetHeld = true → L.sy.rails = 31 → L.sy.railsAt + ms 2 ≤ L.now →
        Does (.rstNRelease l t k) l t s ({ L with sy := { L.sy with rstN := true, extRef := k } }).release) ∧
      (L.sy.resetHeld = false ∨ L.sy.rails ≠ 31 ∨ L.now < L.sy.railsAt + ms 2 →
        Does (.rstNRelease l t k) l t s { L with sy := { L.sy with rstN := true } })
  )

/-- What lane reset keeps and what it clears (R437): of every register the bits of the cellar and of the latches, all others at their reset
value; memory, OTP, the event-log queue and the recovery history stay; lane state, key, links, groups, network and application start afresh.
The end of lane reset: Booting, or Withdrawn where the cellar holds a latched fatal fault or a latched withdrawal (R41, R356, R357), with device time 0 (R265).
What rests here on a choice of the model and not on the spec alone: log entries 19 (DEDUCED), 29 (DEDUCED), 31 (DEDUCED), 110 (DEDUCED), 126
(DEDUCED). -/
def Obligations.LaneResetKeepsTheCellarOnly : Prop :=
  (
    ∀ L : Lane,
      (∀ a, L.laneReset.reg a = (L.reg a &&& BitVec.ofNat 32 (keepMask a)) ||| (resetWord L.id a &&& ~~~(BitVec.ofNat 32 (keepMask a)))) ∧
      (∀ a, L.laneReset.byte a = L.byte a) ∧
      L.laneReset.lc.otp = L.lc.otp ∧ L.laneReset.fc.queue = L.fc.queue ∧ L.laneReset.fc.recov = L.fc.recov ∧
      L.laneReset.ky = .reset ∧ L.laneReset.cx = .reset ∧ L.laneReset.groups = Vector.replicate 16 .reset ∧ L.laneReset.ln = { LnS.reset with timeAt := L.now } ∧
      L.laneReset.ic = .reset ∧ L.laneReset.oc = .reset ∧ L.laneReset.lc.challenge = none ∧ L.laneReset.sy.permit = false
  ) ∧
  (
    ∀ L : Lane, L.sy.nolockNext = false →
      L.release.sy.resetHeld = false ∧ L.release.sy.releasedAt = L.now ∧ L.release.ln.timeNs = 0 ∧ L.release.regs = L.regs ∧
      (L.heldWithdrawn = true → L.release.ky.state = .withdrawn) ∧ (L.heldWithdrawn = false → L.release.ky.state = .booting)
  )

/-- The PLL (R433): a lock within 5 ms of the release switches the main island; without one the lane is Withdrawn with source 11 and NOLOCK
is remembered; a lock lost after the switch withdraws permission and is source 11; a lock that returns is counted as a relock (R375). A main clock
that stops withdraws permission and the lane (R162); the hub records source 11 once a lock returns (R351).
The counting monitors: guardian cycles in 10 µs (R73), RC cycles in 100 µs (R434), the crystal (R434), a rail outside its window (R436).
Values inside their limits only show in their registers.
What rests here on a choice of the model and not on the spec alone: log entries 4 (DESIGN CHOICE), 48 (DEDUCED), 49 (DEDUCED), 164
(DEDUCED), 168 (DESIGN CHOICE), 182 (DESIGN CHOICE), 195 (DESIGN CHOICE), 200 (DEDUCED). -/
def Obligations.ClockAndSupplyMonitors : Prop :=
  (
    ∀ (s : State) (l : LaneId) (t : Nat), let L := s.seen l t
      let N : Lane := { L with ic := { L.ic with cycle := L.cycles false, cycleAt := L.now } }
      let relocked : Lane := ({ N with sy := { L.sy with lock := true, lostLock := false, mainPll := true } }).tally 0 2
      let first : Lane := { N with sy := { L.sy with lock := true, mainPll := true } }
      let S : Lane := ({ L with sy := { L.sy with lock := false, lostLock := L.sy.lostLock || L.sy.lock, clockFault := true, mainPll := false } }).permitFall
      L.acts .core 0 = true →
      (L.sy.lock = false → L.sy.clockFault = false →
        (L.sy.lostLock = true → Does (.pllLock l t) l t s relocked) ∧
        (L.sy.lostLock = false → L.sy.releasedAt + ms 5 < L.now → Does (.pllLock l t) l t s N) ∧
        (L.sy.lostLock = false → L.now ≤ L.sy.releasedAt + ms 5 → Does (.pllLock l t) l t s first)) ∧
      (L.sy.lock = false → L.sy.clockFault = true →
        (L.sy.lostLock = true → Does (.pllLock l t) l t s (({ relocked with sy := { relocked.sy with clockFault := false } }).fault 11 0xFFFF)) ∧
        (L.sy.lostLock = false → Does (.pllLock l t) l t s (({ first with sy := { first.sy with clockFault := false } }).fault 11 0xFFFF))) ∧
      (L.sy.lock = false → L.sy.releasedAt + ms 5 ≤ L.now →
        Does (.pllLockTimeout l t) l t s (({ L with sy := { L.sy with nolockNext := true } }).fault 11 0xFFFF)) ∧
      (L.sy.lock = true → Does (.pllLock l t) l t s L ∧ Does (.pllLockTimeout l t) l t s L ∧
        Does (.pllLockLost l t) l t s (({ L with sy := { L.sy with lock := false, lostLock := true, mainPll := false } }).permitFall.fault 11 0xFFFF)) ∧
      (L.ky.state = .off → Does (.mainClockStop l t) l t s S) ∧ (L.ky.state ≠ .off → Does (.mainClockStop l t) l t s S.toWithdrawn)
  ) ∧
  (
    ∀ (s : State) (l : LaneId) (t : Nat), let L := s.seen l t
      (L.acts .core 0 = true → L.injecting 17 = false →
        (∀ n, 470 ≤ n → n ≤ 530 → Does (.guardianCountWindow l t n) l t s ((L.setFld F.KY_CLKMON_GCYC n).setFld F.KY_CLKMON_DEV 0)) ∧
        (∀ n, n < 470 ∨ 530 < n → Does (.guardianCountWindow l t n) l t s
          ((((L.setFld F.KY_CLKMON_GCYC (min n 4095)).setFld F.KY_CLKMON_DEV 1).when (!(L.flag F.KY_CLKMON_DEV)) (·.raise F.KY_EVENT_CLOCK_DEV)).clearKey.fault
            10 0xFFFF))) ∧
      (L.acts .core 0 = true →
        (∀ n, 85 ≤ n → n ≤ 115 → Does (.rcCountWindow l t n) l t s (L.setFld F.SY_RCMON_RCCNT n)) ∧
        (∀ n, n < 85 ∨ 115 < n → Does (.rcCountWindow l t n) l t s ((L.setFld F.SY_RCMON_RCCNT n).raise F.SY_EVENT_RC_DEV)) ∧
        (∀ r : Fin 5, bit L.sy.rails r = true → Does (.railOutOfWindow l t r) l t s (L.fault 13 r)) ∧
        (∀ r : Fin 5, bit L.sy.rails r = false → Does (.railOutOfWindow l t r) l t s L)) ∧
      (L.flag F.PM_CTRL_XTAL = true → Does (.x32Fail l t) l t s (({ L with sy := { L.sy with x32Fail := true } }).raise F.SY_EVENT_X32_FAIL)) ∧
      (L.flag F.PM_CTRL_XTAL = false → Does (.x32Fail l t) l t s L)
  )

/-- SY_CMD.LRESET (R439) acts with the unlock code in Booting, Bench or Withdrawn, 10 µs after the write, and otherwise does nothing; a Withdrawn
lane with a latched fault stays there (R41).
The TAP (R4, R33, R164, R437, R412): a reset takes IDCODE, which gives the die set and the package revision; an update loads instruction and boundary register; debug halt and resume only
where the life cycle allows them.
What rests here on a choice of the model and not on the spec alone: log entries 19 (DEDUCED), 29 (DEDUCED), 31 (DEDUCED), 110 (DEDUCED), 211
(DESIGN CHOICE). -/
def Obligations.FirmwareResetAndTap : Prop :=
  (
    ∀ (s : State) (l : LaneId) (t : Nat) (v : Word), let L := s.seen l t
      L.pairActs .core 0 = true →
      (F.SY_CMD_UNLOCK.get v = 0xA5C3 → F.SY_CMD_LRESET.get v = 1 → L.ky.state = .booting ∨ L.ky.state = .bench ∨ L.ky.state = .withdrawn →
        let M := ((({ L with now := L.now + us 10 }).laneReset).raise F.SY_RSTCAUSE_FW).release
        (L.ky.state ≠ .withdrawn ∨ L.latched = false → Does (.lreset l t v) l t s M) ∧
        (L.ky.state = .withdrawn → L.latched = true → Does (.lreset l t v) l t s { M with ky := { M.ky with state := .withdrawn } })) ∧
      (F.SY_CMD_UNLOCK.get v ≠ 0xA5C3 ∨ F.SY_CMD_LRESET.get v ≠ 1 ∨ (L.ky.state ≠ .booting ∧ L.ky.state ≠ .bench ∧ L.ky.state ≠ .withdrawn) →
        Does (.lreset l t v) l t s L)
  ) ∧
  (
    ∀ (s : State) (l : LaneId) (t : Nat), let L := s.seen l t
      Does (.tapReset l t) l t s { L with sy := { L.sy with tap := .idcode } } ∧
      (L.sy.tap = .idcode → L.idcode = some (Config.idcode 0x42 0)) ∧ (L.sy.tap ≠ .idcode → L.idcode = none) ∧
      (∀ b : List Bool, Does (.tapUpdate l t none (some b)) l t s { L with sy := { L.sy with boundaryReg := b } }) ∧
      (∀ i : TapInstr, i ≠ .debugHalt → i ≠ .debugResume → Does (.tapUpdate l t (some i) none) l t s { L with sy := { L.sy with tap := i } }) ∧
      (L.debugAllowed = true →
        Does (.tapUpdate l t (some .debugHalt) none) l t s { L with sy := { L.sy with tap := .debugHalt, debugHalt := true } } ∧
        Does (.tapUpdate l t (some .debugResume) none) l t s { L with sy := { L.sy with tap := .debugResume, debugHalt := false } }) ∧
      (L.debugAllowed = false → Does (.tapUpdate l t (some .debugHalt) none) l t s L ∧ Does (.tapUpdate l t (some .debugResume) none) l t s L)
  )

/-- Boot (R414, R440): the first slot in order that verifies is entered, else the boot fails; after runtime entry the newest bank that can be
taken becomes the configuration (R421), after the straps were read (R423), and the lane goes to Bench; a changed strap pattern is told and counted (R423).
What rests here on a choice of the model and not on the spec alone: log entries 25 (DEDUCED), 26 (DEDUCED), 32 (DEDUCED), 33 (DEDUCED), 48
(DEDUCED), 63 (DEDUCED), 103 (DEDUCED), 172 (DESIGN CHOICE). -/
def Obligations.BootAndConfigurationLoad : Prop :=
  ∀ (s : State) (l : LaneId) (t : Nat), let L := s.seen l t
    (L.acts .core 0 = true → L.ky.state = .booting ∨ L.ky.state = .withdrawn →
      (L.lc.booted = false → L.ic.halted = false →
        Does (.secureBoot l t) l t s (match L.bootFrom L.slotOrder with
          | some M => M
          | none => ({ L with ic := { L.ic with halted := true } }).bootFail)) ∧
      (∀ n, L.runtime = true → L.lc.loaded = false → L.lc.state = .retired →
        let M : Lane := ({ L with lc := { L.lc with netKey := none } }).bootStraps n
        let N : Lane := { M with lc := { M.lc with loaded := true } }
        Does (.configLoad l t n) l t s (if N.ky.state = .booting then N.toWithdrawn else N)) ∧
      (∀ n, L.runtime = true → L.lc.loaded = false → L.lc.state ≠ .retired →
        let M : Lane := ({ L with lc := { L.lc with netKey := none } }).bootStraps n
        Does (.configLoad l t n) l t s (match M.bankTaken with
          | none => M.noConfig.bootToBench
          | some b => (M.takeBank b n).bootToBench))) ∧
    (∀ n, L.acts .core 0x20 = true → L.runtime = true → L.lc.state = .field ∨ L.lc.state = .service →
      (n % 256 ≠ L.lc.strapRead → Does (.strapRead l t n) l t s
        ((({ L with lc := { L.lc with strapRead := n % 256 } }).raise F.LC_EVENT_STRAP_CHANGE).bump F.LC_CNT_STRAP_CHG)) ∧
      (n % 256 = L.lc.strapRead → Does (.strapRead l t n) l t s L))

/-! ### Drive section of a group -/

/-- A decision tick runs every group once, in rising order, and counts itself (R94); in Doze the groups run the reduced tick (R387). Held pads bring no
samples (R395).
A carrier period starts only with RUN set, the carrier running and the period before it over (R143). It takes its events in the order of
R169: commits, the commit point, QCAP, the period shown, the end of a trip hold, hand-over, injection, illegal requests; and the legs switch by
their duties: those of the duty registers, of the start sequence, or of the engine's reference.
What rests here on a choice of the model and not on the spec alone: log entries 4 (DESIGN CHOICE), 58 (DEDUCED), 61 (DEDUCED), 108
(DEDUCED), 151 (DESIGN CHOICE). -/
def Obligations.DecisionTickAndCarrierPeriod : Prop :=
  (
    ∀ (s : State) (l : LaneId) (t : Nat) (xs : List GroupSample), let L := s.seen l t
      let zero : GroupSample := { clocks := [], high := [], illegal := 0, bothOn := false }
      let M : Lane := { L with ad := { L.ad with tick := L.ad.tick + 1, tickAt := L.now } }
      let ys : List GroupSample := if L.padsHeld .drive then [] else xs
      L.acts .drive 11 = true →
      (L.dozing = false → Does (.decisionTick l t xs) l t s (M.eachGroup (fun L g => L.groupTick g (ys.getD g zero)))) ∧
      (L.dozing = true → Does (.decisionTick l t xs) l t s (M.eachGroup (fun L g => L.dozeTick g (ys.getD g zero))))
  ) ∧
  (
    ∀ (s : State) (l : LaneId) (t : Nat) (g : Fin 16) (cs : List Nat) (ill : Nat), let L := s.seen l t
      L.awakeActs 10 = true →
      (L.flag F.LG_CTRL_RUN g = false ∨ (L.lg g).running = false ∨ L.now < (L.lg g).nextAt → Does (.carrierPeriodStart l t g cs ill) l t s L) ∧
      (L.flag F.LG_CTRL_RUN g = true → (L.lg g).running = true → (L.lg g).nextAt ≤ L.now →
        let A := (L.takeClocks g cs).legsSettle g
        let B := ((A.updLg g (fun x => { x with periodAt := A.now })).commitPhase g).commitPoint g
        let C := B.updLg g (fun x => { x with qcap := B.flag F.LG_CTRL_QCAP g })
        let D := C.setFld F.LG_PERIOD_ACT_VAL (C.lg g).active g
        let E := D.updLg g (fun x => { x with nextAt := D.now + 8 * x.active })
        let G := (E.when ((E.lg g).tripEnd && (E.grp g).tq.mode != .table) (·.updLg g (fun x => { x with tripHold := false, tripEnd := false }))).handover g
        let H := (G.updAn g (fun x => { x with injRun := x.injRun && G.injWanted g })).illegalLegs g ill
        let v := H.sdValue g 3 (H.sinc3 g 3)
        let legs (d : List Nat) (drive : Bool) : Lane :=
          ((H.legPeriod g 0 (d.getD 0 0) drive).legPeriod g 1 (d.getD 1 0) drive).legPeriod g 2 (d.getD 2 0) drive
        (H.srcDuty g = false → H.startDrives g = false → (H.grp g).tq.mode ≠ .carrier → Does (.carrierPeriodStart l t g cs ill) l t s H) ∧
        (H.srcDuty g = true → Does (.carrierPeriodStart l t g cs ill) l t s (legs (H.lg g).duty (H.legsRun g))) ∧
        (H.startDrives g = true → Does (.carrierPeriodStart l t g cs ill) l t s
          (legs (dutiesOf (H.injVector g) v) ((H.legsRun g || !(H.lg g).genHold) && (H.grp g).tq.mode != .table))) ∧
        (H.srcDuty g = false → H.startDrives g = false → (H.grp g).tq.mode = .carrier → Does (.carrierPeriodStart l t g cs ill) l t s
          (legs (dutiesOf (H.reference g) v) (H.legsRun g))))
  )

/-- The leg generator's own events: a commit asked (R146), the clearing of a trip hold (R166) refused while a comparator stands, the end of
the 2.0 µs after a gate enable (R167), a change deferred until MINPULSE has passed (R154), a token that releases a held change (R236). -/
def Obligations.LegGeneratorEvents : Prop :=
  ∀ (s : State) (l : LaneId) (t : Nat) (g : Fin 16) (k : Fin 4), let L := s.seen l t
    let at_ := (L.leg g k).onAt + L.minPulse g
    let back := (L.leg g k).tokenAt + L.tokenInt g
    (L.pairActs .drive 10 = true →
      ((L.lg g).commit = false → Does (.lgCommit l t g) l t s (L.updLg g (fun x => { x with commit := true, commitAt := L.now }))) ∧
      ((L.lg g).commit = true → Does (.lgCommit l t g) l t s L) ∧
      ((L.lg g).tripHold = true → (L.grp g).sd.oc = 0 →
        Does (.tripClr l t g) l t s (L.updLg g (fun x => { x with tripEnd := true, tripClrAt := L.now }))) ∧
      ((L.lg g).tripHold = false ∨ (L.grp g).sd.oc ≠ 0 → Does (.tripClr l t g) l t s L)) ∧
    (L.acts .drive 10 = true →
      ((L.lg g).genHold = true → (L.lg g).genAt + us 2 ≤ L.now →
        Does (.genHoldEnd l t g) l t s (L.updLg g (fun x => { x with genHold := false }))) ∧
      ((L.lg g).genHold = false ∨ L.now < (L.lg g).genAt + us 2 → Does (.genHoldEnd l t g) l t s L) ∧
      ((L.leg g k).plan = [] → (L.leg g k).held = none →
        ((L.leg g k).defer = none ∨ L.now < at_ → Does (.deferredLegChange l t g k) l t s (L.judgeSeen g k)) ∧
        (∀ c, (L.leg g k).defer = some c → at_ ≤ L.now → (L.leg g k).cmd ≠ c →
          let M := (L.updLeg g k (fun x => { x with defer := none })).tokens g k at_
          (M.leg g k).tokens ≠ 0 → Does (.deferredLegChange l t g k) l t s ((M.legChange g k c at_).judgeSeen g k)))) ∧
    (L.acts .drive 17 = true → (L.leg g k).plan = [] → (L.leg g k).defer = none →
      (∀ c, (L.leg g k).held = some c → back ≤ L.now →
        Does (.switchTokenReturn l t g k) l t s ((((L.tokens g k back).legChange g k c back).judgeSeen g k).tokens g k L.now)) ∧
      ((L.leg g k).held = none ∨ L.now < back → Does (.switchTokenReturn l t g k) l t s ((L.judgeSeen g k).tokens g k L.now)))

/-- A sense edge belongs to the newest state change of its direction that is still to be judged; without one it shows class 3. A change whose incoming
command has not risen keeps the crossing until it rises. Outside the conditions of R156 it is not checked: class 3, and nothing else
changes. A crossing within the dead time is natural (class 0) and adapts the dead time above IZC; one up to TSIL past it is forced (class 1). With
none by then the edge is silent; with SIL_N of them in a row, leg K reports a chopper fault and another leg isolates the star (R159, R160).
What rests here on a choice of the model and not on the spec alone: log entries 25 (DEDUCED), 26 (DEDUCED), 151 (DESIGN CHOICE), 176
(DEDUCED). -/
def Obligations.SwitchingNodeEdgeClasses : Prop :=
  ∀ (s : State) (l : LaneId) (t : Nat) (g : Fin 16) (k : Fin 4) (rise : Bool) (x : Option Nat) (cs : List Nat), let L := s.seen l t
    let A := (L.takeClocks g cs).legSettle g k
    let edge := (A.leg g k).edges.find? (fun e => e.rising == rise && e.seen.isNone)
    let show_ (X : Lane) (c m : Nat) : Lane := ((X.setFld F.LG_SENSE_CLASS c g k).setFld F.LG_SENSE_DIR (b2n rise) g k).setFld F.LG_SENSE_M m g k
    let good (X : Lane) : Lane := X.updLeg g k (fun y => { y with
      silentRun := 0, goodRun := y.goodRun + 1, silent := y.silent && decide (y.goodRun + 1 < X.fld1 F.LG_SIL_SIL_CLR g) })
    L.awakeActs 10 = true → L.inActs .drive 10 = true →
    (edge = none → Does (.switchingNodeEdge l t g k rise x cs) l t s (show_ A 3 0)) ∧
    (∀ e, edge = some e → A.now < e.fell + e.dt → Does (.switchingNodeEdge l t g k rise x cs) l t s
      (A.updLeg g k (fun y => { y with edges := y.edges.map (fun z => if z = e then { z with seen := some x } else z) }))) ∧
    (∀ e, edge = some e → e.fell + e.dt ≤ A.now →
      let N := A.updLeg g k (fun y => { y with edges := y.edges.filter (fun z => decide (z ≠ e)) })
      ((A.lg g).gen = false ∨ A.sy.permit = false ∨ A.vdc g < A.vsilMin g → Does (.switchingNodeEdge l t g k rise x cs) l t s (show_ N 3 0)) ∧
      ((A.lg g).gen = true → A.sy.permit = true → A.vsilMin g ≤ A.vdc g →
        let M := (((show_ N 2 0).updLeg g k (fun y => { y with silent := true, silentRun := y.silentRun + 1, goodRun := 0 })).raise F.LG_EVENT_SILENT g).bump
          F.LG_CNT1_SILENT g
        (x.all (fun c => decide (e.dt + N.tsil g < c - N.fld F.LG_DTADP_SNS_COMP g)) = true →
          ((M.leg g k).silentRun < M.fld1 F.LG_SIL_SIL_N g → Does (.switchingNodeEdge l t g k rise x cs) l t s M) ∧
          (M.fld1 F.LG_SIL_SIL_N g ≤ (M.leg g k).silentRun → k = 3 → Does (.switchingNodeEdge l t g k rise x cs) l t s (M.chopFault g 2)) ∧
          (M.fld1 F.LG_SIL_SIL_N g ≤ (M.leg g k).silentRun → k ≠ 3 → Does (.switchingNodeEdge l t g k rise x cs) l t s
            (((M.updLeg g k (fun y => { y with fault := true })).raise F.LG_EVENT_LEG_FAULT g).isolate g))) ∧
        (∀ c, x = some c → let m := c - N.fld F.LG_DTADP_SNS_COMP g
          (e.dt ≤ m → m ≤ e.dt + N.tsil g → Does (.switchingNodeEdge l t g k rise x cs) l t s (good (show_ N 1 0))) ∧
          (m < e.dt →
            let S := show_ N 0 (min m 0xFFFF)
            (k = 3 ∨ S.flag F.LG_CTRL_ADAPT g = false ∨ absR (S.fastAt g k e.fell) < S.izc g →
              Does (.switchingNodeEdge l t g k rise x cs) l t s (good S)) ∧
            (k ≠ 3 → S.flag F.LG_CTRL_ADAPT g = true → S.izc g ≤ absR (S.fastAt g k e.fell) →
              Does (.switchingNodeEdge l t g k rise x cs) l t s (good (S.adapt g k rise m)))))))

/-- Overcurrent (R187, R190): at each modulator clock the comparators show the phases whose sinc2 value is at or above SD_OC. One that stands trips the
legs unless they are already held, the trip is counted unless the star is isolated, and TRIP_N trips within the window isolate it; a clearing of the
same cycle is undone, and a hold that an earlier clearing ends is a new trip (the model's reading, log entry 192).
What rests here on a choice of the model and not on the spec alone: log entries 25 (DEDUCED), 26 (DEDUCED), 39 (DEDUCED), 192 (DEDUCED). -/
def Obligations.OvercurrentTripsThenIsolates : Prop :=
  ∀ (s : State) (l : LaneId) (t : Nat) (g : Fin 16) (u v w : List Nat), let L := s.seen l t
    let bs := (joinPhases u v w).take (L.captured g L.now - (L.grp g).sd.taken)
    let N := bs.foldl (fun (M : Lane) b => (M.pushClock g b).comparators g) L
    L.acts .drive 13 = true →
    (L.sdRuns g = false ∨ L.padsHeld .drive = true ∨ bs = [] → Does (.overcurrentTrip l t g u v w) l t s L) ∧
    (L.sdRuns g = true → L.padsHeld .drive = false → bs ≠ [] → Does (.overcurrentTrip l t g u v w) l t s
      ((List.range 4).foldl (fun (M : Lane) k => M.setF32 F.SD_VAL2 (M.fast g k) g k) N)) ∧
    (∀ (M : Lane) (b : Nat), let P := M.pushClock g b
      let hit (k : Nat) : Bool := (!(P.sdParam g) && !(P.grp g).sd.settling) && decide (P.f32 F.SD_OC g ≤ absR (P.fast g k))
      (P.grp g).sd.oc = b2n (hit 0) + 2 * b2n (hit 1) + 4 * b2n (hit 2)) ∧
    (∀ C : Lane, let T := ((C.tripHold g).bump F.SD_CNT_TRIP_CNT g).tally 13 g
      let series := (C.grp g).sd.trips.filter (fun t0 => decide (C.now ≤ t0 + ms (T.tripWin g))) ++ [C.now]
      let V := T.updSd g (fun x => { x with trips := series })
      ((C.grp g).sd.oc = 0 ∨ ((C.lg g).tripHold = true ∧ (C.lg g).tripEnd = false) → C.comparators g = C) ∧
      ((C.grp g).sd.oc ≠ 0 → (C.lg g).tripHold = true → (C.lg g).tripEnd = true → (C.lg g).tripClrAt / 8 = C.now / 8 →
        C.comparators g = C.updLg g (fun x => { x with tripEnd := false })) ∧
      ((C.grp g).sd.oc ≠ 0 → (C.lg g).tripHold = false ∨ ((C.lg g).tripEnd = true ∧ (C.lg g).tripClrAt / 8 ≠ C.now / 8) →
        ((C.lg g).iso ≠ .none → C.comparators g = C.tripHold g) ∧
        ((C.lg g).iso = .none → series.length < V.tripN g → C.comparators g = V) ∧
        ((C.lg g).iso = .none → V.tripN g ≤ series.length → C.comparators g =
          ((V.updSd g (fun x => { x with trips := [] })).raise F.SD_EVENT_OC_ISO g).isolate g)))

/-- The envelope guard (R236): a phase's newest sinc2 value at or above EG_OC, or the fast link voltage at or above EG_OV for 1.0 µs, puts the group
off; a limit that is no positive number compares nothing (log entry 40).
The channels and the link of a group: settling ends 3M modulator clocks after ENABLE (R186); 128 equal bits on a phase channel isolate the
star, on the link channel they put the group off (R191); overvoltage for OV_QUAL isolates, then switches off (R177); undervoltage for UV_T isolates (R181).
What rests here on a choice of the model and not on the spec alone: log entries 4 (DESIGN CHOICE), 40 (DEDUCED), 151 (DESIGN CHOICE). -/
def Obligations.EnvelopeGuardChannelsAndLink : Prop :=
  (
    ∀ (s : State) (l : LaneId) (t : Nat) (g : Fin 16) (u v w cs : List Nat), let L := s.seen l t
      let M := L.takeClocks g (joinPhases u v w)
      let K := L.takeClocks g cs
      let reached := [0, 1, 2].any (fun k => decide (M.f32 F.EG_OC g ≤ absR (M.fast g k)))
      L.acts .drive 17 = true →
      (M.sdRuns g = true → f32pos (M.word F.EG_OC g) = true → reached = true → Does (.egOvercurrent l t g u v w) l t s (M.groupOff g true)) ∧
      (M.sdRuns g = false ∨ f32pos (M.word F.EG_OC g) = false ∨ reached = false → Does (.egOvercurrent l t g u v w) l t s M) ∧
      (K.sdRuns g = true → f32pos (K.word F.EG_OV g) = true → K.fastFor g 3 (us 1) = true → Does (.egOvervoltage l t g cs) l t s (K.groupOff g true)) ∧
      (K.sdRuns g = false ∨ f32pos (K.word F.EG_OV g) = false ∨ K.fastFor g 3 (us 1) = false → Does (.egOvervoltage l t g cs) l t s K)
  ) ∧
  (
    ∀ (s : State) (l : LaneId) (t : Nat) (g : Fin 16) (c : Fin 4) (cs : List Nat), let L := s.seen l t
      let K := L.takeClocks g cs
      (L.acts .drive 13 = true →
        ((L.grp g).sd.settling = true → L.flag F.SD_CTRL_ENABLE g = true → (L.grp g).sd.enabledAt + 3 * L.sdM g * L.sdDiv g * 8 ≤ L.now →
          Does (.settlingEnd l t g) l t s ((L.updSd g (fun x => { x with settling := false })).genUpdate g)) ∧
        ((K.grp g).sd.settling = false → K.sdRuns g = true → bit (K.grp g).sd.chfault c = false → 128 ≤ (K.grp g).sd.runs.getD c 0 →
          let M := (K.updSd g (fun x => { x with chfault := putBit x.chfault c true })).raise F.SD_EVENT_CHFAULT g
          (c = 3 → Does (.channelStuck l t g ⟨c, cs⟩) l t s (M.groupOff g false)) ∧ (c ≠ 3 → Does (.channelStuck l t g ⟨c, cs⟩) l t s (M.isolate g))) ∧
        ((K.grp g).sd.settling = true ∨ K.sdRuns g = false ∨ bit (K.grp g).sd.chfault c = true ∨ (K.grp g).sd.runs.getD c 0 < 128 →
          Does (.channelStuck l t g ⟨c, cs⟩) l t s K)) ∧
      (L.acts .drive 10 = true →
        (K.fastFor g 2 (800 * K.ovQual g) = true → (K.lg g).iso ≠ .groupOff → Does (.ovQualified l t g ⟨true, cs⟩) l t s
          (((K.updCh g (fun x => { x with step := 3 })).raise F.LG_CH_EVENT_GROUP_OFF g).groupOff g false)) ∧
        (K.fastFor g 1 (800 * K.ovQual g) = true → (K.grp g).tq.isolated = false → Does (.ovQualified l t g ⟨false, cs⟩) l t s
          (((K.updCh g (fun x => { x with step := max 2 x.step })).raise F.LG_CH_EVENT_OV_ISO g).isolate g)) ∧
        (K.fastFor g 2 (800 * K.ovQual g) = false ∨ (K.lg g).iso = .groupOff → Does (.ovQualified l t g ⟨true, cs⟩) l t s K) ∧
        (K.fastFor g 1 (800 * K.ovQual g) = false ∨ (K.grp g).tq.isolated = true → Does (.ovQualified l t g ⟨false, cs⟩) l t s K) ∧
        (K.fastFor g 0 (160000 * K.uvT g) = true → (K.lg g).gen = true → (K.lg g).genAt + 160000 * K.uvT g ≤ K.now → (K.grp g).tq.isolated = false →
          Does (.undervoltageTrip l t ⟨g, cs⟩) l t s ((K.raise F.LG_CH_EVENT_UV_ISO g).isolate g)) ∧
        (K.fastFor g 0 (160000 * K.uvT g) = false ∨ (K.lg g).gen = false ∨ K.now < (K.lg g).genAt + 160000 * K.uvT g ∨ (K.grp g).tq.isolated = true →
          Does (.undervoltageTrip l t ⟨g, cs⟩) l t s K))
  )

/-- The SAR ADC (R192, R195, R204): at the start of every second decision tick a frame counts itself, converts the front-end inputs and the housekeeping entries of every ADC that is
enabled; held pads bring no codes (R395); a front-end DAC route is denied outside Bench; the excitation is judged each half period while EXC_EN is set.
What rests here on a choice of the model and not on the spec alone: log entries 4 (DESIGN CHOICE), 27 (DEDUCED), 37 (DESIGN CHOICE). -/
def Obligations.FieldConverters : Prop :=
  ∀ (s : State) (l : LaneId) (t : Nat), let L := s.seen l t
    L.acts .field 15 = true →
    (∀ fe hk tp : List Int, L.frameDue = none → Does (.adcFrame l t fe hk tp) l t s L) ∧
    (∀ (fe hk tp : List Int) (n : Nat), L.frameDue = some n → n ≤ L.ad.frame → Does (.adcFrame l t fe hk tp) l t s L) ∧
    (∀ (fe hk tp : List Int) (n : Nat), L.frameDue = some n → L.ad.frame < n →
      let on (L : Lane) (j : Nat) : Bool := bit (L.fld F.AD_CTRL_ENABLE) j
      let A : Lane := { L with ad := { L.ad with frame := n, frameAt := L.now } }
      let ys : List Int := if L.padsHeld .field then [] else fe
      let B := (List.range 32).foldl (fun (L : Lane) i => if on L (i / 8) then L.feConvert i (ys.getD i 0) else L) A
      let C := (List.finRange 16).foldl (fun (L : Lane) (f : Fin 16) => L.feDeliver f) B
      Does (.adcFrame l t fe hk tp) l t s ((List.range 8).foldl (fun (L : Lane) i =>
        let j := i % 4
        if on L j then L.hkConvert j (hk.getD (2 * j + i / 4) 0) (tp.getD j 0) else L) C)) ∧
    (L.ad.tick % 2 = 1 → L.ad.tickAt / 8 = L.now / 8 → L.frameDue = some ((L.ad.tick + 1) / 2)) ∧
    (L.ad.tick % 2 = 1 → L.ad.tickAt / 8 ≠ L.now / 8 → L.frameDue = none) ∧
    (L.ad.tick % 2 = 0 → L.ad.tick = 0 ∨ L.ad.tickAt / 8 + 500 = L.now / 8 → L.frameDue = some (L.ad.tick / 2 + 1)) ∧
    (L.ad.tick % 2 = 0 → L.ad.tick ≠ 0 → L.ad.tickAt / 8 + 500 ≠ L.now / 8 → L.frameDue = none) ∧
    (L.pairActs .field 15 = true → ∀ v : Word, F.AD_DAC_ROUTE.get v = 2 → L.ky.state ≠ .bench → Does (.dacRoute l t v) l t s (L.raise F.AD_EVENT_DAC_DENIED)) ∧
    (L.pairActs .field 15 = true → ∀ v : Word, F.AD_DAC_ROUTE.get v ≠ 2 ∨ L.ky.state = .bench → Does (.dacRoute l t v) l t s
      (((L.setFld F.AD_DAC_INPUT (F.AD_DAC_INPUT.get v)).setFld F.AD_DAC_ROUTE (F.AD_DAC_ROUTE.get v)).setFld F.AD_DAC_CODE (F.AD_DAC_CODE.get v))) ∧
    (L.flag F.FB_EXC_EXC_EN = false → ∀ a k, Does (.excitationHalfPeriod l t a k) l t s L) ∧
    (L.flag F.FB_EXC_EXC_EN = true → ∀ a,
      let want := L.fldIn F.FB_EXC_EXC_AMP 20 70 * 10
      want * 85 ≤ a * 100 → a * 100 ≤ want * 115 →
      let M := L.setFld F.FB_EXC_MON_AMP a
      Does (.excitationHalfPeriod l t a false) l t s { M with sf := { M.sf with excAmpRun := 0, excLimRun := 0, excOk := true } })

/-- Counting feedback: quadrature states a step apart count up or down, two apart are an error (R200); the Z edge and SET_REF set the
reference only where R201 allows and a sample exists (R198), a count of the cycle in which Z set it coming before it (R219); Hall patterns step between neighbouring sectors, and any other step and an invalid
pattern held over 1 µs are errors (R208). A level that has not held for FILT cycles changes nothing.
An SSI transfer (R206, R207) starts every SSI_FRAMES-th frame with the data line high and otherwise is a signal failure; once its last sample is
due, its word waits for the next decision tick (R219). A word of wrong parity or with the final sample high is then a failure, the first good word
sets the reference, and a later one must agree in its turns. The timeout of the speed (R212), a line fault (R210).
What rests here on a choice of the model and not on the spec alone: log entries 4 (DESIGN CHOICE), 35 (DEDUCED), 59 (DEDUCED), 171 (DESIGN
CHOICE). -/
def Obligations.FeedbackInterfaces : Prop :=
  (
    ∀ (s : State) (l : LaneId) (t : Nat) (f : Fin 16) (held : Nat), let L := s.seen l t
      let J := L.zJudge f
      (L.inActs .drive 14 = true → held < L.fld F.FB_CTRL_FILT f →
        (∀ a b z, Does (.incrementalEdge l t f ⟨a, b, z⟩ held) l t s L) ∧ Does (.zEdge l t ⟨f, held⟩) l t s L ∧ ∀ p, Does (.hallChange l t f ⟨p, held⟩) l t s L) ∧
      (L.inActs .drive 14 = true → L.fld F.FB_CTRL_FILT f ≤ held → J.fbOn f = true → (J.fb f).fault = false → J.fbMode f = fbIncr ∨ J.fbMode f = fbSinCos → ∀ a b z : Bool,
        let M := J.updFb f (fun x => { x with levelA := a, levelB := b, levelZ := z })
        let d := (quadState a b + 4 - quadState (J.fb f).levelA (J.fb f).levelB) % 4
        let up : Int := if J.fbMode f = fbIncr ∧ J.flag F.FB_CTRL_DIR_INV f = true then -1 else 1
        let before : Option Nat := (J.fb f).zSet.bind (fun x => if x.1 / 8 = J.now / 8 then some x.2 else none)
        let count (by_ : Int) : Lane := match before with
          | none => M.countStep f by_
          | some c =>
            let carry := ((c : Int) + by_) / (J.countMod f : Int)
            (M.updFb f (fun x => { x with sigRun := 0 })).when (J.fbMode f == fbIncr && carry != 0) (fun X => (X.revAdd f carry).fbShow f)
        let done (by_ : Int) : Lane :=
          if J.fbMode f = fbIncr ∧ (J.fb f).valid = true ∧ ((count by_).fb f).fault = false then (count by_).spdStep f (decide (by_ < 0)) (count by_).now
          else count by_
        (d = 0 → Does (.incrementalEdge l t f ⟨a, b, z⟩ held) l t s M) ∧
        (d = 1 → Does (.incrementalEdge l t f ⟨a, b, z⟩ held) l t s (done up)) ∧
        (d = 3 → Does (.incrementalEdge l t f ⟨a, b, z⟩ held) l t s (done (-up))) ∧
        (d = 2 → Does (.incrementalEdge l t f ⟨a, b, z⟩ held) l t s (M.sigFail f F.FB_EVENT_COUNT_ERR))) ∧
      (L.inActs .drive 14 = true → L.fld F.FB_CTRL_FILT f ≤ held →
        let M := J.updFb f (fun x => { x with levelZ := true })
        (M.fbOn f = false ∨ (M.fb f).fault = true ∨ (M.fb f).valid = false ∨ M.flag F.FB_CTRL_Z_USE f = false →
          Does (.zEdge l t ⟨f, held⟩) l t s M) ∧
        (M.fbOn f = true → (M.fb f).fault = false → (M.fb f).valid = true → M.flag F.FB_CTRL_Z_USE f = true → M.fbMode f = fbIncr ∨ M.fbMode f = fbSinCos →
          ((M.fb f).refOk = false → Does (.zEdge l t ⟨f, held⟩) l t s ((M.refSet f).updFb f (fun x => { x with zSet := some (M.now, (M.fb f).count) }))) ∧
          ((M.fb f).refOk = true → Does (.zEdge l t ⟨f, held⟩) l t s (M.updFb f (fun x => { x with zSince := true, zCheck := some (M.now, x.zSince) }))))) ∧
      (L.pairActs .drive 14 = true → L.fbOn f = true → L.fbMode f = fbIncr → L.flag F.FB_CTRL_Z_USE f = false → (L.fb f).fault = false → (L.fb f).valid = true →
        Does (.setRef l t f) l t s (L.refSet f)) ∧
      (L.pairActs .drive 14 = true → L.fbOn f = false ∨ L.fbMode f ≠ fbIncr ∨ L.flag F.FB_CTRL_Z_USE f = true ∨ (L.fb f).fault = true ∨ (L.fb f).valid = false →
        Does (.setRef l t f) l t s L) ∧
      (L.inActs .drive 14 = true → L.fld F.FB_CTRL_FILT f ≤ held → ∀ p,
        let N := L.updFb f (fun x => { x with levelA := bit p 0, levelB := bit p 1, levelZ := bit p 2 })
        let k := hallSector (N.flag F.FB_HALL_HALL_INV f) p
        let last := (N.fb f).hallLast
        let up : Int := if N.flag F.FB_CTRL_DIR_INV f then -1 else 1
        let M := N.updFb f (fun x => { x with hall := k, hallAt := N.now, hallLast := if k = 7 then x.hallLast else k })
        let step (d : Int) : Lane := if (N.fb f).valid then (M.countStep f d).spdStep f (decide (d < 0)) (M.countStep f d).now else M.countStep f d
        (N.fbOn f = false ∨ N.fbMode f ≠ fbHall → Does (.hallChange l t f ⟨p, held⟩) l t s N) ∧
        (N.fbOn f = true → N.fbMode f = fbHall →
          ((N.fb f).fault = true ∨ k = 7 ∨ last = 7 ∨ k = last → Does (.hallChange l t f ⟨p, held⟩) l t s M) ∧
          ((N.fb f).fault = false → k < 6 → last < 6 →
            (k = (last + 1) % 6 → Does (.hallChange l t f ⟨p, held⟩) l t s (step up)) ∧
            (last = (k + 1) % 6 → Does (.hallChange l t f ⟨p, held⟩) l t s (step (-up))) ∧
            (k ≠ last → k ≠ (last + 1) % 6 → last ≠ (k + 1) % 6 → Does (.hallChange l t f ⟨p, held⟩) l t s (M.sigFail f F.FB_EVENT_HALL_INVALID))))) ∧
      (L.acts .drive 14 = true → L.fbOn f = true → L.fbMode f = fbHall → (L.fb f).hall = 7 → (L.fb f).hallAt + us 1 < L.now → (L.fb f).fault = false →
        Does (.hallInvalidHold l t f) l t s (L.sigFail f F.FB_EVENT_HALL_INVALID))
  ) ∧
  (
    ∀ (s : State) (l : LaneId) (t : Nat) (f : Fin 16), let L := s.seen l t
      L.fbOn f = true →
      (L.inActs .drive 14 = true → L.fbMode f = fbSsi → (L.fb f).fault = false → L.ssiParam f = false → (L.fb f).framesSince ≠ 0 →
          ((L.fb f).framesSince - 1) % L.ssiFrames f = 0 →
        Does (.ssiTransfer l t f true) l t s (L.updFb f (fun x => { x with busy := true, ssiAt := L.now })) ∧
        Does (.ssiTransfer l t f false) l t s (L.sigFail f F.FB_EVENT_SSI_ERR)) ∧
      (L.inActs .drive 14 = true → ∀ d, L.fbMode f ≠ fbSsi ∨ (L.fb f).fault = true ∨ L.ssiParam f = true ∨ (L.fb f).framesSince = 0 ∨
          ((L.fb f).framesSince - 1) % L.ssiFrames f ≠ 0 → Does (.ssiTransfer l t f d) l t s L) ∧
      (L.inActs .drive 14 = true → ∀ (w : Nat) (p last : Bool),
        ((L.fb f).busy = false ∨ (L.fb f).fault = true ∨ L.now < L.ssiEnd f → Does (.ssiTransferDone l t f w p last) l t s L) ∧
        ((L.fb f).busy = true → (L.fb f).fault = false → L.ssiEnd f ≤ L.now → Does (.ssiTransferDone l t f w p last) l t s
          (L.updFb f (fun x => { x with busy := false, ssiRx := some { began := x.ssiAt, word := w, par := p, last := last } })))) ∧
      (∀ (K : Lane) (x : SsiS), (K.fb f).ssiRx = some x → (K.fb f).conv = [] → K.fbMode f = fbSsi → (K.fb f).fault = false →
        let M := K.updFb f (fun y => { y with ssiRx := none })
        let n := M.ssiBits f
        let odd : Prop := (ones n x.word + b2n x.par) % 2 = 1
        let parBad : Prop := (M.ssiParity f = 1 ∧ odd) ∨ (2 ≤ M.ssiParity f ∧ ¬ odd)
        let v := if M.flag F.FB_SSI_GRAY f then grayDecode n (x.word % 2 ^ n) else x.word % 2 ^ n
        let st := M.ssiSt f
        let mtBits := n - st
        let one := v % 2 ^ st
        let pos := if 16 ≤ st then one / 2 ^ (st - 16) else one * 2 ^ (16 - st)
        (parBad ∨ x.last = true → K.takeConv f = M.sigFail f F.FB_EVENT_SSI_ERR) ∧
        (¬ parBad → x.last = false → (K.fb f).refOk = false →
          let N := M.updFb f (fun y => { y with rev := if mtBits = 0 then 0 else v / 2 ^ st, refOk := true, sigRun := 0, count := v })
          K.takeConv f = ((N.raise F.FB_EVENT_REF_SET f).takeSample f pos x.began).emulate f (8000 * N.ssiFrames f)) ∧
        (¬ parBad → x.last = false → (K.fb f).refOk = true →
          (mtBits ≠ 0 → M.revAt f pos % 2 ^ mtBits ≠ ((v / 2 ^ st : Nat) : Int) → K.takeConv f = M.sigFail f F.FB_EVENT_SSI_ERR) ∧
          (mtBits = 0 ∨ M.revAt f pos % 2 ^ mtBits = ((v / 2 ^ st : Nat) : Int) →
            let N := ((M.updFb f (fun y => { y with count := v })).takeSample f pos x.began).updFb f (fun y => { y with sigRun := 0 })
            K.takeConv f = N.when ((N.fb f).sampleAt == x.began) (fun X => X.emulate f (8000 * X.ssiFrames f))))) ∧
      (L.acts .drive 14 = true →
        let M := L.spdTimeout f
        Does (.speedTimeout l t f) l t s (M.setWord F.FB_SPEED (f32of (M.fb f).speed) f)) ∧
      (L.inActs .drive 14 = true → L.fbMode f = fbIncr → ∀ r : Fin 3,
        let M := (L.updFb f (fun x => { x with line := putBit x.line r true })).raise F.FB_EVENT_LINE f
        (r ≠ 2 ∨ M.flag F.FB_CTRL_Z_USE f = true → Does (.lineFault l t f r) l t s (M.fbFault f)) ∧
        (r = 2 → M.flag F.FB_CTRL_Z_USE f = false → Does (.lineFault l t f r) l t s M))
  )

/-- Starting a rotor angle (R139): once the pulses of a polarity test are over, a clear result sets the polarity of the injection angle or of its
opposite; three unclear tests or 5 ms without confidence fail the start, which isolates the star; the wait for a sibling's polarity ends when due.
The angle unit's sources: the encoder is aligned after 100 ms of agreement and misaligned after 10 ms beyond ENC_WIN, ALIGN_CAPTURE takes an
offset from a source of full confidence (R131); a sibling's estimate older than 30 µs is stale (R133); a lost source returns after 1 ms of agreement (R135).
What rests here on a choice of the model and not on the spec alone: log entries 25 (DEDUCED), 26 (DEDUCED), 151 (DESIGN CHOICE), 186 (DESIGN
CHOICE), 190 (DESIGN CHOICE). -/
def Obligations.RotorAngleStartAndSources : Prop :=
  (
    ∀ (s : State) (l : LaneId) (t : Nat) (g : Fin 16), let L := s.seen l t
      L.acts .drive 12 = true →
      (∀ lo hi, let K := L.takeClocks g (joinPairs lo hi)
        (∀ t0, (K.an g).starting = true → (K.an g).polOk = false → (K.an g).testAt = some t0 → t0 + 4 * us (K.polWidth g) ≤ K.now →
          let M := K.updAn g (fun x => { x with tests := x.tests + 1, testAt := none, peakPlus := 0, peakMinus := 0 })
          let m : Rat := 1 + (M.polMargin g : Rat) / 100
          let p := (K.an g).peakPlus
          let q := (K.an g).peakMinus
          (q * m ≤ p → q < p → Does (.polarityTest l t g lo hi) l t s (M.polarity g (K.an g).injAngle)) ∧
          (p * m ≤ q → p < q → Does (.polarityTest l t g lo hi) l t s (M.polarity g ((K.an g).injAngle + 32768))) ∧
          ((p < q * m ∨ p ≤ q) → (q < p * m ∨ q ≤ p) → Does (.polarityTest l t g lo hi) l t s M)) ∧
        (∀ t0, (K.an g).testAt = some t0 → K.now < t0 + 4 * us (K.polWidth g) → Does (.polarityTest l t g lo hi) l t s K)) ∧
      ((L.an g).starting = true → (L.an g).polOk = false →
          ((L.an g).reachedAt = none ∧ (L.an g).startAt + ms 5 ≤ L.now) ∨ 3 ≤ (L.an g).tests →
        Does (.startFail l t g) l t s
          (((L.updAn g (fun x => { x with starting := false, injRun := false, testAt := none })).raise F.AN_EVENT_START_FAIL g).isolate g)) ∧
      ((L.an g).starting = false ∨ (L.an g).polOk = true → Does (.startFail l t g) l t s L) ∧
      (∀ d, (L.an g).polWait = some d → d ≤ L.now → Does (.polarityWaitEnd l t g) l t s (L.updAn g (fun x => { x with polWait := none }))) ∧
      (∀ d, (L.an g).polWait = some d → L.now < d → Does (.polarityWaitEnd l t g) l t s L)
  ) ∧
  (
    ∀ (s : State) (l : LaneId) (t : Nat) (g : Fin 16), let L := s.seen l t
      L.acts .drive 12 = true →
      (∀ x, (L.an g).alignSince = some x → x + ms 100 ≤ L.now → Does (.encoderAlign l t g true) l t s (L.updAn g (fun y => { y with alignOk := true }))) ∧
      (∀ x, (L.an g).alignSince = some x → L.now < x + ms 100 → Does (.encoderAlign l t g true) l t s L) ∧
      (∀ x, (L.an g).misSince = some x → x + ms 10 ≤ L.now → Does (.encoderAlign l t g false) l t s
        ((L.updAn g (fun y => { y with misalign := true, misSince := none })).raise F.AN_EVENT_ENC_MISALIGN g)) ∧
      (L.pairActs .drive 12 = true → (L.an g).confObs = 255 →
        let p := (L.encMult g * (L.fb g).extP) % 65536
        Does (.alignCapture l t g) l t s
          ((L.setFld F.AN_ENC_CAPT_OFS (((L.an g).obsAngle + 65536 - p) % 65536) g).setFld F.AN_ENC_CAPT_DONE 1 g)) ∧
      (L.pairActs .drive 12 = true → (L.an g).confObs ≠ 255 → (L.an g).confInj ≠ 255 → Does (.alignCapture l t g) l t s L) ∧
      ((L.an g).peerN.seen = true → (L.an g).peerN.staleTold = false → 30 / 1000000 < L.peerElapsed .N (L.an g).peerN →
        Does (.peerStale l t g .N) l t s (((L.updAn g (fun y => { y with peerN := { y.peerN with staleTold := true } })).raise F.AN_EVENT_PEER_STALE g).bump
          F.AN_CNT_STALE_CNT g)) ∧
      (∀ x, (L.an g).obsLost = true → (L.an g).obsOkAt = some x → x + ms 1 ≤ L.now →
        Does (.localSourceReturn l t g .observer) l t s (L.updAn g (fun y => { y with obsLost := false, obsOkAt := none }))) ∧
      (∀ x, (L.an g).injLost = true → (L.an g).injOkAt = some x → x + ms 1 ≤ L.now →
        Does (.localSourceReturn l t g .injection) l t s (L.updAn g (fun y => { y with injLost := false, injOkAt := none })))
  )

/-! ### Authority: ticks, frames of the cross-lane links, key and stop -/

/-- The authority tick boundary (R68) has no effect on a lane that is Off or in Cellar. Elsewhere the key messages that waited leave first (R465);
in Hold the lane then opens the tick and sends the coordination frame; else the runtime, or without it the hardware alone, does the work of
the boundary first. A tick's task of a pair that ran in this cycle and that has not ended 47 µs after the boundary is fault source 8 (R344).
What rests here on a choice of the model and not on the spec alone: log entries 42 (DEDUCED), 44 (DEDUCED), 46 (DEDUCED), 147 (DEDUCED), 197
(DEDUCED). -/
def Obligations.AuthorityTickBoundary : Prop :=
  ∀ (s : State) (l : LaneId) (t : Nat), let L := s.seen l t
    let K := ({ L with cx := { L.cx with keyTick := [] } } : Lane).flushKeys.taskMissed
    (L.acts .link 8 = true →
      (L.ky.state = .off ∨ L.pm.level = .cellar → Does (.authorityTickBoundary l t) l t s L) ∧
      (L.ky.state ≠ .off → L.pm.level ≠ .cellar →
        (K.pm.level = .hold → Does (.authorityTickBoundary l t) l t s K.openTick.sendCoord) ∧
        (K.pm.level ≠ .hold → K.taskRuns = true → Does (.authorityTickBoundary l t) l t s K.fullBoundary.sendCoord) ∧
        (K.pm.level ≠ .hold → K.taskRuns = false → Does (.authorityTickBoundary l t) l t s K.bareBoundary.sendCoord))) ∧
    (L.acts .core 0x20 = true →
      (L.lc.booted = true → L.sy.debugHalt = false → L.pairRan = true → L.ky.boundary + us 47 ≤ L.now → Does (.tickDeadline l t) l t s
        (({ L with ic := { L.ic with taskStop := L.ic.taskStop.map (fun _ => true) } }).fault 8 0xFFFF)) ∧
      (L.lc.booted = false ∨ L.sy.debugHalt = true ∨ L.pairRan = false ∨ L.now < L.ky.boundary + us 47 → Does (.tickDeadline l t) l t s L))

/-- An exchange tick (R132, R238) lets the key messages that wait leave (R465), latches the own release vote, shows the round trips of the links
that are up, and sends the vote frame and, outside Hold, the angle frame with the next number; then every group's angle unit takes the exchange.
What rests here on a choice of the model and not on the spec alone: log entries 112 (DEDUCED), 147 (DEDUCED). -/
def Obligations.ExchangeTickSendsVoteAndAngle : Prop :=
  ∀ (s : State) (l : LaneId) (t : Nat) (n p : Nat), let L := s.seen l t
    L.acts .link 9 = true →
    (L.mainRuns = false → Does (.exchangeTick l t n p) l t s L) ∧
    (L.mainRuns = true →
      let A := L.flushKeys.latchSrc 113
      let B : Lane := { A with ky := { A.ky with ownVote := A.fld F.EG_VOTE_OWN_VOTE, voteSeq := (A.ky.voteSeq + 1) % 4096 } }
      let C := (B.setFld F.CX_RTT_RTT_N (if (B.link .N).up then n else 0)).setFld F.CX_RTT_RTT_P (if (B.link .P).up then p else 0)
      let S := C.sent (.vote C.voteFrameOf)
      (C.pm.level = .hold → Does (.exchangeTick l t n p) l t s { S with out := { S.out with vote := some S.voteFrameOf } }) ∧
      (C.pm.level ≠ .hold →
        ∃ D : Lane, Does (.exchangeTick l t n p) l t s D ∧ D.ky.ownVote = A.fld F.EG_VOTE_OWN_VOTE ∧ D.cx.exNum = (C.cx.exNum + 1) % 65536 ∧
          (∀ fr, D.out.angle = some fr → fr.num = (C.cx.exNum + 1) % 65536 ∧ fr.sender = C.id.index ∧ fr.stars.length = 16) ∧
          D.out.angle.isSome = true ∧ D.out.vote.isSome = true ∧ ∀ g : Fin 16, (D.an g).exchanged = true))

/-- A frame that fails its CRC, by the wire or by an injected error, does what R30 says and nothing else, for every class of frame (but for a
shelf frame, which a lane in Service or Shadow also reports as rejected, R88). A key message of a kind that its command does not take does no
more than a good frame of the link (R465).
What rests here on a choice of the model and not on the spec alone: log entries 41 (DEDUCED), 148 (DESIGN CHOICE). -/
def Obligations.BadFrameOnlyCountsAsBad : Prop :=
  ∀ (s : State) (l : LaneId) (t : Nat) (p : Port), let L := s.seen l t
    L.acts .link 9 = true →
    let bad (n : Nat) : Lane := (L.rxFrame p false n).1
    (∀ f, Does (.angleFrameReceive l t p f false) l t s (bad 144)) ∧
    (∀ f, Does (.voteFrameReceive l t p f false) l t s (bad 16)) ∧
    (∀ f, Does (.setpointFrameReceive l t p f false) l t s (bad 208)) ∧
    (∀ f, Does (.shelfFrameReceive l t p f false) l t s ((bad 1040).when (bad 1040).inSvcShadow (·.raise F.KY_EVENT_SHELF_REJECT))) ∧
    (∀ f, Does (.coordinationFrameReceive l t p f false) l t s (bad 40)) ∧
    (∀ m, Does (.renewalReceive l t p m false) l t s (bad 16) ∧ Does (.renewalAckReceive l t p m false) l t s (bad 16) ∧
      Does (.claimReceive l t p m false) l t s (bad 16) ∧ Does (.claimAckReceive l t p m false) l t s (bad 16) ∧
      Does (.claimWithdrawalReceive l t p m false) l t s (bad 16) ∧ Does (.releaseReceive l t p m false) l t s (bad 16) ∧
      Does (.revocationReceive l t p m false) l t s (bad 16)) ∧
    (∀ m ok, let good := (L.rxFrame p ok 16).1
      (m.kind ≠ 0 → Does (.renewalReceive l t p m ok) l t s good) ∧ (m.kind ≠ 1 → Does (.renewalAckReceive l t p m ok) l t s good) ∧
      (m.kind ≠ 2 → Does (.claimReceive l t p m ok) l t s good) ∧ (m.kind ≠ 3 → Does (.claimAckReceive l t p m ok) l t s good) ∧
      (m.kind ≠ 4 → Does (.claimWithdrawalReceive l t p m ok) l t s good) ∧ (m.kind ≠ 5 → Does (.releaseReceive l t p m ok) l t s good) ∧
      (m.kind ≠ 6 → Does (.revocationReceive l t p m ok) l t s good))

/-- Good frames: a setpoint frame is kept for its port (R75), the holder's shelf frame for the coming boundary and another lane's is rejected
(R88, R89), a newer vote frame is held with its arrival, with the vote before it, and without release, stop and votes where its sender is not in
Service (R238), a newer angle frame from a lane in Shadow or Service gives every group its sibling's entry (R133). Sequence numbers that are not
newer are ignored. A coordination frame that reports Withdrawn casts a vote (R84).
What rests here on a choice of the model and not on the spec alone: log entries 41 (DEDUCED), 110 (DEDUCED). -/
def Obligations.GoodFramesAreKept : Prop :=
  ∀ (s : State) (l : LaneId) (t : Nat), let L := s.seen l t
    L.acts .link 9 = true →
    (L.injecting 11 = false → ∀ fr, Does (.setpointFrameReceive l t .N fr true) l t s
      { (L.rxFrame .N true 208).1 with ky := { (L.rxFrame .N true 208).1.ky with spN := some fr } }) ∧
    (L.injecting 12 = false → ∀ fr, Does (.setpointFrameReceive l t .P fr true) l t s
      { (L.rxFrame .P true 208).1 with ky := { (L.rxFrame .P true 208).1.ky with spP := some fr } }) ∧
    (∀ p, L.injecting (11 + portNo p) = false → ∀ fr,
      let M := (L.rxFrame p true 1040).1
      (M.ky.holder = some (M.id.at p) → Does (.shelfFrameReceive l t p fr true) l t s { M with ky := { M.ky with shelfRx := some fr } }) ∧
      (M.ky.holder ≠ some (M.id.at p) →
        Does (.shelfFrameReceive l t p fr true) l t s (M.when M.inSvcShadow (·.raise F.KY_EVENT_SHELF_REJECT)))) ∧
    (∀ p, L.injecting (11 + portNo p) = false → ∀ fr,
      let M := (L.rxFrame p true 40).1
      let K := (M.keepCoord p fr).takeReports.tokenReceive p fr
      (fr.sender = (M.id.at p).index →
        (fr.state = 5 → M.sib p = 4 → M.ky.state = .service →
          Does (.coordinationFrameReceive l t p fr true) l t s (K.castVote (K.id.at p)).selfVoted.vetoes.injWatch) ∧
        (fr.state ≠ 5 ∨ M.sib p ≠ 4 ∨ M.ky.state ≠ .service → Does (.coordinationFrameReceive l t p fr true) l t s K.selfVoted.vetoes.injWatch)) ∧
      (fr.sender ≠ (M.id.at p).index → Does (.coordinationFrameReceive l t p fr true) l t s M)) ∧
    (L.injecting 11 = false → ∀ fr,
      let M := (L.rxFrame .N true 16).1
      let serv := M.sib .N == 4
      let taken : VoteFrame :=
        if serv then { fr with seq := fr.seq % 4096 } else { fr with seq := fr.seq % 4096, release := 0, stop := false, against := 0 }
      let rx (b : Option (Nat × Nat)) : VoteRx := { frame := taken, arrival := M.now, inService := serv, before := b }
      let keep (X : Lane) (b : Option (Nat × Nat)) : Lane := ({ X with ky := { X.ky with voteN := some (rx b) } } : Lane).selfVoted.vetoes
      (M.ky.voteN = none → Does (.voteFrameReceive l t .N fr true) l t s (keep M none)) ∧
      (∀ v, M.ky.voteN = some v →
        let d := (fr.seq + 4096 - v.frame.seq % 4096) % 4096
        let lost := serv && (List.finRange 16).any (fun n => M.inUse n && bit v.frame.live n && !(bit fr.live n))
        let b := if v.inService then (if v.arrival / 8 = M.now / 8 then v.before else some (v.frame.release, v.arrival)) else none
        (d = 0 ∨ 2047 < d → Does (.voteFrameReceive l t .N fr true) l t s M) ∧
        (0 < d → d ≤ 2047 → Does (.voteFrameReceive l t .N fr true) l t s (keep (M.when lost Lane.serviceLoss) b)))) ∧
    (L.injecting 11 = false → ∀ fr,
      let M := (L.rxFrame .N true 144).1
      let Q : Lane := { M with cx := { M.cx with angNumN := some (fr.num % 65536) } }
      (M.sib .N = 3 ∨ M.sib .N = 4 → M.cx.angNumN = none → Does (.angleFrameReceive l t .N fr true) l t s
        (Q.eachGroup (fun L g => match fr.stars[g.val]? with
          | none => L
          | some e => L.updAn g (fun x => { x with peerN := PeerS.take e fr.age L.now })))) ∧
      (M.sib .N ≠ 3 → M.sib .N ≠ 4 → Does (.angleFrameReceive l t .N fr true) l t s M))

/-- Links (R30): 20 µs without a valid frame, or three CRC failures in a row, take a link down; 100 valid frames bring it up again, and after a
declared loss that is counted as a return.
What rests here on a choice of the model and not on the spec alone: log entries 4 (DESIGN CHOICE), 25 (DEDUCED), 26 (DEDUCED), 166 (DESIGN
CHOICE). -/
def Obligations.LinksGoDownAndUp : Prop :=
  ∀ (s : State) (l : LaneId) (t : Nat) (p : Port), let L := s.seen l t
    L.acts .link 9 = true →
    ((L.link p).lastValid + us 20 ≤ L.now ∨ 3 ≤ (L.link p).crcRun → Does (.linkSilence l t p) l t s (L.linkDown p)) ∧
    (L.now < (L.link p).lastValid + us 20 → (L.link p).crcRun < 3 → Does (.linkSilence l t p) l t s L) ∧
    ((L.link p).up = true ∨ (L.link p).valid < 100 → Does (.linkUp l t p) l t s L) ∧
    ((L.link .N).up = false → 100 ≤ (L.link .N).valid →
      let M := (L.setLink .N { L.link .N with up := true, declared := false, remote := false }).raise F.CX_EVENT_UP_N
      Does (.linkUp l t .N) l t s (M.when (L.link .N).declared (·.bump F.CX_ERR_N_RETURNS))) ∧
    ((L.link .P).up = false → 100 ≤ (L.link .P).valid →
      let M := (L.setLink .P { L.link .P with up := true, declared := false, remote := false }).raise F.CX_EVENT_UP_P
      Does (.linkUp l t .P) l t s (M.when (L.link .P).declared (·.bump F.CX_ERR_P_RETURNS)))

/-- Renewals (R66, R70, R72): one of the recognised key restarts the silence timer and is acknowledged in Service and Shadow; a lane in Bench learns
a newer key from one; the holder takes acknowledgements of its epoch, and its lease counts from the renewal that all have acknowledged.
What rests here on a choice of the model and not on the spec alone: log entries 117 (DEDUCED), 147 (DEDUCED). -/
def Obligations.RenewalsAndTheirAcknowledgements : Prop :=
  ∀ (s : State) (l : LaneId) (t : Nat) (p : Port) (m : KeyMsg), let L := s.seen l t
    L.acts .link 9 = true → L.injecting (11 + portNo p) = false →
    let M := (L.rxFrame p true 16).1
    let e := m.epoch % 65536
    let d := (e + 65536 - M.ky.epoch) % 65536
    (m.kind = 0 →
      (M.ky.holder = some M.id → Does (.renewalReceive l t p m true) l t s M) ∧
      (M.ky.holder = some (M.id.at p) → e = M.ky.epoch →
        let Q : Lane := { M with ky := { M.ky with silence := some M.now } }
        (M.inSvcShadow = true → M.ky.claim = none → Does (.renewalReceive l t p m true) l t s
          (Q.sendKey { kind := 1, sender := M.id.index, epoch := e, number := m.number, named := 3 })) ∧
        (M.inSvcShadow = false ∨ M.ky.claim ≠ none → Does (.renewalReceive l t p m true) l t s Q)) ∧
      (M.ky.state = .bench → M.ky.revoked ≠ some e → M.ky.holder = none ∨ (M.ky.holder ≠ some M.id ∧ 0 < d ∧ d ≤ 32767) →
        Does (.renewalReceive l t p m true) l t s (M.recognise (M.id.at p) e))) ∧
    (m.kind = 1 →
      (M.ky.holder = some M.id → m.epoch = M.ky.epoch → Does (.renewalAckReceive l t p m true) l t s
        (({ M with ky := { M.ky with acks := ((m.number, M.id.at p) :: M.ky.acks).take 32 } }).leaseFrom m.number)) ∧
      (M.ky.holder ≠ some M.id ∨ m.epoch ≠ M.ky.epoch → Does (.renewalAckReceive l t p m true) l t s M))

/-- Claims (R82): one of a lane in Service for an epoch ahead is acknowledged by a lane in Service that holds no key, makes no claim and has
acknowledged no other (a claim whose epoch is not ahead is ignored by the model's choice, log entry 148); acknowledgements join the claim they
name; a withdrawal ends the acknowledged claim of its sender.
What rests here on a choice of the model and not on the spec alone: log entries 147 (DEDUCED), 148 (DESIGN CHOICE). -/
def Obligations.ClaimsAcknowledgedAndWithdrawn : Prop :=
  ∀ (s : State) (l : LaneId) (t : Nat) (p : Port) (m : KeyMsg), let L := s.seen l t
    L.acts .link 9 = true → L.injecting (11 + portNo p) = false →
    let M := (L.rxFrame p true 16).1
    let e := m.epoch % 65536
    let d := (e + 65536 - M.ky.epoch) % 65536
    (m.kind = 2 →
      (M.ky.state ≠ .service ∨ M.ky.holder = some M.id ∨ M.inService (M.id.at p) = false ∨ d = 0 ∨ 32767 < d →
        Does (.claimReceive l t p m true) l t s M) ∧
      (M.ky.state = .service → M.ky.holder ≠ some M.id → M.inService (M.id.at p) = true → 0 < d → d ≤ 32767 → M.ky.claim = none → M.ky.acked = none →
        Does (.claimReceive l t p m true) l t s
          (({ M with ky := { M.ky with acked := some { claimant := M.id.at p, epoch := e, at_ := M.now, acks := [M.id] } } }).sendKey
            { kind := 3, sender := M.id.index, epoch := e, number := 0, named := (M.id.at p).index }))) ∧
    (m.kind = 3 →
      (M.ky.claim = none → M.ky.acked = none → Does (.claimAckReceive l t p m true) l t s M) ∧
      (∀ c, M.ky.claim = some c → M.ky.acked = none → c.epoch = m.epoch → c.claimant.index = m.named → M.id.at p ∉ c.acks →
        Does (.claimAckReceive l t p m true) l t s { M with ky := { M.ky with claim := some { c with acks := M.id.at p :: c.acks }, acked := none } })) ∧
    (m.kind = 4 →
      (M.ky.acked = none → Does (.claimWithdrawalReceive l t p m true) l t s M) ∧
      (∀ c, M.ky.acked = some c →
        (c.claimant = M.id.at p → c.epoch = m.epoch → Does (.claimWithdrawalReceive l t p m true) l t s { M with ky := { M.ky with acked := none } }) ∧
        (c.claimant ≠ M.id.at p ∨ c.epoch ≠ m.epoch → Does (.claimWithdrawalReceive l t p m true) l t s M)))

/-- Release and revocation (R80, R81, R82): a released key is recognised no more, and the lane it names claims in Service; the revocations of
both siblings make the holder give its key up. Messages of another epoch are ignored. -/
def Obligations.ReleaseAndRevocation : Prop :=
  ∀ (s : State) (l : LaneId) (t : Nat) (p : Port) (m : KeyMsg), let L := s.seen l t
    L.acts .link 9 = true → L.injecting (11 + portNo p) = false →
    let M := (L.rxFrame p true 16).1
    (m.kind = 5 →
      (m.epoch ≠ M.ky.epoch ∨ M.ky.lastHolder ≠ some (M.id.at p) → Does (.releaseReceive l t p m true) l t s M) ∧
      (m.epoch = M.ky.epoch → M.ky.lastHolder = some (M.id.at p) →
        (M.ky.holder = some (M.id.at p) → m.named ≠ M.id.index → Does (.releaseReceive l t p m true) l t s M.unrecognise) ∧
        (M.ky.holder = some (M.id.at p) → m.named = M.id.index → M.ky.state = .service →
          Does (.releaseReceive l t p m true) l t s M.unrecognise.sendClaim) ∧
        (M.ky.holder = none → m.named ≠ M.id.index → Does (.releaseReceive l t p m true) l t s M) ∧
        (M.ky.holder = none → m.named = M.id.index → M.ky.state = .service → Does (.releaseReceive l t p m true) l t s M.sendClaim))) ∧
    (m.kind = 6 →
      (M.ky.holder ≠ some M.id ∨ m.epoch ≠ M.ky.epoch → Does (.revocationReceive l t p m true) l t s M) ∧
      (M.ky.holder = some M.id → m.epoch = M.ky.epoch → M.id.at p ∉ M.ky.revocations →
        let Q : Lane := { M with ky := { M.ky with revocations := M.id.at p :: M.ky.revocations } }
        (M.ky.revocations = [] → Does (.revocationReceive l t p m true) l t s Q) ∧
        (M.ky.revocations ≠ [] → Does (.revocationReceive l t p m true) l t s (Q.giveUp.raise F.KY_EVENT_REVOKED))))

/-- The authority's timers: the lease (R71), 350 µs of silence, after which a lane of rank 1 claims, and one of rank 2 after 420 µs (R72, R82),
1,000 µs of interregnum in Service (R69), a vote that leaves force (R84).
What rests here on a choice of the model and not on the spec alone: log entries 4 (DESIGN CHOICE), 49 (DEDUCED), 51 (DESIGN CHOICE), 115
(DEDUCED), 182 (DESIGN CHOICE). -/
def Obligations.AuthorityTimers : Prop :=
  ∀ (s : State) (l : LaneId) (t : Nat), let L := s.seen l t
    let U := L.unrecognise
    L.acts .core 8 = true →
    (∀ d, L.ky.holder = some L.id → L.ky.lease = some d →
      (d ≤ L.now → Does (.leaseExpiry l t) l t s (L.clearKey.raise F.KY_EVENT_LEASE_EXPIRED)) ∧
      (L.now < d → Does (.leaseExpiry l t) l t s L)) ∧
    (L.ky.holder ≠ some L.id → Does (.leaseExpiry l t) l t s L) ∧
    (L.ky.silence = none ∨ L.ky.holder = some L.id → Does (.silenceThreshold l t) l t s L) ∧
    (∀ d, L.ky.silence = some d →
      (L.now < d + us 350 → Does (.silenceThreshold l t) l t s L) ∧
      (L.ky.holder ≠ some L.id → d + us 350 ≤ L.now →
        (U.ky.state ≠ .service → Does (.silenceThreshold l t) l t s U) ∧
        (U.ky.state = .service → U.rankOf U.id = 1 → Does (.silenceThreshold l t) l t s U.sendClaim) ∧
        (U.ky.state = .service → U.rankOf U.id = 2 → L.now < d + us 420 → Does (.silenceThreshold l t) l t s U) ∧
        (U.ky.state = .service → U.rankOf U.id = 2 → d + us 420 ≤ L.now → U.ky.acked = none → Does (.silenceThreshold l t) l t s U.sendClaim))) ∧
    (L.ky.state = .service → L.ky.holder = none → L.ky.interSince + us 1000 ≤ L.now →
      Does (.interregnumTimeout l t) l t s (L.withdraw .interregnum)) ∧
    (L.ky.state ≠ .service ∨ L.ky.holder ≠ none ∨ L.now < L.ky.interSince + us 1000 → Does (.interregnumTimeout l t) l t s L) ∧
    (∀ v, Does (.voteExpiry l t v) l t s
      { L with ky := { L.ky with cast := L.ky.cast.filter (fun c => c.1 != v || decide (L.now < c.2 + us 200)) } })

/-- The commands of KY_CMD: RELEASE gives the key up and names the lane of rank 1 (R81), BENCH is asked in Service, READMIT in Bench, for the next
boundary to judge (R41); elsewhere they are ignored.
The controlled stop (R54): standstill confirmed after the standstill time, the time limit, the ramp after the hold, the end 100 ms later.
The host's commands (R47, R50, R61): a profile is asked of the key's holder, a start in Bench, a stop in Service; elsewhere they change nothing.
What rests here on a choice of the model and not on the spec alone: log entries 46 (DEDUCED), 49 (DEDUCED), 110 (DEDUCED), 147 (DEDUCED),
182 (DESIGN CHOICE). -/
def Obligations.CommandsAndControlledStop : Prop :=
  (
    ∀ (s : State) (l : LaneId) (t : Nat), let L := s.seen l t
      L.pairActs .core 8 = true →
      (L.ky.holder ≠ some L.id → Does (.release l t) l t s L) ∧
      (L.ky.holder = some L.id →
        Does (.release l t) l t s (L.clearKey.sendKey { kind := 5, sender := L.id.index, epoch := L.ky.epoch, number := 0, named := L.rankOne })) ∧
      (L.ky.state = .service → Does (.bench l t) l t s { L with ky := { L.ky with benchReq := true } }) ∧
      (L.ky.state ≠ .service → Does (.bench l t) l t s L) ∧
      (L.ky.state = .bench → Does (.readmit l t) l t s { L with ky := { L.ky with readmitReq := true } }) ∧
      (L.ky.state ≠ .bench → Does (.readmit l t) l t s L)
  ) ∧
  (
    ∀ (s : State) (l : LaneId) (t : Nat), let L := s.seen l t
      L.acts .core 0x20 = true → L.runtime = true →
      (L.stop.active = false → Does (.standstillConfirm l t) l t s L ∧ Does (.stopTimeLimit l t) l t s L ∧ Does (.steeringHoldEnd l t) l t s L ∧
        Does (.stopEnd l t) l t s L) ∧
      (L.stop.active = true → L.stop.confirmed = none →
        (∀ d, L.stop.still = some d → d + ms L.cfg.stillTime ≤ L.now → Does (.standstillConfirm l t) l t s
          { L with stop := { L.stop with confirmed := some L.now, released := true, held := true } }) ∧
        (L.stop.began + sec L.cfg.limitTime ≤ L.now → Does (.stopTimeLimit l t) l t s
          { L with stop := { L.stop with released := true, held := true } }) ∧
        (L.now < L.stop.began + sec L.cfg.limitTime → Does (.stopTimeLimit l t) l t s L)) ∧
      (L.stop.active = true → ∀ c, L.stop.confirmed = some c → L.stop.ramp = none → c + sec L.cfg.holdTime ≤ L.now →
        Does (.steeringHoldEnd l t) l t s { L with stop := { L.stop with ramp := some L.now } }) ∧
      (L.stop.active = true → ∀ r, L.stop.ramp = some r → r + ms 100 ≤ L.now →
        Does (.stopEnd l t) l t s { L with stop := { L.stop with active := false, ramp := none, held := true } })
  ) ∧
  (
    ∀ (s : State) (l : LaneId) (t : Nat), let L := s.seen l t
      L.acts .core 0x20 = true → L.runtime = true →
      (∀ v, L.ky.holder = some L.id → v ≤ 3 → Does (.setProfile l t v) l t s { L with ky := { L.ky with profileReq := some v } }) ∧
      (∀ v, L.ky.holder ≠ some L.id ∨ 3 < v → Does (.setProfile l t v) l t s L) ∧
      (L.ky.state = .bench → Does (.startCommand l t) l t s { L with ky := { L.ky with startCmd := true } }) ∧
      (L.ky.state ≠ .bench → Does (.startCommand l t) l t s L) ∧
      (L.ky.state = .service → Does (.stopCommand l t) l t s { L with ky := { L.ky with stopCmd := true } }) ∧
      (L.ky.state ≠ .service → Does (.stopCommand l t) l t s L)
  )

/-! ### Field die -/

/-- The die-to-die link (R25, R26), judged by each die on the frames that it receives: a good frame clears the run of bad ones and brings the logic
die the field die's temperature; a bad or injected one counts; two bad ones in a row, or 4 µs without a good one, lose the link: the field die
switches off, and where the logic die finds it that is fault source 12.
The field supplies (R222): a supply in current limitation for 10 ms trips, a tripped one tries again when its wait has ended and is off no
longer once it has left the limit, clearing its enable resets it, and limitation begins and ends with the current.
What rests here on a choice of the model and not on the spec alone: log entries 111 (DEDUCED), 146 (DEDUCED). -/
def Obligations.DieToDieLinkAndFieldSupplies : Prop :=
  (
    ∀ (s : State) (l : LaneId) (t : Nat), let L := s.seen l t
      L.acts .field 16 = true →
      (L.injecting 10 = false →
        Does (.d2dFrameReceive l t false ⟨true, none⟩) l t s { L with sf := { L.sf with d2dRun := 0, d2dInj := false, d2dLast := L.now } } ∧
        (∀ x, Does (.d2dFrameReceive l t false ⟨true, some x⟩) l t s
          (({ L with sf := { L.sf with d2dRun := 0, d2dInj := false, d2dLast := L.now } }).thermalSample 4 x)) ∧
        (∀ x, Does (.d2dFrameReceive l t false ⟨false, x⟩) l t s { L with sf := { L.sf with d2dRun := L.sf.d2dRun + 1 } })) ∧
      (L.injecting 10 = true → ∀ x,
        Does (.d2dFrameReceive l t false x) l t s
          { L.injTake with sf := { L.injTake.sf with d2dRun := L.injTake.sf.d2dRun + 1, d2dInj := true } }) ∧
      (∀ x, Does (.d2dFrameReceive l t true ⟨true, x⟩) l t s { L with sf := { L.sf with fieldRun := 0, fieldLast := L.now } } ∧
        Does (.d2dFrameReceive l t true ⟨false, x⟩) l t s { L with sf := { L.sf with fieldRun := L.sf.fieldRun + 1 } }) ∧
      (L.sf.d2dLost = false → 2 ≤ L.sf.d2dRun ∨ L.sf.d2dLast + us 4 ≤ L.now →
        Does (.d2dLinkLoss l t) l t s
          (({ L with sf := { L.sf with d2dLost := true } }).fault 12 0xFFFF (L.sf.d2dInj && decide (2 ≤ L.sf.d2dRun))).fieldOff) ∧
      (L.sf.d2dLost = true ∨ (L.sf.d2dRun < 2 ∧ L.now < L.sf.d2dLast + us 4) →
        (L.sf.fieldLost = false → 2 ≤ L.sf.fieldRun ∨ L.sf.fieldLast + us 4 ≤ L.now → Does (.d2dLinkLoss l t) l t s L.fieldOff) ∧
        (L.sf.fieldLost = true ∨ (L.sf.fieldRun < 2 ∧ L.now < L.sf.fieldLast + us 4) → Does (.d2dLinkLoss l t) l t s L))
  ) ∧
  (
    ∀ (s : State) (l : LaneId) (t : Nat) (x : Fin 8), let L := s.seen l t
      L.acts .field 16 = true →
      (L.supplyOn x = true → (L.supply x).lim = true → (L.supply x).limSince + ms 10 ≤ L.now → Does (.supplyLimitTrip l t x) l t s (L.supplyTrip x)) ∧
      (L.supplyOn x = false ∨ (L.supply x).lim = false ∨ L.now < (L.supply x).limSince + ms 10 → Does (.supplyLimitTrip l t x) l t s L) ∧
      (∀ d k, (L.supply x).retryAt = some d → L.now < d → Does (.supplyRetry l t x k) l t s L) ∧
      (∀ d k, (L.supply x).retryAt = some d → L.supplyEn x = true → (L.supply x).off = true → d ≤ L.now →
        Does (.supplyRetry l t x k) l t s (L.updSupply x (fun y => { y with off := k, trying := k, lim := k, limSince := L.now, retryAt := none }))) ∧
      (∀ k, (L.supply x).retryAt = none ∨ L.supplyEn x = false ∨ (L.supply x).off = false → Does (.supplyRetry l t x k) l t s L) ∧
      (L.pairActs .field 16 = true → x.val < 4 → Does (.supplyEnableClear l t x) l t s
        ((L.setFld F.SF_CTRL_PS_EN (putBit (L.fld F.SF_CTRL_PS_EN) x false)).updSupply x (fun _ => SupplyS.reset))) ∧
      (L.pairActs .field 16 = true → 4 ≤ x.val → Does (.supplyEnableClear l t x) l t s
        ((L.setFld F.SF_CTRL_SS_EN (putBit (L.fld F.SF_CTRL_SS_EN) (x - 4) false)).updSupply x (fun _ => SupplyS.reset))) ∧
      (L.supplyOn x = true → (L.supply x).lim = false → Does (.supplyCurrentLimit l t x true) l t s
        (L.updSupply x (fun y => { y with lim := true, limSince := L.now }))) ∧
      (L.supplyOn x = true → (L.supply x).lim = true → Does (.supplyCurrentLimit l t x true) l t s L) ∧
      (L.supplyOn x = true → Does (.supplyCurrentLimit l t x false) l t s
        (L.updSupply x (fun y => { y with off := y.off && !y.trying, trying := false, lim := false }))) ∧
      (L.supplyOn x = false → ∀ k, Does (.supplyCurrentLimit l t x k) l t s L)
  )

/-- The safety inputs (R221, R223, R225, R226): a sample reaches the sixteen filters while the die-to-die link stands; an off-pulse starts at its
phase of device time and remembers the levels before it; 180 µs into it, once, the test sample judges the inputs in use that were high, if their
supply is on; a clean run of 20 ms test cycles clears a stuck or cross flag.
What rests here on a choice of the model and not on the spec alone: log entries 4 (DESIGN CHOICE), 35 (DEDUCED), 53 (DEDUCED). -/
def Obligations.SafetyInputs : Prop :=
  ∀ (s : State) (l : LaneId) (t : Nat), let L := s.seen l t
    L.acts .field 16 = true →
    (∀ raw, L.padsHeld .field = true ∨ L.sf.d2dLost = true ∨ L.sf.fieldLost = true → Does (.inputSample l t raw) l t s L) ∧
    (∀ raw, L.padsHeld .field = false → L.sf.d2dLost = false → L.sf.fieldLost = false →
      let see := (List.range 16).map (fun i => if bit raw i then some ((L.pm.inHigh.getD i none).getD L.now) else none)
      Does (.inputSample l t raw) l t s
        ((List.finRange 16).foldl (fun (L : Lane) (i : Fin 16) => L.sampleInput i (bit raw i)) { L with pm := { L.pm with inHigh := see } })) ∧
    (∀ j : Fin 4, L.pulseDue j = false → Does (.offPulseStart l t j) l t s L) ∧
    (∀ j : Fin 4, L.pulseDue j = true → Does (.offPulseStart l t j) l t s
      ((List.finRange 16).foldl (fun (L : Lane) (i : Fin 16) => L.updInput i (fun x => { x with before := x.raw }))
        { L with sf := { L.sf with pulseAt := L.sf.pulseAt.set j (some L.now), tested := putBit L.sf.tested j false } })) ∧
    (∀ (j : Fin 4) raw, L.padsHeld .field = true ∨ L.testDue j = false → Does (.testSample l t j raw) l t s L) ∧
    (∀ (j : Fin 4) raw, L.padsHeld .field = false → L.testDue j = true →
      let M : Lane := { L with sf := { L.sf with tested := putBit L.sf.tested j true } }
      (M.supplyOn ⟨j.val, by omega⟩ = false → Does (.testSample l t j raw) l t s M) ∧
      (M.supplyOn ⟨j.val, by omega⟩ = true → Does (.testSample l t j raw) l t s
        ((List.finRange 16).foldl (fun (L : Lane) (i : Fin 16) =>
          if L.inFunc i == 0 || !(L.input i).before then L
          else if (L.inSource i == j.val) == bit raw i then L.testFail i j (L.inSource i == j.val)
          else (L.tally 16 (16 + j)).updInput i (fun x => x.pass j (L.inSource i == j.val))) M))) ∧
    (L.devTime / 20000000 = L.sf.cycleNo → Does (.testCycleEnd l t) l t s L) ∧
    (L.devTime / 20000000 ≠ L.sf.cycleNo → Does (.testCycleEnd l t) l t s
      ((List.finRange 16).foldl (fun (L : Lane) (i : Fin 16) =>
        let n := if !(L.input i).cycleFail && (L.input i).cyclePass then (L.input i).cleanCycles + 1 else 0
        let M := L.updInput i (fun x => { x with cycleFail := false, cyclePass := false, cleanCycles := n })
        if ((L.input i).stuck || (L.input i).cross) && decide (4 ≤ n) && !(M.badStop i) then
          (M.inputChange i (fun x => { x with stuck := false, cross := false, stuckRun := 0, crossRun := 0, crossMask := 0, cleanCycles := 0 })).raise
            F.SF_EVENT_FAULT_CLR
        else M) { L with sf := { L.sf with cycleNo := L.devTime / 20000000 } }))

/-! ### Lane network -/

/-- The slots of a cycle: the lock point 5 µs before a slot, for slot 0 in the idle time before it, readies its transmit buffer once (R253), and at
the action point the node transmits in Sync on every port that may, or relays (R251), and in cold start sends its four cold-start frames
(R269). In Hold the transmit entries send nothing (R389).
The cycle (R265, R277): a cycle that is over ends with its missed frames counted and the clock corrected in Sync, and the next one begins, in
the mode it switches to, in Sync where integration was confirmed, or off with both ports disabled. A frame is received by the port's slot and
scanned for object messages (R254); in the idle phase the guardians' tables are compared once and a mode change is decided in Sync (R281, R282).
What rests here on a choice of the model and not on the spec alone: log entries 52 (DEDUCED), 53 (DEDUCED), 62 (DEDUCED), 63 (DEDUCED), 64
(DEDUCED), 68 (DEDUCED), 69 (DEDUCED), 161 (DESIGN CHOICE). -/
def Obligations.NetworkSlotsAndCycles : Prop :=
  (
    ∀ (s : State) (l : LaneId) (t : Nat) (k : Fin 64), let L := s.seen l t
      let S := L.txSettle
      let m := if k.val = 0 then S.ln.switchTo.getD S.ln.mode else S.ln.mode
      let start := S.ln.cycStart + 1000 * (if k.val = 0 then S.cycLen S.ln.mode else S.slotStart m k)
      L.acts .link 18 = true →
      (S.ln.state ≠ .sync ∨ S.linkSleeps = true ∨ bit S.ln.done k = true ∨ S.nslot m ≤ k.val ∨ S.devTime + 5000 < start → Does (.lnLockPoint l t k) l t s S) ∧
      (S.ln.state = .sync → S.linkSleeps = false → bit S.ln.done k = false → k.val < S.nslot m → start ≤ S.devTime + 5000 →
        let M := S.updLn (fun x => { x with done := putBit x.done k true })
        (M.txKind m k = none → Does (.lnLockPoint l t k) l t s M) ∧
        (∀ kd, M.txKind m k = some kd →
          (∀ r q, kd = 3 → M.responseFits m k = true → M.oc.netTx = r :: q → Does (.lnLockPoint l t k) l t s
            ((({ M with oc := { M.oc with netTx := q } }).putBuffer (txWrite k) 0x5C0 r.bytes).takeCommit k r.bytes.length)) ∧
          (kd ≠ 3 ∨ M.responseFits m k = false ∨ M.oc.netTx = [] →
            let Q := M.updLn (fun x => { x with fresh := putBit x.fresh k false })
            (M.commitDue k = true → Does (.lnLockPoint l t k) l t s ((M.takeCommit k (M.txEntryLen m k)).when (kd == 1) (·.statusNext k))) ∧
            (M.commitDue k = false → kd = 2 ∨ kd = 3 → Does (.lnLockPoint l t k) l t s (Q.setLiveLen k 0)) ∧
            (M.commitDue k = false → 4 ≤ kd → Does (.lnLockPoint l t k) l t s Q) ∧
            (M.commitDue k = false → kd < 2 → Does (.lnLockPoint l t k) l t s
              ((Q.setLiveLen k (Q.txEntryLen m k)).raise F.LN_EVENT_STALE_TX))))) ∧
      (S.devTime < S.actionNs k ∨ bit S.ln.acted k = true → Does (.lnActionPoint l t k) l t s S) ∧
      (S.ln.state ≠ .sync → S.ln.state ≠ .coldStart → Does (.lnActionPoint l t k) l t s S) ∧
      (S.ln.state = .coldStart → S.actionNs k ≤ S.devTime → bit S.ln.acted k = false →
        (k.val ≠ 0 ∨ S.ln.cyc % S.coldK ≠ 0 ∨ 4 ≤ S.ln.csSent ∨ S.ln.csSent * S.coldK ≠ S.ln.cyc → Does (.lnActionPoint l t k) l t s S) ∧
        (k.val = 0 → S.ln.cyc % S.coldK = 0 → S.ln.csSent < 4 → S.ln.csSent * S.coldK = S.ln.cyc →
          let A := [0, 1].foldl (fun (L : Lane) p => if L.portOn p && !(L.lnPort p).latched && !L.linkSleeps then L.emit p (L.txFrame p 5 0 16) false else L) S
          Does (.lnActionPoint l t k) l t s
            (A.updLn (fun x => { x with attempt := (x.attempt + 1) % 256, csSent := x.csSent + 1, csStart := A.actionNs 0 })))) ∧
      (S.ln.state = .sync → S.actionNs k ≤ S.devTime → bit S.ln.acted k = false → k.val < S.nslot S.ln.mode →
        let D := S.updLn (fun x => { x with acted := putBit x.acted k true })
        let can := !D.linkSleeps && [0, 1].any (fun p => D.mayTransmit p && D.entryAct D.ln.mode p k == 2)
        let A := D.when can (fun L => L.startRequest k)
        let B := [0, 1].foldl (fun (L : Lane) p =>
          (if !(L.mayTransmit p) then L
          else if L.entryAct L.ln.mode p k = 2 then (if L.linkSleeps then L else L.sendSlot p k)
          else if L.entryAct L.ln.mode p k = 3 then L.relaySlot p k
          else L).injPassed p k) A
        Does (.lnActionPoint l t k) l t s (B.when can (fun L => L.noteOwn k)))
  ) ∧
  (
    ∀ (s : State) (l : LaneId) (t : Nat), let L := s.seen l t
      let S := L.txSettle
      L.acts .link 18 = true →
      (S.ln.state = .off ∨ S.ln.state = .listen ∨ S.devTime < S.ln.cycStart + 1000 * S.cycLen S.ln.mode → Does (.lnCycleStart l t) l t s S) ∧
      (S.ln.state ≠ .off → S.ln.state ≠ .listen → S.ln.cycStart + 1000 * S.cycLen S.ln.mode ≤ S.devTime →
        let sync := S.ln.state == .sync
        let A := S.when sync (fun L => (L.missCount).tally 18 10)
        let far := A.ln.rankCheck && A.ln.samples != [] && (decide (20000 < meanI A.ln.samples) || decide (meanI A.ln.samples < -20000))
        let B := A.keepTime.when sync Lane.clockCorrect
        let C := B.updLn (fun x => { x with
          p0 := (if sync then x.p0.endCycle else x.p0).grow, p1 := (if sync then x.p1.endCycle else x.p1).grow, cyc := (x.cyc + 1) % 2 ^ 48, cycStart := x.cycStart + 1000 * S.cycLen S.ln.mode, nit := false,
          present := [], modes := [], rankCheck := x.rankCheck && x.samples == [], srcSeen := x.srcSeen + 1,
          holdCyc := if x.holdover then x.holdCyc + 1 else 0, done := x.done % 2, acted := 0,
          integ := x.integ.map (fun y => { y with missed := y.missed + 1 }) })
        let D := C.ln.switchTo.elim C (fun m => (C.updLn (fun x => { x with mode := m, switchTo := none })).raise F.LN_TEVENT_MODE_SWITCH)
        let E := D.updLn (fun x => { x with on := x.on &&& D.fld F.LN_CFG_ENABLE })
        (E.ln.on = 0 → Does (.lnCycleStart l t) l t s E.netOff) ∧
        (E.ln.on ≠ 0 → sync = true → far = true → Does (.lnCycleStart l t) l t s E.toListen) ∧
        (E.ln.on ≠ 0 → sync = false ∨ far = false → Does (.lnCycleStart l t) l t s E.enterSync)) ∧
      (L.inActs .link 18 = true → ∀ (p : Fin 2) (f : LnFrame), Does (.lnFrameReceive l t p f) l t s (L.lnFrameReceive p f).scanRx) ∧
      (S.ln.state = .off ∨ S.ln.state = .listen ∨ S.ln.nit = true → Does (.networkIdleStart l t) l t s S) ∧
      (S.ln.state ≠ .off → S.ln.state ≠ .listen → S.ln.nit = false →
          S.ln.cycStart + 1000 * S.slotStart S.ln.mode (min 64 (S.nslot S.ln.mode)) ≤ S.devTime →
        let M := ((S.updLn (fun x => { x with nit := true, done := 0 })).guardCompare 0).guardCompare 1
        (M.ln.state ≠ .sync → Does (.networkIdleStart l t) l t s M) ∧
        (M.ln.state = .sync → Does (.networkIdleStart l t) l t s M.modeDiverge.modeDecide))
  )

/-- Ports (R256, R261, R243, R268, R263): lost after PORT_TO cycles without a frame, time out of Sync counting as cycles, and back after PORT_BACK cycles with one;
a collision ends a transmission under way and counts; a transmission outside the windows of the guardian is a violation, one inside them runs to its end; enabling a port starts
it and takes the network out of off; ports latched by their guardian are reopened in Bench alone.
The guardian of a port (R260): in Sync the first strobe gives its origin; one within 1 µs of the prediction is the new origin, enters the rate and
is learnt; one outside, or a missing one, is a violation, and the prediction becomes the origin. The late strobe of a cycle whose strobe was found
missing is no second violation (the model's reading, log entry 160).
What rests here on a choice of the model and not on the spec alone: log entries 25 (DEDUCED), 26 (DEDUCED), 53 (DEDUCED), 66 (DEDUCED), 160
(DEDUCED), 161 (DESIGN CHOICE). -/
def Obligations.NetworkPortsAndGuardians : Prop :=
  (
    ∀ (s : State) (l : LaneId) (t : Nat) (p : Fin 2), let L := s.seen l t
      let S := L.txSettle
      let out := if L.ln.state = .sync then 0 else (L.now - L.ln.outAt) / us (max 1 (L.cycLen L.ln.mode))
      L.acts .link 18 = true →
      ((L.lnPort p).lost = false → L.portTo_ ≤ (L.lnPort p).noneRun + out →
        Does (.portLost l t p) l t s ((L.updPort p (fun x => { x with lost := true })).raise F.LN_EVENT_PORT_LOST)) ∧
      ((L.lnPort p).lost = true ∨ (L.lnPort p).noneRun + out < L.portTo_ → Does (.portLost l t p) l t s L) ∧
      ((L.lnPort p).lost = true →
        (L.fld1 F.LN_PORTTO_PORT_BACK ≤ (L.lnPort p).someRun →
          Does (.portBack l t p) l t s ((L.updPort p (fun x => { x with lost := false })).raise F.LN_EVENT_PORT_BACK)) ∧
        ((L.lnPort p).someRun < L.fld1 F.LN_PORTTO_PORT_BACK → Does (.portBack l t p) l t s L)) ∧
      (L.inActs .link 18 = true → (S.lnPort p).tx.isSome = true → Does (.collision l t p) l t s
        (((S.updPort p (fun x => { x with tx := none })).raise F.LN_EVENT_COLLISION).bump F.LN_ERR3_COLLISION 0 p)) ∧
      (L.inActs .link 18 = true → (S.lnPort p).tx = none → Does (.collision l t p) l t s S) ∧
      (∀ d, S.portOn p = false → Does (.guardianViolation l t ⟨p, d⟩) l t s S) ∧
      (∀ d, S.portOn p = true →
        let x : LnTxS := { frame := none, ends := S.devTime + 100 * d, shuts := S.guardShuts p, irq := false }
        (S.guardAllows p d = true → Does (.guardianViolation l t ⟨p, d⟩) l t s
          ((S.guardPass p).updPort p (fun y => if y.latched || y.tx.isSome then y else { y with tx := some x }))) ∧
        (S.guardAllows p d = false → Does (.guardianViolation l t ⟨p, d⟩) l t s (S.violation p))) ∧
      (L.pairActs .link 18 = true → L.lnParam = true → Does (.portEnable l t p) l t s L) ∧
      (L.pairActs .link 18 = true → L.lnParam = false →
        let A := L.setFld F.LN_CFG_ENABLE (putBit (L.fld F.LN_CFG_ENABLE) p true)
        let B := ((A.updLn (fun x => { x with on := putBit x.on p true })).updPort p
          (fun x => { LnPortS.reset with latched := x.latched, viols := x.viols, copy := x.copy })).clearValid p
        (A.portOn p = true → Does (.portEnable l t p) l t s A) ∧
        (A.portOn p = false → B.ln.state = .off → Does (.portEnable l t p) l t s B.toListen) ∧
        (A.portOn p = false → B.ln.state ≠ .off → Does (.portEnable l t p) l t s B)) ∧
      (L.pairActs .link 18 = true → ∀ m, S.ky.state ≠ .bench → Does (.reopen l t m) l t s S) ∧
      (L.pairActs .link 18 = true → ∀ m, S.ky.state = .bench → Does (.reopen l t m) l t s ([0, 1].foldl (fun (L : Lane) q =>
        if !(bit m q) then L else L.updPort q (fun x =>
          let vs := x.viols.filter (fun c => decide (c.2 / 8 = L.now / 8))
          { x with latched := decide (L.gvN ≤ vs.length), viols := vs, learned := 0 })) S))
  ) ∧
  (
    ∀ (s : State) (l : LaneId) (t : Nat) (p : Fin 2) (c : Nat), let L := s.seen l t
      let S := L.txSettle
      let G := (S.lnPort p).guard
      let rate := G.rate
      let len := S.guardLen p
      L.acts .link 18 = true →
      (S.portOn p = false ∨ S.ln.state ≠ .sync → Does (.guardianStrobe l t p c) l t s S ∧ Does (.strobeMissing l t ⟨p, c⟩) l t s S) ∧
      (S.portOn p = true → S.ln.state = .sync →
        (G.origin = none →
          Does (.guardianStrobe l t p c) l t s (S.updGuard p (fun x => { x with origin := some (c, (S.devTime : Int)), mode := S.ln.mode, missed := false })) ∧
          Does (.strobeMissing l t ⟨p, c⟩) l t s S) ∧
        (∀ o, G.origin = some o →
          let dev : Rat := ((((c : Int) - o.1 : Int) : Rat) - rate * (len : Rat)) / rate
          let moved : Int × Int := (o.1 + (rate * (len : Rat)).floor, (S.devTime : Int) - (1000 * dev).floor)
          let late : Prop := G.missed = true ∧ 2 * (((c : Int) - o.1 : Int) : Rat) < rate * (len : Rat)
          (late → Does (.guardianStrobe l t p c) l t s (S.updGuard p (fun x => { x with missed := false, mode := S.ln.mode }))) ∧
          (¬ late → -1 ≤ dev → dev ≤ 1 → Does (.guardianStrobe l t p c) l t s
            ((S.updGuard p (fun x => { x with
              origin := some ((c : Int), (S.devTime : Int)), rates := (((c : Int) - o.1, len) :: x.rates).take 8, mode := S.ln.mode, missed := false
              cycle := x.cycle + 1 })).updPort p
              (fun x => { x with learned := min 8 (x.learned + 1) }))) ∧
          (¬ late → dev < -1 ∨ 1 < dev → Does (.guardianStrobe l t p c) l t s
            (((S.updGuard p (fun x => { x with origin := some moved, mode := S.ln.mode, missed := false, cycle := x.cycle + 1 })).updPort p
              (fun x => { x with learned := if x.learned < 8 then 0 else 8 })).violation p)) ∧
          (dev ≤ 1 → Does (.strobeMissing l t ⟨p, c⟩) l t s S) ∧
          (1 < dev → Does (.strobeMissing l t ⟨p, c⟩) l t s
            (((S.updGuard p (fun x => { x with origin := some moved, missed := true, cycle := x.cycle + 1 })).updPort p
              (fun x => { x with learned := if x.learned < 8 then 0 else 8 })).violation p))))
  )

/-- Start-up and time sources: the listen timeout of a ranked node starts a cold start (R269), a collision begins it anew (R271), after four
cold-start frames it may enter Sync (R268), integration without frames falls back (R268); a lost source is replaced, held over or taken by the node itself (R279).
What rests here on a choice of the model and not on the spec alone: log entries 25 (DEDUCED), 26 (DEDUCED), 53 (DEDUCED), 140 (DEDUCED), 161
(DESIGN CHOICE). -/
def Obligations.NetworkStartUpAndSources : Prop :=
  ∀ (s : State) (l : LaneId) (t : Nat), let L := s.seen l t
    let S := L.txSettle
    L.acts .link 18 = true →
    (L.ln.state ≠ .listen ∨ L.rank = 0 ∨ L.now < L.ln.listenAt + us (2 * L.cycLen 0 + 250 * (L.rank - 1)) → Does (.listenTimeout l t) l t s L) ∧
    (L.ln.state = .listen → L.rank ≠ 0 → L.ln.listenAt + us (2 * L.cycLen 0 + 250 * (L.rank - 1)) ≤ L.now →
      Does (.listenTimeout l t) l t s
        ((L.updLn (fun x => { x with
          p0 := L.reAge x.p0, p1 := L.reAge x.p1, cyc := 0, mode := 0, cycStart := L.devTime, acted := 0, attempt := 0, csSent := 0
          joinWait := false })).setNet .coldStart)) ∧
    (L.inActs .link 18 = true → S.ln.state = .coldStart → S.ln.csSent ≠ 0 → S.devTime ≤ S.ln.csStart + 100 * frameTime 16 S.lnCmac →
      Does (.coldStartCollision l t) l t s ((S.updLn (fun x => { x with
        cyc := 0, csSent := 0, acted := 0, toSync := none, p0 := { x.p0 with tx := none }, p1 := { x.p1 with tx := none }
        cycStart := x.csStart + 1000 * (1100 + 250 * (S.rank - 1)) - 2000 })).raise F.LN_TEVENT_CS_COLLIDE)) ∧
    (S.ln.state ≠ .coldStart → (L.inActs .link 18 = true → Does (.coldStartCollision l t) l t s S) ∧ Does (.coldStartDone l t) l t s S) ∧
    (S.ln.state = .coldStart → S.ln.csSent < 4 ∨ S.ln.p0.tx.isSome = true ∨ S.ln.p1.tx.isSome = true → Does (.coldStartDone l t) l t s S) ∧
    (S.ln.state = .coldStart → 4 ≤ S.ln.csSent → S.ln.p0.tx = none → S.ln.p1.tx = none →
      Does (.coldStartDone l t) l t s (S.updLn (fun x => { x with toSync := some (S.lnNode, 0, S.lnNode, S.rank) }))) ∧
    (∀ x, L.ln.integ = some x → L.ln.state = .integrate → L.ln.toSync = none →
      let n := if x.kind = 5 then 2 * L.coldK else 2
      (n < x.missed ∨ (x.missed = n ∧ L.actionNs x.slot + 1000 < L.devTime) → Does (.integrateTimeout l t) l t s L.toListen) ∧
      (x.missed < n ∨ (x.missed = n ∧ L.devTime ≤ L.actionNs x.slot + 1000) → Does (.integrateTimeout l t) l t s L)) ∧
    (L.ln.integ = none → Does (.integrateTimeout l t) l t s L) ∧
    (L.ln.state = .sync → L.ln.holdover = true → L.fld1 F.LN_TCFG_HOLD < L.ln.holdCyc → Does (.holdoverLimit l t) l t s L.toListen) ∧
    (L.ln.state ≠ .sync ∨ L.ln.holdover = false ∨ L.ln.holdCyc ≤ L.fld1 F.LN_TCFG_HOLD → Does (.holdoverLimit l t) l t s L) ∧
    (L.ln.state ≠ .sync ∨ L.ln.depth = 0 ∨ L.ln.srcSeen ≤ L.srcTo → Does (.sourceLoss l t) l t s L) ∧
    (L.ln.state = .sync → L.ln.depth ≠ 0 → L.srcTo < L.ln.srcSeen →
      let M := L.when (!L.ln.holdover) (·.bump F.LN_TCNT_SRC_LOSS)
      let cs := M.candidates.filter (fun x => x.node != M.ln.source && (M.rank == 0 || (x.refRank != 0 && decide (x.refRank < M.rank))))
      (∀ x, bestPeer cs = some x → Does (.sourceLoss l t) l t s (M.takeSource x)) ∧
      (bestPeer cs = none → L.ln.holdover = true → Does (.sourceLoss l t) l t s L) ∧
      (bestPeer cs = none → L.ln.holdover = false → M.rank = 0 → Does (.sourceLoss l t) l t s
        ((M.updLn (fun x => { x with holdover := true, holdCyc := 0 })).raise F.LN_TEVENT_HOLDOVER)) ∧
      (bestPeer cs = none → L.ln.holdover = false → M.rank ≠ 0 → Does (.sourceLoss l t) l t s
        ((M.updLn (fun x => { x with source := 0, depth := 0, ref := M.lnNode, refRank := M.rank })).raise F.LN_TEVENT_REF_TAKEN))) ∧
    (L.ln.state ≠ .sync ∨ L.ln.cyc % 8 ≠ 0 ∨ L.ln.topoAt = some L.ln.cyc → Does (.topologyCheck l t) l t s L) ∧
    (L.ln.state = .sync → L.ln.cyc % 8 = 0 → L.ln.topoAt ≠ some L.ln.cyc →
      Does (.topologyCheck l t) l t s (((L.topoCheckPort 0).topoCheckPort 1).updLn (fun x => { x with topoAt := some x.cyc })))

/-- The network's command registers: LN_TXCOMMIT marks slots (R253), LN_RXLOCK locks a window (R255), LN_INJ is armed in life-cycle Service
alone (R264), LN_MREQ asks for a mode in Sync (R281), a time read gives the low word and holds the high one (R265).
What rests here on a choice of the model and not on the spec alone: log entries 53 (DEDUCED), 143 (DEDUCED), 150 (DEDUCED). -/
def Obligations.NetworkCommandRegisters : Prop :=
  ∀ (s : State) (l : LaneId) (t : Nat) (v : Word), let L := s.seen l t
    L.pairActs .link 18 = true →
    (∀ hi : Bool,
      let M := (L.note (commitReg hi) v.toNat).note (commitReg hi + 1) (v.toNat &&& (L.commitBits hi ^^^ 0xFFFFFFFF))
      Does (.lnTxcommit l t hi v) l t s ((List.range 32).foldl (fun (L : Lane) i =>
        if bit v.toNat i then L.updLn (fun x => { x with commit := putBit x.commit (i + (if hi then 32 else 0)) true }) else L) M)) ∧
    (
      let M := ((L.setFld F.LN_RXLOCK_SLOT (F.LN_RXLOCK_SLOT.get v)).setFld F.LN_RXLOCK_PORT (F.LN_RXLOCK_PORT.get v)).setFld F.LN_RXLOCK_LOCK
        (F.LN_RXLOCK_LOCK.get v)
      let w := (F.LN_RXLOCK_SLOT.get v, F.LN_RXLOCK_PORT.get v)
      let A := match M.ln.lock, M.ln.held with
        | some k, some x => M.fillWindow k.1 k.2 x
        | _, _ => M
      (F.LN_RXLOCK_LOCK.get v = 1 → M.ln.lock = some w → Does (.lnRxlock l t v) l t s M) ∧
      (F.LN_RXLOCK_LOCK.get v = 1 → M.ln.lock ≠ some w → Does (.lnRxlock l t v) l t s
        ((A.updLn (fun n => { n with lock := some w, held := none })).lockTie w.1 w.2)) ∧
      (F.LN_RXLOCK_LOCK.get v ≠ 1 → Does (.lnRxlock l t v) l t s (A.updLn (fun n => { n with lock := none, held := none })))) ∧
    (
      let M := ((((L.setFld F.LN_INJ_ACTION (F.LN_INJ_ACTION.get v)).setFld F.LN_INJ_PORT (F.LN_INJ_PORT.get v)).setFld F.LN_INJ_SLOT
        (F.LN_INJ_SLOT.get v)).setFld F.LN_INJ_SLOT2 (F.LN_INJ_SLOT2.get v)).setFld F.LN_INJ_CYCLES (F.LN_INJ_CYCLES.get v)
      (F.LN_INJ_ARM.get v = 0 → Does (.lnInjArm l t v) l t s ((M.updLn (fun x => { x with injLeft := 0 })).setFld F.LN_INJ_ARM 0)) ∧
      (F.LN_INJ_ARM.get v ≠ 0 → M.lc.state ≠ .service → Does (.lnInjArm l t v) l t s (M.raise F.LN_EVENT_INJ_DENIED)) ∧
      (F.LN_INJ_ARM.get v ≠ 0 → M.lc.state = .service → M.fld F.LN_INJ_ACTION ≠ 3 →
        Does (.lnInjArm l t v) l t s ((M.updLn (fun x => { x with injLeft := M.fld1 F.LN_INJ_CYCLES })).setFld F.LN_INJ_ARM 1))) ∧
    (F.LN_MREQ_GO.get v = 0 ∨ L.ln.state ≠ .sync ∨ L.ln.pend.isSome = true → Does (.lnMreqGo l t v) l t s L) ∧
    (F.LN_MREQ_GO.get v ≠ 0 → L.ln.state = .sync → L.ln.pend = none →
      Does (.lnMreqGo l t v) l t s (L.updLn (fun x => { x with goMode := some (F.LN_MREQ_MODE.get v) }))) ∧
    Does (.lnTimeRead l t true) l t s
      ((L.updLn (fun x => { x with cycHi := BitVec.ofNat 32 (x.cyc / 2 ^ 32) })).leadRead (BitVec.ofNat 32 L.ln.cyc)) ∧
    Does (.lnTimeRead l t false) l t s
      ((L.updLn (fun x => { x with timeHi := BitVec.ofNat 32 (L.devTime / 2 ^ 32) })).leadRead (BitVec.ofNat 32 L.devTime))

/-! ### Object channel and dictionary -/

/-- A request is not answered by a lane that is Off, Booting or in Cellar (R290); a repeated identifier gets its cached response or BUSY and is
counted as a duplicate, and nothing is executed again (R294): for each of the seven services.
A new request that a check refuses is answered with the status of the first check that fails, and nothing of it is executed (R289, R290); a
missing resource is told, and a refused WRITE_END closes its transfer: for each of the seven services.
What rests here on a choice of the model and not on the spec alone: log entries 25 (DEDUCED), 26 (DEDUCED), 72 (DEDUCED), 76 (DEDUCED). -/
def Obligations.RequestsRepeatedOrRefused : Prop :=
  (
    ∀ (s : State) (l : LaneId) (t : Nat) (c : Carrier) (client rid index sub : Nat), let L := s.seen l t
      L.acts .core 0x20 = true → L.runtime = true →
      let once (i : Instr) (h : ObjHead) (d : List Byte) : Prop :=
        ((L.takeMsg c (h.bytes d)).answers = false → Does i l t s (L.takeMsg c (h.bytes d))) ∧
        (∀ r, (L.takeMsg c (h.bytes d)).answers = true → ((L.takeMsg c (h.bytes d)).touch h.client).known h.client h.rid = some r →
          Does i l t s ((((match r with
            | some x => ((L.takeMsg c (h.bytes d)).touch h.client).send c x
            | none => ((L.takeMsg c (h.bytes d)).touch h.client).sendBusy c h) : Lane).raise F.OC_EVENT_DUP).bump F.OC_CNT1_DUP))
      once (.read l t c client rid index sub) (headOf svcRead client rid index sub) [] ∧
      (∀ d, once (.write l t c client rid index sub d) (headOf svcWrite client rid index sub) d) ∧
      (∀ o, once (.readSeg l t c client rid index sub o) (headOf svcReadSeg client rid index sub) (leBytes 4 o)) ∧
      (∀ n, once (.writeInit l t c client rid index sub n) (headOf svcWriteInit client rid index sub) (leBytes 4 n)) ∧
      (∀ o d, once (.writeSeg l t c client rid index sub o d) (headOf svcWriteSeg client rid index sub) (leBytes 4 o ++ d)) ∧
      (∀ n x, once (.writeEnd l t c client rid index sub n x) (headOf svcWriteEnd client rid index sub) (leBytes 4 n ++ wordBytes x)) ∧
      once (.abort l t c client rid index sub) (headOf svcAbort client rid index sub) []
  ) ∧
  (
    ∀ (s : State) (l : LaneId) (t : Nat) (c : Carrier) (client rid index sub : Nat), let L := s.seen l t
      L.acts .core 0x20 = true → L.runtime = true →
      let refused (i : Instr) (h : ObjHead) (d : List Byte) : Prop :=
        let M := L.admitted c h d
        let N := M.when (M.judged c h d == stNoResource) (·.raise F.OC_EVENT_NO_RESOURCE)
        L.newRequest c h d → M.judged c h d ≠ stOk →
        Does i l t s ((N.when (h.service == svcWriteEnd && (N.xferFor h true).isSome) (·.closeXfer h.client)).finish c h (M.judged c h d) [])
      refused (.read l t c client rid index sub) (headOf svcRead client rid index sub) [] ∧
      (∀ d, refused (.write l t c client rid index sub d) (headOf svcWrite client rid index sub) d) ∧
      (∀ o, refused (.readSeg l t c client rid index sub o) (headOf svcReadSeg client rid index sub) (leBytes 4 o)) ∧
      (∀ n, refused (.writeInit l t c client rid index sub n) (headOf svcWriteInit client rid index sub) (leBytes 4 n)) ∧
      (∀ o d, refused (.writeSeg l t c client rid index sub o d) (headOf svcWriteSeg client rid index sub) (leBytes 4 o ++ d)) ∧
      (∀ n x, refused (.writeEnd l t c client rid index sub n x) (headOf svcWriteEnd client rid index sub) (leBytes 4 n ++ wordBytes x)) ∧
      refused (.abort l t c client rid index sub) (headOf svcAbort client rid index sub) []
  )

/-- Reading (R288, R291): a value within the carrier's capacity is the answer; a wider one opens a read transfer of a snapshot and answers its
length, and READ_SEG answers a part of it from the offset.
Writing (R288, R291, R292): a value written at once reaches its entry, a command its effect, and an entry kept in flash starts flash work; a
transfer is opened empty, takes its segments at their offsets, and writes the whole value at its end, unfinished where it brings a token that fails
(R291); ABORT closes it.
What rests here on a choice of the model and not on the spec alone: log entries 16 (DESIGN CHOICE), 22 (DEDUCED), 72 (DEDUCED), 74
(DEDUCED), 79 (DEDUCED), 80 (DESIGN CHOICE), 100 (DEDUCED). -/
def Obligations.RequestsReadAndWriteEntries : Prop :=
  (
    ∀ (s : State) (l : LaneId) (t : Nat) (c : Carrier) (client rid index sub : Nat), let L := s.seen l t
      L.acts .core 0x20 = true → L.runtime = true →
      (
        let h := headOf svcRead client rid index sub
        let M := L.admitted c h []
        L.newRequest c h [] → M.judged c h [] = stOk →
        let V := M.when (h.index == 0x7010) Lane.unlockChallenge
        let v := V.entryRead h.index h.sub
        let N : Lane := { V with fresh := V.fresh + 1 }
        (v.length ≤ N.capacity c → Does (.read l t c client rid index sub) l t s (N.finish c h stOk v)) ∧
        (N.capacity c < v.length → Does (.read l t c client rid index sub) l t s
          (((N.closeXfer h.client).putXfer ⟨h.client, false, h.index, h.sub, v.length, v, N.now⟩).finish c h stSegmented (leBytes 4 v.length)))) ∧
      (∀ o,
        let h := headOf svcReadSeg client rid index sub
        let M := L.admitted c h (leBytes 4 o)
        L.newRequest c h (leBytes 4 o) → M.judged c h (leBytes 4 o) = stOk → ∀ x, M.xferFor h false = some x →
        Does (.readSeg l t c client rid index sub o) l t s (M.finish c h stOk (part x.data (leNat (leBytes 4 o)) (M.capacity c))))
  ) ∧
  (
    ∀ (s : State) (l : LaneId) (t : Nat) (c : Carrier) (client rid index sub : Nat), let L := s.seen l t
      L.acts .core 0x20 = true → L.runtime = true →
      (∀ d,
        let h := headOf svcWrite client rid index sub
        let M := L.admitted c h d
        L.newRequest c h d → M.judged c h d = stOk →
        (flashEntry h.index = true → Does (.write l t c client rid index sub d) l t s (M.startWork c h d)) ∧
        (∀ e, flashEntry h.index = false → entryAt h.index h.sub = some e →
          (e.acc ≠ .cmd → Does (.write l t c client rid index sub d) l t s ((M.entryStore h.index h.sub d).finish c h stOk [])) ∧
          (e.acc = .cmd → Does (.write l t c client rid index sub d) l t s ((M.cmdRun h.index h.sub d).1.finish c h (M.cmdRun h.index h.sub d).2 [])))) ∧
      (∀ n,
        let h := headOf svcWriteInit client rid index sub
        let M := L.admitted c h (leBytes 4 n)
        L.newRequest c h (leBytes 4 n) → M.judged c h (leBytes 4 n) = stOk →
        Does (.writeInit l t c client rid index sub n) l t s
          (((M.closeXfer h.client).putXfer ⟨h.client, true, h.index, h.sub, leNat (leBytes 4 n), [], M.now⟩).finish c h stOk [])) ∧
      (∀ o d,
        let h := headOf svcWriteSeg client rid index sub
        let M := L.admitted c h (leBytes 4 o ++ d)
        L.newRequest c h (leBytes 4 o ++ d) → M.judged c h (leBytes 4 o ++ d) = stOk → ∀ x, M.xferFor h true = some x →
        Does (.writeSeg l t c client rid index sub o d) l t s
          ((M.putXfer { x with data := segData x.data (leNat ((leBytes 4 o ++ d).take 4)) ((leBytes 4 o ++ d).drop 4) }).finish c h stOk [])) ∧
      (∀ n x,
        let h := headOf svcWriteEnd client rid index sub
        let M := L.admitted c h (leBytes 4 n ++ wordBytes x)
        L.newRequest c h (leBytes 4 n ++ wordBytes x) → M.judged c h (leBytes 4 n ++ wordBytes x) = stOk →
        Does (.writeEnd l t c client rid index sub n x) l t s
          ((if h.index = 0x7011 ∧ !(M.tokenOk (M.written h (leBytes 4 n ++ wordBytes x))) then M.closeXfer h.client else M.dropXfer h.client).writeValue c h
            (M.written h (leBytes 4 n ++ wordBytes x)))) ∧
      (
        let h := headOf svcAbort client rid index sub
        let M := L.admitted c h []
        L.newRequest c h [] → M.judged c h [] = stOk →
        Does (.abort l t c client rid index sub) l t s ((M.closeXfer h.client).finish c h stOk []))
  )

/-- The object channel's times (R291, R293, R294): a request in progress is answered BUSY in its intervals; its flash work, once done, is answered
with its outcome and lets the client's next request run; a transfer idle for XFER_TO closes.
What rests here on a choice of the model and not on the spec alone: log entry 76 (DEDUCED). -/
def Obligations.ObjectChannelProgress : Prop :=
  ∀ (s : State) (l : LaneId) (t : Nat) (client rid : Nat), let L := s.seen l t
    L.acts .core 0x20 = true → L.runtime = true →
    let mine (r : ReqS) : Bool := r.head.client == client && r.head.rid == rid
    (L.oc.inprog.find? mine = none → Does (.busyInterval l t client rid) l t s L ∧ Does (.flashWorkDone l t client rid) l t s L) ∧
    (∀ r, L.oc.inprog.find? mine = some r →
      (r.lastBusy = r.since ∨ r.lastBusy + us 4500 ≤ L.now →
        let M : Lane := { L with oc := { L.oc with
          inprog := L.oc.inprog.map (fun (q : ReqS) => if q.head = r.head then { q with lastBusy := L.now } else q) } }
        Does (.busyInterval l t client rid) l t s (M.send r.carrier { head := r.head, status := stBusy, data := [] })) ∧
      (∀ d, r.job = .wait d → Does (.flashWorkDone l t client rid) l t s L) ∧
      (∀ d, r.job = .record d →
        let M : Lane := { L with oc := { L.oc with inprog := L.oc.inprog.filter (fun (q : ReqS) => q.head != r.head) }, fc := { L.fc with ioReport := d } }
        Does (.flashWorkDone l t client rid) l t s ((M.finish r.carrier r.head stOk []).runWaiting 8))) ∧
    (∀ x, L.xferOf client = some x →
      (x.last + ms L.xferTo ≤ L.now → Does (.xferTimeout l t client) l t s ((L.closeXfer client).raise F.OC_EVENT_XFER_TIMEOUT)) ∧
      (L.now < x.last + ms L.xferTo → Does (.xferTimeout l t client) l t s L)) ∧
    (L.xferOf client = none → Does (.xferTimeout l t client) l t s L)

/-- The CAN carrier (R296 to R299): only extended data frames to this lane and within the carrier's length are taken, in Hold only counted (R389); a message left incomplete
for 10 ms is discarded; a response not sent within its budget is aborted and counted; bus-off drops what is queued, and recovery ends it.
What rests here on a choice of the model and not on the spec alone: log entries 25 (DEDUCED), 26 (DEDUCED), 75 (DEDUCED), 76 (DEDUCED). -/
def Obligations.CanCarrier : Prop :=
  ∀ (s : State) (l : LaneId) (t : Nat), let L := s.seen l t
    L.acts .link 19 = true →
    (L.inActs .link 19 = true →
      let M : Lane := { L with oc := { L.oc with canAt := L.now } }
      let room := if L.flag F.OC_CFG_FD then 64 else 8
      (∀ ext rem id d, L.oc.on = false → Does (.canFrameReceive l t ext rem id d) l t s L) ∧
      (∀ ext rem id d, L.oc.on = true → L.oc.busOff = true ∨ ext = false ∨ rem = true ∨ L.canForUs id = false ∨ room < d.length →
        Does (.canFrameReceive l t ext rem id d) l t s M) ∧
      (∀ id d, L.oc.on = true → L.oc.busOff = false → L.canForUs id = true → d.length ≤ room →
        (L.linkSleeps = true → Does (.canFrameReceive l t true false id d) l t s ((M.tally 19 1).tally 19 3 d.length)) ∧
        (L.linkSleeps = false → Does (.canFrameReceive l t true false id d) l t s
          (((M.tally 19 1).tally 19 3 d.length).canPart (id / 2 ^ 11 % 16) (id / 2 ^ 7 % 8) (bit id 6) d)))) ∧
    (L.oc.part = none → Does (.canPartTimeout l t) l t s L) ∧
    (∀ q, L.oc.part = some q →
      (q.at_ + ms 10 ≤ L.now → Does (.canPartTimeout l t) l t s L.ocDiscard) ∧ (L.now < q.at_ + ms 10 → Does (.canPartTimeout l t) l t s L)) ∧
    (∀ client rid, L.oc.canTx.find? (fun r => r.1.head.client == client && r.1.head.rid == rid) = none →
      Does (.retxBudgetExpiry l t client rid) l t s L) ∧
    (∀ client rid r, L.oc.canTx.find? (fun r => r.1.head.client == client && r.1.head.rid == rid) = some r → r.2 + us (10 * L.retxBudget) ≤ L.now →
      let M : Lane := { L with oc := { L.oc with
        canTx := (L.oc.canTx.dropWhile (fun x => !(x.1.head.client == client && x.1.head.rid == rid))).drop 1 } }
      Does (.retxBudgetExpiry l t client rid) l t s ((M.raise F.OC_EVENT_TX_ABORT).bump F.OC_CNT0_TX_ABORT)) ∧
    (L.inActs .link 19 = true → L.oc.on = true → L.oc.busOff = false → Does (.busOff l t) l t s
      ((({ L with oc := { L.oc with busOff := true, part := none, canTx := [] } }).raise F.OC_EVENT_BUS_OFF).bump F.OC_CNT0_BUS_OFF)) ∧
    (L.inActs .link 19 = true → L.oc.on = false ∨ L.oc.busOff = true → Does (.busOff l t) l t s L) ∧
    Does (.busOffRecovery l t) l t s { L with oc := { L.oc with busOff := false } }

/-! ### Life cycle, configuration, install, flash and the 100BASE-T1 port -/

/-- Unlock and attestation (R323, R415 to R417): a challenge is drawn and kept; a token is judged in Field, whatever the outcome the challenge is
used up, and a good one opens the Service overlay for its time; a nonce starts an attestation, whose report is signed at its end.
The life cycle's own ends (R410, R411): Service time runs out with its overlay, injections and debug halt, in a lane held in reset with its
overlay alone; RETIRE zeroises the keys, programs
Retired and resets; the factory provisions a Blank lane. None of them acts in another state.
What rests here on a choice of the model and not on the spec alone: log entries 19 (DEDUCED), 22 (DEDUCED), 25 (DEDUCED), 26 (DEDUCED), 29
(DEDUCED), 31 (DEDUCED), 34 (DESIGN CHOICE), 48 (DEDUCED), 99 (DEDUCED), 100 (DEDUCED), 110 (DEDUCED), 126 (DEDUCED). -/
def Obligations.UnlockAttestationAndLifeCycle : Prop :=
  (
    ∀ (s : State) (l : LaneId) (t : Nat), let L := s.seen l t
      L.acts .core 0x20 = true → L.runtime = true →
      Does (.unlockChallenge l t) l t s
        (({ L with fresh := L.fresh + 1, lc := { L.lc with challenge := some (padTo 32 (Config.freeBytes L.fresh)) } }).raise F.LC_EVENT_CHALLENGE) ∧
      (∀ k, L.lc.state ≠ .field ∨ L.servesWrites = false → Does (.unlockToken l t k) l t s L) ∧
      (∀ k, L.lc.state = .field → L.servesWrites = true → Does (.unlockToken l t k) l t s
        (if L.tokenOk k then
          (({ L with lc := { L.lc with
              challenge := none
              overlay := some { began := L.now, duration := sec (60 * leNat (part k 2 2)), lanes := (k.getD 1 0).toNat % 8, vendor := k.getD 4 0 == 1 } } }).raise
            F.LC_EVENT_SVC_START).eachGroup (fun L g => L.genUpdate g)
        else (({ L with lc := { L.lc with challenge := none } }).raise F.LC_EVENT_TOKEN_BAD).bump F.LC_CNT_TOKEN_BAD)) ∧
      (∀ n, L.servesWrites = true → Does (.attestationNonce l t n) l t s { L with lc := { L.lc with attest := some (L.now, padTo 32 n) } }) ∧
      (∀ n, L.servesWrites = false → Does (.attestationNonce l t n) l t s L) ∧
      (L.lc.attest = none → Does (.attestDone l t) l t s L) ∧
      (∀ a, L.lc.attest = some a → Does (.attestDone l t) l t s
        (({ L with lc := { L.lc with
            attest := none
            report := L.reportBody a.2 ++ (if L.lc.state == LifeCycle.blank || L.lc.state == LifeCycle.retired then List.replicate 132 0
              else padTo 132 (signature (L.lc.otp.idKey.getD []) (L.reportBody a.2))) } }).raise F.LC_EVENT_ATTEST_DONE))
  ) ∧
  (
    ∀ (s : State) (l : LaneId) (t : Nat), let L := s.seen l t
      (
        (L.lc.overlay = none → Does (.serviceTimeExpiry l t) l t s L) ∧
        (∀ o, L.lc.overlay = some o → L.now < o.began + L.cellarTime o.duration → Does (.serviceTimeExpiry l t) l t s L) ∧
        (∀ o, L.lc.overlay = some o → o.began + L.cellarTime o.duration ≤ L.now → L.sy.resetHeld = true →
          Does (.serviceTimeExpiry l t) l t s { L with lc := { L.lc with overlay := none } }) ∧
        (∀ o, L.lc.overlay = some o → o.began + L.cellarTime o.duration ≤ L.now → L.sy.resetHeld = false →
          let A := ((({ L with lc := { L.lc with overlay := none } }).raise F.LC_EVENT_SVC_END).eachGroup (fun L g => L.genUpdate g)).injWatch
          let A := A.when (A.st.prog == .direct) Lane.endRun
          let B := (({ A with fc := { A.fc with xinjLeft := 0 }, ln := { A.ln with injLeft := 0 }, sy := { A.sy with debugHalt := false } }).setFld
            F.FC_XINJ_ARM 0).setFld F.LN_INJ_ARM 0
          (B.lc.taken = false ∨ B.lc.sealed = true → Does (.serviceTimeExpiry l t) l t s B) ∧
          (B.lc.taken = true → B.lc.sealed = false →
            Does (.serviceTimeExpiry l t) l t s (B.rebootBy F.SY_RSTCAUSE_FW)))) ∧
      (L.sy.resetHeld = false → L.lc.state = .blank ∨ L.lc.state = .service →
        let K : Lane := { L with lc := { L.lc with
          otp := { L.lc.otp with lcs := .retired, idKey := none, trKey := none, integratorKey := none }, overlay := none, netKey := none } }
        Does (.retire l t) l t s
          (if K.laneReset.release.ky.state = .booting then K.laneReset.release.toWithdrawn else K.laneReset.release)) ∧
      (L.sy.resetHeld = true ∨ (L.lc.state ≠ .blank ∧ L.lc.state ≠ .service) → Does (.retire l t) l t s L) ∧
      (L.sy.resetHeld = false → L.lc.state = .blank → Does (.factoryProvision l t) l t s
        (({ L with
            fresh := L.fresh + 2
            lc := { L.lc with otp := { L.lc.otp with
              lcs := .provisioned, vendorKey := Config.vendorKey
              idKey := some (padTo 66 (Config.freeBytes L.fresh)), trKey := some (padTo 66 (Config.freeBytes (L.fresh + 1)))
              idPub := padTo 133 (publicKey (padTo 66 (Config.freeBytes L.fresh)))
              trPub := padTo 133 (publicKey (padTo 66 (Config.freeBytes (L.fresh + 1)))) } } }).trapClear)) ∧
      (L.sy.resetHeld = true ∨ L.lc.state ≠ .blank → Does (.factoryProvision l t) l t s L)
  )

/-- A configuration commit (R422) is taken in Bench with the flash cool and no commit running: the image is released from RAM (R323) and checked, the inactive bank erased and
programmed, and the commit completes with the bank's header and a reset of the lane; a check or a verification that fails ends it with its code.
An install (R426 to R429) opens only where the lanes and the install's state allow it; verification is asked in Bench with the image complete,
and a good image becomes the slot to boot; an abort is a command in Bench or follows the loss of a lane; a failed trial rolls back once the flash is cool enough (R406).
What rests here on a choice of the model and not on the spec alone: log entries 25 (DEDUCED), 26 (DEDUCED), 31 (DEDUCED), 34 (DESIGN
CHOICE), 79 (DEDUCED), 93 (DESIGN CHOICE), 97 (DEDUCED), 98 (DEDUCED), 126 (DEDUCED), 208 (DEDUCED), 211 (DESIGN CHOICE). -/
def Obligations.CommitAndInstall : Prop :=
  (
    ∀ (s : State) (l : LaneId) (t : Nat) (ok : Bool), let L := s.seen l t
      L.acts .core 0x20 = true → L.runtime = true →
      (L.ky.state ≠ .bench ∨ L.lc.commit.isSome = true ∨ L.th.flashOk = false → Does (.configCommit l t ok) l t s L) ∧
      (L.ky.state = .bench → L.lc.commit = none → L.th.flashOk = true →
        let M : Lane := { L with lc := { L.lc with image := [] } }
        let P := (M.eraseSpan (bankAddr M.inactiveBank) 0x80000).program (bankAddr M.inactiveBank) L.lc.image
        Does (.configCommit l t ok) l t s
          (if M.imageCheck L.lc.image ≠ 0 then M.commitFail (M.imageCheck L.lc.image)
           else if ok then { P with lc := { P.lc with commit := some P.now } } else P.commitFail 6)) ∧
      (L.commitHeader.lc.commitDone = none → Does (.configCommitComplete l t) l t s L.commitHeader) ∧
      (∀ d, L.commitHeader.lc.commitDone = some d →
        Does (.configCommitComplete l t) l t s (L.commitHeader.rebootBy F.SY_RSTCAUSE_FW))
  ) ∧
  (
    ∀ (s : State) (l : LaneId) (t : Nat), let L := s.seen l t
      L.acts .core 0x20 = true → L.runtime = true →
      (∀ n, L.installLanes = true → L.installFree = true → L.th.flashOk = true → Does (.installOpen l t n) l t s (L.installNow n)) ∧
      (∀ n, L.installLanes = false ∨ L.installFree = false ∨ L.th.flashOk = false → Does (.installOpen l t n) l t s L) ∧
      (L.ky.state = .bench → L.lc.install = 2 → L.th.flashOk = true → Does (.installVerify l t) l t s (L.setInstall 3)) ∧
      (L.ky.state ≠ .bench ∨ L.lc.install ≠ 2 ∨ L.th.flashOk = false → Does (.installVerify l t) l t s L) ∧
      (L.lc.install ≠ 3 → Does (.verifyDone l t) l t s L) ∧
      (L.lc.install = 3 →
        let w := leBytes 4 (seqNext (L.slotSeq L.lc.slot)) ++ padTo 64 (sha512 (L.bytes L.instBase 512)) ++ part (L.bytes L.instBase 512) 16 4 ++
          [0xFF, 0xFF, 0xFF, 0xFF, 0xFF]
        Does (.verifyDone l t) l t s
          (if L.instImageOk then (((L.program L.instHead w).setInstall 4).rebootBy F.SY_RSTCAUSE_FW)
           else ((L.raise F.CF_EVENT_VERIFY_FAIL).bump F.CF_CNT_VERIFY_FAIL).setInstall 8)) ∧
      (L.ky.state = .bench → Does (.installAbort l t true) l t s L.abortInstall) ∧
      (L.ky.state ≠ .bench → Does (.installAbort l t true) l t s L) ∧
      (L.lc.lostLane = true → Does (.installAbort l t false) l t s L.abortInstall) ∧
      (L.lc.lostLane = false → Does (.installAbort l t false) l t s L) ∧
      (L.lc.trialBad = true → L.lc.install = 5 ∨ L.lc.install = 6 → L.th.flashOk = true →
        let M : Lane := { L with lc := { L.lc with trialBad := false } }
        Does (.trialFail l t) l t s (((M.invalidate.raise F.CF_EVENT_TRIAL_FAIL).setInstall 8).rebootBy F.SY_RSTCAUSE_FW)) ∧
      (L.lc.trialBad = false ∨ (L.lc.install ≠ 5 ∧ L.lc.install ≠ 6) ∨ L.th.flashOk = false → Does (.trialFail l t) l t s L)
  )

/-- Image blocks (R301, R303): a whole frame of the port's EtherType is taken while the link is up; a bad one is counted, one that
no install expects is answered; a block ends with its bytes in the slot, or bad.
The 100BASE-T1 port (R302): the link follows the line while the port is enabled, with its events and its signal quality; the acknowledgements that wait leave first, and a stream that runs
sends its next frame when the rate leaves room for it.
What rests here on a choice of the model and not on the spec alone: log entries 25 (DEDUCED), 26 (DEDUCED), 87 (DEDUCED), 88 (DEDUCED), 89
(DEDUCED), 90 (DEDUCED), 91 (DESIGN CHOICE), 97 (DEDUCED), 98 (DEDUCED). -/
def Obligations.EthernetPort : Prop :=
  (
    ∀ (s : State) (l : LaneId) (t : Nat), let L := s.seen l t
      (L.inActs .link 20 = true → ∀ dst src etherType head data fcs : List Byte,
        let bs := dst ++ src ++ etherType ++ head ++ data ++ fcs
        let M := (L.sendAcks.tally 20 1).tally 20 3 bs.length
        (L.enForUs bs = false → Does (.imageFrameReceive l t dst src etherType head data fcs) l t s L) ∧
        (L.enForUs bs = true →
          (enFrameOk bs = false → Does (.imageFrameReceive l t dst src etherType head data fcs) l t s ((M.raise F.EN_EVENT_CRC_ERR).bump F.EN_CNT_CRC_ERR)) ∧
          (enFrameOk bs = true → M.installOpenNow = true → Does (.imageFrameReceive l t dst src etherType head data fcs) l t s (M.imageData (enOffset bs) (enData bs))) ∧
          (enFrameOk bs = true → M.installOpenNow = false → Does (.imageFrameReceive l t dst src etherType head data fcs) l t s (M.answerNone (enOffset bs / 65536))))) ∧
      (L.acts .core 0x20 = true → L.runtime = true → ∀ b ok,
        (L.lc.install ≠ 1 ∨ L.blockEnded b = false ∨ L.th.flashOk = false → Does (.imageBlockStored l t b ok) l t s L) ∧
        (L.lc.install = 1 → L.blockEnded b = true → b ≠ 0 → L.blockStored 0 = true → L.th.flashOk = true →
          (layPieces (L.blockSize b) (L.blockPieces b) = none → Does (.imageBlockStored l t b ok) l t s (L.blockBad b)) ∧
          (∀ bs, layPieces (L.blockSize b) (L.blockPieces b) = some bs → Does (.imageBlockStored l t b true) l t s (L.storeBlock b bs)) ∧
          (∀ bs, layPieces (L.blockSize b) (L.blockPieces b) = some bs → Does (.imageBlockStored l t b false) l t s
            (((((L.eraseSector (L.instBase + 65536 * b)).raise F.CF_EVENT_VERIFY_FAIL).bump F.CF_CNT_VERIFY_FAIL)).blockBad b))) ∧
        (L.lc.install = 1 → L.blockEnded 0 = true → L.th.flashOk = true → ∀ bs, layPieces (L.blockSize 0) (L.blockPieces 0) = some bs →
          (L.kindOk bs = false → Does (.imageBlockStored l t 0 ok) l t s (((L.setPieces 0 []).setInstall 8).answerNone 0)) ∧
          (L.kindOk bs = true → Does (.imageBlockStored l t 0 true) l t s ((L.takeKind bs).storeBlock 0 bs))))
  ) ∧
  (
    ∀ (s : State) (l : LaneId) (t : Nat), let L := s.seen l t
      L.acts .link 20 = true →
      (L.inActs .link 20 = true → ∀ q : Fin 8, L.flag F.EN_CFG_ENABLE = true → L.en.link = true → Does (.enLinkChange l t true q) l t s
        { L with en := { L.en with sqi := q.val, master := L.flag F.EN_CFG_ROLE } }) ∧
      (L.inActs .link 20 = true → ∀ q : Fin 8, L.flag F.EN_CFG_ENABLE = true → L.en.link = false → Does (.enLinkChange l t true q) l t s
        (({ L with en := { L.en with link := true, sqi := q.val, master := L.flag F.EN_CFG_ROLE } }).raise F.EN_EVENT_LINK_UP)) ∧
      (L.inActs .link 20 = true → ∀ (up : Bool) (q : Fin 8), L.en.link = true → up = false ∨ L.flag F.EN_CFG_ENABLE = false → Does (.enLinkChange l t up q) l t s
        (({ L with en := { L.en with link := false, sqi := 0 } }).raise F.EN_EVENT_LINK_DOWN)) ∧
      (L.inActs .link 20 = true → ∀ (up : Bool) (q : Fin 8), L.en.link = false → up = false ∨ L.flag F.EN_CFG_ENABLE = false →
        Does (.enLinkChange l t up q) l t s { L with en := { L.en with link := false, sqi := 0 } }) ∧
      (
        let K := L.sendAcks
        (∀ k, K.streamOn k = false → Does (.streamFrameSend l t k) l t s K) ∧
        (∀ k, K.enRoom = none → Does (.streamFrameSend l t k) l t s K) ∧
        (∀ k room, K.streamOn k = true → K.enRoom = some room →
          (K.streamNext k room = none → Does (.streamFrameSend l t k) l t s K) ∧
          (∀ o d M, K.streamNext k room = some (o, d, M) →
            (d ≠ [] → Does (.streamFrameSend l t k) l t s (M.enSend k o d)) ∧
            (d = [] → Does (.streamFrameSend l t k) l t s K))))
  )

/-- The operations of CF_OP (R431): refused while the flash is busy or hot, off their alignment or inside an owned range; accepted ones hold their
address and bytes until done, and then erase a sector or program the bytes. A length that
the register does not allow moves a number of bytes that the spec leaves open (log entry 93).
The event log (R362): the front record is written to flash when its temperature allows, with a record of what was dropped; a hot flash holds the
record back and is reported.
What rests here on a choice of the model and not on the spec alone: log entries 25 (DEDUCED), 26 (DEDUCED), 91 (DESIGN CHOICE), 93 (DESIGN
CHOICE), 94 (DEDUCED), 115 (DEDUCED). -/
def Obligations.FlashOperationsAndEventLog : Prop :=
  (
    ∀ (s : State) (l : LaneId) (t : Nat), let L := s.seen l t
      let a := (L.word F.CF_ADDR).toNat
      let n := (L.word F.CF_LEN).toNat
      (L.pairActs .core 7 = true → L.flashBusy = true ∨ L.th.flashOk = false ∨ a % 65536 ≠ 0 ∨ flashOwned a 65536 = true →
        Does (.cfErase l t) l t s ((L.raise F.CF_EVENT_REFUSED).bump F.CF_CNT_REFUSED)) ∧
      (L.pairActs .core 7 = true → L.flashBusy = false → L.th.flashOk = true → a % 65536 = 0 → flashOwned a 65536 = false →
        Does (.cfErase l t) l t s { L with lc := { L.lc with op := some (1, a, []) } }) ∧
      (L.pairActs .core 7 = true → n < 16 ∨ 4096 < n ∨ n % 16 ≠ 0 →
        let r := L.drawNat.1 % 4097
        let M := L.drawNat.2
        (L.flashBusy = true ∨ L.th.flashOk = false ∨ a % 16 ≠ 0 ∨ flashOwned a r = true →
          Does (.cfProgram l t) l t s ((L.raise F.CF_EVENT_REFUSED).bump F.CF_CNT_REFUSED)) ∧
        (L.flashBusy = false → L.th.flashOk = true → a % 16 = 0 → flashOwned a r = false →
          Does (.cfProgram l t) l t s { M with lc := { M.lc with op := some (2, a, M.bytes (M.word F.CF_SRC).toNat r) } })) ∧
      (L.pairActs .core 7 = true → 16 ≤ n → n ≤ 4096 → n % 16 = 0 →
        (L.flashBusy = true ∨ L.th.flashOk = false ∨ a % 16 ≠ 0 ∨ flashOwned a n = true →
          Does (.cfProgram l t) l t s ((L.raise F.CF_EVENT_REFUSED).bump F.CF_CNT_REFUSED)) ∧
        (L.flashBusy = false → L.th.flashOk = true → a % 16 = 0 → flashOwned a n = false →
          Does (.cfProgram l t) l t s { L with lc := { L.lc with op := some (2, a, L.bytes (L.word F.CF_SRC).toNat n) } })) ∧
      (L.acts .core 7 = true → L.lc.op = none → Does (.cfOpDone l t) l t s L) ∧
      (L.acts .core 7 = true → ∀ k x bs, L.lc.op = some (k, x, bs) → x < 0x08000000 ∨ 0x09800000 ≤ x →
        Does (.cfOpDone l t) l t s { L with lc := { L.lc with op := none } }) ∧
      (L.acts .core 7 = true → ∀ k x bs, L.lc.op = some (k, x, bs) → 0x08000000 ≤ x → x < 0x09800000 →
        let M : Lane := { L with lc := { L.lc with op := none } }
        (k = 1 → Does (.cfOpDone l t) l t s (M.eraseSector x)) ∧ (k ≠ 1 → Does (.cfOpDone l t) l t s (M.program x bs)))
  ) ∧
  (
    ∀ (s : State) (l : LaneId) (t : Nat), let L := s.seen l t
      L.acts .core 3 = true →
      (L.fc.queue = [] → Does (.logRecordWrite l t) l t s L) ∧
      (∀ r q, L.fc.queue = r :: q →
        (L.th.flashOk = false → Does (.logRecordWrite l t) l t s (L.raise F.FC_EVENT_TEMP_HOLD)) ∧
        (L.th.flashOk = true →
          let M := ({ L with fc := { L.fc with queue := q } }).writeRec r
          (M.fc.dropped = 0 → Does (.logRecordWrite l t) l t s M) ∧
          (M.fc.dropped ≠ 0 → Does (.logRecordWrite l t) l t s
            (({ M with fc := { M.fc with dropped := 0 } }).log 10 3 0xFF 0 0xFFFF [M.fc.dropped]))))
  )

/-! ### Fault hub -/

/-- A report of a checker (R350 to R355, R358): sources that do not exist, and injected reports that no armed injection causes, do nothing; any
other one is a fault of its class, without a unit index where its source has none; a report that follows from an injection uses one up first. -/
def Obligations.CheckerReports : Prop :=
  ∀ (s : State) (l : LaneId) (t : Nat) (x u : Nat), let L := s.seen l t
    L.acts .core (if srcClass x = 2 then 0xFF else 3) = true →
    (32 ≤ x → ∀ k, Does (.faultReport l t x u k) l t s L) ∧
    let i := if x ∈ [7, 8, 9, 10, 11, 12, 15, 27, 30, 31] then 0xFFFF else u
    (x < 32 → Does (.faultReport l t x u false) l t s (L.fault x i)) ∧
    (x < 32 → L.fc.injArm = false ∨ L.injReports x u = false → Does (.faultReport l t x u true) l t s L) ∧
    (x < 32 → L.fc.injArm = true → L.injReports x u = true → Does (.faultReport l t x u true) l t s (L.injTake.fault x i true))

/-- A fault of a fatal source outside a committed sleep entry (R351): ERR_OUT is forced, permission and key are gone, and the lane is Withdrawn
unless it was Off.
What rests here on a choice of the model and not on the spec alone: log entry 199 (DEDUCED). -/
def Obligations.FatalFaultWithdrawsTheLane : Prop :=
  ∀ (L : Lane) (x u : Nat), srcClass x = 2 → L.pm.phase = .none → L.ky.state ≠ .off →
    (L.fault x u).ky.state = .withdrawn ∧ (L.fault x u).fc.forced = true ∧
    (L.fc.forced = false → (L.fault x u).fc.pulse = none) ∧ (L.fault x u).sy.permit = false ∧
    (L.fault x u).ky.holder ≠ some (L.fault x u).id

/-- ERR_OUT and its registers (R353): a phase of a pulse lasts 10 µs, a releasing phase is followed by the pulse itself; FC_ERROUT writes HOLD, and
0 clears MERGED with its stuck flag, an increment of the same cycle counting into the cleared counter (R16).
Quiet periods (R355 to R357, R405, R440): one that no fault started changes nothing, and none ends before the 5 ns cycle of its end is over; that of
source 14 does not run while Tj stays at 130 °C or more and begins as Tj falls below; the end of a source's, of a withdrawal's (32) and of a failed
boot's (33) leaves the state, and where the hub resets the lane the cause and the source are recorded, 0xFF for one without a source.
What rests here on a choice of the model and not on the spec alone: log entries 4 (DESIGN CHOICE), 32 (DEDUCED), 126 (DEDUCED), 143
(DEDUCED), 199 (DEDUCED). -/
def Obligations.ErrOutAndQuietPeriods : Prop :=
  (
    ∀ (s : State) (l : LaneId) (t : Nat) (v : Word), let L := s.seen l t
      L.acts .core 3 = true →
      (L.fc.pulse = none → Does (.errOutPulseEnd l t) l t s L) ∧
      (∀ p, L.fc.pulse = some p →
        (L.now < p.began + us 10 → Does (.errOutPulseEnd l t) l t s L) ∧
        (p.began + us 10 ≤ L.now → p.releasing = true →
          Does (.errOutPulseEnd l t) l t s { L with fc := { L.fc with pulse := some { p with began := L.now, releasing := false } } }) ∧
        (p.began + us 10 ≤ L.now → p.releasing = false → Does (.errOutPulseEnd l t) l t s { L with fc := { L.fc with pulse := none } })) ∧
      (L.pairActs .core 3 = true →
        let M := L.setFld F.FC_ERROUT_HOLD (F.FC_ERROUT_HOLD.get v)
        let N := M.setFld F.FC_ERROUT_MERGED (b2n (F.FC_ERROUT_MERGED.get (BitVec.ofNat 32 (M.setNow (F.FC_ERROUT_MERGED.addr 0 0))) != 0))
        (F.FC_ERROUT_MERGED.get v ≠ 0 → Does (.fcErroutWrite l t v) l t s M) ∧
        (F.FC_ERROUT_MERGED.get v = 0 → Does (.fcErroutWrite l t v) l t s
          (N.setFld F.FC_STUCK_STUCK (putBit (N.fld F.FC_STUCK_STUCK) 4 false))))
  ) ∧
  (
    ∀ (s : State) (l : LaneId) (t : Nat) (x : Nat), let L := s.seen l t
      L.acts .core 3 = true →
      (x ≠ 32 → L.fc.quiet.find? (fun c => c.1 == x) = none → Does (.quietPeriodEnd l t x) l t s L) ∧
      (L.fc.wdrQuiet = none → Does (.quietPeriodEnd l t 32) l t s L) ∧
      (∀ e, L.fc.wdrQuiet = some e → L.now / 8 ≤ e / 8 → Does (.quietPeriodEnd l t 32) l t s L) ∧
      (∀ c, x ≠ 32 → L.fc.quiet.find? (fun c => c.1 == x) = some c → L.now / 8 ≤ c.2 / 8 → Does (.quietPeriodEnd l t x) l t s L) ∧
      (∀ M : Lane, M.srcBit F.FC_STATE 14 = true → M.srcBit F.FC_LATCH 14 = false →
        let others := M.fc.quiet.filter (fun (c : Nat × Nat) => c.1 != 14)
        (M.stillHot = true → M.hotQuiet = { M with fc := { M.fc with quiet := others } }) ∧
        (M.stillHot = false → M.fc.quiet.any (fun c => c.1 == 14) = false →
          M.hotQuiet = { M with fc := { M.fc with quiet := others ++ [(14, M.now + ms M.quietMs)] } }) ∧
        (M.stillHot = false → M.fc.quiet.any (fun c => c.1 == 14) = true → M.hotQuiet = M)) ∧
      (∀ c, x < 32 → L.fc.quiet.find? (fun c => c.1 == x) = some c → c.2 / 8 < L.now / 8 →
        ((L.quietEnd x).2 = false → Does (.quietPeriodEnd l t x) l t s (L.quietEnd x).1) ∧
        ((L.quietEnd x).2 = true → Does (.quietPeriodEnd l t x) l t s
          (((L.quietEnd x).1.rebootBy F.SY_RSTCAUSE_FAULT).setFld F.SY_RSTCAUSE_SOURCE x))) ∧
      (∀ e, L.fc.wdrQuiet = some e → e / 8 < L.now / 8 →
        (L.wdrEnd.2 = false → Does (.quietPeriodEnd l t 32) l t s L.wdrEnd.1) ∧
        (L.wdrEnd.2 = true → Does (.quietPeriodEnd l t 32) l t s
          ((L.wdrEnd.1.rebootBy F.SY_RSTCAUSE_FAULT).setFld F.SY_RSTCAUSE_SOURCE 0xFF))) ∧
      (∀ c, L.fc.quiet.find? (fun c => c.1 == 33) = some c → c.2 / 8 < L.now / 8 →
        (L.bootEnd.2 = false → Does (.quietPeriodEnd l t 33) l t s L.bootEnd.1) ∧
        (L.bootEnd.2 = true → Does (.quietPeriodEnd l t 33) l t s
          ((L.bootEnd.1.rebootBy F.SY_RSTCAUSE_FAULT).setFld F.SY_RSTCAUSE_SOURCE 0xFF)))
  )

/-- Fault injection and trapdoor (R358 to R360): arming writes the register's settings; it is denied for a checker that does not exist or where
injection is not allowed, and across lanes outside life-cycle Service; ARM 0 disarms. Trapdoor entries are writable in Blank alone. -/
def Obligations.InjectionArming : Prop :=
  ∀ (s : State) (l : LaneId) (t : Nat) (v : Word), let L := s.seen l t
    L.pairActs .core 3 = true →
    (
      let chk := F.FC_INJ_CHECKER.get v
      let M := ((L.setFld F.FC_INJ_CHECKER (if 17 < chk then L.fld F.FC_INJ_CHECKER else chk)).setFld F.FC_INJ_MODE
        (F.FC_INJ_MODE.get v)).setFld F.FC_INJ_COUNT (F.FC_INJ_COUNT.get v)
      (F.FC_INJ_ARM.get v = 0 → Does (.fcInjArm l t v) l t s (({ M with fc := { M.fc with injArm := false, injLeft := 0 } }).setFld F.FC_INJ_ARM 0)) ∧
      (F.FC_INJ_ARM.get v ≠ 0 → 17 < F.FC_INJ_CHECKER.get v ∨ M.injAllowed = false → Does (.fcInjArm l t v) l t s (M.raise F.FC_EVENT_INJ_DENIED)) ∧
      (F.FC_INJ_ARM.get v ≠ 0 → F.FC_INJ_CHECKER.get v ≤ 17 → M.injAllowed = true → Does (.fcInjArm l t v) l t s
        (({ M with fc := { M.fc with injArm := true, injLeft := M.fld1 F.FC_INJ_COUNT } }).setFld F.FC_INJ_ARM 1))) ∧
    (
      let M := ((((L.setFld F.FC_XINJ_ACTION (F.FC_XINJ_ACTION.get v)).setFld F.FC_XINJ_PORT (F.FC_XINJ_PORT.get v)).setFld F.FC_XINJ_CLASS
        (F.FC_XINJ_CLASS.get v)).setFld F.FC_XINJ_OFS (F.FC_XINJ_OFS.get v)).setFld F.FC_XINJ_COUNT (F.FC_XINJ_COUNT.get v)
      (F.FC_XINJ_ARM.get v = 0 → Does (.fcXinjArm l t v) l t s (({ M with fc := { M.fc with xinjLeft := 0 } }).setFld F.FC_XINJ_ARM 0)) ∧
      (F.FC_XINJ_ARM.get v ≠ 0 → M.lc.state ≠ .service → Does (.fcXinjArm l t v) l t s (M.raise F.FC_EVENT_INJ_DENIED)) ∧
      (F.FC_XINJ_ARM.get v ≠ 0 → M.lc.state = .service → Does (.fcXinjArm l t v) l t s
        (({ M with fc := { M.fc with xinjLeft := if F.FC_XINJ_ACTION.get v = 3 then 2 else M.fld1 F.FC_XINJ_COUNT } }).setFld F.FC_XINJ_ARM 1))) ∧
    (∀ e : Fin 8, L.lc.state ≠ .blank → Does (.fcTrapWrite l t e v) l t s L) ∧
    (∀ e : Fin 8, L.lc.state = .blank → Does (.fcTrapWrite l t e v) l t s
      ((((((L.setFld F.FC_TRAP_EN (F.FC_TRAP_EN.get v) 0 e).setFld F.FC_TRAP_VALUE (F.FC_TRAP_VALUE.get v) 0 e).setFld F.FC_TRAP_BIT
        (F.FC_TRAP_BIT.get v) 0 e).setFld F.FC_TRAP_BLOCK (F.FC_TRAP_BLOCK.get v) 0 e).setFld F.FC_TRAP_GROUP (F.FC_TRAP_GROUP.get v) 0 e).setFld
        F.FC_TRAP_OFFSET (F.FC_TRAP_OFFSET.get v / 4 * 4) 0 e))

/-! ### Compute section, application and self-test -/

/-- The helm pair's checkers (R328 to R331, R350): a mismatch of a pair that ran in this cycle is source 7 and halts it, a transaction not compared
within 1,024 cycles is one, the watchdog is source 9; an interrupt is taken with its retirement count where MEIP stands.
A helm pair that is halted, or that a sleep entry has stopped, issues nothing (R331, R390): each of the commands that are its own accesses leaves
the lane as it stands.
Claim, vector and completion (R332, R338, R339): a claim answers the highest source above the threshold with its level and number and makes it
active; what reaches the helm pair is recorded for its trail core; a completion ends the active source of its target and restores the stacked
threshold, an event of the same cycle stays pending; one that is not active there is ignored.
What rests here on a choice of the model and not on the spec alone: log entries 93 (DESIGN CHOICE), 106 (DESIGN CHOICE), 108 (DEDUCED), 110
(DEDUCED), 112 (DEDUCED), 116 (DEDUCED), 120 (DESIGN CHOICE), 143 (DEDUCED), 150 (DEDUCED), 186 (DESIGN CHOICE), 211 (DESIGN CHOICE). -/
def Obligations.HelmPairAndInterrupts : Prop :=
  (
    ∀ (s : State) (l : LaneId) (t : Nat) (n : Nat), let L := s.seen l t
      L.acts .core 0x20 = true →
      (L.pairRan = false → Does (.pairMismatch l t) l t s L) ∧
      (L.pairRan = true → Does (.pairMismatch l t) l t s (L.fault 7 0xFFFF)) ∧
      (1024 ≤ n → L.pairRan = true → Does (.compareTimeout l t n) l t s (L.fault 7 0xFFFF)) ∧
      Does (.watchdogExpiry l t) l t s (L.fault 9 0xFFFF) ∧
      (n < 1024 ∨ L.pairRan = false → Does (.compareTimeout l t n) l t s L) ∧
      (L.ic.halted = false → L.meip = true →
        Does (.interruptTake l t n) l t s { L with ic := { L.ic with retired := n, taken := (L.bestSrc false).map (fun x => (n, x)) } }) ∧
      (L.ic.halted = true ∨ L.meip = false → Does (.interruptTake l t n) l t s L)
  ) ∧
  (
    ∀ (s : State) (l : LaneId) (t : Nat) (g : Fin 16) (e : Fin 8) (p : Fin 2) (v : Word) (n a : Nat) (k : Bool) (x : StoreData), let L := s.seen l t
      L.ic.halted = true ∨ L.acts .core 0x20 = false →
      Does (.bench l t) l t s L ∧ Does (.readmit l t) l t s L ∧ Does (.release l t) l t s L ∧ Does (.lreset l t v) l t s L ∧
      Does (.setRef l t g) l t s L ∧ Does (.alignCapture l t g) l t s L ∧ Does (.lgCommit l t g) l t s L ∧ Does (.tripClr l t g) l t s L ∧
      Does (.dacRoute l t v) l t s L ∧ Does (.supplyEnableClear l t e) l t s L ∧ Does (.portEnable l t p) l t s L ∧ Does (.reopen l t n) l t s L ∧
      Does (.lnTxcommit l t k v) l t s L ∧ Does (.lnRxlock l t v) l t s L ∧ Does (.lnInjArm l t v) l t s L ∧ Does (.lnMreqGo l t v) l t s L ∧
      Does (.lnTimeRead l t k) l t s L ∧ Does (.cfErase l t) l t s L ∧ Does (.cfProgram l t) l t s L ∧ Does (.fcErroutWrite l t v) l t s L ∧
      Does (.fcInjArm l t v) l t s L ∧ Does (.fcXinjArm l t v) l t s L ∧ Does (.fcTrapWrite l t e v) l t s L ∧ Does (.icVectorRead l t) l t s L ∧
      Does (.icBudgetStart l t n) l t s L ∧ Does (.swset l t) l t s L ∧ Does (.doorbellY l t) l t s L ∧ Does (.yreset l t) l t s L ∧
      Does (.deep l t) l t s L ∧ Does (.stAbort l t) l t s L ∧ Does (.step l t) l t s L ∧ Does (.sleepHold l t) l t s L ∧
      Does (.sleepCellar l t) l t s L ∧ Does (.doze l t k) l t s L ∧ Does (.pmPadrel l t v) l t s L ∧ Does (.shutFlagClear l t) l t s L ∧
      Does (.clearWrap l t) l t s L ∧ Does (.atticClear l t) l t s L ∧ Does (.tlPeekRead l t) l t s L ∧ Does (.hpmCounterWrite l t n v) l t s L ∧
      Does (.registerWrite l t a x) l t s L
  ) ∧
  (
    ∀ (s : State) (l : LaneId) (t : Nat) (yard : Bool), let L := s.seen l t
      let answers (yard : Bool) (M : Lane) (w : Word) : Lane := if yard then { M with rdata := w, busErr := false } else M.leadRead w
      (L.acts .core 22 = true → yard = true ∨ L.ic.halted = false →
        (L.bestSrc yard = none → Does (.icClaim l t yard) l t s (answers yard L 0)) ∧
        (∀ n, L.bestSrc yard = some n → 7 ≤ (L.thrStack yard).length → Does (.icClaim l t yard) l t s (answers yard L 0)) ∧
        (∀ n, L.bestSrc yard = some n → (L.thrStack yard).length < 7 →
          let A := L.setThreshold yard (max (L.threshold yard) (L.srcLevel n)) (L.threshold yard :: L.thrStack yard)
          let B := ({ A with ic := { A.ic with active := n :: A.ic.active } }).tally 22 ((if yard then 8 else 0) + A.srcLevel n)
          Does (.icClaim l t yard) l t s (answers yard B (BitVec.ofNat 32 (2 ^ 31 + 256 * L.srcLevel n + n)))) ∧
        (∀ n, n ∉ L.ic.active ∨ L.srcTarget n ≠ yard → Does (.icComplete l t yard n) l t s L) ∧
        (∀ n, n ∈ L.ic.active → L.srcTarget n = yard → n ≠ 115 →
          let again := bit (L.setNow (F.IC_PEND.addr 0 (n / 32))) (n % 32)
          let M : Lane := { L with ic := { L.ic with active := L.ic.active.filter (fun x => x != n), latched := putBit L.ic.latched n again } }
          (M.thrStack yard = [] → Does (.icComplete l t yard n) l t s M) ∧
          (∀ x st, M.thrStack yard = x :: st → Does (.icComplete l t yard n) l t s (M.setThreshold yard x st))) ∧
        (115 ∈ L.ic.active → L.srcTarget 115 = yard → L.thrStack yard = [] → bit (L.setNow (F.IC_PEND.addr 0 3)) 19 = false →
          Does (.icComplete l t yard 115) l t s
            (({ L with ic := { L.ic with active := L.ic.active.filter (fun x => x != 115), latched := putBit L.ic.latched 115 false,
                                         mail := false } }).setFld F.IC_YARD_DOORBELL_Y 0))) ∧
      (L.acts .core 22 = true → L.ic.halted = true → Does (.icClaim l t false) l t s L ∧ ∀ n, Does (.icComplete l t false n) l t s L) ∧
      (L.pairActs .core 0x20 = true → Does (.icVectorRead l t) l t s
        ((L.claimSrc false).2.leadRead (BitVec.ofNat 32 (1024 * L.fld F.IC_VTAB_BASE + 4 * ((L.claimSrc false).1.getD 0)))))
  )

/-- The budget timer, software interrupt, doorbells and yard reset (R337, R345, R349).
The yard core's firewall (R348, R350): an access inside its ranges is none of its business; a refused one is counted, answered with a bus error
and 0; a thousand of them within 1 ms are source 27.
What rests here on a choice of the model and not on the spec alone: log entries 25 (DEDUCED), 26 (DEDUCED), 47 (DEDUCED), 112 (DEDUCED), 196
(DESIGN CHOICE). -/
def Obligations.YardCoreAndDoorbells : Prop :=
  (
    ∀ (s : State) (l : LaneId) (t : Nat) (n : Nat), let L := s.seen l t
      (L.pairActs .core 0x20 = true →
        (n % 2 ^ 24 = 0 → Does (.icBudgetStart l t n) l t s { L with ic := { L.ic with budgetEnd := none, appBudget := false } }) ∧
        (n % 2 ^ 24 ≠ 0 → Does (.icBudgetStart l t n) l t s { L with ic := { L.ic with budgetEnd := some (L.now + 8 * (n % 2 ^ 24)), appBudget := false } }) ∧
        Does (.doorbellY l t) l t s ((L.raise F.IC_YARD_DOORBELL_Y).latchSrc 115) ∧
        Does (.yreset l t) l t s L.yardReset) ∧
      (L.acts .core 0x20 = true →
        (L.ic.budgetEnd = none → Does (.budgetExpiry l t) l t s L) ∧
        (∀ d, L.ic.budgetEnd = some d → L.now < d → Does (.budgetExpiry l t) l t s L) ∧
        (∀ d, L.ic.budgetEnd = some d → d ≤ L.now →
          let M := ({ L with ic := { L.ic with budgetEnd := none, appBudget := false } }).latchSrc 117
          (L.ic.appBudget = false ∨ (L.ic.window = false ∧ L.ic.init = false) → Does (.budgetExpiry l t) l t s M) ∧
          (L.ic.appBudget = true → L.ic.window = true ∨ L.ic.init = true → Does (.budgetExpiry l t) l t s (M.appAbort 0)))) ∧
      (L.pairActs .core 22 = true → Does (.swset l t) l t s (L.latchSrc 116)) ∧
      (L.acts .core 0x21 = true →
        (L.yardRuns = true → Does (.doorbellH l t) l t s (L.latchSrc 114)) ∧ (L.yardRuns = false → Does (.doorbellH l t) l t s L))
  ) ∧
  (
    ∀ (s : State) (l : LaneId) (t : Nat), let L := s.seen l t
      L.acts .core 0x21 = true →
      (∀ a w, L.yardRuns = false ∨ yardMay a w = true → Does (.yardFirewallRefuse l t a w) l t s L) ∧
      (∀ a w, L.yardRuns = true → yardMay a w = false →
        let M := (L.raise F.IC_YARD_FW_ERR).bump F.IC_YARD_FW_CNT
        Does (.yardFirewallRefuse l t a w) l t s
          { M with rdata := 0, busErr := true, ic := { M.ic with refused := (M.now :: M.ic.refused.filter (fun x => decide (M.now < x + ms 1))).take 1000 } }) ∧
      ((L.ic.refused.filter (fun x => decide (L.now < x + ms 1))).length < 1000 → Does (.firewallStorm l t) l t s L) ∧
      (1000 ≤ (L.ic.refused.filter (fun x => decide (L.now < x + ms 1))).length →
        Does (.firewallStorm l t) l t s (({ L with ic := { L.ic with refused := [] } }).fault 27 0xFFFF))
  )

/-- The application's calls (R347): four log records a tick, tallies with its permission, one message at a time from its own memory; a call
outside these is refused, and none does anything while no application runs. TICK_DONE takes the outputs as setpoints and sends them, and the
holder's shelf carries its words; an exception in user mode and a demand that is no finite number abort the tick (R345). In its init entry it ends that instead (the model's choice,
log entry 196).
What rests here on a choice of the model and not on the spec alone: log entries 47 (DEDUCED), 110 (DEDUCED), 115 (DEDUCED), 183 (DESIGN
CHOICE), 196 (DESIGN CHOICE). -/
def Obligations.ApplicationCalls : Prop :=
  ∀ (s : State) (l : LaneId) (t : Nat), let L := s.seen l t
    L.acts .core 0x20 = true → L.runtime = true →
    (L.appRuns = false → ∀ a b w x, Does (.log l t x w) l t s L ∧ Does (.tally l t a b) l t s L ∧ Does (.mail l t a b) l t s L ∧
      Does (.tickDone l t) l t s L) ∧
    (L.appRuns = true →
      (∀ w, Does (.log l t .unlisted w) l t s L.refuseCall ∧ Does (.log l t .exception w) l t s (L.appAbort 1)) ∧
      (∀ c w, 4 ≤ L.ic.logCalls → Does (.log l t (.log c) w) l t s L.refuseCall) ∧
      (∀ c w, L.ic.logCalls < 4 → Does (.log l t (.log c) w) l t s
        (({ L with ic := { L.ic with logCalls := L.ic.logCalls + 1, a0 := 0 } }).log 6 3 0xFF 0 0xFFFF [c % 65536, w.toNat])) ∧
      (∀ b i, bit ((L.ic.app.getD (0, 0)).2) 0 = false → Does (.tally l t b i) l t s L.refuseCall) ∧
      (∀ b i, bit ((L.ic.app.getD (0, 0)).2) 0 = true → b ≤ 22 → i < 64 → Does (.tally l t b i) l t s
        { L with ic := { L.ic with a0 := BitVec.ofNat 32 (cellGet 0 L.tl.snap (64 * b + i)),
                                   a1 := BitVec.ofNat 32 (cellGet 0 L.tl.snap (64 * b + i) / 2 ^ 32 % 65536) } }) ∧
      (∀ a n, L.ic.mail = true ∨ n = 0 ∨ 256 < n ∨ a < 0x202E0000 ∨ 0x20300000 < a + n → Does (.mail l t a n) l t s L.refuseCall) ∧
      (∀ a n, L.ic.mail = false → 0 < n → n ≤ 256 → 0x202E0000 ≤ a → a + n ≤ 0x20300000 → Does (.mail l t a n) l t s
        ((({ L with ic := { L.ic with mail := true, a0 := 0 } }).setBytes 0x2403F000 (L.bytes a n)).doorbellY)) ∧
      (L.ic.init = true → Does (.tickDone l t) l t s { L with ic := { L.ic with init := false, budgetEnd := none, appBudget := false } }) ∧
      (L.ic.init = false → (List.range 16).any (fun n => L.owned n && !(f32finite (L.outWord (8 * n)))) = true → Does (.tickDone l t) l t s (L.appAbort 2)) ∧
      (L.ic.init = false → (List.range 16).any (fun n => L.owned n && !(f32finite (L.outWord (8 * n)))) = false →
        let A : Lane := { L with ic := { L.ic with window := false, abortRun := 0, budgetEnd := none, appBudget := false } }
        let B : Lane := { A with ky := { A.ky with own := A.appSetpoints } }
        let C := (B.setFld F.EG_VOTE_OWN_VOTE (if B.ky.state = .service then B.ky.own.release else 0)).sendSetpoints
        let ws := (List.range 64).map (fun i => C.outWord (0x80 + 4 * i))
        let D := C.setWords F.KY_SHELF_OUT 0xC0 ws
        (C.ky.holder ≠ some C.id → Does (.tickDone l t) l t s C) ∧
        (C.ky.holder = some C.id → D.out.shelf = none → Does (.tickDone l t) l t s D) ∧
        (∀ f, C.ky.holder = some C.id → D.out.shelf = some f → Does (.tickDone l t) l t s
          { D with out := { D.out with shelf := some { f with words := f.words.take 0xC0 ++ ws } } })))

/-- Self-test (R364 to R374): a slice starts with the token, in a tick with room for it, on the next unit of the program while its domain runs and its gap is free; in Booting a lane that has
entered its runtime and hears a sibling is in its start-up program; a deep run in Bench, a
periodic run when its cycle is over, single steps where direct operation is allowed; an abort waits for the slice; a lost token is created anew after 1 ms.
The end of a slice (R364): not before its length has passed; a slice that passed but is not its unit's last keeps the unit at the front and its
time shown; the last one, or a failed one, gives the unit its result. A duplicated unit passes by the boot ROM's signature, and its copies act in turn (R366).
What rests here on a choice of the model and not on the spec alone: log entries 25 (DEDUCED), 26 (DEDUCED), 118 (DEDUCED), 119 (DEDUCED),
141 (DEDUCED), 202 (DEDUCED). -/
def Obligations.SelfTestRunsAndSlices : Prop :=
  (
    ∀ (s : State) (l : LaneId) (t : Nat), let L := s.seen l t
      L.acts .core 4 = true →
      (L.ky.state = .booting → L.lc.booted = true → L.ic.halted = false → L.hears = true → L.st.prog = .idle → L.st.passed = false →
        L.startUpRun = L.startProgram .startUp) ∧
      (L.ky.state ≠ .booting → L.startUpRun = L) ∧
      (∀ n, L.startUpRun.skipContinuous.st.todo = [] → Does (.sliceStart l t n) l t s L.startUpRun.skipContinuous) ∧
      (∀ n u us_,
        let M := L.startUpRun.skipContinuous
        M.st.todo = u :: us_ → M.st.holds = true → M.st.slice = none → M.st.prog ≠ .idle → M.ky.state ≠ .withdrawn → M.ky.state ≠ .off →
        0 < n → n ≤ 50 → M.now + us (n + 3) ≤ M.ky.boundary + us 50 →
        (M.powered (unitDomain u) = true → M.gapFree u n = true →
          let x : SliceS := { unit := u, began := M.now, len := n, group := M.st.replay, inputs := none, copy := bit M.st.copy u }
          Does (.sliceStart l t n) l t s (({ M with st := { M.st with slice := some x, unit := u } }).setFld F.ST_UNIT_STATUS 3 0 u)) ∧
        (M.powered (unitDomain u) = false ∨ M.gapFree u n = false → Does (.sliceStart l t n) l t s M)) ∧
      (L.pairActs .core 4 = true → L.ky.state = .bench → L.st.prog = .idle → Does (.deep l t) l t s (L.startProgram .deep)) ∧
      (L.pairActs .core 4 = true → L.ky.state ≠ .bench ∨ L.st.prog ≠ .idle → Does (.deep l t) l t s L) ∧
      (L.pairActs .core 4 = true → L.st.prog = .idle → Does (.stAbort l t) l t s L) ∧
      (L.pairActs .core 4 = true → L.st.prog ≠ .idle → L.st.slice.isSome = true → Does (.stAbort l t) l t s { L with st := { L.st with abortReq := true } }) ∧
      (L.pairActs .core 4 = true → L.st.prog ≠ .idle → L.st.slice = none → Does (.stAbort l t) l t s L.endRun) ∧
      (L.pairActs .core 4 = true → L.st.prog ≠ .idle → L.directAllowed = true → L.flag F.ST_CTRL_DIRECT = true → Does (.step l t) l t s L) ∧
      (L.pairActs .core 4 = true → L.directAllowed = false ∨ L.flag F.ST_CTRL_DIRECT = false → Does (.step l t) l t s (L.raise F.ST_EVENT_DENIED)) ∧
      (L.pairActs .core 4 = true → ∀ u, L.directAllowed = true → L.flag F.ST_CTRL_DIRECT = true → L.st.prog = .idle → (List.range 51).find? (fun u => bit L.selected u) = some u →
        Does (.step l t) l t s { L with st := { L.st with prog := .direct, todo := [u], spent := 0, runFail := false, abortReq := false } }) ∧
      (L.flag F.ST_CTRL_PERIODIC = false ∨ L.inSvcShadow = false ∨ L.now < L.st.cycleAt + sec L.st.cycleLen → Does (.periodicRunStart l t) l t s L) ∧
      (L.flag F.ST_CTRL_PERIODIC = true → L.inSvcShadow = true → L.st.cycleAt + sec L.st.cycleLen ≤ L.now → L.st.prog = .idle →
        Does (.periodicRunStart l t) l t s ({ L with st := { L.st with cycleAt := L.now } }).startPeriodic) ∧
      (L.flag F.ST_CTRL_PERIODIC = true → L.inSvcShadow = true → L.st.cycleAt + sec L.st.cycleLen ≤ L.now → L.st.prog = .periodic →
        Does (.periodicRunStart l t) l t s
          ((({ L with st := { L.st with cycleAt := L.now, late := true } }).raise F.ST_EVENT_CYCLE_LATE).bump F.ST_CNT_CYCLE_LATE)) ∧
      (L.st.holds = true ∨ L.ky.state = .off ∨ L.now < L.st.lastPass + ms 1 ∨ L.tokenMaker = false ∨ (L.ky.state ≠ .service ∧ L.hears = false) → Does (.tokenCreate l t) l t s L) ∧
      (L.st.holds = false → L.ky.state = .service ∨ (L.ky.state ≠ .off ∧ L.hears = true) → L.st.lastPass + ms 1 ≤ L.now → L.tokenMaker = true →
        let n := (L.st.num + 1) % 65536
        Does (.tokenCreate l t) l t s (({ L with st := { L.st with
          num := n, holder := L.id.index, holds := true, lastHeld := L.st.lastHeld.set L.id.index n, lastPass := L.now } }).raise F.ST_EVENT_TOKEN_NEW))
  ) ∧
  (
    ∀ (s : State) (l : LaneId) (t : Nat) (sig : Word), let L := s.seen l t
      L.acts .core 4 = true →
      (L.st.slice = none → ∀ p k, Does (.sliceEnd l t p k sig) l t s L) ∧
      (∀ x, L.st.slice = some x →
        (L.now < x.began + us x.len → ∀ p k, Does (.sliceEnd l t p k sig) l t s L) ∧
        (x.began + us x.len ≤ L.now → signatureUnit x.unit = true → L.st.prog = .direct → L.st.abortReq = false → ∀ p,
          let A := L.tally 4 0
          let B := ({ A with st := { A.st with
            slice := none, spent := L.st.spent + x.len, copy := putBit A.st.copy x.unit (!(bit A.st.copy x.unit)) } }).setWord F.ST_SIG
              (Config.lbistSig dieSet x.unit) 0 x.unit
          let C := B.setWord F.ST_DUR (BitVec.ofNat 32 (L.st.spent + x.len)) 0 x.unit
          Does (.sliceEnd l t p false (Config.lbistSig dieSet x.unit)) l t s { C with st := { C.st with prog := .idle, todo := [] } }) ∧
        (x.began + us x.len ≤ L.now → signatureUnit x.unit = false → L.st.prog = .direct → L.st.abortReq = false →
          let A := L.tally 4 0
          let B (spent : Nat) (todo : List Nat) : Lane := { A with st := { A.st with slice := none, spent := spent, todo := todo } }
          let C := (B (L.st.spent + x.len) A.st.todo).setWord F.ST_DUR (BitVec.ofNat 32 (L.st.spent + x.len)) 0 x.unit
          let D := ((B 0 (A.st.todo.drop 1)).unitResult x.unit 1 ((B 0 (A.st.todo.drop 1)).covOf x.unit) (L.st.spent + x.len)).when
            ((B 0 (A.st.todo.drop 1)).st.prog != .startUp) (·.setFailed x.unit false)
          (C.st.prog = .direct → C.st.abortReq = false →
            Does (.sliceEnd l t true false sig) l t s { C with st := { C.st with prog := .idle, todo := [] } }) ∧
          (D.st.prog = .direct → D.st.abortReq = false →
            Does (.sliceEnd l t true true sig) l t s { D with st := { D.st with prog := .idle, todo := [] } })))
  )

/-! ### Power, tallies and the register bus -/

/-- Asking for sleep (R388, R390): PM_CMD is ignored while an entry or a wake runs and denied outside Bench; else the blocks are asked in stop
order. PM_CTRL.DOZE is written and acts at the next boundary; PM_PADREL releases the pads of its domains (R395).
Prepare and drain (R390 to R393): a wake source refuses for the lane, a block with cause refuses for itself and is rolled back with those before
it, and one silent for 100 µs counts as refusing; the last acknowledgement commits the entry. The drain counts what completed and reports what did not, with a bus error and without a frame half written into the link buffers (R393).
What rests here on a choice of the model and not on the spec alone: log entries 25 (DEDUCED), 26 (DEDUCED), 107 (DEDUCED), 108 (DEDUCED),
206 (DEDUCED). -/
def Obligations.SleepIsPreparedInBench : Prop :=
  (
    ∀ (s : State) (l : LaneId) (t : Nat), let L := s.seen l t
      L.pairActs .core 1 = true →
      (
        let asked (k : Bool) : Lane := { L with pm := { L.pm with
          level := .entering, fromDoze := L.pm.level == .doze, phase := .prepare, cellar := k, ask := stopOrder k, acked := [], askedAt := L.now, phaseAt := L.now, wakes := 0 } }
        (L.pm.level = .awake ∨ L.pm.level = .doze →
          (L.ky.state = .bench → Does (.sleepHold l t) l t s (asked false) ∧ Does (.sleepCellar l t) l t s (asked true)) ∧
          (L.ky.state ≠ .bench → Does (.sleepHold l t) l t s (L.raise F.PM_EVENT_DENIED) ∧ Does (.sleepCellar l t) l t s (L.raise F.PM_EVENT_DENIED)))) ∧
      (L.pm.level ≠ .awake → L.pm.level ≠ .doze → Does (.sleepHold l t) l t s L ∧ Does (.sleepCellar l t) l t s L) ∧
      (∀ on : Bool, Does (.doze l t on) l t s (L.setFld F.PM_CTRL_DOZE (b2n on))) ∧
      (∀ v : Word, Does (.pmPadrel l t v) l t s
        { L with pm := { L.pm with pads := (List.range 4).foldl (fun (n : Nat) i => if bit v.toNat i then putBit n i false else n) L.pm.pads } })
  ) ∧
  (
    ∀ (s : State) (l : LaneId) (t : Nat), let L := s.seen l t
      (L.pm.phase ≠ .prepare → ∀ k, Does (.prepareAnswer l t k) l t s L ∧ Does (.prepareTimeout l t) l t s L) ∧
      (L.pm.phase = .prepare → ∀ k,
        (L.wakeActive = true → Does (.prepareAnswer l t k) l t s (L.refuse 0x22 6)) ∧
        (L.wakeActive = false → ∀ b r, L.pm.ask = b :: r → b ≠ 4 ∨ L.st.slice = none →
          (L.refusal b k ≠ 0 → Does (.prepareAnswer l t k) l t s (L.refuse b (L.refusal b k))) ∧
          (L.refusal b k = 0 → r ≠ [] → Does (.prepareAnswer l t k) l t s
            { L with pm := { L.pm with ask := r, acked := b :: L.pm.acked, askedAt := L.now, phase := .prepare } }) ∧
          (L.refusal b k = 0 → r = [] → Does (.prepareAnswer l t k) l t s
            { L with pm := { L.pm with ask := [], acked := b :: L.pm.acked, askedAt := L.now, phase := .drain, phaseAt := L.now } }))) ∧
      (L.pm.phase = .prepare →
        (L.now < L.pm.askedAt + us 100 → Does (.prepareTimeout l t) l t s L) ∧
        (L.pm.askedAt + us 100 ≤ L.now → Does (.prepareTimeout l t) l t s (L.refuse (L.pm.ask.headD 0xFF) 7))) ∧
      (∀ n, L.pm.phase ≠ .drain → ∀ xs, Does (.drainExpiry l t n xs) l t s L) ∧
      (∀ n, L.pm.phase = .drain →
        Does (.drainExpiry l t n []) l t s { L.tally 1 4 n with pm := { (L.tally 1 4 n).pm with phase := .save, phaseAt := (L.tally 1 4 n).now } }) ∧
      (∀ n xs, L.pm.phase = .drain → xs ≠ [] → L.now < L.pm.phaseAt + us 50 → Does (.drainExpiry l t n xs) l t s L) ∧
      (∀ n xs, L.pm.phase = .drain → xs ≠ [] → L.pm.phaseAt + us 50 ≤ L.now →
        let M := xs.foldl (fun (L : Lane) a =>
          let N : Lane := { L.when (decide (0x22000000 ≤ a ∧ a < 0x22100000)) (·.dropFrame a) with rdata := 0, busErr := true }
          (((N.raise F.PM_EVENT_ABORT).setWord F.PM_ABORT (BitVec.ofNat 32 a)).bump F.PM_CNT_ABORT_CNT).tally 1 5) (L.tally 1 4 n)
        Does (.drainExpiry l t n xs) l t s { M with pm := { M.pm with phase := .save, phaseAt := M.now } })
  )

/-- Save, final window and wake (R394 to R400): the saved registers and the configuration digest go to the larder, the pads keep their levels and the
domains go off; 5.5 µs later the lane sleeps, unless a wake source stands. A safety input that is enabled and has stood for 1 ms, and the supply once it
has returned, wake it from Hold and Cellar and refuse during prepare (their levels come by the model's codes, log entry 205); a wake that completes
enters the lane again with or without its save, and one whose slot does not verify fails as a fatal fault.
Held pads (R395): what comes in on the pads of a domain that holds them does nothing.
The standby link and heat in sleep (R396, R405, R407): only its own address is acknowledged, none in the final window; a read gives the report;
a hot cellar sets the shutdown flag with source 14; the flag clears below 130.0 °C alone, and not in the cycle that sets it (R13).
What rests here on a choice of the model and not on the spec alone: log entries 4 (DESIGN CHOICE), 32 (DEDUCED), 33 (DEDUCED), 35 (DEDUCED),
59 (DEDUCED), 87 (DEDUCED), 105 (DEDUCED), 106 (DESIGN CHOICE), 108 (DEDUCED), 109 (DEDUCED), 110 (DEDUCED), 115 (DEDUCED), 139 (DEDUCED),
143 (DEDUCED), 171 (DESIGN CHOICE), 205 (DESIGN CHOICE). -/
def Obligations.SaveWakeAndStandby : Prop :=
  (
    ∀ (s : State) (l : LaneId) (t : Nat), let L := s.seen l t
      let asleep : Prop := L.pm.level = .hold ∨ L.pm.level = .cellar
      (L.pm.phase ≠ .save → Does (.larderSaveDone l t) l t s L) ∧
      (L.pm.phase = .save → Does (.larderSaveDone l t) l t s
        { L.powerDown L.pm.cellar with pm := { L.pm with
          phase := .window, phaseAt := L.now, saved := some (L.savedRegs L.pm.cellar, L.lc.digest), vinLow := none, vinBack := false
          pads := if L.pm.cellar then 15 else 11, held := L.heldNow } }) ∧
      (L.pm.phase ≠ .window ∨ L.now < L.pm.phaseAt + ns 5500 → Does (.finalWindowEnd l t) l t s L) ∧
      (L.pm.phase = .window → L.pm.phaseAt + ns 5500 ≤ L.now →
        let A : Lane := { L with pm := { L.pm with level := if L.pm.cellar then .cellar else .hold, phase := .none, entered := L.now, ask := [], acked := [] } }
        let B := A.tally 1 (if A.pm.cellar then 2 else 1)
        (B.pm.wakes = 0 → Does (.finalWindowEnd l t) l t s B) ∧ (B.pm.wakes ≠ 0 → Does (.finalWindowEnd l t) l t s B.startWake)) ∧
      (∀ i, i < 16 →
        (bit (L.fld F.PM_WAKE_INPUT) i = true → L.inputStands i = true →
          (L.pm.phase = .prepare → Does (.wakeSource l t i) l t s (L.refuse 0x22 6)) ∧
          (L.pm.phase = .none → asleep → Does (.wakeSource l t i) l t s ({ L with pm := { L.pm with wakes := putBit L.pm.wakes i true } }).startWake) ∧
          (L.pm.phase = .none → L.pm.level = .awake ∨ L.pm.level = .doze → Does (.wakeSource l t i) l t s L)) ∧
        (bit (L.fld F.PM_WAKE_INPUT) i = false ∨ L.inputStands i = false → Does (.wakeSource l t i) l t s L) ∧
        Does (.wakeSource l t (32 + 2 * i)) l t s { L with pm := { L.pm with inHigh := L.pm.inHigh.set i none } } ∧
        Does (.wakeSource l t (33 + 2 * i)) l t s
          { L with pm := { L.pm with inHigh := L.pm.inHigh.set i (some ((L.pm.inHigh.getD i none).getD L.now)) } }) ∧
      (∀ i, i = 16 ∨ i = 17 ∨ (18 < i ∧ i < 32) → Does (.wakeSource l t i) l t s L) ∧
      (L.flag F.PM_WAKE_SUPPLY = false ∨ L.asleep = false ∨ L.supplyBack = false → Does (.wakeSource l t 18) l t s L) ∧
      (L.flag F.PM_WAKE_SUPPLY = true → L.supplyBack = true → L.pm.phase = .none → asleep → Does (.wakeSource l t 18) l t s
        ({ L with pm := { L.pm with wakes := putBit L.pm.wakes 18 true } }).startWake) ∧
      (∀ v, let M := L.seeSupply v
        (M.flag F.PM_WAKE_SUPPLY = false ∨ M.asleep = false ∨ M.supplyBack = false → Does (.wakeSource l t (64 + v)) l t s M) ∧
        (M.flag F.PM_WAKE_SUPPLY = true → M.supplyBack = true → L.pm.phase = .none → asleep → Does (.wakeSource l t (64 + v)) l t s
          ({ M with pm := { M.pm with wakes := putBit M.pm.wakes 18 true } }).startWake)) ∧
      ((L.word F.PM_TIMER).toNat = 0 → Does (.wakeTimer l t) l t s L) ∧
      ((L.word F.PM_TIMER).toNat ≠ 0 → L.pm.phase = .none → asleep → L.pm.entered + L.cellarTime (ms (L.word F.PM_TIMER).toNat) ≤ L.now →
        Does (.wakeTimer l t) l t s ({ L with pm := { L.pm with wakes := putBit L.pm.wakes 17 true } }).startWake) ∧
      (∀ a b n, L.pm.level ≠ .waking → Does (.wakeComplete l t a b n) l t s L) ∧
      (∀ a n, L.pm.level = .waking →
        let M := L.wakeRestore a
        Does (.wakeComplete l t a true n) l t s (M.wakeEnter (a && (L.pm.saved.getD ([], [])).2 == L.lc.digest) L.pm.cellar n) ∧
        Does (.wakeComplete l t a false n) l t s
          (((({ M with ic := { M.ic with halted := true } }).raise F.FC_EVENT_FATAL).log 0 2 0xFF 0 0xFFFF []).bootFail))
  ) ∧
  (
    ∀ (s : State) (l : LaneId) (t : Nat) (g : Fin 16) (k : Fin 4) (j : Fin 3) (p : Fin 2) (b c : Bool) (n m : Nat) (x : Option Nat) (cs : List Nat)
      (bs ds es hs is fs : List Byte) (z : IncrLevels) (f : LnFrame) (q : Fin 8), let L := s.seen l t
      (L.padsHeld .drive = true →
        Does (.switchingNodeEdge l t g k b x cs) l t s L ∧ Does (.ssiTransfer l t g b) l t s L ∧ Does (.ssiTransferDone l t g n b c) l t s L ∧
        Does (.incrementalEdge l t g z n) l t s L ∧ Does (.zEdge l t ⟨g, n⟩) l t s L ∧ Does (.hallChange l t g ⟨n, m⟩) l t s L ∧
        Does (.lineFault l t g j) l t s L ∧ Does (.overcurrentTrip l t g cs cs cs) l t s L) ∧
      (L.padsHeld .field = true → Does (.inputSample l t n) l t s L ∧ Does (.testSample l t k n) l t s L) ∧
      (L.padsHeld .link = true →
        Does (.lnFrameReceive l t p f) l t s L ∧ Does (.collision l t p) l t s L ∧ Does (.coldStartCollision l t) l t s L ∧
        Does (.canFrameReceive l t b c n bs) l t s L ∧ Does (.busOff l t) l t s L ∧ Does (.imageFrameReceive l t bs ds es hs is fs) l t s L ∧
        Does (.enLinkChange l t b q) l t s L)
  ) ∧
  (
    ∀ (s : State) (l : LaneId) (t : Nat), let L := s.seen l t
      (∀ a n, L.flag F.SB_CFG_ENABLE = false ∨ L.sbParam = true ∨ a ≠ L.fld F.SB_CFG_ADDR → Does (.sbAddressMatch l t a n) l t s L) ∧
      (∀ n, L.flag F.SB_CFG_ENABLE = true → L.sbParam = false →
        (L.pm.phase = .window → Does (.sbAddressMatch l t (L.fld F.SB_CFG_ADDR) n) l t s (L.raise F.SB_EVENT_WINDOW_NACK)) ∧
        (L.pm.phase ≠ .window →
          let M := ((L.raise F.SB_EVENT_MATCH).tally 21 0).tally 21 1 n
          Does (.sbAddressMatch l t (L.fld F.SB_CFG_ADDR) n) l t s (M.when (M.flag F.PM_WAKE_SB) (fun L => L.wakeBy 16)))) ∧
      (∀ n, L.flag F.SB_CFG_ENABLE = false ∨ L.sbParam = true ∨ L.pm.phase = .window → Does (.sbRead l t n) l t s L) ∧
      (∀ n, L.flag F.SB_CFG_ENABLE = true → L.sbParam = false → L.pm.phase ≠ .window → Does (.sbRead l t n) l t s
        { L.tally 21 2 n with
          rdata := BitVec.ofNat 32 (leNat (([BitVec.ofNat 8 L.sbByte0, BitVec.ofNat 8 L.sbByte1, 0xFF, 0xFF] : List Byte).take n)) }) ∧
      (L.pm.level = .hold ∨ L.pm.level = .cellar → Does (.cellarOvertemp l t) l t s 
        ((({ L with th := { L.th with shutdown := true, wasReset := false } } : Lane).raise F.TH_STATUS_SHUT_FLAG).fault 14 0xFFFF)) ∧
      (L.pm.level ≠ .hold → L.pm.level ≠ .cellar → Does (.cellarOvertemp l t) l t s L) ∧
      (L.pairActs .core 2 = true →
        (∀ x, L.tj = some x → x < 1300 → L.setNow (F.TH_STATUS_SHUT_FLAG.addr 0 0) = 0 →
          Does (.shutFlagClear l t) l t s (L.setFld F.TH_STATUS_SHUT_FLAG 0)) ∧
        (L.setNow (F.TH_STATUS_SHUT_FLAG.addr 0 0) ≠ 0 → Does (.shutFlagClear l t) l t s L) ∧
        (∀ x, L.tj = some x → 1300 ≤ x → Does (.shutFlagClear l t) l t s L) ∧
        (L.tj = none → Does (.shutFlagClear l t) l t s L))
  )

/-- Tallies and attic (R375 to R383): at the boundary that ends it a window latches all tallies, without the counts of that cycle, with the device time; the snapshot
then becomes readable with its measurements; CLEAR_WRAP keeps counts alone, with the wraps of its own cycle; a peek gives the low word and holds
the high one; the attic samples every PERIOD-th chosen event.
Core counters (R381): the low and the high half of mhpmcounter3 to 31, to which the counts of the same cycle are added and which leave the wrap
flag and count as they were and read back, and their event selections, where a selection that counts nothing is kept as such.
What rests here on a choice of the model and not on the spec alone: log entries 24 (DESIGN CHOICE), 25 (DEDUCED), 26 (DEDUCED), 53
(DEDUCED), 91 (DESIGN CHOICE), 143 (DEDUCED), 150 (DEDUCED), 195 (DESIGN CHOICE). -/
def Obligations.TalliesAtticAndCoreCounters : Prop :=
  (
    ∀ (s : State) (l : LaneId) (t : Nat), let L := s.seen l t
      let since := (L.ky.tick + 2 ^ 32 - L.tl.windowAt) % 2 ^ 32
      L.acts .core 5 = true →
      (∀ xs, L.nowCycle L.ky.boundary = false ∨ since < L.tl.windowLen → Does (.tallyWindowEnd l t xs) l t s L) ∧
      (∀ xs, L.nowCycle L.ky.boundary = true → L.tl.windowLen ≤ since →
        let M := L.tallyOutside xs
        Does (.tallyWindowEnd l t xs) l t s
          { M with tl := { M.tl with
            latch := some (M.devTime, (L.tallyUndo.tallyOutside xs).tl.live), snapLen := M.tl.windowLen / 20, windowAt := M.ky.tick,
            windowLen := 20 * M.windowMs } }) ∧
      (L.tl.latch = none → Does (.snapshotReady l t) l t s L) ∧
      (∀ x, L.tl.latch = some x →
        let A : Lane := { L with tl := { L.tl with prev := L.tl.snap, snap := x.2, snapTime := x.1, latch := none } }
        let B := (List.range 10).foldl (fun (L : Lane) k => L.setF32 F.TL_BW (L.bandwidth k) 0 k) A
        let C := (List.range 8).foldl (fun (L : Lane) k => L.setFld F.TL_TD_SHARE (L.slotShare (k / 4) (k % 4)) 0 k) B
        let D := (C.setWord F.TL_SNAPNUM (C.word F.TL_SNAPNUM + 1)).raise F.TL_EVENT_SNAP
        (D.streamOn 1 = false → Does (.snapshotReady l t) l t s D) ∧
        (D.streamOn 1 = true → D.en.snapOut.isSome = true → Does (.snapshotReady l t) l t s ((D.raise F.TL_EVENT_SKIP).bump F.TL_CNT_SKIP)) ∧
        (D.streamOn 1 = true → D.en.snapOut = none → Does (.snapshotReady l t) l t s { D with en := { D.en with snapOut := some (0, D.snapObject) } })) ∧
      (L.pairActs .core 5 = true → Does (.clearWrap l t) l t s
        { L with tl := { L.tl with live := L.wrapsNow (countsOnly L.tl.live) } }) ∧
      (L.pairActs .core 5 = true →
        Does (.atticClear l t) l t s ((({ L with tl := { L.tl with atticFull := false } }).setFld F.TL_AWP_INDEX 0).setFld F.TL_AWP_WRAPPED 0)) ∧
      (L.pairActs .core 5 = true → L.fld F.TL_PEEK_BLOCK ≤ 22 →
        let w := L.tallyWord (L.fld F.TL_PEEK_BLOCK) (L.fld F.TL_PEEK_INDEX)
        Does (.tlPeekRead l t) l t s
          (({ L with tl := { L.tl with peekHi := BitVec.ofNat 32 (w / 2 ^ 32) } } : Lane).leadRead (BitVec.ofNat 32 w))) ∧
      (L.pairActs .core 5 = true → 22 < L.fld F.TL_PEEK_BLOCK → Does (.tlPeekRead l t) l t s (({ L with tl := { L.tl with peekHi := 0 } } : Lane).leadRead 0)) ∧
      (∀ c pc i d n u b,
        let M := L.coreEvent c
        (M.flag F.TL_ASAMP_AEN = false ∨ M.tl.atticStop = true ∨ M.tl.atticFull = true ∨ c ≠ M.fld F.TL_ASAMP_EVENT ∨ atticEvent c = false →
          Does (.atticSample l t c pc i d n u b) l t s M) ∧
        (M.flag F.TL_ASAMP_AEN = true → M.tl.atticStop = false → M.tl.atticFull = false → c = M.fld F.TL_ASAMP_EVENT → atticEvent c = true →
          (M.tl.occ + 1 < M.fld1 F.TL_ASAMP_PERIOD → Does (.atticSample l t c pc i d n u b) l t s { M with tl := { M.tl with occ := M.tl.occ + 1 } }) ∧
          (M.fld1 F.TL_ASAMP_PERIOD ≤ M.tl.occ + 1 →
            let N : Lane := { M with tl := { M.tl with occ := 0 } }
            Does (.atticSample l t c pc i d n u true) l t s ((N.raise F.TL_EVENT_ADROP).bump F.TL_CNT_ADROP) ∧
            Does (.atticSample l t c pc i d n u false) l t s
              (N.atticWrite (N.atticRecord c pc i (if dataEvent c i then d else 0) n u)))))
  ) ∧
  (
    ∀ (s : State) (l : LaneId) (t : Nat) (v : Word) (k : Nat), let L := s.seen l t
      L.pairActs .core 0x20 = true →
      (k < 29 →
        Does (.hpmCounterWrite l t (0xB03 + k) v) l t s (L.tallyWrite 5 k (L.tallyStart 5 k / 2 ^ 32 * 2 ^ 32 + v.toNat)) ∧
        Does (.hpmCounterWrite l t (0xB83 + k) v) l t s (L.tallyWrite 5 k (v.toNat % 65536 * 2 ^ 32 + L.tallyStart 5 k % 2 ^ 32)) ∧
        (L.tallyNow 5 k = 0 → L.tallyStart 5 k = L.tallyWord 5 k % 2 ^ 48 ∧
          (∀ x, x < 2 ^ 48 → (L.tallyWrite 5 k x).tallyWord 5 k = L.tallyWord 5 k / 2 ^ 48 * 2 ^ 48 + x ∧
            (L.tallyWrite 5 k x).readCsr false (0xB03 + k) = some (BitVec.ofNat 32 (x % 2 ^ 32)) ∧
            (L.tallyWrite 5 k x).readCsr false (0xB83 + k) = some (BitVec.ofNat 32 (x / 2 ^ 32)))) ∧
        Does (.hpmCounterWrite l t (0x323 + k) v) l t s { L with tl := { L.tl with hpm := L.tl.hpm.set k (hpmSelect v.toNat) } }) ∧
      Does (.hpmCounterWrite l t 0xB00 v) l t s
        { L with ic := { L.ic with cycle := L.cycles false / 2 ^ 32 * 2 ^ 32 + v.toNat, cycleAt := L.now } } ∧
      Does (.hpmCounterWrite l t 0xB80 v) l t s
        { L with ic := { L.ic with cycle := v.toNat * 2 ^ 32 + L.cycles false % 2 ^ 32, cycleAt := L.now } } ∧
      Does (.hpmCounterWrite l t 0xB02 v) l t s { L with ic := { L.ic with retired := L.ic.retired / 2 ^ 32 * 2 ^ 32 + v.toNat } } ∧
      Does (.hpmCounterWrite l t 0xB82 v) l t s { L with ic := { L.ic with retired := v.toNat * 2 ^ 32 + L.ic.retired % 2 ^ 32 } } ∧
      (k < 0x323 → Does (.hpmCounterWrite l t k v) l t s L)
  )

/-- A store of the helm pair (R10, R255, R327 to R331, R335, R336, R340, R345, R442). One on which the two cores do not agree is a mismatch and is not
issued, and a halted pair issues none. A store of an application that does not run does nothing either; one that is misaligned or that the PMP refuses
raises its exception, which ends the tick. In machine mode a misaligned one raises its exception, in a peripheral window with a bus error, and one that
the PMP refuses stops the tick task. Of any other: boot ROM, flash and what no register or memory is at end in a bus error and change nothing else; SRAM
takes the bytes; in a peripheral window a byte and a half-word end in a bus error, and a word of a register acts by the register's own rules.
What rests here on a choice of the model and not on the spec alone: log entries 47 (DEDUCED), 106 (DESIGN CHOICE), 116 (DEDUCED), 174
(DEDUCED). -/
def Obligations.BusWrites : Prop :=
  ∀ (s : State) (l : LaneId) (t : Nat) (a n : Nat) (v : Word) (u : Bool), let L := s.seen l t
    L.acts .core 0x20 = true →
    (∀ x : StoreData, L.ic.halted = true → Does (.registerWrite l t a x) l t s L) ∧
    (∀ y : BusTxn, L.ic.halted = false → y ≠ ⟨.write, a, n, v, u, 0⟩ → Does (.registerWrite l t a ⟨n, v, u, some y⟩) l t s (L.fault 7 0xFFFF)) ∧
    (∀ y : Option BusTxn, y = none ∨ y = some ⟨.write, a, n, v, u, 0⟩ → L.ic.halted = false →
      (L.appRuns = false → u = true → Does (.registerWrite l t a ⟨n, v, u, y⟩) l t s L) ∧
      (L.appRuns = true → u = true → n = 0 ∨ a % n ≠ 0 → Does (.registerWrite l t a ⟨n, v, u, y⟩) l t s ((L.trapped true 6 a).appAbort 1)) ∧
      (L.appRuns = true → u = true → n ≠ 0 → a % n = 0 → L.pmpMay true 2 a = false →
        Does (.registerWrite l t a ⟨n, v, u, y⟩) l t s ((L.trapped true 7 a).appAbort 1)) ∧
      (u = false → n = 0 ∨ a % n ≠ 0 →
        (a < 0x40000000 → Does (.registerWrite l t a ⟨n, v, u, y⟩) l t s (L.trapped false 6 a)) ∧
        (0x40000000 ≤ a → Does (.registerWrite l t a ⟨n, v, u, y⟩) l t s { L.trapped false 6 a with busErr := true })) ∧
      ((u = true → L.appRuns = true ∧ L.pmpMay true 2 a = true) → n ≠ 0 → a % n = 0 →
        (L.pmpMay false 2 a = false → Does (.registerWrite l t a ⟨n, v, u, y⟩) l t s (L.taskFault 7 a)) ∧
        (L.pmpMay false 2 a = true → a < 0x40000000 →
          (memMapped a = false ∨ memReadOnly a = true ∨ (0x25000000 ≤ a ∧ a < 0x25010000) →
            Does (.registerWrite l t a ⟨n, v, u, y⟩) l t s { L with busErr := true }) ∧
          (memMapped a = true → memReadOnly a = false → a < 0x25000000 ∨ 0x25010000 ≤ a →
            Does (.registerWrite l t a ⟨n, v, u, y⟩) l t s (({ L with busErr := false }).memStore a n v))) ∧
        (L.pmpMay false 2 a = true → 0x40000000 ≤ a →
          (n ≠ 4 → Does (.registerWrite l t a ⟨n, v, u, y⟩) l t s { L with busErr := true }) ∧
          (busHole a = true → Does (.registerWrite l t a ⟨n, v, u, y⟩) l t s { L with busErr := true }) ∧
          (n = 4 → busHole a = false → L.sy.releasedAt / 8 ≠ L.now / 8 →
            Does (.registerWrite l t a ⟨n, v, u, y⟩) l t s (({ L with busErr := false }).putReg a v)))))

/-! ### Rules stated whole -/

/-- CLEAR_WRAP (R378): afterwards every tally shows its 48-bit count, with no wrap flag (bit 56) and no wrap count (bits 55 to 48); and a wrap that
falls in the same cycle, which is counted into the cleared tally, leaves its flag set and its wrap count at 1. -/
def Obligations.ClearWrapLeavesCountsAlone : Prop :=
  ∀ (s : State) (l : LaneId) (t : Nat), let L := s.seen l t
    L.pairActs .core 5 = true → ∃ M : Lane, Does (.clearWrap l t) l t s M ∧
      (∀ b i, M.tallyWord b i = L.tallyWord b i % 2 ^ 48) ∧
      (∀ b i n, 2 ^ 48 ≤ L.tallyWord b i % 2 ^ 48 + n →
        (M.tallyOne b i n).tallyWord b i = (L.tallyWord b i % 2 ^ 48 + n) % 2 ^ 48 + 1 * 2 ^ 48 + 2 ^ 56 ∧
        (M.tallyOne b i n).flag F.TL_EVENT_WRAP = true)

/-- The holes of the register map (R442): an aligned word access inside a window at an offset without a register reads 0 and a write has no
effect (but in the cycle of a lane reset, R446); beyond a window, or at 0x4017_0000 and above, a write ends in a bus error and changes nothing; so
does an access of the yard core that R348 refuses, which reads 0, is shown in FW_ERR and counted in FW_CNT. -/
def Obligations.HolesOfTheRegisterMap : Prop :=
  ∀ (s : State) (l : LaneId) (t : Nat) (a : Nat) (v : Word) (w : Bool), let L := s.seen l t
    (L.pairActs .core 0x20 = true → L.pmpMay false 2 a = true → a % 4 = 0 → 0x40000000 ≤ a →
      (a % 0x10000 < windowSize (blockOf a) → a < 0x40170000 → regAt a = none → L.sy.releasedAt / 8 ≠ L.now / 8 →
        L.readReg a = 0 ∧ Does (.registerWrite l t a ⟨4, v, false, none⟩) l t s { L with busErr := false }) ∧
      (0x40170000 ≤ a ∨ windowSize (blockOf a) ≤ a % 0x10000 → Does (.registerWrite l t a ⟨4, v, false, none⟩) l t s { L with busErr := true })) ∧
    (L.acts .core 0x21 = true → L.yardRuns = true → yardMay a w = false → ∃ M : Lane, Does (.yardFirewallRefuse l t a w) l t s M ∧
      M.busErr = true ∧ M.rdata = 0 ∧ M.mem = L.mem ∧ M.flag F.IC_YARD_FW_ERR = true ∧
      (L.fld F.IC_YARD_FW_CNT = 65535 → M.fld F.IC_YARD_FW_CNT = 65535) ∧
      (L.fld F.IC_YARD_FW_CNT < 65535 → M.fld F.IC_YARD_FW_CNT = L.fld F.IC_YARD_FW_CNT + 1) ∧
      (L.fld F.IC_YARD_FW_CNT < 65534 → ∀ x, x ≠ F.IC_YARD_FW_CNT.addr 0 0 → M.reg x = L.reg x))

/-- The hysteresis states of an engine that does not track: the torque state by the table of R104, written out by its previous value and the
torque error, and the flux state by R105, at every tick.
What rests here on a choice of the model and not on the spec alone: log entries 10 (DESIGN CHOICE), 11 (DESIGN CHOICE). -/
def Obligations.HysteresisStates : Prop :=
  ∀ (L : Lane) (g : Fin 16), (L.grp g).tq.mode ≠ .tracking → 0 ≤ L.bandT g → 0 ≤ L.bandF g →
    let cT := (L.grp g).tq.cT
    let eT := (L.grp g).tq.tRef - (L.grp g).tq.tHat
    let hT := L.bandT g
    let ePsi := (L.grp g).tq.psiStar - sqrtR ((L.grp g).tq.psiA * (L.grp g).tq.psiA + (L.grp g).tq.psiB * (L.grp g).tq.psiB)
    let now := ((L.tableSelect g).grp g).tq.cT
    let flux := ((L.tableSelect g).grp g).tq.cPsi
    (cT = 1 → (hT < eT → now = 1) ∧ (0 < eT ∧ eT ≤ hT → now = 1) ∧ (eT = 0 → now = 0) ∧ (-hT ≤ eT ∧ eT < 0 → now = 0) ∧ (eT < -hT → now = -1)) ∧
    (cT = 0 → (hT < eT → now = 1) ∧ (0 < eT ∧ eT ≤ hT → now = 0) ∧ (eT = 0 → now = 0) ∧ (-hT ≤ eT ∧ eT < 0 → now = 0) ∧ (eT < -hT → now = -1)) ∧
    (cT = -1 → (hT < eT → now = 1) ∧ (0 < eT ∧ eT ≤ hT → now = 0) ∧ (eT = 0 → now = 0) ∧ (-hT ≤ eT ∧ eT < 0 → now = -1) ∧ (eT < -hT → now = -1)) ∧
    (L.bandF g < ePsi → flux = 1) ∧ (ePsi < -(L.bandF g) → flux = -1) ∧
    (-(L.bandF g) ≤ ePsi → ePsi ≤ L.bandF g → flux = (L.grp g).tq.cPsi)
end

