-- ==== Sys2Proof/Laws/Cells.lean ====
section
/-! SUPPORT. Sparse stores: what is read after a write, that stores which read alike and are canonical stay canonical, and what the whole-store
operations (filter, rebuild) read as. -/

namespace Sys2Proof.Laws

open Sys2Proof.Machine

variable {V : Type}

theorem cellGet_drop_same (d : V) (m : List (Nat × V)) (a : Nat) : cellGet d (cellDrop m a) a = d := by
  induction m with
  | nil => rfl
  | cons c cs ih =>
    by_cases h : c.1 = a <;> simp_all [cellDrop, cellGet]

theorem cellGet_drop_other (d : V) (m : List (Nat × V)) {a b : Nat} (h : b ≠ a) : cellGet d (cellDrop m a) b = cellGet d m b := by
  induction m with
  | nil => rfl
  | cons c cs ih =>
    by_cases h1 : c.1 = a
    · have h2 : c.1 ≠ b := fun e => h (e ▸ h1)
      simp_all [cellDrop, cellGet]
    · by_cases h2 : c.1 = b <;> simp_all [cellDrop, cellGet]

theorem cellGet_ins_same (d : V) (a : Nat) (v : V) (m : List (Nat × V)) (h : ∀ c ∈ m, c.1 ≠ a) : cellGet d (cellIns a v m) a = v := by
  induction m with
  | nil => simp [cellIns, cellGet]
  | cons c cs ih =>
    have hc : c.1 ≠ a := h c (by simp)
    have ht : ∀ x ∈ cs, x.1 ≠ a := fun x hx => h x (by simp [hx])
    by_cases h1 : c.1 < a <;> simp [cellIns, cellGet, h1, hc, ih ht]

theorem cellGet_ins_other (d : V) (v : V) (m : List (Nat × V)) {a b : Nat} (h : b ≠ a) : cellGet d (cellIns a v m) b = cellGet d m b := by
  have h' : a ≠ b := fun e => h e.symm
  induction m with
  | nil => simp [cellIns, cellGet, h']
  | cons c cs ih =>
    by_cases h1 : c.1 < a
    · simp only [cellIns, h1, if_true, cellGet, ih]
    · simp only [cellIns, h1, if_false, cellGet, h']

theorem mem_drop_ne (m : List (Nat × V)) (a : Nat) : ∀ c ∈ cellDrop m a, c.1 ≠ a := by
  intro c hc
  simpa using (List.mem_filter.1 hc).2

/-- A key reads as what was last written to it. -/
@[simp] theorem cellGet_set_same [DecidableEq V] (d : V) (m : List (Nat × V)) (a : Nat) (v : V) : cellGet d (cellSet d m a v) a = v := by
  unfold cellSet
  split
  · rename_i h; rw [cellGet_drop_same, h]
  · exact cellGet_ins_same d a v _ (mem_drop_ne m a)

/-- A write leaves every other key as it reads, whatever that key reads as when unlisted. -/
theorem cellGet_set_other [DecidableEq V] (d e : V) (m : List (Nat × V)) {a b : Nat} (v : V) (h : b ≠ a) :
    cellGet e (cellSet d m a v) b = cellGet e m b := by
  unfold cellSet
  split
  · exact cellGet_drop_other e m h
  · rw [cellGet_ins_other e v _ h, cellGet_drop_other e m h]

/-! ### The canonical form -/

theorem rising_cons {c : Nat × V} {cs : List (Nat × V)} (h : cellRising (c :: cs) = true) : cellRising cs = true ∧ ∀ x ∈ cs, c.1 < x.1 := by
  induction cs generalizing c with
  | nil => simp [cellRising]
  | cons e es ih =>
    simp only [cellRising, Bool.and_eq_true, decide_eq_true_eq] at h
    have := ih h.2
    refine ⟨h.2, ?_⟩
    intro x hx
    rcases List.mem_cons.1 hx with rfl | hx
    · exact h.1
    · exact Nat.lt_trans h.1 (this.2 x hx)

theorem rising_of {c : Nat × V} {cs : List (Nat × V)} (h : cellRising cs = true) (hc : ∀ x ∈ cs, c.1 < x.1) : cellRising (c :: cs) = true := by
  cases cs with
  | nil => rfl
  | cons e es => simp [cellRising, h, hc e (by simp)]

theorem rising_filter (p : Nat × V → Bool) {m : List (Nat × V)} (h : cellRising m = true) : cellRising (m.filter p) = true := by
  induction m with
  | nil => rfl
  | cons c cs ih =>
    have hc := rising_cons h
    by_cases hp : p c = true
    · rw [List.filter_cons_of_pos hp]
      exact rising_of (ih hc.1) (fun x hx => hc.2 x (List.mem_filter.1 hx).1)
    · rw [List.filter_cons_of_neg hp]; exact ih hc.1

theorem mem_ins {a : Nat} {v : V} {m : List (Nat × V)} {x : Nat × V} (h : x ∈ cellIns a v m) : x = (a, v) ∨ x ∈ m := by
  induction m with
  | nil => simpa [cellIns] using h
  | cons c cs ih =>
    by_cases h1 : c.1 < a
    · simp only [cellIns, h1, if_true, List.mem_cons] at h
      rcases h with rfl | h
      · simp
      · rcases ih h with h | h <;> simp [h]
    · simp only [cellIns, h1, if_false, List.mem_cons] at h
      simpa using h

theorem rising_ins {a : Nat} {v : V} {m : List (Nat × V)} (h : cellRising m = true) (hn : ∀ c ∈ m, c.1 ≠ a) : cellRising (cellIns a v m) = true := by
  induction m with
  | nil => rfl
  | cons c cs ih =>
    have hc := rising_cons h
    have hca : c.1 ≠ a := hn c (by simp)
    by_cases h1 : c.1 < a
    · simp only [cellIns, h1, if_true]
      refine rising_of (ih hc.1 (fun x hx => hn x (by simp [hx]))) ?_
      intro x hx
      rcases mem_ins hx with rfl | hx
      · exact h1
      · exact hc.2 x hx
    · simp only [cellIns, h1, if_false]
      refine rising_of h ?_
      intro x hx
      rcases List.mem_cons.1 hx with rfl | hx
      · omega
      · have := hc.2 x hx; omega

/-- Taking entries out keeps the canonical form. -/
theorem cellWf_filter [DecidableEq V] (d : Nat → V) (p : Nat × V → Bool) {m : List (Nat × V)} (h : cellWf d m = true) :
    cellWf d (m.filter p) = true := by
  simp only [cellWf, Bool.and_eq_true, List.all_eq_true] at h ⊢
  exact ⟨rising_filter p h.1, fun x hx => h.2 x (List.mem_filter.1 hx).1⟩

/-- A write keeps the canonical form. -/
theorem cellWf_set [DecidableEq V] (d : Nat → V) {m : List (Nat × V)} (h : cellWf d m = true) (a : Nat) (v : V) :
    cellWf d (cellSet (d a) m a v) = true := by
  have hd : cellWf d (cellDrop m a) = true := cellWf_filter d _ h
  unfold cellSet
  split
  · exact hd
  · rename_i hv
    simp only [cellWf, Bool.and_eq_true, List.all_eq_true] at hd ⊢
    refine ⟨rising_ins hd.1 (mem_drop_ne m a), fun x hx => ?_⟩
    rcases mem_ins hx with rfl | hx
    · simpa using hv
    · exact hd.2 x hx

/-- The empty store is canonical. -/
theorem cellWf_nil [DecidableEq V] (d : Nat → V) : cellWf d [] = true := rfl

/-- A store rebuilt entry by entry through `f`: canonical, whatever it was built from. -/
theorem cellWf_rebuild [DecidableEq V] (d : Nat → V) (f : Nat → V → V) (m : List (Nat × V)) :
    cellWf d (m.foldr (fun (c : Nat × V) (r : List (Nat × V)) => cellSet (d c.1) r c.1 (f c.1 c.2)) []) = true := by
  induction m with
  | nil => rfl
  | cons c cs ih => exact cellWf_set d ih c.1 _

/-- And it reads as `f` of what it was built from, where `f` keeps what an unlisted key reads as. -/
theorem cellGet_rebuild [DecidableEq V] (d : Nat → V) (f : Nat → V → V) (hf : ∀ a, f a (d a) = d a) (m : List (Nat × V)) (a : Nat) :
    cellGet (d a) (m.foldr (fun (c : Nat × V) (r : List (Nat × V)) => cellSet (d c.1) r c.1 (f c.1 c.2)) []) a = f a (cellGet (d a) m a) := by
  induction m with
  | nil => exact (hf a).symm
  | cons c cs ih =>
    by_cases h : c.1 = a
    · subst h
      simp [cellGet]
    · rw [List.foldr_cons, cellGet_set_other _ _ _ _ (fun e => h e.symm), ih]
      simp [cellGet, h]

end Sys2Proof.Laws
end

