-- ==== Sys2Proof/Laws/State.lean ====
section
/-! SUPPORT. What each update of a lane or of the package leaves of every field: one lemma per field per update, so that no proof unfolds a record. -/

namespace Sys2Proof.Laws

open Sys2Proof.Machine

/-! ### The package -/

@[simp] theorem State.setLane_pending (s : State) (l : LaneId) (x : Lane) : (s.setLane l x).pending = s.pending := by cases l <;> rfl
@[simp] theorem State.lane_setLane_same (s : State) (l : LaneId) (x : Lane) : (s.setLane l x).lane l = x := by cases l <;> rfl
theorem State.lane_setLane_other (s : State) {l k : LaneId} (x : Lane) (h : k ≠ l) : (s.setLane l x).lane k = s.lane k := by
  cases l <;> cases k <;> first | rfl | exact absurd rfl h
@[simp] theorem State.setLane_lane (s : State) (l : LaneId) : s.setLane l (s.lane l) = s := by cases l <;> rfl
@[simp] theorem State.lane_withPending (s : State) (q : List Instr) (l : LaneId) : ({ s with pending := q } : State).lane l = s.lane l := by
  cases l <;> rfl
theorem State.setLane_withPending (s : State) (q : List Instr) (l : LaneId) (x : Lane) :
    ({ s with pending := q } : State).setLane l x = { s.setLane l x with pending := q } := by cases l <;> rfl

/-! ### Time -/

@[simp] theorem Lane.advance_id (L : Lane) (t : Nat) : (L.advance t).id = L.id := rfl
@[simp] theorem Lane.advance_fresh (L : Lane) (t : Nat) : (L.advance t).fresh = L.fresh := rfl
@[simp] theorem Lane.advance_regs (L : Lane) (t : Nat) : (L.advance t).regs = L.regs := rfl
@[simp] theorem Lane.advance_mem (L : Lane) (t : Nat) : (L.advance t).mem = L.mem := rfl
@[simp] theorem Lane.advance_rdata (L : Lane) (t : Nat) : (L.advance t).rdata = L.rdata := rfl
@[simp] theorem Lane.advance_busErr (L : Lane) (t : Nat) : (L.advance t).busErr = L.busErr := rfl
@[simp] theorem Lane.advance_stuckEvents (L : Lane) (t : Nat) : (L.advance t).stuckEvents = L.stuckEvents := rfl
@[simp] theorem Lane.advance_marks (L : Lane) (t : Nat) : (L.advance t).marks = L.marks := rfl
@[simp] theorem Lane.advance_sy (L : Lane) (t : Nat) : (L.advance t).sy = L.sy := rfl
@[simp] theorem Lane.advance_ky (L : Lane) (t : Nat) : (L.advance t).ky = L.ky := rfl
@[simp] theorem Lane.advance_cx (L : Lane) (t : Nat) : (L.advance t).cx = L.cx := rfl
@[simp] theorem Lane.advance_fc (L : Lane) (t : Nat) : (L.advance t).fc = L.fc := rfl
@[simp] theorem Lane.advance_stop (L : Lane) (t : Nat) : (L.advance t).stop = L.stop := rfl
@[simp] theorem Lane.advance_cfg (L : Lane) (t : Nat) : (L.advance t).cfg = L.cfg := rfl
@[simp] theorem Lane.advance_groups (L : Lane) (t : Nat) : (L.advance t).groups = L.groups := rfl
@[simp] theorem Lane.advance_sf (L : Lane) (t : Nat) : (L.advance t).sf = L.sf := rfl
@[simp] theorem Lane.advance_ad (L : Lane) (t : Nat) : (L.advance t).ad = L.ad := rfl
@[simp] theorem Lane.advance_ln (L : Lane) (t : Nat) : (L.advance t).ln = L.ln := rfl
@[simp] theorem Lane.advance_oc (L : Lane) (t : Nat) : (L.advance t).oc = L.oc := rfl
@[simp] theorem Lane.advance_en (L : Lane) (t : Nat) : (L.advance t).en = L.en := rfl
@[simp] theorem Lane.advance_ic (L : Lane) (t : Nat) : (L.advance t).ic = L.ic := rfl
@[simp] theorem Lane.advance_st (L : Lane) (t : Nat) : (L.advance t).st = L.st := rfl
@[simp] theorem Lane.advance_tl (L : Lane) (t : Nat) : (L.advance t).tl = L.tl := rfl
@[simp] theorem Lane.advance_pm (L : Lane) (t : Nat) : (L.advance t).pm = L.pm := rfl
@[simp] theorem Lane.advance_th (L : Lane) (t : Nat) : (L.advance t).th = L.th := rfl
@[simp] theorem Lane.advance_lc (L : Lane) (t : Nat) : (L.advance t).lc = L.lc := rfl
@[simp] theorem Lane.advance_out (L : Lane) (t : Nat) : (L.advance t).out = L.out := rfl

@[simp] theorem Lane.advance_now (L : Lane) (t : Nat) : (L.advance t).now = max L.now t := rfl

/-! ### Settling of the interrupt sources -/

@[simp] theorem Lane.icSettle_id (L : Lane)  : (L.icSettle).id = L.id := rfl
@[simp] theorem Lane.icSettle_now (L : Lane)  : (L.icSettle).now = L.now := rfl
@[simp] theorem Lane.icSettle_fresh (L : Lane)  : (L.icSettle).fresh = L.fresh := rfl
@[simp] theorem Lane.icSettle_regs (L : Lane)  : (L.icSettle).regs = L.regs := rfl
@[simp] theorem Lane.icSettle_mem (L : Lane)  : (L.icSettle).mem = L.mem := rfl
@[simp] theorem Lane.icSettle_rdata (L : Lane)  : (L.icSettle).rdata = L.rdata := rfl
@[simp] theorem Lane.icSettle_busErr (L : Lane)  : (L.icSettle).busErr = L.busErr := rfl
@[simp] theorem Lane.icSettle_stuckEvents (L : Lane)  : (L.icSettle).stuckEvents = L.stuckEvents := rfl
@[simp] theorem Lane.icSettle_marks (L : Lane)  : (L.icSettle).marks = L.marks := rfl
@[simp] theorem Lane.icSettle_sy (L : Lane)  : (L.icSettle).sy = L.sy := rfl
@[simp] theorem Lane.icSettle_ky (L : Lane)  : (L.icSettle).ky = L.ky := rfl
@[simp] theorem Lane.icSettle_cx (L : Lane)  : (L.icSettle).cx = L.cx := rfl
@[simp] theorem Lane.icSettle_fc (L : Lane)  : (L.icSettle).fc = L.fc := rfl
@[simp] theorem Lane.icSettle_stop (L : Lane)  : (L.icSettle).stop = L.stop := rfl
@[simp] theorem Lane.icSettle_cfg (L : Lane)  : (L.icSettle).cfg = L.cfg := rfl
@[simp] theorem Lane.icSettle_groups (L : Lane)  : (L.icSettle).groups = L.groups := rfl
@[simp] theorem Lane.icSettle_sf (L : Lane)  : (L.icSettle).sf = L.sf := rfl
@[simp] theorem Lane.icSettle_ad (L : Lane)  : (L.icSettle).ad = L.ad := rfl
@[simp] theorem Lane.icSettle_ln (L : Lane)  : (L.icSettle).ln = L.ln := rfl
@[simp] theorem Lane.icSettle_oc (L : Lane)  : (L.icSettle).oc = L.oc := rfl
@[simp] theorem Lane.icSettle_en (L : Lane)  : (L.icSettle).en = L.en := rfl
@[simp] theorem Lane.icSettle_st (L : Lane)  : (L.icSettle).st = L.st := rfl
@[simp] theorem Lane.icSettle_tl (L : Lane)  : (L.icSettle).tl = L.tl := rfl
@[simp] theorem Lane.icSettle_pm (L : Lane)  : (L.icSettle).pm = L.pm := rfl
@[simp] theorem Lane.icSettle_th (L : Lane)  : (L.icSettle).th = L.th := rfl
@[simp] theorem Lane.icSettle_lc (L : Lane)  : (L.icSettle).lc = L.lc := rfl
@[simp] theorem Lane.icSettle_out (L : Lane)  : (L.icSettle).out = L.out := rfl

/-! ### After a command -/

@[simp] theorem Lane.after_fresh (L : Lane) (l : LaneId) (n : Nat) : (L.after l n).fresh = L.fresh := rfl
@[simp] theorem Lane.after_regs (L : Lane) (l : LaneId) (n : Nat) : (L.after l n).regs = L.regs := rfl
@[simp] theorem Lane.after_mem (L : Lane) (l : LaneId) (n : Nat) : (L.after l n).mem = L.mem := rfl
@[simp] theorem Lane.after_rdata (L : Lane) (l : LaneId) (n : Nat) : (L.after l n).rdata = L.rdata := rfl
@[simp] theorem Lane.after_busErr (L : Lane) (l : LaneId) (n : Nat) : (L.after l n).busErr = L.busErr := rfl
@[simp] theorem Lane.after_stuckEvents (L : Lane) (l : LaneId) (n : Nat) : (L.after l n).stuckEvents = L.stuckEvents := rfl
@[simp] theorem Lane.after_marks (L : Lane) (l : LaneId) (n : Nat) : (L.after l n).marks = L.marks := rfl
@[simp] theorem Lane.after_sy (L : Lane) (l : LaneId) (n : Nat) : (L.after l n).sy = L.sy := rfl
@[simp] theorem Lane.after_ky (L : Lane) (l : LaneId) (n : Nat) : (L.after l n).ky = L.ky := rfl
@[simp] theorem Lane.after_cx (L : Lane) (l : LaneId) (n : Nat) : (L.after l n).cx = L.cx := rfl
@[simp] theorem Lane.after_fc (L : Lane) (l : LaneId) (n : Nat) : (L.after l n).fc = L.fc := rfl
@[simp] theorem Lane.after_stop (L : Lane) (l : LaneId) (n : Nat) : (L.after l n).stop = L.stop := rfl
@[simp] theorem Lane.after_cfg (L : Lane) (l : LaneId) (n : Nat) : (L.after l n).cfg = L.cfg := rfl
@[simp] theorem Lane.after_groups (L : Lane) (l : LaneId) (n : Nat) : (L.after l n).groups = L.groups := rfl
@[simp] theorem Lane.after_sf (L : Lane) (l : LaneId) (n : Nat) : (L.after l n).sf = L.sf := rfl
@[simp] theorem Lane.after_ad (L : Lane) (l : LaneId) (n : Nat) : (L.after l n).ad = L.ad := rfl
@[simp] theorem Lane.after_ln (L : Lane) (l : LaneId) (n : Nat) : (L.after l n).ln = L.ln := rfl
@[simp] theorem Lane.after_oc (L : Lane) (l : LaneId) (n : Nat) : (L.after l n).oc = L.oc := rfl
@[simp] theorem Lane.after_en (L : Lane) (l : LaneId) (n : Nat) : (L.after l n).en = L.en := rfl
@[simp] theorem Lane.after_st (L : Lane) (l : LaneId) (n : Nat) : (L.after l n).st = L.st := rfl
@[simp] theorem Lane.after_tl (L : Lane) (l : LaneId) (n : Nat) : (L.after l n).tl = L.tl := rfl
@[simp] theorem Lane.after_pm (L : Lane) (l : LaneId) (n : Nat) : (L.after l n).pm = L.pm := rfl
@[simp] theorem Lane.after_th (L : Lane) (l : LaneId) (n : Nat) : (L.after l n).th = L.th := rfl
@[simp] theorem Lane.after_lc (L : Lane) (l : LaneId) (n : Nat) : (L.after l n).lc = L.lc := rfl
@[simp] theorem Lane.after_out (L : Lane) (l : LaneId) (n : Nat) : (L.after l n).out = L.out := rfl

@[simp] theorem Lane.after_id (L : Lane) (l : LaneId) (n : Nat) : (L.after l n).id = l := rfl
@[simp] theorem Lane.after_now (L : Lane) (l : LaneId) (n : Nat) : (L.after l n).now = n := rfl

/-! ### A register word -/

@[simp] theorem Lane.setReg_id (L : Lane) (a : Nat) (w : Word) : (L.setReg a w).id = L.id := rfl
@[simp] theorem Lane.setReg_now (L : Lane) (a : Nat) (w : Word) : (L.setReg a w).now = L.now := rfl
@[simp] theorem Lane.setReg_fresh (L : Lane) (a : Nat) (w : Word) : (L.setReg a w).fresh = L.fresh := rfl
@[simp] theorem Lane.setReg_mem (L : Lane) (a : Nat) (w : Word) : (L.setReg a w).mem = L.mem := rfl
@[simp] theorem Lane.setReg_rdata (L : Lane) (a : Nat) (w : Word) : (L.setReg a w).rdata = L.rdata := rfl
@[simp] theorem Lane.setReg_busErr (L : Lane) (a : Nat) (w : Word) : (L.setReg a w).busErr = L.busErr := rfl
@[simp] theorem Lane.setReg_stuckEvents (L : Lane) (a : Nat) (w : Word) : (L.setReg a w).stuckEvents = L.stuckEvents := rfl
@[simp] theorem Lane.setReg_marks (L : Lane) (a : Nat) (w : Word) : (L.setReg a w).marks = L.marks := rfl
@[simp] theorem Lane.setReg_sy (L : Lane) (a : Nat) (w : Word) : (L.setReg a w).sy = L.sy := rfl
@[simp] theorem Lane.setReg_ky (L : Lane) (a : Nat) (w : Word) : (L.setReg a w).ky = L.ky := rfl
@[simp] theorem Lane.setReg_cx (L : Lane) (a : Nat) (w : Word) : (L.setReg a w).cx = L.cx := rfl
@[simp] theorem Lane.setReg_fc (L : Lane) (a : Nat) (w : Word) : (L.setReg a w).fc = L.fc := rfl
@[simp] theorem Lane.setReg_stop (L : Lane) (a : Nat) (w : Word) : (L.setReg a w).stop = L.stop := rfl
@[simp] theorem Lane.setReg_cfg (L : Lane) (a : Nat) (w : Word) : (L.setReg a w).cfg = L.cfg := rfl
@[simp] theorem Lane.setReg_groups (L : Lane) (a : Nat) (w : Word) : (L.setReg a w).groups = L.groups := rfl
@[simp] theorem Lane.setReg_sf (L : Lane) (a : Nat) (w : Word) : (L.setReg a w).sf = L.sf := rfl
@[simp] theorem Lane.setReg_ad (L : Lane) (a : Nat) (w : Word) : (L.setReg a w).ad = L.ad := rfl
@[simp] theorem Lane.setReg_ln (L : Lane) (a : Nat) (w : Word) : (L.setReg a w).ln = L.ln := rfl
@[simp] theorem Lane.setReg_oc (L : Lane) (a : Nat) (w : Word) : (L.setReg a w).oc = L.oc := rfl
@[simp] theorem Lane.setReg_en (L : Lane) (a : Nat) (w : Word) : (L.setReg a w).en = L.en := rfl
@[simp] theorem Lane.setReg_ic (L : Lane) (a : Nat) (w : Word) : (L.setReg a w).ic = L.ic := rfl
@[simp] theorem Lane.setReg_st (L : Lane) (a : Nat) (w : Word) : (L.setReg a w).st = L.st := rfl
@[simp] theorem Lane.setReg_tl (L : Lane) (a : Nat) (w : Word) : (L.setReg a w).tl = L.tl := rfl
@[simp] theorem Lane.setReg_pm (L : Lane) (a : Nat) (w : Word) : (L.setReg a w).pm = L.pm := rfl
@[simp] theorem Lane.setReg_th (L : Lane) (a : Nat) (w : Word) : (L.setReg a w).th = L.th := rfl
@[simp] theorem Lane.setReg_lc (L : Lane) (a : Nat) (w : Word) : (L.setReg a w).lc = L.lc := rfl
@[simp] theorem Lane.setReg_out (L : Lane) (a : Nat) (w : Word) : (L.setReg a w).out = L.out := rfl

/-! ### A register field -/

@[simp] theorem Lane.setFld_id (L : Lane) (f : Fld) (v g k : Nat) : (L.setFld f v g k).id = L.id := rfl
@[simp] theorem Lane.setFld_now (L : Lane) (f : Fld) (v g k : Nat) : (L.setFld f v g k).now = L.now := rfl
@[simp] theorem Lane.setFld_fresh (L : Lane) (f : Fld) (v g k : Nat) : (L.setFld f v g k).fresh = L.fresh := rfl
@[simp] theorem Lane.setFld_mem (L : Lane) (f : Fld) (v g k : Nat) : (L.setFld f v g k).mem = L.mem := rfl
@[simp] theorem Lane.setFld_rdata (L : Lane) (f : Fld) (v g k : Nat) : (L.setFld f v g k).rdata = L.rdata := rfl
@[simp] theorem Lane.setFld_busErr (L : Lane) (f : Fld) (v g k : Nat) : (L.setFld f v g k).busErr = L.busErr := rfl
@[simp] theorem Lane.setFld_stuckEvents (L : Lane) (f : Fld) (v g k : Nat) : (L.setFld f v g k).stuckEvents = L.stuckEvents := rfl
@[simp] theorem Lane.setFld_marks (L : Lane) (f : Fld) (v g k : Nat) : (L.setFld f v g k).marks = L.marks := rfl
@[simp] theorem Lane.setFld_sy (L : Lane) (f : Fld) (v g k : Nat) : (L.setFld f v g k).sy = L.sy := rfl
@[simp] theorem Lane.setFld_ky (L : Lane) (f : Fld) (v g k : Nat) : (L.setFld f v g k).ky = L.ky := rfl
@[simp] theorem Lane.setFld_cx (L : Lane) (f : Fld) (v g k : Nat) : (L.setFld f v g k).cx = L.cx := rfl
@[simp] theorem Lane.setFld_fc (L : Lane) (f : Fld) (v g k : Nat) : (L.setFld f v g k).fc = L.fc := rfl
@[simp] theorem Lane.setFld_stop (L : Lane) (f : Fld) (v g k : Nat) : (L.setFld f v g k).stop = L.stop := rfl
@[simp] theorem Lane.setFld_cfg (L : Lane) (f : Fld) (v g k : Nat) : (L.setFld f v g k).cfg = L.cfg := rfl
@[simp] theorem Lane.setFld_groups (L : Lane) (f : Fld) (v g k : Nat) : (L.setFld f v g k).groups = L.groups := rfl
@[simp] theorem Lane.setFld_sf (L : Lane) (f : Fld) (v g k : Nat) : (L.setFld f v g k).sf = L.sf := rfl
@[simp] theorem Lane.setFld_ad (L : Lane) (f : Fld) (v g k : Nat) : (L.setFld f v g k).ad = L.ad := rfl
@[simp] theorem Lane.setFld_ln (L : Lane) (f : Fld) (v g k : Nat) : (L.setFld f v g k).ln = L.ln := rfl
@[simp] theorem Lane.setFld_oc (L : Lane) (f : Fld) (v g k : Nat) : (L.setFld f v g k).oc = L.oc := rfl
@[simp] theorem Lane.setFld_en (L : Lane) (f : Fld) (v g k : Nat) : (L.setFld f v g k).en = L.en := rfl
@[simp] theorem Lane.setFld_ic (L : Lane) (f : Fld) (v g k : Nat) : (L.setFld f v g k).ic = L.ic := rfl
@[simp] theorem Lane.setFld_st (L : Lane) (f : Fld) (v g k : Nat) : (L.setFld f v g k).st = L.st := rfl
@[simp] theorem Lane.setFld_tl (L : Lane) (f : Fld) (v g k : Nat) : (L.setFld f v g k).tl = L.tl := rfl
@[simp] theorem Lane.setFld_pm (L : Lane) (f : Fld) (v g k : Nat) : (L.setFld f v g k).pm = L.pm := rfl
@[simp] theorem Lane.setFld_th (L : Lane) (f : Fld) (v g k : Nat) : (L.setFld f v g k).th = L.th := rfl
@[simp] theorem Lane.setFld_lc (L : Lane) (f : Fld) (v g k : Nat) : (L.setFld f v g k).lc = L.lc := rfl
@[simp] theorem Lane.setFld_out (L : Lane) (f : Fld) (v g k : Nat) : (L.setFld f v g k).out = L.out := rfl

/-! ### A whole register -/

@[simp] theorem Lane.setWord_id (L : Lane) (f : Fld) (w : Word) (g k : Nat) : (L.setWord f w g k).id = L.id := rfl
@[simp] theorem Lane.setWord_now (L : Lane) (f : Fld) (w : Word) (g k : Nat) : (L.setWord f w g k).now = L.now := rfl
@[simp] theorem Lane.setWord_fresh (L : Lane) (f : Fld) (w : Word) (g k : Nat) : (L.setWord f w g k).fresh = L.fresh := rfl
@[simp] theorem Lane.setWord_mem (L : Lane) (f : Fld) (w : Word) (g k : Nat) : (L.setWord f w g k).mem = L.mem := rfl
@[simp] theorem Lane.setWord_rdata (L : Lane) (f : Fld) (w : Word) (g k : Nat) : (L.setWord f w g k).rdata = L.rdata := rfl
@[simp] theorem Lane.setWord_busErr (L : Lane) (f : Fld) (w : Word) (g k : Nat) : (L.setWord f w g k).busErr = L.busErr := rfl
@[simp] theorem Lane.setWord_stuckEvents (L : Lane) (f : Fld) (w : Word) (g k : Nat) : (L.setWord f w g k).stuckEvents = L.stuckEvents := rfl
@[simp] theorem Lane.setWord_marks (L : Lane) (f : Fld) (w : Word) (g k : Nat) : (L.setWord f w g k).marks = L.marks := rfl
@[simp] theorem Lane.setWord_sy (L : Lane) (f : Fld) (w : Word) (g k : Nat) : (L.setWord f w g k).sy = L.sy := rfl
@[simp] theorem Lane.setWord_ky (L : Lane) (f : Fld) (w : Word) (g k : Nat) : (L.setWord f w g k).ky = L.ky := rfl
@[simp] theorem Lane.setWord_cx (L : Lane) (f : Fld) (w : Word) (g k : Nat) : (L.setWord f w g k).cx = L.cx := rfl
@[simp] theorem Lane.setWord_fc (L : Lane) (f : Fld) (w : Word) (g k : Nat) : (L.setWord f w g k).fc = L.fc := rfl
@[simp] theorem Lane.setWord_stop (L : Lane) (f : Fld) (w : Word) (g k : Nat) : (L.setWord f w g k).stop = L.stop := rfl
@[simp] theorem Lane.setWord_cfg (L : Lane) (f : Fld) (w : Word) (g k : Nat) : (L.setWord f w g k).cfg = L.cfg := rfl
@[simp] theorem Lane.setWord_groups (L : Lane) (f : Fld) (w : Word) (g k : Nat) : (L.setWord f w g k).groups = L.groups := rfl
@[simp] theorem Lane.setWord_sf (L : Lane) (f : Fld) (w : Word) (g k : Nat) : (L.setWord f w g k).sf = L.sf := rfl
@[simp] theorem Lane.setWord_ad (L : Lane) (f : Fld) (w : Word) (g k : Nat) : (L.setWord f w g k).ad = L.ad := rfl
@[simp] theorem Lane.setWord_ln (L : Lane) (f : Fld) (w : Word) (g k : Nat) : (L.setWord f w g k).ln = L.ln := rfl
@[simp] theorem Lane.setWord_oc (L : Lane) (f : Fld) (w : Word) (g k : Nat) : (L.setWord f w g k).oc = L.oc := rfl
@[simp] theorem Lane.setWord_en (L : Lane) (f : Fld) (w : Word) (g k : Nat) : (L.setWord f w g k).en = L.en := rfl
@[simp] theorem Lane.setWord_ic (L : Lane) (f : Fld) (w : Word) (g k : Nat) : (L.setWord f w g k).ic = L.ic := rfl
@[simp] theorem Lane.setWord_st (L : Lane) (f : Fld) (w : Word) (g k : Nat) : (L.setWord f w g k).st = L.st := rfl
@[simp] theorem Lane.setWord_tl (L : Lane) (f : Fld) (w : Word) (g k : Nat) : (L.setWord f w g k).tl = L.tl := rfl
@[simp] theorem Lane.setWord_pm (L : Lane) (f : Fld) (w : Word) (g k : Nat) : (L.setWord f w g k).pm = L.pm := rfl
@[simp] theorem Lane.setWord_th (L : Lane) (f : Fld) (w : Word) (g k : Nat) : (L.setWord f w g k).th = L.th := rfl
@[simp] theorem Lane.setWord_lc (L : Lane) (f : Fld) (w : Word) (g k : Nat) : (L.setWord f w g k).lc = L.lc := rfl
@[simp] theorem Lane.setWord_out (L : Lane) (f : Fld) (w : Word) (g k : Nat) : (L.setWord f w g k).out = L.out := rfl

/-! ### An event -/

@[simp] theorem Lane.raise_id (L : Lane) (f : Fld) (g : Nat) : (L.raise f g).id = L.id := rfl
@[simp] theorem Lane.raise_now (L : Lane) (f : Fld) (g : Nat) : (L.raise f g).now = L.now := rfl
@[simp] theorem Lane.raise_fresh (L : Lane) (f : Fld) (g : Nat) : (L.raise f g).fresh = L.fresh := rfl
@[simp] theorem Lane.raise_mem (L : Lane) (f : Fld) (g : Nat) : (L.raise f g).mem = L.mem := rfl
@[simp] theorem Lane.raise_rdata (L : Lane) (f : Fld) (g : Nat) : (L.raise f g).rdata = L.rdata := rfl
@[simp] theorem Lane.raise_busErr (L : Lane) (f : Fld) (g : Nat) : (L.raise f g).busErr = L.busErr := rfl
@[simp] theorem Lane.raise_stuckEvents (L : Lane) (f : Fld) (g : Nat) : (L.raise f g).stuckEvents = L.stuckEvents := rfl
@[simp] theorem Lane.raise_sy (L : Lane) (f : Fld) (g : Nat) : (L.raise f g).sy = L.sy := rfl
@[simp] theorem Lane.raise_ky (L : Lane) (f : Fld) (g : Nat) : (L.raise f g).ky = L.ky := rfl
@[simp] theorem Lane.raise_cx (L : Lane) (f : Fld) (g : Nat) : (L.raise f g).cx = L.cx := rfl
@[simp] theorem Lane.raise_fc (L : Lane) (f : Fld) (g : Nat) : (L.raise f g).fc = L.fc := rfl
@[simp] theorem Lane.raise_stop (L : Lane) (f : Fld) (g : Nat) : (L.raise f g).stop = L.stop := rfl
@[simp] theorem Lane.raise_cfg (L : Lane) (f : Fld) (g : Nat) : (L.raise f g).cfg = L.cfg := rfl
@[simp] theorem Lane.raise_groups (L : Lane) (f : Fld) (g : Nat) : (L.raise f g).groups = L.groups := rfl
@[simp] theorem Lane.raise_sf (L : Lane) (f : Fld) (g : Nat) : (L.raise f g).sf = L.sf := rfl
@[simp] theorem Lane.raise_ad (L : Lane) (f : Fld) (g : Nat) : (L.raise f g).ad = L.ad := rfl
@[simp] theorem Lane.raise_ln (L : Lane) (f : Fld) (g : Nat) : (L.raise f g).ln = L.ln := rfl
@[simp] theorem Lane.raise_oc (L : Lane) (f : Fld) (g : Nat) : (L.raise f g).oc = L.oc := rfl
@[simp] theorem Lane.raise_en (L : Lane) (f : Fld) (g : Nat) : (L.raise f g).en = L.en := rfl
@[simp] theorem Lane.raise_ic (L : Lane) (f : Fld) (g : Nat) : (L.raise f g).ic = L.ic := rfl
@[simp] theorem Lane.raise_st (L : Lane) (f : Fld) (g : Nat) : (L.raise f g).st = L.st := rfl
@[simp] theorem Lane.raise_tl (L : Lane) (f : Fld) (g : Nat) : (L.raise f g).tl = L.tl := rfl
@[simp] theorem Lane.raise_pm (L : Lane) (f : Fld) (g : Nat) : (L.raise f g).pm = L.pm := rfl
@[simp] theorem Lane.raise_th (L : Lane) (f : Fld) (g : Nat) : (L.raise f g).th = L.th := rfl
@[simp] theorem Lane.raise_lc (L : Lane) (f : Fld) (g : Nat) : (L.raise f g).lc = L.lc := rfl
@[simp] theorem Lane.raise_out (L : Lane) (f : Fld) (g : Nat) : (L.raise f g).out = L.out := rfl

/-! ### A mark of what was set in this cycle -/

@[simp] theorem Lane.note_id (L : Lane) (a m : Nat) : (L.note a m).id = L.id := rfl
@[simp] theorem Lane.note_now (L : Lane) (a m : Nat) : (L.note a m).now = L.now := rfl
@[simp] theorem Lane.note_fresh (L : Lane) (a m : Nat) : (L.note a m).fresh = L.fresh := rfl
@[simp] theorem Lane.note_regs (L : Lane) (a m : Nat) : (L.note a m).regs = L.regs := rfl
@[simp] theorem Lane.note_mem (L : Lane) (a m : Nat) : (L.note a m).mem = L.mem := rfl
@[simp] theorem Lane.note_rdata (L : Lane) (a m : Nat) : (L.note a m).rdata = L.rdata := rfl
@[simp] theorem Lane.note_busErr (L : Lane) (a m : Nat) : (L.note a m).busErr = L.busErr := rfl
@[simp] theorem Lane.note_stuckEvents (L : Lane) (a m : Nat) : (L.note a m).stuckEvents = L.stuckEvents := rfl
@[simp] theorem Lane.note_sy (L : Lane) (a m : Nat) : (L.note a m).sy = L.sy := rfl
@[simp] theorem Lane.note_ky (L : Lane) (a m : Nat) : (L.note a m).ky = L.ky := rfl
@[simp] theorem Lane.note_cx (L : Lane) (a m : Nat) : (L.note a m).cx = L.cx := rfl
@[simp] theorem Lane.note_fc (L : Lane) (a m : Nat) : (L.note a m).fc = L.fc := rfl
@[simp] theorem Lane.note_stop (L : Lane) (a m : Nat) : (L.note a m).stop = L.stop := rfl
@[simp] theorem Lane.note_cfg (L : Lane) (a m : Nat) : (L.note a m).cfg = L.cfg := rfl
@[simp] theorem Lane.note_groups (L : Lane) (a m : Nat) : (L.note a m).groups = L.groups := rfl
@[simp] theorem Lane.note_sf (L : Lane) (a m : Nat) : (L.note a m).sf = L.sf := rfl
@[simp] theorem Lane.note_ad (L : Lane) (a m : Nat) : (L.note a m).ad = L.ad := rfl
@[simp] theorem Lane.note_ln (L : Lane) (a m : Nat) : (L.note a m).ln = L.ln := rfl
@[simp] theorem Lane.note_oc (L : Lane) (a m : Nat) : (L.note a m).oc = L.oc := rfl
@[simp] theorem Lane.note_en (L : Lane) (a m : Nat) : (L.note a m).en = L.en := rfl
@[simp] theorem Lane.note_ic (L : Lane) (a m : Nat) : (L.note a m).ic = L.ic := rfl
@[simp] theorem Lane.note_st (L : Lane) (a m : Nat) : (L.note a m).st = L.st := rfl
@[simp] theorem Lane.note_tl (L : Lane) (a m : Nat) : (L.note a m).tl = L.tl := rfl
@[simp] theorem Lane.note_pm (L : Lane) (a m : Nat) : (L.note a m).pm = L.pm := rfl
@[simp] theorem Lane.note_th (L : Lane) (a m : Nat) : (L.note a m).th = L.th := rfl
@[simp] theorem Lane.note_lc (L : Lane) (a m : Nat) : (L.note a m).lc = L.lc := rfl
@[simp] theorem Lane.note_out (L : Lane) (a m : Nat) : (L.note a m).out = L.out := rfl

/-! ### A byte of memory -/

@[simp] theorem Lane.setByte_id (L : Lane) (a : Nat) (b : Byte) : (L.setByte a b).id = L.id := rfl
@[simp] theorem Lane.setByte_now (L : Lane) (a : Nat) (b : Byte) : (L.setByte a b).now = L.now := rfl
@[simp] theorem Lane.setByte_fresh (L : Lane) (a : Nat) (b : Byte) : (L.setByte a b).fresh = L.fresh := rfl
@[simp] theorem Lane.setByte_regs (L : Lane) (a : Nat) (b : Byte) : (L.setByte a b).regs = L.regs := rfl
@[simp] theorem Lane.setByte_rdata (L : Lane) (a : Nat) (b : Byte) : (L.setByte a b).rdata = L.rdata := rfl
@[simp] theorem Lane.setByte_busErr (L : Lane) (a : Nat) (b : Byte) : (L.setByte a b).busErr = L.busErr := rfl
@[simp] theorem Lane.setByte_stuckEvents (L : Lane) (a : Nat) (b : Byte) : (L.setByte a b).stuckEvents = L.stuckEvents := rfl
@[simp] theorem Lane.setByte_marks (L : Lane) (a : Nat) (b : Byte) : (L.setByte a b).marks = L.marks := rfl
@[simp] theorem Lane.setByte_sy (L : Lane) (a : Nat) (b : Byte) : (L.setByte a b).sy = L.sy := rfl
@[simp] theorem Lane.setByte_ky (L : Lane) (a : Nat) (b : Byte) : (L.setByte a b).ky = L.ky := rfl
@[simp] theorem Lane.setByte_cx (L : Lane) (a : Nat) (b : Byte) : (L.setByte a b).cx = L.cx := rfl
@[simp] theorem Lane.setByte_fc (L : Lane) (a : Nat) (b : Byte) : (L.setByte a b).fc = L.fc := rfl
@[simp] theorem Lane.setByte_stop (L : Lane) (a : Nat) (b : Byte) : (L.setByte a b).stop = L.stop := rfl
@[simp] theorem Lane.setByte_cfg (L : Lane) (a : Nat) (b : Byte) : (L.setByte a b).cfg = L.cfg := rfl
@[simp] theorem Lane.setByte_groups (L : Lane) (a : Nat) (b : Byte) : (L.setByte a b).groups = L.groups := rfl
@[simp] theorem Lane.setByte_sf (L : Lane) (a : Nat) (b : Byte) : (L.setByte a b).sf = L.sf := rfl
@[simp] theorem Lane.setByte_ad (L : Lane) (a : Nat) (b : Byte) : (L.setByte a b).ad = L.ad := rfl
@[simp] theorem Lane.setByte_ln (L : Lane) (a : Nat) (b : Byte) : (L.setByte a b).ln = L.ln := rfl
@[simp] theorem Lane.setByte_oc (L : Lane) (a : Nat) (b : Byte) : (L.setByte a b).oc = L.oc := rfl
@[simp] theorem Lane.setByte_en (L : Lane) (a : Nat) (b : Byte) : (L.setByte a b).en = L.en := rfl
@[simp] theorem Lane.setByte_ic (L : Lane) (a : Nat) (b : Byte) : (L.setByte a b).ic = L.ic := rfl
@[simp] theorem Lane.setByte_st (L : Lane) (a : Nat) (b : Byte) : (L.setByte a b).st = L.st := rfl
@[simp] theorem Lane.setByte_tl (L : Lane) (a : Nat) (b : Byte) : (L.setByte a b).tl = L.tl := rfl
@[simp] theorem Lane.setByte_pm (L : Lane) (a : Nat) (b : Byte) : (L.setByte a b).pm = L.pm := rfl
@[simp] theorem Lane.setByte_th (L : Lane) (a : Nat) (b : Byte) : (L.setByte a b).th = L.th := rfl
@[simp] theorem Lane.setByte_lc (L : Lane) (a : Nat) (b : Byte) : (L.setByte a b).lc = L.lc := rfl
@[simp] theorem Lane.setByte_out (L : Lane) (a : Nat) (b : Byte) : (L.setByte a b).out = L.out := rfl

/-! ### A group -/

@[simp] theorem Lane.setGrp_id (L : Lane) (g : Fin 16) (x : Group) : (L.setGrp g x).id = L.id := rfl
@[simp] theorem Lane.setGrp_now (L : Lane) (g : Fin 16) (x : Group) : (L.setGrp g x).now = L.now := rfl
@[simp] theorem Lane.setGrp_fresh (L : Lane) (g : Fin 16) (x : Group) : (L.setGrp g x).fresh = L.fresh := rfl
@[simp] theorem Lane.setGrp_regs (L : Lane) (g : Fin 16) (x : Group) : (L.setGrp g x).regs = L.regs := rfl
@[simp] theorem Lane.setGrp_mem (L : Lane) (g : Fin 16) (x : Group) : (L.setGrp g x).mem = L.mem := rfl
@[simp] theorem Lane.setGrp_rdata (L : Lane) (g : Fin 16) (x : Group) : (L.setGrp g x).rdata = L.rdata := rfl
@[simp] theorem Lane.setGrp_busErr (L : Lane) (g : Fin 16) (x : Group) : (L.setGrp g x).busErr = L.busErr := rfl
@[simp] theorem Lane.setGrp_stuckEvents (L : Lane) (g : Fin 16) (x : Group) : (L.setGrp g x).stuckEvents = L.stuckEvents := rfl
@[simp] theorem Lane.setGrp_marks (L : Lane) (g : Fin 16) (x : Group) : (L.setGrp g x).marks = L.marks := rfl
@[simp] theorem Lane.setGrp_sy (L : Lane) (g : Fin 16) (x : Group) : (L.setGrp g x).sy = L.sy := rfl
@[simp] theorem Lane.setGrp_ky (L : Lane) (g : Fin 16) (x : Group) : (L.setGrp g x).ky = L.ky := rfl
@[simp] theorem Lane.setGrp_cx (L : Lane) (g : Fin 16) (x : Group) : (L.setGrp g x).cx = L.cx := rfl
@[simp] theorem Lane.setGrp_fc (L : Lane) (g : Fin 16) (x : Group) : (L.setGrp g x).fc = L.fc := rfl
@[simp] theorem Lane.setGrp_stop (L : Lane) (g : Fin 16) (x : Group) : (L.setGrp g x).stop = L.stop := rfl
@[simp] theorem Lane.setGrp_cfg (L : Lane) (g : Fin 16) (x : Group) : (L.setGrp g x).cfg = L.cfg := rfl
@[simp] theorem Lane.setGrp_sf (L : Lane) (g : Fin 16) (x : Group) : (L.setGrp g x).sf = L.sf := rfl
@[simp] theorem Lane.setGrp_ad (L : Lane) (g : Fin 16) (x : Group) : (L.setGrp g x).ad = L.ad := rfl
@[simp] theorem Lane.setGrp_ln (L : Lane) (g : Fin 16) (x : Group) : (L.setGrp g x).ln = L.ln := rfl
@[simp] theorem Lane.setGrp_oc (L : Lane) (g : Fin 16) (x : Group) : (L.setGrp g x).oc = L.oc := rfl
@[simp] theorem Lane.setGrp_en (L : Lane) (g : Fin 16) (x : Group) : (L.setGrp g x).en = L.en := rfl
@[simp] theorem Lane.setGrp_ic (L : Lane) (g : Fin 16) (x : Group) : (L.setGrp g x).ic = L.ic := rfl
@[simp] theorem Lane.setGrp_st (L : Lane) (g : Fin 16) (x : Group) : (L.setGrp g x).st = L.st := rfl
@[simp] theorem Lane.setGrp_tl (L : Lane) (g : Fin 16) (x : Group) : (L.setGrp g x).tl = L.tl := rfl
@[simp] theorem Lane.setGrp_pm (L : Lane) (g : Fin 16) (x : Group) : (L.setGrp g x).pm = L.pm := rfl
@[simp] theorem Lane.setGrp_th (L : Lane) (g : Fin 16) (x : Group) : (L.setGrp g x).th = L.th := rfl
@[simp] theorem Lane.setGrp_lc (L : Lane) (g : Fin 16) (x : Group) : (L.setGrp g x).lc = L.lc := rfl
@[simp] theorem Lane.setGrp_out (L : Lane) (g : Fin 16) (x : Group) : (L.setGrp g x).out = L.out := rfl

/-! ### The lane network -/

@[simp] theorem Lane.updLn_id (L : Lane) (f : LnS → LnS) : (L.updLn f).id = L.id := rfl
@[simp] theorem Lane.updLn_now (L : Lane) (f : LnS → LnS) : (L.updLn f).now = L.now := rfl
@[simp] theorem Lane.updLn_fresh (L : Lane) (f : LnS → LnS) : (L.updLn f).fresh = L.fresh := rfl
@[simp] theorem Lane.updLn_regs (L : Lane) (f : LnS → LnS) : (L.updLn f).regs = L.regs := rfl
@[simp] theorem Lane.updLn_mem (L : Lane) (f : LnS → LnS) : (L.updLn f).mem = L.mem := rfl
@[simp] theorem Lane.updLn_rdata (L : Lane) (f : LnS → LnS) : (L.updLn f).rdata = L.rdata := rfl
@[simp] theorem Lane.updLn_busErr (L : Lane) (f : LnS → LnS) : (L.updLn f).busErr = L.busErr := rfl
@[simp] theorem Lane.updLn_stuckEvents (L : Lane) (f : LnS → LnS) : (L.updLn f).stuckEvents = L.stuckEvents := rfl
@[simp] theorem Lane.updLn_marks (L : Lane) (f : LnS → LnS) : (L.updLn f).marks = L.marks := rfl
@[simp] theorem Lane.updLn_sy (L : Lane) (f : LnS → LnS) : (L.updLn f).sy = L.sy := rfl
@[simp] theorem Lane.updLn_ky (L : Lane) (f : LnS → LnS) : (L.updLn f).ky = L.ky := rfl
@[simp] theorem Lane.updLn_cx (L : Lane) (f : LnS → LnS) : (L.updLn f).cx = L.cx := rfl
@[simp] theorem Lane.updLn_fc (L : Lane) (f : LnS → LnS) : (L.updLn f).fc = L.fc := rfl
@[simp] theorem Lane.updLn_stop (L : Lane) (f : LnS → LnS) : (L.updLn f).stop = L.stop := rfl
@[simp] theorem Lane.updLn_cfg (L : Lane) (f : LnS → LnS) : (L.updLn f).cfg = L.cfg := rfl
@[simp] theorem Lane.updLn_groups (L : Lane) (f : LnS → LnS) : (L.updLn f).groups = L.groups := rfl
@[simp] theorem Lane.updLn_sf (L : Lane) (f : LnS → LnS) : (L.updLn f).sf = L.sf := rfl
@[simp] theorem Lane.updLn_ad (L : Lane) (f : LnS → LnS) : (L.updLn f).ad = L.ad := rfl
@[simp] theorem Lane.updLn_oc (L : Lane) (f : LnS → LnS) : (L.updLn f).oc = L.oc := rfl
@[simp] theorem Lane.updLn_en (L : Lane) (f : LnS → LnS) : (L.updLn f).en = L.en := rfl
@[simp] theorem Lane.updLn_ic (L : Lane) (f : LnS → LnS) : (L.updLn f).ic = L.ic := rfl
@[simp] theorem Lane.updLn_st (L : Lane) (f : LnS → LnS) : (L.updLn f).st = L.st := rfl
@[simp] theorem Lane.updLn_tl (L : Lane) (f : LnS → LnS) : (L.updLn f).tl = L.tl := rfl
@[simp] theorem Lane.updLn_pm (L : Lane) (f : LnS → LnS) : (L.updLn f).pm = L.pm := rfl
@[simp] theorem Lane.updLn_th (L : Lane) (f : LnS → LnS) : (L.updLn f).th = L.th := rfl
@[simp] theorem Lane.updLn_lc (L : Lane) (f : LnS → LnS) : (L.updLn f).lc = L.lc := rfl
@[simp] theorem Lane.updLn_out (L : Lane) (f : LnS → LnS) : (L.updLn f).out = L.out := rfl

@[simp] theorem Lane.updLn_ln (L : Lane) (f : LnS → LnS) : (L.updLn f).ln = f L.ln := rfl

/-! ### A tally -/

@[simp] theorem Lane.setTally_id (L : Lane) (b i v : Nat) : (L.setTally b i v).id = L.id := rfl
@[simp] theorem Lane.setTally_now (L : Lane) (b i v : Nat) : (L.setTally b i v).now = L.now := rfl
@[simp] theorem Lane.setTally_fresh (L : Lane) (b i v : Nat) : (L.setTally b i v).fresh = L.fresh := rfl
@[simp] theorem Lane.setTally_regs (L : Lane) (b i v : Nat) : (L.setTally b i v).regs = L.regs := rfl
@[simp] theorem Lane.setTally_mem (L : Lane) (b i v : Nat) : (L.setTally b i v).mem = L.mem := rfl
@[simp] theorem Lane.setTally_rdata (L : Lane) (b i v : Nat) : (L.setTally b i v).rdata = L.rdata := rfl
@[simp] theorem Lane.setTally_busErr (L : Lane) (b i v : Nat) : (L.setTally b i v).busErr = L.busErr := rfl
@[simp] theorem Lane.setTally_stuckEvents (L : Lane) (b i v : Nat) : (L.setTally b i v).stuckEvents = L.stuckEvents := rfl
@[simp] theorem Lane.setTally_marks (L : Lane) (b i v : Nat) : (L.setTally b i v).marks = L.marks := rfl
@[simp] theorem Lane.setTally_sy (L : Lane) (b i v : Nat) : (L.setTally b i v).sy = L.sy := rfl
@[simp] theorem Lane.setTally_ky (L : Lane) (b i v : Nat) : (L.setTally b i v).ky = L.ky := rfl
@[simp] theorem Lane.setTally_cx (L : Lane) (b i v : Nat) : (L.setTally b i v).cx = L.cx := rfl
@[simp] theorem Lane.setTally_fc (L : Lane) (b i v : Nat) : (L.setTally b i v).fc = L.fc := rfl
@[simp] theorem Lane.setTally_stop (L : Lane) (b i v : Nat) : (L.setTally b i v).stop = L.stop := rfl
@[simp] theorem Lane.setTally_cfg (L : Lane) (b i v : Nat) : (L.setTally b i v).cfg = L.cfg := rfl
@[simp] theorem Lane.setTally_groups (L : Lane) (b i v : Nat) : (L.setTally b i v).groups = L.groups := rfl
@[simp] theorem Lane.setTally_sf (L : Lane) (b i v : Nat) : (L.setTally b i v).sf = L.sf := rfl
@[simp] theorem Lane.setTally_ad (L : Lane) (b i v : Nat) : (L.setTally b i v).ad = L.ad := rfl
@[simp] theorem Lane.setTally_ln (L : Lane) (b i v : Nat) : (L.setTally b i v).ln = L.ln := rfl
@[simp] theorem Lane.setTally_oc (L : Lane) (b i v : Nat) : (L.setTally b i v).oc = L.oc := rfl
@[simp] theorem Lane.setTally_en (L : Lane) (b i v : Nat) : (L.setTally b i v).en = L.en := rfl
@[simp] theorem Lane.setTally_ic (L : Lane) (b i v : Nat) : (L.setTally b i v).ic = L.ic := rfl
@[simp] theorem Lane.setTally_st (L : Lane) (b i v : Nat) : (L.setTally b i v).st = L.st := rfl
@[simp] theorem Lane.setTally_pm (L : Lane) (b i v : Nat) : (L.setTally b i v).pm = L.pm := rfl
@[simp] theorem Lane.setTally_th (L : Lane) (b i v : Nat) : (L.setTally b i v).th = L.th := rfl
@[simp] theorem Lane.setTally_lc (L : Lane) (b i v : Nat) : (L.setTally b i v).lc = L.lc := rfl
@[simp] theorem Lane.setTally_out (L : Lane) (b i v : Nat) : (L.setTally b i v).out = L.out := rfl

/-! ### A latched interrupt source -/

@[simp] theorem Lane.latchSrc_id (L : Lane) (n : Nat) : (L.latchSrc n).id = L.id := rfl
@[simp] theorem Lane.latchSrc_now (L : Lane) (n : Nat) : (L.latchSrc n).now = L.now := rfl
@[simp] theorem Lane.latchSrc_fresh (L : Lane) (n : Nat) : (L.latchSrc n).fresh = L.fresh := rfl
@[simp] theorem Lane.latchSrc_regs (L : Lane) (n : Nat) : (L.latchSrc n).regs = L.regs := rfl
@[simp] theorem Lane.latchSrc_mem (L : Lane) (n : Nat) : (L.latchSrc n).mem = L.mem := rfl
@[simp] theorem Lane.latchSrc_rdata (L : Lane) (n : Nat) : (L.latchSrc n).rdata = L.rdata := rfl
@[simp] theorem Lane.latchSrc_busErr (L : Lane) (n : Nat) : (L.latchSrc n).busErr = L.busErr := rfl
@[simp] theorem Lane.latchSrc_stuckEvents (L : Lane) (n : Nat) : (L.latchSrc n).stuckEvents = L.stuckEvents := rfl
@[simp] theorem Lane.latchSrc_marks (L : Lane) (n : Nat) : (L.latchSrc n).marks = (L.note (F.IC_PEND.addr 0 (n / 32)) (2 ^ (n % 32))).marks := rfl
@[simp] theorem Lane.latchSrc_sy (L : Lane) (n : Nat) : (L.latchSrc n).sy = L.sy := rfl
@[simp] theorem Lane.latchSrc_ky (L : Lane) (n : Nat) : (L.latchSrc n).ky = L.ky := rfl
@[simp] theorem Lane.latchSrc_cx (L : Lane) (n : Nat) : (L.latchSrc n).cx = L.cx := rfl
@[simp] theorem Lane.latchSrc_fc (L : Lane) (n : Nat) : (L.latchSrc n).fc = L.fc := rfl
@[simp] theorem Lane.latchSrc_stop (L : Lane) (n : Nat) : (L.latchSrc n).stop = L.stop := rfl
@[simp] theorem Lane.latchSrc_cfg (L : Lane) (n : Nat) : (L.latchSrc n).cfg = L.cfg := rfl
@[simp] theorem Lane.latchSrc_groups (L : Lane) (n : Nat) : (L.latchSrc n).groups = L.groups := rfl
@[simp] theorem Lane.latchSrc_sf (L : Lane) (n : Nat) : (L.latchSrc n).sf = L.sf := rfl
@[simp] theorem Lane.latchSrc_ad (L : Lane) (n : Nat) : (L.latchSrc n).ad = L.ad := rfl
@[simp] theorem Lane.latchSrc_ln (L : Lane) (n : Nat) : (L.latchSrc n).ln = L.ln := rfl
@[simp] theorem Lane.latchSrc_oc (L : Lane) (n : Nat) : (L.latchSrc n).oc = L.oc := rfl
@[simp] theorem Lane.latchSrc_en (L : Lane) (n : Nat) : (L.latchSrc n).en = L.en := rfl
@[simp] theorem Lane.latchSrc_st (L : Lane) (n : Nat) : (L.latchSrc n).st = L.st := rfl
@[simp] theorem Lane.latchSrc_tl (L : Lane) (n : Nat) : (L.latchSrc n).tl = L.tl := rfl
@[simp] theorem Lane.latchSrc_pm (L : Lane) (n : Nat) : (L.latchSrc n).pm = L.pm := rfl
@[simp] theorem Lane.latchSrc_th (L : Lane) (n : Nat) : (L.latchSrc n).th = L.th := rfl
@[simp] theorem Lane.latchSrc_lc (L : Lane) (n : Nat) : (L.latchSrc n).lc = L.lc := rfl
@[simp] theorem Lane.latchSrc_out (L : Lane) (n : Nat) : (L.latchSrc n).out = L.out := rfl

/-! ### A link -/

@[simp] theorem Lane.setLink_id (L : Lane) (p : Port) (k : LinkS) : (L.setLink p k).id = L.id := by cases p <;> rfl
@[simp] theorem Lane.setLink_now (L : Lane) (p : Port) (k : LinkS) : (L.setLink p k).now = L.now := by cases p <;> rfl
@[simp] theorem Lane.setLink_fresh (L : Lane) (p : Port) (k : LinkS) : (L.setLink p k).fresh = L.fresh := by cases p <;> rfl
@[simp] theorem Lane.setLink_regs (L : Lane) (p : Port) (k : LinkS) : (L.setLink p k).regs = L.regs := by cases p <;> rfl
@[simp] theorem Lane.setLink_mem (L : Lane) (p : Port) (k : LinkS) : (L.setLink p k).mem = L.mem := by cases p <;> rfl
@[simp] theorem Lane.setLink_rdata (L : Lane) (p : Port) (k : LinkS) : (L.setLink p k).rdata = L.rdata := by cases p <;> rfl
@[simp] theorem Lane.setLink_busErr (L : Lane) (p : Port) (k : LinkS) : (L.setLink p k).busErr = L.busErr := by cases p <;> rfl
@[simp] theorem Lane.setLink_stuckEvents (L : Lane) (p : Port) (k : LinkS) : (L.setLink p k).stuckEvents = L.stuckEvents := by cases p <;> rfl
@[simp] theorem Lane.setLink_marks (L : Lane) (p : Port) (k : LinkS) : (L.setLink p k).marks = L.marks := by cases p <;> rfl
@[simp] theorem Lane.setLink_sy (L : Lane) (p : Port) (k : LinkS) : (L.setLink p k).sy = L.sy := by cases p <;> rfl
@[simp] theorem Lane.setLink_ky (L : Lane) (p : Port) (k : LinkS) : (L.setLink p k).ky = L.ky := by cases p <;> rfl
@[simp] theorem Lane.setLink_fc (L : Lane) (p : Port) (k : LinkS) : (L.setLink p k).fc = L.fc := by cases p <;> rfl
@[simp] theorem Lane.setLink_stop (L : Lane) (p : Port) (k : LinkS) : (L.setLink p k).stop = L.stop := by cases p <;> rfl
@[simp] theorem Lane.setLink_cfg (L : Lane) (p : Port) (k : LinkS) : (L.setLink p k).cfg = L.cfg := by cases p <;> rfl
@[simp] theorem Lane.setLink_groups (L : Lane) (p : Port) (k : LinkS) : (L.setLink p k).groups = L.groups := by cases p <;> rfl
@[simp] theorem Lane.setLink_sf (L : Lane) (p : Port) (k : LinkS) : (L.setLink p k).sf = L.sf := by cases p <;> rfl
@[simp] theorem Lane.setLink_ad (L : Lane) (p : Port) (k : LinkS) : (L.setLink p k).ad = L.ad := by cases p <;> rfl
@[simp] theorem Lane.setLink_ln (L : Lane) (p : Port) (k : LinkS) : (L.setLink p k).ln = L.ln := by cases p <;> rfl
@[simp] theorem Lane.setLink_oc (L : Lane) (p : Port) (k : LinkS) : (L.setLink p k).oc = L.oc := by cases p <;> rfl
@[simp] theorem Lane.setLink_en (L : Lane) (p : Port) (k : LinkS) : (L.setLink p k).en = L.en := by cases p <;> rfl
@[simp] theorem Lane.setLink_ic (L : Lane) (p : Port) (k : LinkS) : (L.setLink p k).ic = L.ic := by cases p <;> rfl
@[simp] theorem Lane.setLink_st (L : Lane) (p : Port) (k : LinkS) : (L.setLink p k).st = L.st := by cases p <;> rfl
@[simp] theorem Lane.setLink_tl (L : Lane) (p : Port) (k : LinkS) : (L.setLink p k).tl = L.tl := by cases p <;> rfl
@[simp] theorem Lane.setLink_pm (L : Lane) (p : Port) (k : LinkS) : (L.setLink p k).pm = L.pm := by cases p <;> rfl
@[simp] theorem Lane.setLink_th (L : Lane) (p : Port) (k : LinkS) : (L.setLink p k).th = L.th := by cases p <;> rfl
@[simp] theorem Lane.setLink_lc (L : Lane) (p : Port) (k : LinkS) : (L.setLink p k).lc = L.lc := by cases p <;> rfl
@[simp] theorem Lane.setLink_out (L : Lane) (p : Port) (k : LinkS) : (L.setLink p k).out = L.out := by cases p <;> rfl
@[simp] theorem Lane.link_setLink_same (L : Lane) (p : Port) (k : LinkS) : (L.setLink p k).link p = k := by cases p <;> rfl

/-! ### Groups -/

@[simp] theorem Lane.grp_setGrp_same (L : Lane) (g : Fin 16) (x : Group) : (L.setGrp g x).grp g = x := by simp [Lane.grp, Lane.setGrp]
theorem Lane.grp_setGrp_other (L : Lane) {g h : Fin 16} (x : Group) (e : h ≠ g) : (L.setGrp g x).grp h = L.grp h := by
  have : g.val ≠ h.val := fun q => e (Fin.ext q.symm)
  simp [Lane.grp, Lane.setGrp, this]

/-! ### The parts of a group -/

@[simp] theorem Lane.grp_updFb_same (L : Lane) (g : Fin 16) (f : FbS → FbS) :
    (L.updFb g f).grp g = { L.grp g with fb := f (L.grp g).fb } := by simp [Lane.updFb]
theorem Lane.grp_updFb_other (L : Lane) {g h : Fin 16} (f : FbS → FbS) (e : h ≠ g) : (L.updFb g f).grp h = L.grp h := Lane.grp_setGrp_other _ _ e
@[simp] theorem Lane.grp_updTq_same (L : Lane) (g : Fin 16) (f : TqS → TqS) :
    (L.updTq g f).grp g = { L.grp g with tq := f (L.grp g).tq } := by simp [Lane.updTq]
theorem Lane.grp_updTq_other (L : Lane) {g h : Fin 16} (f : TqS → TqS) (e : h ≠ g) : (L.updTq g f).grp h = L.grp h := Lane.grp_setGrp_other _ _ e
@[simp] theorem Lane.grp_updLg_same (L : Lane) (g : Fin 16) (f : LgS → LgS) :
    (L.updLg g f).grp g = { L.grp g with lg := f (L.grp g).lg } := by simp [Lane.updLg]
theorem Lane.grp_updLg_other (L : Lane) {g h : Fin 16} (f : LgS → LgS) (e : h ≠ g) : (L.updLg g f).grp h = L.grp h := Lane.grp_setGrp_other _ _ e
@[simp] theorem Lane.grp_updAn_same (L : Lane) (g : Fin 16) (f : AnS → AnS) :
    (L.updAn g f).grp g = { L.grp g with an := f (L.grp g).an } := by simp [Lane.updAn]
theorem Lane.grp_updAn_other (L : Lane) {g h : Fin 16} (f : AnS → AnS) (e : h ≠ g) : (L.updAn g f).grp h = L.grp h := Lane.grp_setGrp_other _ _ e
@[simp] theorem Lane.grp_updSd_same (L : Lane) (g : Fin 16) (f : SdS → SdS) :
    (L.updSd g f).grp g = { L.grp g with sd := f (L.grp g).sd } := by simp [Lane.updSd]
theorem Lane.grp_updSd_other (L : Lane) {g h : Fin 16} (f : SdS → SdS) (e : h ≠ g) : (L.updSd g f).grp h = L.grp h := Lane.grp_setGrp_other _ _ e
@[simp] theorem Lane.grp_updCh_same (L : Lane) (g : Fin 16) (f : ChS → ChS) :
    (L.updCh g f).grp g = { L.grp g with ch := f (L.grp g).ch } := by simp [Lane.updCh]
theorem Lane.grp_updCh_other (L : Lane) {g h : Fin 16} (f : ChS → ChS) (e : h ≠ g) : (L.updCh g f).grp h = L.grp h := Lane.grp_setGrp_other _ _ e

@[simp] theorem Lane.leg_updLeg_same (L : Lane) (g : Fin 16) (k : Fin 4) (f : LegS → LegS) : (L.updLeg g k f).leg g k = f (L.leg g k) := by
  simp [Lane.leg, Lane.updLeg]
theorem Lane.leg_updLeg_other (L : Lane) (g : Fin 16) {j k : Fin 4} (f : LegS → LegS) (e : j ≠ k) : (L.updLeg g k f).leg g j = L.leg g j := by
  have : k.val ≠ j.val := fun q => e (Fin.ext q.symm)
  simp [Lane.leg, Lane.updLeg, this]

/-! ### Inputs, ports and guardians -/

@[simp] theorem Lane.input_updInput_same (L : Lane) (i : Fin 16) (f : InputS → InputS) : (L.updInput i f).input i = f (L.input i) := by
  simp [Lane.input, Lane.updInput]
theorem Lane.input_updInput_other (L : Lane) {i j : Fin 16} (f : InputS → InputS) (e : j ≠ i) : (L.updInput i f).input j = L.input j := by
  have : i.val ≠ j.val := fun q => e (Fin.ext q.symm)
  simp [Lane.input, Lane.updInput, this]

@[simp] theorem Lane.lnPort_updPort_same (L : Lane) (p : Nat) (f : LnPortS → LnPortS) : (L.updPort p f).lnPort p = f (L.lnPort p) := by
  unfold Lane.updPort Lane.lnPort; split <;> rfl
theorem Lane.lnPort_updPort_other (L : Lane) {p q : Nat} (f : LnPortS → LnPortS) (e : (q = 0) ↔ ¬ (p = 0)) :
    (L.updPort p f).lnPort q = L.lnPort q := by
  unfold Lane.updPort Lane.lnPort; split <;> simp_all
@[simp] theorem Lane.guard_updGuard (L : Lane) (p : Nat) (f : GuardS → GuardS) : ((L.updGuard p f).lnPort p).guard = f (L.lnPort p).guard := by
  simp [Lane.updGuard]
@[simp] theorem Lane.regs_updPort (L : Lane) (p : Nat) (f : LnPortS → LnPortS) : (L.updPort p f).regs = L.regs := by unfold Lane.updPort; split <;> rfl
@[simp] theorem Lane.mem_updPort (L : Lane) (p : Nat) (f : LnPortS → LnPortS) : (L.updPort p f).mem = L.mem := by unfold Lane.updPort; split <;> rfl
@[simp] theorem Lane.now_updPort (L : Lane) (p : Nat) (f : LnPortS → LnPortS) : (L.updPort p f).now = L.now := by unfold Lane.updPort; split <;> rfl

end Sys2Proof.Laws
end

