-- ==== Sys2Proof/Laws/Ops.lean ====
section
/-! SUPPORT. What each shared operation can do, said once: registers and fields, sticking counters, tallies, memories and their canonical form, lane
reset, gates, and the settling of interrupt sources. -/

namespace Sys2Proof.Laws

open Sys2Proof.Machine

/-! ### Registers -/

@[simp] theorem reg_setReg_same (L : Lane) (a : Nat) (w : Word) : (L.setReg a w).reg a = w := by
  simp [Lane.reg, Lane.setReg]

theorem reg_setReg_other (L : Lane) {a b : Nat} (w : Word) (h : b ≠ a) : (L.setReg a w).reg b = L.reg b :=
  cellGet_set_other _ _ _ _ h

/-- A field reads back as what was put into it, cut to its width; all of the field lies inside the word. -/
theorem fld_get_put (f : Fld) (w : Word) (v : Nat) (h : f.lo + f.wid ≤ 32) : f.get (f.put w v) = v % 2 ^ f.wid := by
  have h1 : v % 2 ^ f.wid * 2 ^ f.lo + w.toNat % 2 ^ f.lo < 2 ^ (f.lo + f.wid) := by
    have a : w.toNat % 2 ^ f.lo < 2 ^ f.lo := Nat.mod_lt _ (Nat.two_pow_pos _)
    have b : v % 2 ^ f.wid < 2 ^ f.wid := Nat.mod_lt _ (Nat.two_pow_pos _)
    have c : (v % 2 ^ f.wid + 1) * 2 ^ f.lo ≤ 2 ^ f.wid * 2 ^ f.lo := Nat.mul_le_mul_right _ b
    rw [Nat.pow_add, Nat.mul_comm (2 ^ f.lo)]
    rw [Nat.add_mul] at c
    omega
  have h2 : w.toNat / 2 ^ (f.lo + f.wid) * 2 ^ (f.lo + f.wid) ≤ w.toNat := Nat.div_mul_le_self _ _
  have h3 : w.toNat < 2 ^ 32 := w.isLt
  have h4 : w.toNat / 2 ^ (f.lo + f.wid) * 2 ^ (f.lo + f.wid) + v % 2 ^ f.wid * 2 ^ f.lo + w.toNat % 2 ^ f.lo < 2 ^ 32 := by
    have d : 2 ^ 32 = 2 ^ (32 - (f.lo + f.wid)) * 2 ^ (f.lo + f.wid) := by rw [← Nat.pow_add]; congr 1; omega
    have e : w.toNat / 2 ^ (f.lo + f.wid) < 2 ^ (32 - (f.lo + f.wid)) := by
      apply Nat.div_lt_of_lt_mul; rw [Nat.mul_comm, ← d]; exact h3
    have g : (w.toNat / 2 ^ (f.lo + f.wid) + 1) * 2 ^ (f.lo + f.wid) ≤ 2 ^ (32 - (f.lo + f.wid)) * 2 ^ (f.lo + f.wid) :=
      Nat.mul_le_mul_right _ e
    rw [← d, Nat.add_mul] at g
    omega
  unfold Fld.get Fld.put
  rw [BitVec.toNat_ofNat, Nat.mod_eq_of_lt h4, Nat.pow_add]
  have k : w.toNat / (2 ^ f.lo * 2 ^ f.wid) * (2 ^ f.lo * 2 ^ f.wid) + v % 2 ^ f.wid * 2 ^ f.lo + w.toNat % 2 ^ f.lo
      = 2 ^ f.lo * (w.toNat / (2 ^ f.lo * 2 ^ f.wid) * 2 ^ f.wid + v % 2 ^ f.wid) + w.toNat % 2 ^ f.lo := by
    rw [Nat.mul_add, Nat.mul_comm (2 ^ f.lo) (v % 2 ^ f.wid)]
    congr 2
    rw [← Nat.mul_assoc, Nat.mul_assoc _ (2 ^ f.lo), Nat.mul_comm (2 ^ f.lo) (2 ^ f.wid), ← Nat.mul_assoc, Nat.mul_comm _ (2 ^ f.lo), ← Nat.mul_assoc]
  rw [k, Nat.mul_add_div (Nat.two_pow_pos _), Nat.div_eq_of_lt (Nat.mod_lt _ (Nat.two_pow_pos _)), Nat.add_zero, Nat.mul_comm _ (2 ^ f.wid),
    Nat.mul_add_mod, Nat.mod_mod]

theorem fld_setFld_same (L : Lane) (f : Fld) (v g k : Nat) (h : f.lo + f.wid ≤ 32) : (L.setFld f v g k).fld f g k = v % 2 ^ f.wid := by
  simp only [Lane.fld, Lane.setFld, reg_setReg_same]
  exact fld_get_put f _ v h

/-- A field written in one register leaves the others as they read. -/
theorem reg_setFld_other (L : Lane) (f : Fld) (v g k : Nat) {a : Nat} (h : a ≠ f.addr g k) : (L.setFld f v g k).reg a = L.reg a :=
  reg_setReg_other L _ h

/-- A mark of what was set in this cycle leaves every register as it reads. -/
@[simp] theorem note_reg (L : Lane) (a m b : Nat) : (L.note a m).reg b = L.reg b := rfl
@[simp] theorem note_fld (L : Lane) (a m : Nat) (f : Fld) (g k : Nat) : (L.note a m).fld f g k = L.fld f g k := rfl

/-- The lane with a counter's field marked as set in this cycle (R16). -/
def bumpMark (L : Lane) (f : Fld) (g k : Nat) : Lane := L.note (f.addr g k) ((2 ^ f.wid - 1) * 2 ^ f.lo)

/-- All that a sticking counter can do (R15, R16), its mark aside: nothing once it sticks; else its field, and in the step to its largest value
its stuck bit too and, with sixteen bits, the count of stuck events. -/
theorem bump_cases (L : Lane) (f : Fld) (g k : Nat) :
    (L.fld f g k = 2 ^ f.wid - 1 ∧ L.bump f g k = bumpMark L f g k) ∨
    (L.fld f g k ≠ 2 ^ f.wid - 1 ∧ L.bump f g k = (bumpMark L f g k).setFld f (L.fld f g k + 1) g k) ∨
    (L.fld f g k ≠ 2 ^ f.wid - 1 ∧ 2 ^ f.wid - 1 ≤ L.fld f g k + 1 ∧ ∃ a w,
      L.bump f g k = { ((bumpMark L f g k).setFld f (L.fld f g k + 1) g k).setReg a w with
        stuckEvents := L.stuckEvents + (if f.wid = 8 then 0 else 1) }) := by
  by_cases h : L.fld f g k = 2 ^ f.wid - 1
  · exact .inl ⟨h, by simp only [Lane.bump, h, if_true]; rfl⟩
  · right
    by_cases h2 : L.fld f g k + 1 < 2 ^ f.wid - 1
    · exact .inl ⟨h, by simp only [Lane.bump, h, h2, if_true, if_false]; rfl⟩
    · have h3 : 2 ^ f.wid - 1 ≤ L.fld f g k + 1 := Nat.le_of_not_lt h2
      simp only [Lane.bump, h, h2, if_false]
      split
      · exact .inl ⟨h, rfl⟩
      · split
        · exact .inl ⟨h, rfl⟩
        · exact .inr ⟨h, h3, _, _, rfl⟩

/-- A counter changes nothing but registers, the marks of this cycle and the count of stuck events. -/
theorem bump_shape (L : Lane) (f : Fld) (g k : Nat) :
    L.bump f g k = { L with regs := (L.bump f g k).regs, marks := (L.bump f g k).marks, stuckEvents := (L.bump f g k).stuckEvents } := by
  rcases bump_cases L f g k with ⟨_, h⟩ | ⟨_, h⟩ | ⟨_, _, a, w, h⟩ <;> rw [h] <;> rfl

/-- So these parts of the lane stand. -/
theorem bump_frame (L : Lane) (f : Fld) (g k : Nat) :
    (L.bump f g k).mem = L.mem ∧ (L.bump f g k).ky = L.ky ∧ (L.bump f g k).fc = L.fc ∧ (L.bump f g k).tl = L.tl ∧ (L.bump f g k).now = L.now ∧
    (L.bump f g k).id = L.id := by
  rcases bump_cases L f g k with ⟨_, h⟩ | ⟨_, h⟩ | ⟨_, _, a, w, h⟩ <;> rw [h] <;> exact ⟨rfl, rfl, rfl, rfl, rfl, rfl⟩

@[simp] theorem tallyWord_tallyMark (L : Lane) (b i b' i' : Nat) : (L.tallyMark b i).tallyWord b' i' = L.tallyWord b' i' := rfl

/-- A tally that does not wrap only counts. -/
theorem tallyOne_small (L : Lane) (b i n : Nat) (h : L.tallyWord b i % 2 ^ 48 + n < 2 ^ 48) :
    L.tallyOne b i n = (L.tallyMark b i).setTally b i (L.tallyWord b i + n) := by
  simp only [Lane.tallyOne, tallyWord_tallyMark, h, if_true]

@[simp] theorem tallyWord_setTally_same (L : Lane) (b i v : Nat) : (L.setTally b i v).tallyWord b i = v := by
  simp [Lane.tallyWord, Lane.setTally]

/-! ### Memories -/

@[simp] theorem byte_setByte_same (L : Lane) (a : Nat) (b : Byte) : (L.setByte a b).byte a = b := by
  simp [Lane.byte, Lane.setByte]

theorem byte_setByte_other (L : Lane) {a c : Nat} (b : Byte) (h : c ≠ a) : (L.setByte a b).byte c = L.byte c :=
  cellGet_set_other _ _ _ _ h

/-- Bytes stored leave every byte outside their range. -/
theorem byte_setBytes_other (bs : List Byte) : ∀ (L : Lane) (a c : Nat), c < a ∨ a + bs.length ≤ c → (L.setBytes a bs).byte c = L.byte c := by
  induction bs with
  | nil => intro L a c _; rfl
  | cons b bs ih =>
    intro L a c h
    simp only [List.length_cons] at h
    simp only [Lane.setBytes]
    rw [ih (L.setByte a b) (a + 1) c (by omega), byte_setByte_other L b (by omega)]

/-- And each of them reads as stored. -/
theorem byte_setBytes_in (bs : List Byte) : ∀ (L : Lane) (a i : Nat) (h : i < bs.length), (L.setBytes a bs).byte (a + i) = bs[i] := by
  induction bs with
  | nil => intro L a i h; exact absurd h (by simp)
  | cons b bs ih =>
    intro L a i h
    simp only [Lane.setBytes]
    cases i with
    | zero => rw [byte_setBytes_other bs _ _ _ (by omega)]; simp
    | succ i =>
      have := ih (L.setByte a b) (a + 1) i (by simpa using h)
      rw [show a + 1 + i = a + (i + 1) by omega] at this
      simpa using this

/-- Every memory operation keeps the canonical form. -/
theorem wf_setByte (L : Lane) (a : Nat) (b : Byte) (h : Memory.wf L.mem = true) : Memory.wf (L.setByte a b).mem = true :=
  cellWf_set memDefault h a b

theorem wf_setBytes (bs : List Byte) : ∀ (L : Lane) (a : Nat), Memory.wf L.mem = true → Memory.wf (L.setBytes a bs).mem = true := by
  induction bs with
  | nil => intro L a h; exact h
  | cons b bs ih => intro L a h; exact ih _ _ (wf_setByte L a b h)

theorem wf_setMemWord (L : Lane) (a : Nat) (w : Word) (h : Memory.wf L.mem = true) : Memory.wf (L.setMemWord a w).mem = true :=
  wf_setBytes _ L a h

theorem wf_eraseRange (L : Lane) (a n : Nat) (h : Memory.wf L.mem = true) : Memory.wf (L.eraseRange a n).mem = true := cellWf_filter memDefault _ h

theorem wf_clearRange (L : Lane) (a n : Nat) (h : Memory.wf L.mem = true) : Memory.wf (L.clearRange a n).mem = true := cellWf_filter memDefault _ h

theorem wf_putBuffer (L : Lane) (a n : Nat) (bs : List Byte) (h : Memory.wf L.mem = true) : Memory.wf (L.putBuffer a n bs).mem = true :=
  wf_setBytes _ _ _ (wf_clearRange L a n h)

theorem wf_memStore (L : Lane) (a n : Nat) (v : Word) (h : Memory.wf L.mem = true) : Memory.wf (L.memStore a n v).mem = true := by
  unfold Lane.memStore
  split
  · exact h
  · exact wf_setBytes _ L a h

theorem wf_cellarClear (L : Lane) (h : Memory.wf L.mem = true) : Memory.wf L.cellarClear.mem = true := cellWf_filter memDefault _ h

theorem wf_powerDown (L : Lane) (c : Bool) (h : Memory.wf L.mem = true) : Memory.wf (L.powerDown c).mem = true := cellWf_filter memDefault _ h

/-- The memories of a lane before its supplies come up are canonical. -/
theorem wf_reset (l : LaneId) : Memory.wf (Lane.reset l).mem = true := rfl

/-! ### Lane reset -/

theorem keptWord_default (id : LaneId) (a : Nat) : keptWord id a (resetWord id a) = resetWord id a := by
  unfold keptWord
  ext i h
  simp only [BitVec.getElem_or, BitVec.getElem_and, BitVec.getElem_not]
  cases (resetWord id a)[i] <;> cases (BitVec.ofNat 32 (keepMask a))[i] <;> rfl

/-- The register file after lane reset is canonical. -/
theorem wf_keptRegs (id : LaneId) (rs : List (Nat × Word)) : cellWf (resetWord id) (keptRegs id rs) = true :=
  cellWf_rebuild (resetWord id) (keptWord id) rs

/-- And reads, at every address, as what lane reset keeps of the register. -/
theorem get_keptRegs (id : LaneId) (rs : List (Nat × Word)) (a : Nat) :
    cellGet (resetWord id a) (keptRegs id rs) a = keptWord id a (cellGet (resetWord id a) rs a) :=
  cellGet_rebuild (resetWord id) (keptWord id) (keptWord_default id) rs a

/-! ### Gates and commands -/

theorem gate_on {d : Domain} {b : Nat} {L : Lane} (f : Lane → Lane) (h : L.acts d b = true) : gate d b f L = f L := by simp [gate, h]
theorem gate_off {d : Domain} {b : Nat} {L : Lane} (f : Lane → Lane) (h : L.acts d b = false) : gate d b f L = L := by simp [gate, h]

/-- The pair reaches a block exactly when the block runs and the pair runs and is not halted. -/
theorem pairActs_iff {L : Lane} {d : Domain} {b : Nat} :
    L.pairActs d b = true ↔ L.acts d b = true ∧ L.acts .core 0x20 = true ∧ L.ic.halted = false := by
  simp [Lane.pairActs, and_assoc]

/-- Pads deliver to a block exactly when it runs and they are not held. -/
theorem inActs_iff {L : Lane} {d : Domain} {b : Nat} : L.inActs d b = true ↔ L.acts d b = true ∧ L.padsHeld d = false := by
  simp [Lane.inActs]

/-- A drive block acts awake exactly when it runs and its clock does not rest. -/
theorem awakeActs_iff {L : Lane} {b : Nat} : L.awakeActs b = true ↔ L.acts .drive b = true ∧ L.dozing = false := by
  simp [Lane.awakeActs]

theorem gateAwake_on {b : Nat} {L : Lane} (f : Lane → Lane) (h : L.awakeActs b = true) : gateAwake b f L = f L := by
  simp [gateAwake, h]

theorem gateAwake_off {b : Nat} {L : Lane} (f : Lane → Lane) (h : L.awakeActs b = false) : gateAwake b f L = L := by
  simp [gateAwake, h]

theorem gateAwakeIn_on {b : Nat} {L : Lane} (f : Lane → Lane) (h : L.awakeActs b = true) (h2 : L.inActs .drive b = true) :
    gateAwakeIn b f L = f L := by
  simp [gateAwakeIn, h, h2]

theorem gateIn_on {d : Domain} {b : Nat} {L : Lane} (f : Lane → Lane) (h : L.inActs d b = true) : gateIn d b f L = f L := by
  simp [gateIn, h]

/-- Held pads deliver nothing (R395). -/
theorem gateIn_off {d : Domain} {b : Nat} {L : Lane} (f : Lane → Lane) (h : L.inActs d b = false) : gateIn d b f L = L := by
  simp [gateIn, h]

theorem gatePair_on {d : Domain} {b : Nat} {L : Lane} (f : Lane → Lane) (h : L.pairActs d b = true) : gatePair d b f L = f L := by
  simp [gatePair, h]

/-- A halted pair reaches nothing (R331). -/
theorem gatePair_off {d : Domain} {b : Nat} {L : Lane} (f : Lane → Lane) (h : L.pairActs d b = false) : gatePair d b f L = L := by
  simp [gatePair, h]

theorem gateTask_on {L : Lane} (f : Lane → Lane) (h : L.acts .core 0x20 = true) (h2 : L.runtime = true) : gateTask f L = f L := by
  simp [gateTask, h, h2]

/-- A block acts only out of reset. -/
theorem acts_not_held {L : Lane} {d : Domain} {b : Nat} (h : L.acts d b = true) : L.sy.resetHeld = false := by
  simp only [Lane.acts, Bool.and_eq_true, Bool.not_eq_true'] at h
  exact h.1.1

theorem acts_held {L : Lane} (d : Domain) (b : Nat) (h : L.sy.resetHeld = true) : L.acts d b = false := by simp [Lane.acts, h]

/-- A command that `exec` hands to `onLane` does what its lane operation makes of the lane. -/
theorem does_of {i : Instr} {l : LaneId} {t : Nat} {s : State} {L M : Lane} {f : Lane → Lane} (hL : s.seen l t = L)
    (h : exec i s = onLane l t f s) (hf : f L = M) : Does i l t s M := by
  subst hL; subst hf; exact h

/-! ### Interrupt sources -/

/-- After every command no target waits for a source that is neither pending nor active. -/
theorem icSettle_settled (L : Lane) (c : Nat × Nat) (h : c ∈ L.icSettle.ic.oldTarget) : L.icSettle.srcPend c.1 = true ∨ c.1 ∈ L.icSettle.ic.active := by
  have h2 : (L.srcPend c.1 || L.ic.active.contains c.1) = true := (List.mem_filter.1 h).2
  have h3 : L.icSettle.srcPend c.1 = L.srcPend c.1 := rfl
  have h4 : L.icSettle.ic.active = L.ic.active := rfl
  rw [h3, h4]
  simpa using h2

end Sys2Proof.Laws
end

