-- ==== Sys2Proof/Laws/PerInstr.lean ====
section
/-! SUPPORT. Facts made command by command. `Spelling`: the table gives its rows no bits, so that no word spells the command. -/

namespace Sys2Proof.Laws

/-- No word of the table spells the command. -/
def Spelling.Statement (i : Instr) : Prop := ∀ nbits w : Nat, decodeTableWord nbits w ≠ some i

theorem Spelling.railLoss (l : LaneId) (t : Nat) (r : Fin 5) : Spelling.Statement (.railLoss l t r) := fun _ _ h => nomatch h
theorem Spelling.rstNLow (l : LaneId) (t : Nat) : Spelling.Statement (.rstNLow l t) := fun _ _ h => nomatch h
theorem Spelling.laneResetRelease (l : LaneId) (t : Nat) (clksel : Bool) : Spelling.Statement (.laneResetRelease l t clksel) := fun _ _ h => nomatch h
theorem Spelling.cellarReset (l : LaneId) (t : Nat) : Spelling.Statement (.cellarReset l t) := fun _ _ h => nomatch h
theorem Spelling.railOutOfWindow (l : LaneId) (t : Nat) (r : Fin 5) : Spelling.Statement (.railOutOfWindow l t r) := fun _ _ h => nomatch h
theorem Spelling.tapReset (l : LaneId) (t : Nat) : Spelling.Statement (.tapReset l t) := fun _ _ h => nomatch h
theorem Spelling.lreset (l : LaneId) (t : Nat) (v : Word) : Spelling.Statement (.lreset l t v) := fun _ _ h => nomatch h
theorem Spelling.pllLock (l : LaneId) (t : Nat) : Spelling.Statement (.pllLock l t) := fun _ _ h => nomatch h
theorem Spelling.pllLockTimeout (l : LaneId) (t : Nat) : Spelling.Statement (.pllLockTimeout l t) := fun _ _ h => nomatch h
theorem Spelling.pllLockLost (l : LaneId) (t : Nat) : Spelling.Statement (.pllLockLost l t) := fun _ _ h => nomatch h
theorem Spelling.mainClockStop (l : LaneId) (t : Nat) : Spelling.Statement (.mainClockStop l t) := fun _ _ h => nomatch h
theorem Spelling.guardianCountWindow (l : LaneId) (t : Nat) (cnt : Nat) : Spelling.Statement (.guardianCountWindow l t cnt) := fun _ _ h => nomatch h
theorem Spelling.rcCountWindow (l : LaneId) (t : Nat) (cnt : Nat) : Spelling.Statement (.rcCountWindow l t cnt) := fun _ _ h => nomatch h
theorem Spelling.x32Fail (l : LaneId) (t : Nat) : Spelling.Statement (.x32Fail l t) := fun _ _ h => nomatch h
theorem Spelling.secureBoot (l : LaneId) (t : Nat) : Spelling.Statement (.secureBoot l t) := fun _ _ h => nomatch h
theorem Spelling.configLoad (l : LaneId) (t : Nat) (straps : Nat) : Spelling.Statement (.configLoad l t straps) := fun _ _ h => nomatch h
theorem Spelling.strapRead (l : LaneId) (t : Nat) (pat : Nat) : Spelling.Statement (.strapRead l t pat) := fun _ _ h => nomatch h
theorem Spelling.decisionTick (l : LaneId) (t : Nat) (xs : List GroupSample) : Spelling.Statement (.decisionTick l t xs) := fun _ _ h => nomatch h
theorem Spelling.deferredLegChange (l : LaneId) (t : Nat) (g : Fin 16) (k : Fin 4) : Spelling.Statement (.deferredLegChange l t g k) := fun _ _ h => nomatch h
theorem Spelling.authorityTickBoundary (l : LaneId) (t : Nat) : Spelling.Statement (.authorityTickBoundary l t) := fun _ _ h => nomatch h
theorem Spelling.tickDeadline (l : LaneId) (t : Nat) : Spelling.Statement (.tickDeadline l t) := fun _ _ h => nomatch h
theorem Spelling.exchangeTick (l : LaneId) (t : Nat) (rttN : Nat) (rttP : Nat) : Spelling.Statement (.exchangeTick l t rttN rttP) := fun _ _ h => nomatch h
theorem Spelling.carrierPeriodStart (l : LaneId) (t : Nat) (g : Fin 16) (clocks : List Nat) (illegal : Nat) : Spelling.Statement (.carrierPeriodStart l t g clocks illegal) := fun _ _ h => nomatch h
theorem Spelling.genHoldEnd (l : LaneId) (t : Nat) (g : Fin 16) : Spelling.Statement (.genHoldEnd l t g) := fun _ _ h => nomatch h
theorem Spelling.switchingNodeEdge (l : LaneId) (t : Nat) (g : Fin 16) (k : Fin 4) (rising : Bool) (cross : Option Nat) (clocks : List Nat) : Spelling.Statement (.switchingNodeEdge l t g k rising cross clocks) := fun _ _ h => nomatch h
theorem Spelling.overcurrentTrip (l : LaneId) (t : Nat) (g : Fin 16) (u : List Nat) (v : List Nat) (w : List Nat) : Spelling.Statement (.overcurrentTrip l t g u v w) := fun _ _ h => nomatch h
theorem Spelling.egOvercurrent (l : LaneId) (t : Nat) (g : Fin 16) (u : List Nat) (v : List Nat) (w : List Nat) : Spelling.Statement (.egOvercurrent l t g u v w) := fun _ _ h => nomatch h
theorem Spelling.egOvervoltage (l : LaneId) (t : Nat) (g : Fin 16) (clocks : List Nat) : Spelling.Statement (.egOvervoltage l t g clocks) := fun _ _ h => nomatch h
theorem Spelling.switchTokenReturn (l : LaneId) (t : Nat) (g : Fin 16) (k : Fin 4) : Spelling.Statement (.switchTokenReturn l t g k) := fun _ _ h => nomatch h
theorem Spelling.channelStuck (l : LaneId) (t : Nat) (g : Fin 16) (x : ChannelBits) : Spelling.Statement (.channelStuck l t g x) := fun _ _ h => nomatch h
theorem Spelling.settlingEnd (l : LaneId) (t : Nat) (g : Fin 16) : Spelling.Statement (.settlingEnd l t g) := fun _ _ h => nomatch h
theorem Spelling.ovQualified (l : LaneId) (t : Nat) (g : Fin 16) (x : ThresholdBits) : Spelling.Statement (.ovQualified l t g x) := fun _ _ h => nomatch h
theorem Spelling.undervoltageTrip (l : LaneId) (t : Nat) (x : GroupBits) : Spelling.Statement (.undervoltageTrip l t x) := fun _ _ h => nomatch h
theorem Spelling.adcFrame (l : LaneId) (t : Nat) (fe : List Int) (hk : List Int) (temp : List Int) : Spelling.Statement (.adcFrame l t fe hk temp) := fun _ _ h => nomatch h
theorem Spelling.ssiTransfer (l : LaneId) (t : Nat) (f : Fin 16) (dataHigh : Bool) : Spelling.Statement (.ssiTransfer l t f dataHigh) := fun _ _ h => nomatch h
theorem Spelling.ssiTransferDone (l : LaneId) (t : Nat) (f : Fin 16) (word : Nat) (par : Bool) (last : Bool) : Spelling.Statement (.ssiTransferDone l t f word par last) := fun _ _ h => nomatch h
theorem Spelling.incrementalEdge (l : LaneId) (t : Nat) (f : Fin 16) (x : IncrLevels) (held : Nat) : Spelling.Statement (.incrementalEdge l t f x held) := fun _ _ h => nomatch h
theorem Spelling.zEdge (l : LaneId) (t : Nat) (x : ZRise) : Spelling.Statement (.zEdge l t x) := fun _ _ h => nomatch h
theorem Spelling.setRef (l : LaneId) (t : Nat) (f : Fin 16) : Spelling.Statement (.setRef l t f) := fun _ _ h => nomatch h
theorem Spelling.hallChange (l : LaneId) (t : Nat) (f : Fin 16) (x : HallLevels) : Spelling.Statement (.hallChange l t f x) := fun _ _ h => nomatch h
theorem Spelling.hallInvalidHold (l : LaneId) (t : Nat) (f : Fin 16) : Spelling.Statement (.hallInvalidHold l t f) := fun _ _ h => nomatch h
theorem Spelling.lineFault (l : LaneId) (t : Nat) (f : Fin 16) (rcv : Fin 3) : Spelling.Statement (.lineFault l t f rcv) := fun _ _ h => nomatch h
theorem Spelling.speedTimeout (l : LaneId) (t : Nat) (f : Fin 16) : Spelling.Statement (.speedTimeout l t f) := fun _ _ h => nomatch h
theorem Spelling.excitationHalfPeriod (l : LaneId) (t : Nat) (amp : Nat) (limited : Bool) : Spelling.Statement (.excitationHalfPeriod l t amp limited) := fun _ _ h => nomatch h
theorem Spelling.polarityTest (l : LaneId) (t : Nat) (g : Fin 16) (lo : List Nat) (hi : List Nat) : Spelling.Statement (.polarityTest l t g lo hi) := fun _ _ h => nomatch h
theorem Spelling.startFail (l : LaneId) (t : Nat) (g : Fin 16) : Spelling.Statement (.startFail l t g) := fun _ _ h => nomatch h
theorem Spelling.polarityWaitEnd (l : LaneId) (t : Nat) (g : Fin 16) : Spelling.Statement (.polarityWaitEnd l t g) := fun _ _ h => nomatch h
theorem Spelling.localSourceReturn (l : LaneId) (t : Nat) (g : Fin 16) (src : Machine.Source) : Spelling.Statement (.localSourceReturn l t g src) := fun _ _ h => nomatch h
theorem Spelling.encoderAlign (l : LaneId) (t : Nat) (g : Fin 16) (ok : Bool) : Spelling.Statement (.encoderAlign l t g ok) := fun _ _ h => nomatch h
theorem Spelling.alignCapture (l : LaneId) (t : Nat) (g : Fin 16) : Spelling.Statement (.alignCapture l t g) := fun _ _ h => nomatch h
theorem Spelling.peerStale (l : LaneId) (t : Nat) (g : Fin 16) (p : Port) : Spelling.Statement (.peerStale l t g p) := fun _ _ h => nomatch h
theorem Spelling.voteFrameReceive (l : LaneId) (t : Nat) (p : Port) (fr : VoteFrame) (ok : Bool) : Spelling.Statement (.voteFrameReceive l t p fr ok) := fun _ _ h => nomatch h
theorem Spelling.angleFrameReceive (l : LaneId) (t : Nat) (p : Port) (fr : AngleFrame) (ok : Bool) : Spelling.Statement (.angleFrameReceive l t p fr ok) := fun _ _ h => nomatch h
theorem Spelling.setpointFrameReceive (l : LaneId) (t : Nat) (p : Port) (fr : SetpointFrame) (ok : Bool) : Spelling.Statement (.setpointFrameReceive l t p fr ok) := fun _ _ h => nomatch h
theorem Spelling.shelfFrameReceive (l : LaneId) (t : Nat) (p : Port) (fr : ShelfFrame) (ok : Bool) : Spelling.Statement (.shelfFrameReceive l t p fr ok) := fun _ _ h => nomatch h
theorem Spelling.coordinationFrameReceive (l : LaneId) (t : Nat) (p : Port) (fr : CoordFrame) (ok : Bool) : Spelling.Statement (.coordinationFrameReceive l t p fr ok) := fun _ _ h => nomatch h
theorem Spelling.renewalReceive (l : LaneId) (t : Nat) (p : Port) (m : KeyMsg) (ok : Bool) : Spelling.Statement (.renewalReceive l t p m ok) := fun _ _ h => nomatch h
theorem Spelling.renewalAckReceive (l : LaneId) (t : Nat) (p : Port) (m : KeyMsg) (ok : Bool) : Spelling.Statement (.renewalAckReceive l t p m ok) := fun _ _ h => nomatch h
theorem Spelling.claimReceive (l : LaneId) (t : Nat) (p : Port) (m : KeyMsg) (ok : Bool) : Spelling.Statement (.claimReceive l t p m ok) := fun _ _ h => nomatch h
theorem Spelling.claimAckReceive (l : LaneId) (t : Nat) (p : Port) (m : KeyMsg) (ok : Bool) : Spelling.Statement (.claimAckReceive l t p m ok) := fun _ _ h => nomatch h
theorem Spelling.claimWithdrawalReceive (l : LaneId) (t : Nat) (p : Port) (m : KeyMsg) (ok : Bool) : Spelling.Statement (.claimWithdrawalReceive l t p m ok) := fun _ _ h => nomatch h
theorem Spelling.releaseReceive (l : LaneId) (t : Nat) (p : Port) (m : KeyMsg) (ok : Bool) : Spelling.Statement (.releaseReceive l t p m ok) := fun _ _ h => nomatch h
theorem Spelling.revocationReceive (l : LaneId) (t : Nat) (p : Port) (m : KeyMsg) (ok : Bool) : Spelling.Statement (.revocationReceive l t p m ok) := fun _ _ h => nomatch h
theorem Spelling.linkSilence (l : LaneId) (t : Nat) (p : Port) : Spelling.Statement (.linkSilence l t p) := fun _ _ h => nomatch h
theorem Spelling.linkUp (l : LaneId) (t : Nat) (p : Port) : Spelling.Statement (.linkUp l t p) := fun _ _ h => nomatch h
theorem Spelling.leaseExpiry (l : LaneId) (t : Nat) : Spelling.Statement (.leaseExpiry l t) := fun _ _ h => nomatch h
theorem Spelling.silenceThreshold (l : LaneId) (t : Nat) : Spelling.Statement (.silenceThreshold l t) := fun _ _ h => nomatch h
theorem Spelling.interregnumTimeout (l : LaneId) (t : Nat) : Spelling.Statement (.interregnumTimeout l t) := fun _ _ h => nomatch h
theorem Spelling.voteExpiry (l : LaneId) (t : Nat) (v : LaneId) : Spelling.Statement (.voteExpiry l t v) := fun _ _ h => nomatch h
theorem Spelling.d2dFrameReceive (l : LaneId) (t : Nat) (field : Bool) (x : D2dFrame) : Spelling.Statement (.d2dFrameReceive l t field x) := fun _ _ h => nomatch h
theorem Spelling.d2dLinkLoss (l : LaneId) (t : Nat) : Spelling.Statement (.d2dLinkLoss l t) := fun _ _ h => nomatch h
theorem Spelling.inputSample (l : LaneId) (t : Nat) (raw : Nat) : Spelling.Statement (.inputSample l t raw) := fun _ _ h => nomatch h
theorem Spelling.offPulseStart (l : LaneId) (t : Nat) (j : Fin 4) : Spelling.Statement (.offPulseStart l t j) := fun _ _ h => nomatch h
theorem Spelling.testSample (l : LaneId) (t : Nat) (j : Fin 4) (raw : Nat) : Spelling.Statement (.testSample l t j raw) := fun _ _ h => nomatch h
theorem Spelling.testCycleEnd (l : LaneId) (t : Nat) : Spelling.Statement (.testCycleEnd l t) := fun _ _ h => nomatch h
theorem Spelling.supplyLimitTrip (l : LaneId) (t : Nat) (supply : Fin 8) : Spelling.Statement (.supplyLimitTrip l t supply) := fun _ _ h => nomatch h
theorem Spelling.supplyRetry (l : LaneId) (t : Nat) (supply : Fin 8) (limited : Bool) : Spelling.Statement (.supplyRetry l t supply limited) := fun _ _ h => nomatch h
theorem Spelling.supplyEnableClear (l : LaneId) (t : Nat) (supply : Fin 8) : Spelling.Statement (.supplyEnableClear l t supply) := fun _ _ h => nomatch h
theorem Spelling.standstillConfirm (l : LaneId) (t : Nat) : Spelling.Statement (.standstillConfirm l t) := fun _ _ h => nomatch h
theorem Spelling.stopTimeLimit (l : LaneId) (t : Nat) : Spelling.Statement (.stopTimeLimit l t) := fun _ _ h => nomatch h
theorem Spelling.steeringHoldEnd (l : LaneId) (t : Nat) : Spelling.Statement (.steeringHoldEnd l t) := fun _ _ h => nomatch h
theorem Spelling.stopEnd (l : LaneId) (t : Nat) : Spelling.Statement (.stopEnd l t) := fun _ _ h => nomatch h
theorem Spelling.bench (l : LaneId) (t : Nat) : Spelling.Statement (.bench l t) := fun _ _ h => nomatch h
theorem Spelling.readmit (l : LaneId) (t : Nat) : Spelling.Statement (.readmit l t) := fun _ _ h => nomatch h
theorem Spelling.release (l : LaneId) (t : Nat) : Spelling.Statement (.release l t) := fun _ _ h => nomatch h
theorem Spelling.lgCommit (l : LaneId) (t : Nat) (g : Fin 16) : Spelling.Statement (.lgCommit l t g) := fun _ _ h => nomatch h
theorem Spelling.tripClr (l : LaneId) (t : Nat) (g : Fin 16) : Spelling.Statement (.tripClr l t g) := fun _ _ h => nomatch h
theorem Spelling.dacRoute (l : LaneId) (t : Nat) (v : Word) : Spelling.Statement (.dacRoute l t v) := fun _ _ h => nomatch h
theorem Spelling.lnCycleStart (l : LaneId) (t : Nat) : Spelling.Statement (.lnCycleStart l t) := fun _ _ h => nomatch h
theorem Spelling.lnLockPoint (l : LaneId) (t : Nat) (slot : Fin 64) : Spelling.Statement (.lnLockPoint l t slot) := fun _ _ h => nomatch h
theorem Spelling.lnActionPoint (l : LaneId) (t : Nat) (slot : Fin 64) : Spelling.Statement (.lnActionPoint l t slot) := fun _ _ h => nomatch h
theorem Spelling.lnFrameReceive (l : LaneId) (t : Nat) (p : Fin 2) (f : LnFrame) : Spelling.Statement (.lnFrameReceive l t p f) := fun _ _ h => nomatch h
theorem Spelling.networkIdleStart (l : LaneId) (t : Nat) : Spelling.Statement (.networkIdleStart l t) := fun _ _ h => nomatch h
theorem Spelling.portLost (l : LaneId) (t : Nat) (p : Fin 2) : Spelling.Statement (.portLost l t p) := fun _ _ h => nomatch h
theorem Spelling.portBack (l : LaneId) (t : Nat) (p : Fin 2) : Spelling.Statement (.portBack l t p) := fun _ _ h => nomatch h
theorem Spelling.guardianStrobe (l : LaneId) (t : Nat) (p : Fin 2) (count : Nat) : Spelling.Statement (.guardianStrobe l t p count) := fun _ _ h => nomatch h
theorem Spelling.strobeMissing (l : LaneId) (t : Nat) (x : PortCount) : Spelling.Statement (.strobeMissing l t x) := fun _ _ h => nomatch h
theorem Spelling.guardianViolation (l : LaneId) (t : Nat) (x : PortSpan) : Spelling.Statement (.guardianViolation l t x) := fun _ _ h => nomatch h
theorem Spelling.collision (l : LaneId) (t : Nat) (p : Fin 2) : Spelling.Statement (.collision l t p) := fun _ _ h => nomatch h
theorem Spelling.coldStartCollision (l : LaneId) (t : Nat) : Spelling.Statement (.coldStartCollision l t) := fun _ _ h => nomatch h
theorem Spelling.listenTimeout (l : LaneId) (t : Nat) : Spelling.Statement (.listenTimeout l t) := fun _ _ h => nomatch h
theorem Spelling.coldStartDone (l : LaneId) (t : Nat) : Spelling.Statement (.coldStartDone l t) := fun _ _ h => nomatch h
theorem Spelling.integrateTimeout (l : LaneId) (t : Nat) : Spelling.Statement (.integrateTimeout l t) := fun _ _ h => nomatch h
theorem Spelling.sourceLoss (l : LaneId) (t : Nat) : Spelling.Statement (.sourceLoss l t) := fun _ _ h => nomatch h
theorem Spelling.holdoverLimit (l : LaneId) (t : Nat) : Spelling.Statement (.holdoverLimit l t) := fun _ _ h => nomatch h
theorem Spelling.topologyCheck (l : LaneId) (t : Nat) : Spelling.Statement (.topologyCheck l t) := fun _ _ h => nomatch h
theorem Spelling.portEnable (l : LaneId) (t : Nat) (p : Fin 2) : Spelling.Statement (.portEnable l t p) := fun _ _ h => nomatch h
theorem Spelling.reopen (l : LaneId) (t : Nat) (mask : Nat) : Spelling.Statement (.reopen l t mask) := fun _ _ h => nomatch h
theorem Spelling.lnTxcommit (l : LaneId) (t : Nat) (hi : Bool) (v : Word) : Spelling.Statement (.lnTxcommit l t hi v) := fun _ _ h => nomatch h
theorem Spelling.lnRxlock (l : LaneId) (t : Nat) (v : Word) : Spelling.Statement (.lnRxlock l t v) := fun _ _ h => nomatch h
theorem Spelling.lnInjArm (l : LaneId) (t : Nat) (v : Word) : Spelling.Statement (.lnInjArm l t v) := fun _ _ h => nomatch h
theorem Spelling.lnMreqGo (l : LaneId) (t : Nat) (v : Word) : Spelling.Statement (.lnMreqGo l t v) := fun _ _ h => nomatch h
theorem Spelling.lnTimeRead (l : LaneId) (t : Nat) (cyc : Bool) : Spelling.Statement (.lnTimeRead l t cyc) := fun _ _ h => nomatch h
theorem Spelling.canFrameReceive (l : LaneId) (t : Nat) (ext : Bool) (remote : Bool) (id : Nat) (data : List Byte) : Spelling.Statement (.canFrameReceive l t ext remote id data) := fun _ _ h => nomatch h
theorem Spelling.canPartTimeout (l : LaneId) (t : Nat) : Spelling.Statement (.canPartTimeout l t) := fun _ _ h => nomatch h
theorem Spelling.retxBudgetExpiry (l : LaneId) (t : Nat) (client : Nat) (rid : Nat) : Spelling.Statement (.retxBudgetExpiry l t client rid) := fun _ _ h => nomatch h
theorem Spelling.busOff (l : LaneId) (t : Nat) : Spelling.Statement (.busOff l t) := fun _ _ h => nomatch h
theorem Spelling.busOffRecovery (l : LaneId) (t : Nat) : Spelling.Statement (.busOffRecovery l t) := fun _ _ h => nomatch h
theorem Spelling.read (l : LaneId) (t : Nat) (via : Machine.Carrier) (client : Nat) (rid : Nat) (index : Nat) (sub : Nat) : Spelling.Statement (.read l t via client rid index sub) := fun _ _ h => nomatch h
theorem Spelling.write (l : LaneId) (t : Nat) (via : Machine.Carrier) (client : Nat) (rid : Nat) (index : Nat) (sub : Nat) (data : List Byte) : Spelling.Statement (.write l t via client rid index sub data) := fun _ _ h => nomatch h
theorem Spelling.readSeg (l : LaneId) (t : Nat) (via : Machine.Carrier) (client : Nat) (rid : Nat) (index : Nat) (sub : Nat) (offset : Nat) : Spelling.Statement (.readSeg l t via client rid index sub offset) := fun _ _ h => nomatch h
theorem Spelling.writeInit (l : LaneId) (t : Nat) (via : Machine.Carrier) (client : Nat) (rid : Nat) (index : Nat) (sub : Nat) (size : Nat) : Spelling.Statement (.writeInit l t via client rid index sub size) := fun _ _ h => nomatch h
theorem Spelling.writeSeg (l : LaneId) (t : Nat) (via : Machine.Carrier) (client : Nat) (rid : Nat) (index : Nat) (sub : Nat) (offset : Nat) (data : List Byte) : Spelling.Statement (.writeSeg l t via client rid index sub offset data) := fun _ _ h => nomatch h
theorem Spelling.writeEnd (l : LaneId) (t : Nat) (via : Machine.Carrier) (client : Nat) (rid : Nat) (index : Nat) (sub : Nat) (size : Nat) (crc : Word) : Spelling.Statement (.writeEnd l t via client rid index sub size crc) := fun _ _ h => nomatch h
theorem Spelling.abort (l : LaneId) (t : Nat) (via : Machine.Carrier) (client : Nat) (rid : Nat) (index : Nat) (sub : Nat) : Spelling.Statement (.abort l t via client rid index sub) := fun _ _ h => nomatch h
theorem Spelling.busyInterval (l : LaneId) (t : Nat) (client : Nat) (rid : Nat) : Spelling.Statement (.busyInterval l t client rid) := fun _ _ h => nomatch h
theorem Spelling.flashWorkDone (l : LaneId) (t : Nat) (client : Nat) (rid : Nat) : Spelling.Statement (.flashWorkDone l t client rid) := fun _ _ h => nomatch h
theorem Spelling.xferTimeout (l : LaneId) (t : Nat) (client : Nat) : Spelling.Statement (.xferTimeout l t client) := fun _ _ h => nomatch h
theorem Spelling.setProfile (l : LaneId) (t : Nat) (v : Nat) : Spelling.Statement (.setProfile l t v) := fun _ _ h => nomatch h
theorem Spelling.startCommand (l : LaneId) (t : Nat) : Spelling.Statement (.startCommand l t) := fun _ _ h => nomatch h
theorem Spelling.stopCommand (l : LaneId) (t : Nat) : Spelling.Statement (.stopCommand l t) := fun _ _ h => nomatch h
theorem Spelling.unlockChallenge (l : LaneId) (t : Nat) : Spelling.Statement (.unlockChallenge l t) := fun _ _ h => nomatch h
theorem Spelling.unlockToken (l : LaneId) (t : Nat) (token : List Byte) : Spelling.Statement (.unlockToken l t token) := fun _ _ h => nomatch h
theorem Spelling.attestationNonce (l : LaneId) (t : Nat) (nonce : List Byte) : Spelling.Statement (.attestationNonce l t nonce) := fun _ _ h => nomatch h
theorem Spelling.attestDone (l : LaneId) (t : Nat) : Spelling.Statement (.attestDone l t) := fun _ _ h => nomatch h
theorem Spelling.configCommit (l : LaneId) (t : Nat) (ok : Bool) : Spelling.Statement (.configCommit l t ok) := fun _ _ h => nomatch h
theorem Spelling.configCommitComplete (l : LaneId) (t : Nat) : Spelling.Statement (.configCommitComplete l t) := fun _ _ h => nomatch h
theorem Spelling.installOpen (l : LaneId) (t : Nat) (size : Nat) : Spelling.Statement (.installOpen l t size) := fun _ _ h => nomatch h
theorem Spelling.installVerify (l : LaneId) (t : Nat) : Spelling.Statement (.installVerify l t) := fun _ _ h => nomatch h
theorem Spelling.verifyDone (l : LaneId) (t : Nat) : Spelling.Statement (.verifyDone l t) := fun _ _ h => nomatch h
theorem Spelling.installAbort (l : LaneId) (t : Nat) (cmd : Bool) : Spelling.Statement (.installAbort l t cmd) := fun _ _ h => nomatch h
theorem Spelling.trialFail (l : LaneId) (t : Nat) : Spelling.Statement (.trialFail l t) := fun _ _ h => nomatch h
theorem Spelling.imageFrameReceive (l : LaneId) (t : Nat) (dst : List Byte) (src : List Byte) (etherType : List Byte) (head : List Byte) (data : List Byte) (fcs : List Byte) : Spelling.Statement (.imageFrameReceive l t dst src etherType head data fcs) := fun _ _ h => nomatch h
theorem Spelling.imageBlockStored (l : LaneId) (t : Nat) (b : Nat) (ok : Bool) : Spelling.Statement (.imageBlockStored l t b ok) := fun _ _ h => nomatch h
theorem Spelling.enLinkChange (l : LaneId) (t : Nat) (up : Bool) (sqi : Fin 8) : Spelling.Statement (.enLinkChange l t up sqi) := fun _ _ h => nomatch h
theorem Spelling.streamFrameSend (l : LaneId) (t : Nat) (stream : Nat) : Spelling.Statement (.streamFrameSend l t stream) := fun _ _ h => nomatch h
theorem Spelling.cfErase (l : LaneId) (t : Nat) : Spelling.Statement (.cfErase l t) := fun _ _ h => nomatch h
theorem Spelling.cfProgram (l : LaneId) (t : Nat) : Spelling.Statement (.cfProgram l t) := fun _ _ h => nomatch h
theorem Spelling.cfOpDone (l : LaneId) (t : Nat) : Spelling.Statement (.cfOpDone l t) := fun _ _ h => nomatch h
theorem Spelling.serviceTimeExpiry (l : LaneId) (t : Nat) : Spelling.Statement (.serviceTimeExpiry l t) := fun _ _ h => nomatch h
theorem Spelling.retire (l : LaneId) (t : Nat) : Spelling.Statement (.retire l t) := fun _ _ h => nomatch h
theorem Spelling.factoryProvision (l : LaneId) (t : Nat) : Spelling.Statement (.factoryProvision l t) := fun _ _ h => nomatch h
theorem Spelling.faultReport (l : LaneId) (t : Nat) (source : Nat) (unit : Nat) (inj : Bool) : Spelling.Statement (.faultReport l t source unit inj) := fun _ _ h => nomatch h
theorem Spelling.errOutPulseEnd (l : LaneId) (t : Nat) : Spelling.Statement (.errOutPulseEnd l t) := fun _ _ h => nomatch h
theorem Spelling.quietPeriodEnd (l : LaneId) (t : Nat) (source : Nat) : Spelling.Statement (.quietPeriodEnd l t source) := fun _ _ h => nomatch h
theorem Spelling.logRecordWrite (l : LaneId) (t : Nat) : Spelling.Statement (.logRecordWrite l t) := fun _ _ h => nomatch h
theorem Spelling.fcErroutWrite (l : LaneId) (t : Nat) (v : Word) : Spelling.Statement (.fcErroutWrite l t v) := fun _ _ h => nomatch h
theorem Spelling.fcInjArm (l : LaneId) (t : Nat) (v : Word) : Spelling.Statement (.fcInjArm l t v) := fun _ _ h => nomatch h
theorem Spelling.fcXinjArm (l : LaneId) (t : Nat) (v : Word) : Spelling.Statement (.fcXinjArm l t v) := fun _ _ h => nomatch h
theorem Spelling.fcTrapWrite (l : LaneId) (t : Nat) (e : Fin 8) (v : Word) : Spelling.Statement (.fcTrapWrite l t e v) := fun _ _ h => nomatch h
theorem Spelling.pairMismatch (l : LaneId) (t : Nat) : Spelling.Statement (.pairMismatch l t) := fun _ _ h => nomatch h
theorem Spelling.compareTimeout (l : LaneId) (t : Nat) (cycles : Nat) : Spelling.Statement (.compareTimeout l t cycles) := fun _ _ h => nomatch h
theorem Spelling.watchdogExpiry (l : LaneId) (t : Nat) : Spelling.Statement (.watchdogExpiry l t) := fun _ _ h => nomatch h
theorem Spelling.interruptTake (l : LaneId) (t : Nat) (n : Nat) : Spelling.Statement (.interruptTake l t n) := fun _ _ h => nomatch h
theorem Spelling.icClaim (l : LaneId) (t : Nat) (yard : Bool) : Spelling.Statement (.icClaim l t yard) := fun _ _ h => nomatch h
theorem Spelling.icComplete (l : LaneId) (t : Nat) (yard : Bool) (source : Nat) : Spelling.Statement (.icComplete l t yard source) := fun _ _ h => nomatch h
theorem Spelling.icVectorRead (l : LaneId) (t : Nat) : Spelling.Statement (.icVectorRead l t) := fun _ _ h => nomatch h
theorem Spelling.icBudgetStart (l : LaneId) (t : Nat) (cycles : Nat) : Spelling.Statement (.icBudgetStart l t cycles) := fun _ _ h => nomatch h
theorem Spelling.budgetExpiry (l : LaneId) (t : Nat) : Spelling.Statement (.budgetExpiry l t) := fun _ _ h => nomatch h
theorem Spelling.swset (l : LaneId) (t : Nat) : Spelling.Statement (.swset l t) := fun _ _ h => nomatch h
theorem Spelling.doorbellH (l : LaneId) (t : Nat) : Spelling.Statement (.doorbellH l t) := fun _ _ h => nomatch h
theorem Spelling.doorbellY (l : LaneId) (t : Nat) : Spelling.Statement (.doorbellY l t) := fun _ _ h => nomatch h
theorem Spelling.yreset (l : LaneId) (t : Nat) : Spelling.Statement (.yreset l t) := fun _ _ h => nomatch h
theorem Spelling.yardFirewallRefuse (l : LaneId) (t : Nat) (a : Nat) (write : Bool) : Spelling.Statement (.yardFirewallRefuse l t a write) := fun _ _ h => nomatch h
theorem Spelling.firewallStorm (l : LaneId) (t : Nat) : Spelling.Statement (.firewallStorm l t) := fun _ _ h => nomatch h
theorem Spelling.tickDone (l : LaneId) (t : Nat) : Spelling.Statement (.tickDone l t) := fun _ _ h => nomatch h
theorem Spelling.log (l : LaneId) (t : Nat) (call : AppCall) (value : Word) : Spelling.Statement (.log l t call value) := fun _ _ h => nomatch h
theorem Spelling.tally (l : LaneId) (t : Nat) (b : Nat) (idx : Nat) : Spelling.Statement (.tally l t b idx) := fun _ _ h => nomatch h
theorem Spelling.mail (l : LaneId) (t : Nat) (addr : Nat) (len : Nat) : Spelling.Statement (.mail l t addr len) := fun _ _ h => nomatch h
theorem Spelling.sliceStart (l : LaneId) (t : Nat) (len : Nat) : Spelling.Statement (.sliceStart l t len) := fun _ _ h => nomatch h
theorem Spelling.sliceEnd (l : LaneId) (t : Nat) (pass : Bool) (last : Bool) (sig : Word) : Spelling.Statement (.sliceEnd l t pass last sig) := fun _ _ h => nomatch h
theorem Spelling.tokenCreate (l : LaneId) (t : Nat) : Spelling.Statement (.tokenCreate l t) := fun _ _ h => nomatch h
theorem Spelling.periodicRunStart (l : LaneId) (t : Nat) : Spelling.Statement (.periodicRunStart l t) := fun _ _ h => nomatch h
theorem Spelling.deep (l : LaneId) (t : Nat) : Spelling.Statement (.deep l t) := fun _ _ h => nomatch h
theorem Spelling.stAbort (l : LaneId) (t : Nat) : Spelling.Statement (.stAbort l t) := fun _ _ h => nomatch h
theorem Spelling.step (l : LaneId) (t : Nat) : Spelling.Statement (.step l t) := fun _ _ h => nomatch h
theorem Spelling.sleepHold (l : LaneId) (t : Nat) : Spelling.Statement (.sleepHold l t) := fun _ _ h => nomatch h
theorem Spelling.sleepCellar (l : LaneId) (t : Nat) : Spelling.Statement (.sleepCellar l t) := fun _ _ h => nomatch h
theorem Spelling.prepareAnswer (l : LaneId) (t : Nat) (streaming : Bool) : Spelling.Statement (.prepareAnswer l t streaming) := fun _ _ h => nomatch h
theorem Spelling.prepareTimeout (l : LaneId) (t : Nat) : Spelling.Statement (.prepareTimeout l t) := fun _ _ h => nomatch h
theorem Spelling.drainExpiry (l : LaneId) (t : Nat) (drained : Nat) (aborted : List Nat) : Spelling.Statement (.drainExpiry l t drained aborted) := fun _ _ h => nomatch h
theorem Spelling.larderSaveDone (l : LaneId) (t : Nat) : Spelling.Statement (.larderSaveDone l t) := fun _ _ h => nomatch h
theorem Spelling.finalWindowEnd (l : LaneId) (t : Nat) : Spelling.Statement (.finalWindowEnd l t) := fun _ _ h => nomatch h
theorem Spelling.wakeSource (l : LaneId) (t : Nat) (src : Nat) : Spelling.Statement (.wakeSource l t src) := fun _ _ h => nomatch h
theorem Spelling.wakeTimer (l : LaneId) (t : Nat) : Spelling.Statement (.wakeTimer l t) := fun _ _ h => nomatch h
theorem Spelling.wakeComplete (l : LaneId) (t : Nat) (saveOk : Bool) (slotOk : Bool) (straps : Nat) : Spelling.Statement (.wakeComplete l t saveOk slotOk straps) := fun _ _ h => nomatch h
theorem Spelling.doze (l : LaneId) (t : Nat) (on : Bool) : Spelling.Statement (.doze l t on) := fun _ _ h => nomatch h
theorem Spelling.pmPadrel (l : LaneId) (t : Nat) (v : Word) : Spelling.Statement (.pmPadrel l t v) := fun _ _ h => nomatch h
theorem Spelling.sbAddressMatch (l : LaneId) (t : Nat) (addr : Nat) (written : Nat) : Spelling.Statement (.sbAddressMatch l t addr written) := fun _ _ h => nomatch h
theorem Spelling.sbRead (l : LaneId) (t : Nat) (n : Nat) : Spelling.Statement (.sbRead l t n) := fun _ _ h => nomatch h
theorem Spelling.cellarOvertemp (l : LaneId) (t : Nat) : Spelling.Statement (.cellarOvertemp l t) := fun _ _ h => nomatch h
theorem Spelling.shutFlagClear (l : LaneId) (t : Nat) : Spelling.Statement (.shutFlagClear l t) := fun _ _ h => nomatch h
theorem Spelling.tallyWindowEnd (l : LaneId) (t : Nat) (counts : List (Nat × Nat)) : Spelling.Statement (.tallyWindowEnd l t counts) := fun _ _ h => nomatch h
theorem Spelling.snapshotReady (l : LaneId) (t : Nat) : Spelling.Statement (.snapshotReady l t) := fun _ _ h => nomatch h
theorem Spelling.clearWrap (l : LaneId) (t : Nat) : Spelling.Statement (.clearWrap l t) := fun _ _ h => nomatch h
theorem Spelling.atticClear (l : LaneId) (t : Nat) : Spelling.Statement (.atticClear l t) := fun _ _ h => nomatch h
theorem Spelling.atticSample (l : LaneId) (t : Nat) (code : Nat) (pc : Word) (insn : Word) (data : Word) (lat : Nat) (user : Bool) (busy : Bool) : Spelling.Statement (.atticSample l t code pc insn data lat user busy) := fun _ _ h => nomatch h
theorem Spelling.tlPeekRead (l : LaneId) (t : Nat) : Spelling.Statement (.tlPeekRead l t) := fun _ _ h => nomatch h
theorem Spelling.hpmCounterWrite (l : LaneId) (t : Nat) (csr : Nat) (v : Word) : Spelling.Statement (.hpmCounterWrite l t csr v) := fun _ _ h => nomatch h
theorem Spelling.registerWrite (l : LaneId) (t : Nat) (a : Nat) (x : StoreData) : Spelling.Statement (.registerWrite l t a x) := fun _ _ h => nomatch h
theorem Spelling.rstNRelease (l : LaneId) (t : Nat) (clksel : Bool) : Spelling.Statement (.rstNRelease l t clksel) := fun _ _ h => nomatch h
theorem Spelling.railReturn (l : LaneId) (t : Nat) (r : Fin 5) : Spelling.Statement (.railReturn l t r) := fun _ _ h => nomatch h
theorem Spelling.tapUpdate (l : LaneId) (t : Nat) (instr : Option TapInstr) (bsr : Option (List Bool)) : Spelling.Statement (.tapUpdate l t instr bsr) := fun _ _ h => nomatch h
theorem Spelling.supplyCurrentLimit (l : LaneId) (t : Nat) (supply : Fin 8) (inLimit : Bool) : Spelling.Statement (.supplyCurrentLimit l t supply inLimit) := fun _ _ h => nomatch h

end Sys2Proof.Laws
end

