-- ==== Sys2Proof/WellFormed.lean ====
section
/-! DEFINITION. When the operands of a command have the widths and lengths that the manual gives them (R14, R28, R75, R88, R132, R192, R238,
R244, R287, R297, R301, R441). A meaning is total and takes every operand; a statement about what arrives on a wire may ask for this. -/

namespace Sys2Proof

/-- A value of `n` bits. -/
def bitsOk (n v : Nat) : Bool := decide (v < 2 ^ n)

/-- At most `n` bytes. -/
def lenOk {α : Type} (n : Nat) (bs : List α) : Bool := decide (bs.length ≤ n)

/-- Exactly `n` values. -/
def sized {α : Type} (n : Nat) (xs : List α) : Bool := xs.length == n

/-- The bits of the four channels of a group at successive modulator clocks. -/
def clocksOk (cs : List Nat) : Bool := cs.all (fun c => bitsOk 4 c)

/-- The bits of the three phases, and in bit 1 of the third list those of the link channel, at the same modulator clocks. -/
def phasesOk (u v w : List Nat) : Bool :=
  sized u.length v && sized u.length w && u.all (bitsOk 1) && v.all (bitsOk 1) && w.all (bitsOk 2)

/-- The bits of channels 0 and 1, and those of channels 2 and 3, at the same modulator clocks. -/
def pairsOk (lo hi : List Nat) : Bool := sized lo.length hi && lo.all (bitsOk 2) && hi.all (bitsOk 2)

/-- A call of LOG carries a code of 16 bits (R347). -/
def callOk : AppCall → Bool
  | .log code => bitsOk 16 code
  | .unlisted => true
  | .exception => true

/-- The samples of a decision tick: sixteen groups, three legs. -/
def samplesOk (xs : List GroupSample) : Bool :=
  sized 16 xs && xs.all (fun x => clocksOk x.clocks && sized 3 x.high && bitsOk 4 x.illegal)

/-- A key message (R465). -/
def keyMsgOk (m : KeyMsg) : Bool := bitsOk 8 m.kind && decide (m.sender < 3) && bitsOk 16 m.epoch && bitsOk 16 m.number && decide (m.named ≤ 3)

/-- A vote frame (R238). -/
def voteOk (f : VoteFrame) : Bool := bitsOk 16 f.release && bitsOk 12 f.seq && bitsOk 3 f.against && bitsOk 16 f.live && bitsOk 16 f.capable

/-- An angle frame (R132). -/
def angleOk (f : AngleFrame) : Bool :=
  bitsOk 16 f.num && decide (f.sender < 3) && bitsOk 8 f.age && sized 16 f.stars && f.stars.all (fun e => bitsOk 16 e.angle && bitsOk 8 e.conf && bitsOk 8 e.flags)

/-- A setpoint frame (R75, R334). -/
def setpointOk (f : SetpointFrame) : Bool :=
  bitsOk 16 f.epoch && sized 16 f.torque && bitsOk 16 f.release && sized 16 f.position && bitsOk 16 f.valid

/-- A shelf frame (R88). -/
def shelfOk (f : ShelfFrame) : Bool := bitsOk 32 f.tick && bitsOk 16 f.epoch && f.count == 256 && sized 256 f.words

/-- A coordination frame (R28). -/
def coordOk (f : CoordFrame) : Bool :=
  bitsOk 16 f.seq && decide (f.sender < 3) && bitsOk 3 f.state && bitsOk 16 f.tokenNum && decide (f.tokenHolder ≤ 3) && decide (f.tokenPass ≤ 3)
    && sized 3 f.lastHeld && bitsOk 3 f.votes && sized 8 f.digest && bitsOk 16 f.epoch

/-- A lane-network frame on the line: any bytes, with a device time of 64 bits (R255). -/
def lnFrameOk (f : LnFrame) : Bool := bitsOk 64 f.stamp

/-- The operands of a command are well formed. (Log entries 23: DESIGN CHOICE, 123: DESIGN CHOICE) -/
def Instr.wf : Instr → Bool
  | .railLoss _ _ _ => true
  | .rstNLow _ _ => true
  | .laneResetRelease _ _ _ => true
  | .cellarReset _ _ => true
  | .railOutOfWindow _ _ _ => true
  | .tapReset _ _ => true
  | .lreset _ _ _ => true
  | .pllLock _ _ => true
  | .pllLockTimeout _ _ => true
  | .pllLockLost _ _ => true
  | .mainClockStop _ _ => true
  | .guardianCountWindow _ _ cnt => bitsOk 32 cnt
  | .rcCountWindow _ _ cnt => bitsOk 32 cnt
  | .x32Fail _ _ => true
  | .secureBoot _ _ => true
  | .configLoad _ _ straps => bitsOk 8 straps
  | .strapRead _ _ pat => bitsOk 8 pat
  | .decisionTick _ _ xs => samplesOk xs
  | .deferredLegChange _ _ _ _ => true
  | .authorityTickBoundary _ _ => true
  | .tickDeadline _ _ => true
  | .exchangeTick _ _ rttN rttP => bitsOk 16 rttN && bitsOk 16 rttP
  | .carrierPeriodStart _ _ _ clocks illegal => clocksOk clocks && bitsOk 4 illegal
  | .genHoldEnd _ _ _ => true
  | .switchingNodeEdge _ _ _ _ _ _ clocks => clocksOk clocks
  | .overcurrentTrip _ _ _ u v w => phasesOk u v w
  | .egOvercurrent _ _ _ u v w => phasesOk u v w
  | .egOvervoltage _ _ _ clocks => clocksOk clocks
  | .switchTokenReturn _ _ _ _ => true
  | .channelStuck _ _ _ x => clocksOk x.clocks
  | .settlingEnd _ _ _ => true
  | .ovQualified _ _ _ x => clocksOk x.clocks
  | .undervoltageTrip _ _ x => clocksOk x.clocks
  | .adcFrame _ _ fe hk temp => sized 32 fe && sized 8 hk && sized 4 temp
  | .ssiTransfer _ _ _ _ => true
  | .ssiTransferDone _ _ _ word _ _ => bitsOk 32 word
  | .incrementalEdge _ _ _ _ _ => true
  | .zEdge _ _ _ => true
  | .setRef _ _ _ => true
  | .hallChange _ _ _ x => bitsOk 3 x.pattern
  | .hallInvalidHold _ _ _ => true
  | .lineFault _ _ _ _ => true
  | .speedTimeout _ _ _ => true
  | .excitationHalfPeriod _ _ amp _ => bitsOk 16 amp
  | .polarityTest _ _ _ lo hi => pairsOk lo hi
  | .startFail _ _ _ => true
  | .polarityWaitEnd _ _ _ => true
  | .localSourceReturn _ _ _ _ => true
  | .encoderAlign _ _ _ _ => true
  | .alignCapture _ _ _ => true
  | .peerStale _ _ _ _ => true
  | .voteFrameReceive _ _ _ fr _ => voteOk fr
  | .angleFrameReceive _ _ _ fr _ => angleOk fr
  | .setpointFrameReceive _ _ _ fr _ => setpointOk fr
  | .shelfFrameReceive _ _ _ fr _ => shelfOk fr
  | .coordinationFrameReceive _ _ _ fr _ => coordOk fr
  | .renewalReceive _ _ _ m _ => keyMsgOk m
  | .renewalAckReceive _ _ _ m _ => keyMsgOk m
  | .claimReceive _ _ _ m _ => keyMsgOk m
  | .claimAckReceive _ _ _ m _ => keyMsgOk m
  | .claimWithdrawalReceive _ _ _ m _ => keyMsgOk m
  | .releaseReceive _ _ _ m _ => keyMsgOk m
  | .revocationReceive _ _ _ m _ => keyMsgOk m
  | .linkSilence _ _ _ => true
  | .linkUp _ _ _ => true
  | .leaseExpiry _ _ => true
  | .silenceThreshold _ _ => true
  | .interregnumTimeout _ _ => true
  | .voteExpiry _ _ _ => true
  | .d2dFrameReceive _ _ _ _ => true
  | .d2dLinkLoss _ _ => true
  | .inputSample _ _ raw => bitsOk 16 raw
  | .offPulseStart _ _ _ => true
  | .testSample _ _ _ raw => bitsOk 16 raw
  | .testCycleEnd _ _ => true
  | .supplyLimitTrip _ _ _ => true
  | .supplyRetry _ _ _ _ => true
  | .supplyEnableClear _ _ _ => true
  | .standstillConfirm _ _ => true
  | .stopTimeLimit _ _ => true
  | .steeringHoldEnd _ _ => true
  | .stopEnd _ _ => true
  | .bench _ _ => true
  | .readmit _ _ => true
  | .release _ _ => true
  | .lgCommit _ _ _ => true
  | .tripClr _ _ _ => true
  | .dacRoute _ _ _ => true
  | .lnCycleStart _ _ => true
  | .lnLockPoint _ _ _ => true
  | .lnActionPoint _ _ _ => true
  | .lnFrameReceive _ _ _ f => lnFrameOk f
  | .networkIdleStart _ _ => true
  | .portLost _ _ _ => true
  | .portBack _ _ _ => true
  | .guardianStrobe _ _ _ _ => true
  | .strobeMissing _ _ _ => true
  | .guardianViolation _ _ _ => true
  | .collision _ _ _ => true
  | .coldStartCollision _ _ => true
  | .listenTimeout _ _ => true
  | .coldStartDone _ _ => true
  | .integrateTimeout _ _ => true
  | .sourceLoss _ _ => true
  | .holdoverLimit _ _ => true
  | .topologyCheck _ _ => true
  | .portEnable _ _ _ => true
  | .reopen _ _ mask => bitsOk 2 mask
  | .lnTxcommit _ _ _ _ => true
  | .lnRxlock _ _ _ => true
  | .lnInjArm _ _ _ => true
  | .lnMreqGo _ _ _ => true
  | .lnTimeRead _ _ _ => true
  | .canFrameReceive _ _ _ _ id data => bitsOk 29 id && lenOk 64 data
  | .canPartTimeout _ _ => true
  | .retxBudgetExpiry _ _ client rid => bitsOk 4 client && bitsOk 16 rid
  | .busOff _ _ => true
  | .busOffRecovery _ _ => true
  | .read _ _ _ client rid index sub => bitsOk 4 client && bitsOk 16 rid && bitsOk 16 index && bitsOk 8 sub
  | .write _ _ _ client rid index sub data => bitsOk 4 client && bitsOk 16 rid && bitsOk 16 index && bitsOk 8 sub && lenOk 65535 data
  | .readSeg _ _ _ client rid index sub offset => bitsOk 4 client && bitsOk 16 rid && bitsOk 16 index && bitsOk 8 sub && bitsOk 32 offset
  | .writeInit _ _ _ client rid index sub size => bitsOk 4 client && bitsOk 16 rid && bitsOk 16 index && bitsOk 8 sub && bitsOk 32 size
  | .writeSeg _ _ _ client rid index sub offset data => bitsOk 4 client && bitsOk 16 rid && bitsOk 16 index && bitsOk 8 sub && bitsOk 32 offset && lenOk 65531 data
  | .writeEnd _ _ _ client rid index sub size _ => bitsOk 4 client && bitsOk 16 rid && bitsOk 16 index && bitsOk 8 sub && bitsOk 32 size
  | .abort _ _ _ client rid index sub => bitsOk 4 client && bitsOk 16 rid && bitsOk 16 index && bitsOk 8 sub
  | .busyInterval _ _ client rid => bitsOk 4 client && bitsOk 16 rid
  | .flashWorkDone _ _ client rid => bitsOk 4 client && bitsOk 16 rid
  | .xferTimeout _ _ client => bitsOk 4 client
  | .setProfile _ _ v => bitsOk 8 v
  | .startCommand _ _ => true
  | .stopCommand _ _ => true
  | .unlockChallenge _ _ => true
  | .unlockToken _ _ token => lenOk 1024 token
  | .attestationNonce _ _ nonce => lenOk 32 nonce
  | .attestDone _ _ => true
  | .configCommit _ _ _ => true
  | .configCommitComplete _ _ => true
  | .installOpen _ _ size => bitsOk 32 size
  | .installVerify _ _ => true
  | .verifyDone _ _ => true
  | .installAbort _ _ _ => true
  | .trialFail _ _ => true
  | .imageFrameReceive _ _ dst src etherType head data fcs =>
    sized 6 dst && sized 6 src && sized 2 etherType && sized 4 fcs && lenOk 1500 (head ++ data)
  | .imageBlockStored _ _ b _ => decide (b < 128)
  | .enLinkChange _ _ _ _ => true
  | .streamFrameSend _ _ stream => bitsOk 8 stream
  | .cfErase _ _ => true
  | .cfProgram _ _ => true
  | .cfOpDone _ _ => true
  | .serviceTimeExpiry _ _ => true
  | .retire _ _ => true
  | .factoryProvision _ _ => true
  | .faultReport _ _ source unit _ => bitsOk 5 source && bitsOk 16 unit
  | .errOutPulseEnd _ _ => true
  | .quietPeriodEnd _ _ source => decide (source ≤ 33)
  | .logRecordWrite _ _ => true
  | .fcErroutWrite _ _ _ => true
  | .fcInjArm _ _ _ => true
  | .fcXinjArm _ _ _ => true
  | .fcTrapWrite _ _ _ _ => true
  | .pairMismatch _ _ => true
  | .compareTimeout _ _ cycles => bitsOk 32 cycles
  | .watchdogExpiry _ _ => true
  | .interruptTake _ _ _ => true
  | .icClaim _ _ _ => true
  | .icComplete _ _ _ source => bitsOk 8 source
  | .icVectorRead _ _ => true
  | .icBudgetStart _ _ cycles => bitsOk 24 cycles
  | .budgetExpiry _ _ => true
  | .swset _ _ => true
  | .doorbellH _ _ => true
  | .doorbellY _ _ => true
  | .yreset _ _ => true
  | .yardFirewallRefuse _ _ a _ => bitsOk 32 a
  | .firewallStorm _ _ => true
  | .tickDone _ _ => true
  | .log _ _ call _ => callOk call
  | .tally _ _ b _ => decide (b < 23)
  | .mail _ _ addr len => bitsOk 32 addr && bitsOk 32 len
  | .sliceStart _ _ len => decide (len ≤ 50)
  | .sliceEnd _ _ _ _ _ => true
  | .tokenCreate _ _ => true
  | .periodicRunStart _ _ => true
  | .deep _ _ => true
  | .stAbort _ _ => true
  | .step _ _ => true
  | .sleepHold _ _ => true
  | .sleepCellar _ _ => true
  | .prepareAnswer _ _ _ => true
  | .prepareTimeout _ _ => true
  | .drainExpiry _ _ _ aborted => aborted.all (fun a => bitsOk 32 a)
  | .larderSaveDone _ _ => true
  | .finalWindowEnd _ _ => true
  | .wakeSource _ _ src => decide (src ≤ 18) || (decide (32 ≤ src) && decide (src ≤ 664))
  | .wakeTimer _ _ => true
  | .wakeComplete _ _ _ _ straps => bitsOk 8 straps
  | .doze _ _ _ => true
  | .pmPadrel _ _ _ => true
  | .sbAddressMatch _ _ addr _ => bitsOk 7 addr
  | .sbRead _ _ _ => true
  | .cellarOvertemp _ _ => true
  | .shutFlagClear _ _ => true
  | .tallyWindowEnd _ _ counts => counts.all (fun c => decide (c.1 < 1472))
  | .snapshotReady _ _ => true
  | .clearWrap _ _ => true
  | .atticClear _ _ => true
  | .atticSample _ _ code _ _ _ lat _ _ => bitsOk 8 code && bitsOk 32 lat
  | .tlPeekRead _ _ => true
  | .hpmCounterWrite _ _ csr _ => bitsOk 12 csr
  | .registerWrite _ _ a x => bitsOk 32 a && bitsOk 3 x.size
  | .rstNRelease _ _ _ => true
  | .railReturn _ _ _ => true
  | .tapUpdate _ _ _ _ => true
  | .supplyCurrentLimit _ _ _ _ => true

end Sys2Proof
end

