-- ==== Sys2Proof/Tests/Slice0.lean ====
section
/-! SUPPORT. Tests: the operand checks refuse ill-formed commands; values of the manual's tables; and for every statement that has hypotheses
one theorem that shows for each of its clauses a lane and operands that meet them all (where a clause has a limit, mostly at it). -/

namespace Sys2Proof.Tests

open Sys2Proof Sys2Proof.Machine

/-! ### Lanes for the witnesses -/


/-- Lane A out of reset with its supplies valid, a second after time 0. -/
def up : Lane :=
  { Lane.reset .A with now := sec 1, sy := { SyS.reset with rails := 31, resetHeld := false, lock := true, mainPll := true, releasedAt := 0 }
                       ky := { KyS.reset with state := .booting } }

/-- The same with its runtime entered. -/
def run : Lane := { up with lc := { up.lc with booted := true } }

/-- In Bench. -/
def bench : Lane := { run with ky := { run.ky with state := .bench } }

/-- In Service, holding the key with epoch 5, its two siblings in Service too. -/
def svc : Lane :=
  { run with
    ky := { run.ky with state := .service, holder := some .A, lastHolder := some .A, epoch := 5, sibN := 4, sibP := 4, lease := some (sec 1 + us 100) }
    sy := { run.sy with permit := true }
    cx := { run.cx with n := { run.cx.n with up := true }, p := { run.cx.p with up := true } } }

/-- In Service under the key of lane B. -/
def under : Lane := { svc with ky := { svc.ky with holder := some .B, lastHolder := some .B, lease := none, silence := some (sec 1) } }

/-- A package whose lane A is given. -/
def pkg (L : Lane) : State := { State.reset with a := L }

/-- Changes the blocks of group 15. -/
def on15 (f : Group → Group) (L : Lane) : Lane := L.setGrp 15 (f (L.grp 15))

/-! ### Witnesses: lanes and operands -/

theorem witness_RailsPinAndReleaseOfReset :
    ((let r : Fin 5 := 0
     decide (r ≠ 3)) = true) ∧
    ((let L := (pkg ({ Lane.reset .A with now := sec 1, sy := { SyS.reset with rails := 30 } })).seen .A 0
     let r : Fin 5 := 0
     decide (L.sy.rails ≠ 31 ∧ putBit L.sy.rails r true = 31)) = true) ∧
    ((let L := (pkg ({ Lane.reset .A with now := sec 1, sy := { SyS.reset with rails := 30 } })).seen .A 0
     let r : Fin 5 := 4
     decide (putBit L.sy.rails r true ≠ 31)) = true) ∧
    ((let L := (pkg ({ Lane.reset .A with now := sec 1, sy := { SyS.reset with rails := 31, railsAt := sec 1 - ms 2 } })).seen .A 0
     decide (L.sy.resetHeld = true ∧ L.sy.rails = 31 ∧ L.sy.rstN = true ∧ L.sy.railsAt + ms 2 ≤ L.now)) = true) ∧
    ((let L := (pkg ({ Lane.reset .A with now := sec 1, sy := { SyS.reset with rails := 30 } })).seen .A 0
     decide (L.sy.resetHeld = false ∨ L.sy.rails ≠ 31 ∨ L.sy.rstN = false ∨ L.now < L.sy.railsAt + ms 2)) = true) ∧
    ((let L := (pkg ({ Lane.reset .A with now := sec 1, sy := { SyS.reset with rails := 30 } })).seen .A 0
     decide (L.sy.resetHeld = false ∨ L.sy.rails ≠ 31 ∨ L.now < L.sy.railsAt + ms 2)) = true) := by decide +kernel

theorem witness_LaneResetKeepsTheCellarOnly :
    ((let L : Lane := up.setFld F.FC_LATCH 128
     decide (L.sy.nolockNext = false ∧ L.heldWithdrawn = true)) = true) ∧
    ((let L : Lane := up
     decide (L.sy.nolockNext = false ∧ L.heldWithdrawn = false)) = true) := by decide +kernel

theorem witness_ClockAndSupplyMonitors :
    ((let L := (pkg ({ up with sy.lock := false, sy.lostLock := true })).seen .A 0
     decide (L.acts .core 0 = true ∧ L.sy.lock = false ∧ L.sy.clockFault = false ∧ L.sy.lostLock = true)) = true) ∧
    ((let L := (pkg ({ up with sy.lock := false })).seen .A 0
     decide (L.acts .core 0 = true ∧ L.sy.lock = false ∧ L.sy.clockFault = false ∧ L.sy.lostLock = false ∧ L.sy.releasedAt + ms 5 < L.now)) = true) ∧
    ((let L := (pkg ({ up with sy.lock := false, sy.releasedAt := sec 1 - ms 5 })).seen .A 0
     decide (L.acts .core 0 = true ∧ L.sy.lock = false ∧ L.sy.clockFault = false ∧ L.sy.lostLock = false ∧ L.now ≤ L.sy.releasedAt + ms 5)) = true) ∧
    ((let L := (pkg ({ up with sy.lock := false, sy.clockFault := true, sy.lostLock := true })).seen .A 0
     decide (L.acts .core 0 = true ∧ L.sy.lock = false ∧ L.sy.clockFault = true ∧ L.sy.lostLock = true)) = true) ∧
    ((let L := (pkg ({ up with sy.lock := false, sy.clockFault := true, sy.lostLock := false })).seen .A 0
     decide (L.acts .core 0 = true ∧ L.sy.lock = false ∧ L.sy.clockFault = true ∧ L.sy.lostLock = false)) = true) ∧
    ((let L := (pkg ({ up with sy.lock := false, sy.releasedAt := sec 1 - ms 5 })).seen .A 0
     decide (L.acts .core 0 = true ∧ L.sy.lock = false ∧ L.sy.releasedAt + ms 5 ≤ L.now)) = true) ∧
    ((let L := (pkg ({ up with sy.rails := 30 })).seen .A 0
     decide (L.acts .core 0 = true ∧ L.sy.lock = true)) = true) ∧
    ((let L := (pkg ({ up with ky.state := .off })).seen .A 0
     decide (L.acts .core 0 = true ∧ L.ky.state = .off)) = true) ∧
    ((let L := (pkg ({ up with sy.lock := false, sy.releasedAt := sec 1 - ms 5 })).seen .A 0
     decide (L.acts .core 0 = true ∧ L.ky.state ≠ .off)) = true) ∧
    ((let L := (pkg ({ up with sy.lock := false, sy.releasedAt := sec 1 - ms 5 })).seen .A 0
     decide (L.acts .core 0 = true ∧ L.injecting 17 = false) && (
     let n : Nat := 470
     decide (470 ≤ n ∧ n ≤ 530))) = true) ∧
    ((let L := (pkg ({ up with sy.lock := false, sy.releasedAt := sec 1 - ms 5 })).seen .A 0
     decide (L.acts .core 0 = true ∧ L.injecting 17 = false) && (
     let n : Nat := 469
     decide (n < 470 ∨ 530 < n))) = true) ∧
    ((let L := (pkg ({ up with sy.lock := false, sy.releasedAt := sec 1 - ms 5 })).seen .A 0
     decide (L.acts .core 0 = true) && (
     let n : Nat := 99
     decide (85 ≤ n ∧ n ≤ 115))) = true) ∧
    ((let L := (pkg ({ up with sy.lock := false, sy.releasedAt := sec 1 - ms 5 })).seen .A 0
     decide (L.acts .core 0 = true) && (
     let n : Nat := 469
     decide (n < 85 ∨ 115 < n))) = true) ∧
    ((let L := (pkg ({ up with sy.lock := false, sy.releasedAt := sec 1 - ms 5 })).seen .A 0
     decide (L.acts .core 0 = true) && (
     let r : Fin 5 := 0
     decide (bit L.sy.rails r = true))) = true) ∧
    ((let L := (pkg ({ up with sy.rails := 30 })).seen .A 0
     decide (L.acts .core 0 = true) && (
     let r : Fin 5 := 0
     decide (bit L.sy.rails r = false))) = true) ∧
    ((let L := (pkg (up.setFld F.PM_CTRL_XTAL 1)).seen .A 0
     decide (L.flag F.PM_CTRL_XTAL = true)) = true) ∧
    ((let L := (pkg ({ up with sy.lock := false, sy.releasedAt := sec 1 - ms 5 })).seen .A 0
     decide (L.flag F.PM_CTRL_XTAL = false)) = true) := by decide +kernel

theorem witness_FirmwareResetAndTap :
    ((let v : Word := 0xA5C30001
     let L := (pkg ({ up with lc.otp.lcs := .blank })).seen .A 0
     decide (L.pairActs .core 0 = true ∧ F.SY_CMD_UNLOCK.get v = 0xA5C3 ∧ F.SY_CMD_LRESET.get v = 1 ∧ (L.ky.state = .booting ∨ L.ky.state = .bench
       ∨ L.ky.state = .withdrawn) ∧ (L.ky.state ≠ .withdrawn ∨ L.latched = false))) = true) ∧
    ((let v : Word := 0xA5C30001
     let L := (pkg (({ up with ky.state := .withdrawn }).setFld F.FC_LATCH 128)).seen .A 0
     decide (L.pairActs .core 0 = true ∧ F.SY_CMD_UNLOCK.get v = 0xA5C3 ∧ F.SY_CMD_LRESET.get v = 1 ∧ (L.ky.state = .booting ∨ L.ky.state = .bench
       ∨ L.ky.state = .withdrawn) ∧ L.ky.state = .withdrawn ∧ L.latched = true)) = true) ∧
    ((let v : Word := 0
     let L := (pkg ({ up with lc.otp.lcs := .blank })).seen .A 0
     decide (L.pairActs .core 0 = true ∧ (F.SY_CMD_UNLOCK.get v ≠ 0xA5C3 ∨ F.SY_CMD_LRESET.get v ≠ 1 ∨ (L.ky.state ≠ .booting ∧ L.ky.state ≠
       .bench ∧ L.ky.state ≠ .withdrawn)))) = true) ∧
    ((let L := (pkg ({ up with lc.otp.lcs := .blank })).seen .A 0
     decide (L.sy.tap = .idcode)) = true) ∧
    ((let L := (pkg ({ up with sy.tap := .bypass })).seen .A 0
     decide (L.sy.tap ≠ .idcode)) = true) ∧
    ((let i : TapInstr := .idcode
     decide (i ≠ .debugHalt ∧ i ≠ .debugResume)) = true) ∧
    ((let L := (pkg ({ up with lc.otp.lcs := .blank })).seen .A 0
     decide (L.debugAllowed = true)) = true) ∧
    ((let L := (pkg (({ up with ky.state := .withdrawn }).setFld F.FC_LATCH 128)).seen .A 0
     decide (L.debugAllowed = false)) = true) := by decide +kernel

theorem witness_BootAndConfigurationLoad :
    ((let L := (pkg up).seen .A 0
     decide (L.acts .core 0 = true ∧ (L.ky.state = .booting ∨ L.ky.state = .withdrawn) ∧ L.lc.booted = false ∧ L.ic.halted = false)) = true) ∧
    ((let L := (pkg ({ run with lc.otp.lcs := .retired })).seen .A 0
     decide (L.acts .core 0 = true ∧ (L.ky.state = .booting ∨ L.ky.state = .withdrawn) ∧ L.runtime = true ∧ L.lc.loaded = false ∧ L.lc.state =
       .retired)) = true) ∧
    ((let L := (pkg ({ run with lc.otp.lcs := .field })).seen .A 0
     decide (L.acts .core 0 = true ∧ (L.ky.state = .booting ∨ L.ky.state = .withdrawn) ∧ L.runtime = true ∧ L.lc.loaded = false ∧ L.lc.state ≠
       .retired)) = true) ∧
    ((let L := (pkg ({ run with lc.otp.lcs := .field })).seen .A 0
     let n : Nat := 1
     decide (L.acts .core 0x20 = true ∧ L.runtime = true ∧ (L.lc.state = .field ∨ L.lc.state = .service) ∧ n % 256 ≠ L.lc.strapRead)) = true) ∧
    ((let L := (pkg ({ run with lc.otp.lcs := .field })).seen .A 0
     let n : Nat := 0
     decide (L.acts .core 0x20 = true ∧ L.runtime = true ∧ (L.lc.state = .field ∨ L.lc.state = .service) ∧ n % 256 = L.lc.strapRead)) = true) := by decide +kernel

theorem witness_DecisionTickAndCarrierPeriod :
    ((let L := (pkg ((up.setFld F.LG_CTRL_RUN 1 15).updLg 15 (fun x => { x with running := true }))).seen .A 0
     decide (L.acts .drive 11 = true ∧ L.dozing = false)) = true) ∧
    ((let L := (pkg ({ up with pm.level := .doze })).seen .A 0
     decide (L.acts .drive 11 = true ∧ L.dozing = true)) = true) ∧
    ((let g : Fin 16 := 0
     let L := (pkg ((up.setFld F.LG_CTRL_RUN 1 15).updLg 15 (fun x => { x with running := true }))).seen .A 0
     decide (L.awakeActs 10 = true ∧ (L.flag F.LG_CTRL_RUN g = false ∨ (L.lg g).running = false ∨ L.now < (L.lg g).nextAt))) = true) ∧
    ((let g : Fin 16 := 15
     let cs : List Nat := []
     let ill : Nat := 0
     let L := (pkg ((up.setFld F.LG_CTRL_RUN 1 15).updLg 15 (fun x => { x with running := true }))).seen .A 0
     decide (L.awakeActs 10 = true ∧ L.flag F.LG_CTRL_RUN g = true ∧ (L.lg g).running = true ∧ (L.lg g).nextAt ≤ L.now) && (
     let A := (L.takeClocks g cs).legsSettle g
     let B := ((A.updLg g (fun x => { x with periodAt := A.now })).commitPhase g).commitPoint g
     let C := B.updLg g (fun x => { x with qcap := B.flag F.LG_CTRL_QCAP g })
     let D := C.setFld F.LG_PERIOD_ACT_VAL (C.lg g).active g
     let E := D.updLg g (fun x => { x with nextAt := D.now + 8 * x.active })
     let G := (E.when ((E.lg g).tripEnd && (E.grp g).tq.mode != .table) (·.updLg g (fun x =>
       { x with tripHold := false, tripEnd := false }))).handover g
     let H := (G.updAn g (fun x => { x with injRun := x.injRun && G.injWanted g })).illegalLegs g ill
     decide (H.srcDuty g = false ∧ H.startDrives g = false ∧ (H.grp g).tq.mode ≠ .carrier))) = true) ∧
    ((let g : Fin 16 := 15
     let cs : List Nat := []
     let ill : Nat := 0
     let L := (pkg (((up.setFld F.LG_CTRL_RUN 1 15).setFld F.LG_CTRL_SRC 1 15).updLg 15 (fun x => { x with running := true }))).seen .A 0
     decide (L.awakeActs 10 = true ∧ L.flag F.LG_CTRL_RUN g = true ∧ (L.lg g).running = true ∧ (L.lg g).nextAt ≤ L.now) && (
     let A := (L.takeClocks g cs).legsSettle g
     let B := ((A.updLg g (fun x => { x with periodAt := A.now })).commitPhase g).commitPoint g
     let C := B.updLg g (fun x => { x with qcap := B.flag F.LG_CTRL_QCAP g })
     let D := C.setFld F.LG_PERIOD_ACT_VAL (C.lg g).active g
     let E := D.updLg g (fun x => { x with nextAt := D.now + 8 * x.active })
     let G := (E.when ((E.lg g).tripEnd && (E.grp g).tq.mode != .table) (·.updLg g (fun x =>
       { x with tripHold := false, tripEnd := false }))).handover g
     let H := (G.updAn g (fun x => { x with injRun := x.injRun && G.injWanted g })).illegalLegs g ill
     decide (H.srcDuty g = true))) = true) ∧
    ((let g : Fin 16 := 15
     let cs : List Nat := []
     let ill : Nat := 0
     let L := (pkg (on15 (fun x => { x with lg.running := true, lg.gen := true, an.starting := true, tq.mode := .tracking }) (up.setFld
       F.LG_CTRL_RUN 1 15))).seen .A 0
     decide (L.awakeActs 10 = true ∧ L.flag F.LG_CTRL_RUN g = true ∧ (L.lg g).running = true ∧ (L.lg g).nextAt ≤ L.now) && (
     let A := (L.takeClocks g cs).legsSettle g
     let B := ((A.updLg g (fun x => { x with periodAt := A.now })).commitPhase g).commitPoint g
     let C := B.updLg g (fun x => { x with qcap := B.flag F.LG_CTRL_QCAP g })
     let D := C.setFld F.LG_PERIOD_ACT_VAL (C.lg g).active g
     let E := D.updLg g (fun x => { x with nextAt := D.now + 8 * x.active })
     let G := (E.when ((E.lg g).tripEnd && (E.grp g).tq.mode != .table) (·.updLg g (fun x =>
       { x with tripHold := false, tripEnd := false }))).handover g
     let H := (G.updAn g (fun x => { x with injRun := x.injRun && G.injWanted g })).illegalLegs g ill
     decide (H.startDrives g = true))) = true) ∧
    ((let g : Fin 16 := 15
     let cs : List Nat := []
     let ill : Nat := 0
     let L := (pkg (on15 (fun x => { x with lg.running := true, lg.gen := true, tq.mode := .carrier, tq.wantMode := .carrier }) (up.setFld
       F.LG_CTRL_RUN 1 15))).seen .A 0
     decide (L.awakeActs 10 = true ∧ L.flag F.LG_CTRL_RUN g = true ∧ (L.lg g).running = true ∧ (L.lg g).nextAt ≤ L.now) && (
     let A := (L.takeClocks g cs).legsSettle g
     let B := ((A.updLg g (fun x => { x with periodAt := A.now })).commitPhase g).commitPoint g
     let C := B.updLg g (fun x => { x with qcap := B.flag F.LG_CTRL_QCAP g })
     let D := C.setFld F.LG_PERIOD_ACT_VAL (C.lg g).active g
     let E := D.updLg g (fun x => { x with nextAt := D.now + 8 * x.active })
     let G := (E.when ((E.lg g).tripEnd && (E.grp g).tq.mode != .table) (·.updLg g (fun x =>
       { x with tripHold := false, tripEnd := false }))).handover g
     let H := (G.updAn g (fun x => { x with injRun := x.injRun && G.injWanted g })).illegalLegs g ill
     decide (H.srcDuty g = false ∧ H.startDrives g = false ∧ (H.grp g).tq.mode = .carrier))) = true) := by decide +kernel

theorem witness_LegGeneratorEvents :
    ((let g : Fin 16 := 15
     let L := (pkg (up.updLg 15 (fun x => { x with tripHold := true }))).seen .A 0
     decide (L.pairActs .drive 10 = true ∧ (L.lg g).commit = false)) = true) ∧
    ((let g : Fin 16 := 15
     let L := (pkg (up.updLg 15 (fun x => { x with commit := true }))).seen .A 0
     decide (L.pairActs .drive 10 = true ∧ (L.lg g).commit = true)) = true) ∧
    ((let g : Fin 16 := 15
     let L := (pkg (up.updLg 15 (fun x => { x with tripHold := true }))).seen .A 0
     decide (L.pairActs .drive 10 = true ∧ (L.lg g).tripHold = true ∧ (L.grp g).sd.oc = 0)) = true) ∧
    ((let g : Fin 16 := 15
     let L := (pkg (up.updLg 15 (fun x => { x with genHold := true, genAt := sec 1 - us 2 }))).seen .A 0
     decide (L.pairActs .drive 10 = true ∧ ((L.lg g).tripHold = false ∨ (L.grp g).sd.oc ≠ 0))) = true) ∧
    ((let g : Fin 16 := 15
     let L := (pkg (up.updLg 15 (fun x => { x with genHold := true, genAt := sec 1 - us 2 }))).seen .A 0
     decide (L.acts .drive 10 = true ∧ (L.lg g).genHold = true ∧ (L.lg g).genAt + us 2 ≤ L.now)) = true) ∧
    ((let g : Fin 16 := 15
     let L := (pkg (up.updLg 15 (fun x => { x with tripHold := true }))).seen .A 0
     decide (L.acts .drive 10 = true ∧ ((L.lg g).genHold = false ∨ L.now < (L.lg g).genAt + us 2))) = true) ∧
    ((let g : Fin 16 := 15
     let k : Fin 4 := 3
     let L := (pkg (up.updLg 15 (fun x => { x with tripHold := true }))).seen .A 0
     let at_ := (L.leg g k).onAt + L.minPulse g
     decide (L.acts .drive 10 = true ∧ (L.leg g k).plan = [] ∧ (L.leg g k).held = none ∧ ((L.leg g k).defer = none ∨ L.now < at_))) = true) ∧
    ((let g : Fin 16 := 15
     let k : Fin 4 := 3
     let L := (pkg (up.updLeg 15 3 (fun x => { x with defer := some .high, onAt := sec 1 - up.minPulse 15 }))).seen .A 0
     let at_ := (L.leg g k).onAt + L.minPulse g
     decide (L.acts .drive 10 = true ∧ (L.leg g k).plan = [] ∧ (L.leg g k).held = none) && (
     (match (L.leg g k).defer with
     | some c =>
     decide (at_ ≤ L.now ∧ (L.leg g k).cmd ≠ c) && (
     let M := (L.updLeg g k (fun x => { x with defer := none })).tokens g k at_
     decide ((M.leg g k).tokens ≠ 0))
     | _ => false))) = true) ∧
    ((let g : Fin 16 := 15
     let k : Fin 4 := 3
     let L := (pkg (up.updLeg 15 3 (fun x => { x with held := some .high, tokens := 1 }))).seen .A 0
     let back := (L.leg g k).tokenAt + L.tokenInt g
     decide (L.acts .drive 17 = true ∧ (L.leg g k).plan = [] ∧ (L.leg g k).defer = none) && (
     (match (L.leg g k).held with
     | some _c =>
     decide (back ≤ L.now)
     | _ => false))) = true) ∧
    ((let g : Fin 16 := 15
     let k : Fin 4 := 3
     let L := (pkg (up.updLg 15 (fun x => { x with tripHold := true }))).seen .A 0
     let back := (L.leg g k).tokenAt + L.tokenInt g
     decide (L.acts .drive 17 = true ∧ (L.leg g k).plan = [] ∧ (L.leg g k).defer = none ∧ ((L.leg g k).held = none ∨ L.now < back))) = true) := by decide +kernel

theorem witness_SwitchingNodeEdgeClasses :
    ((let g : Fin 16 := 15
     let k : Fin 4 := 3
     let rise : Bool := true
     let cs : List Nat := []
     let L := (pkg (on15 (fun x =>
       { x with lg.gen := true, tq.mode := .carrier, sd.val3 := [0, 0, 0, 48], lg.legs := x.lg.legs.set 3 { x.lg.legs[3] with cmd := .high, onAt := sec 1 } })
       ({ up with sy.permit := true, pm.level := .awake }.setFld F.LG_CTRL_RUN 1 15))).seen .A 0
     let A := (L.takeClocks g cs).legSettle g k
     let edge := (A.leg g k).edges.find? (fun e => e.rising == rise && e.seen.isNone)
     decide (L.awakeActs 10 = true ∧ L.inActs .drive 10 = true ∧ edge = none)) = true) ∧
    ((let g : Fin 16 := 15
     let k : Fin 4 := 3
     let rise : Bool := true
     let cs : List Nat := []
     let L := (pkg (on15 (fun x =>
       { x with lg.gen := true, tq.mode := .carrier, sd.val3 := [0, 0, 0, 48], lg.legs := x.lg.legs.set 3 { x.lg.legs[3] with cmd := .high, silentRun := 0, edges := [{ fell := sec 1, rising := true, dt := 160, seen := none }] } })
       ({ up with sy.permit := true, pm.level := .awake }.setFld F.LG_CTRL_RUN 1 15))).seen .A 0
     let A := (L.takeClocks g cs).legSettle g k
     let edge := (A.leg g k).edges.find? (fun e => e.rising == rise && e.seen.isNone)
     decide (L.awakeActs 10 = true ∧ L.inActs .drive 10 = true) && (
     (match edge with
     | some e =>
     decide (A.now < e.fell + e.dt)
     | _ => false))) = true) ∧
    ((let g : Fin 16 := 15
     let k : Fin 4 := 3
     let rise : Bool := true
     let cs : List Nat := []
     let L := (pkg (on15 (fun x =>
       { x with lg.gen := false, tq.mode := .carrier, sd.val3 := [0, 0, 0, 48], lg.legs := x.lg.legs.set 3 { x.lg.legs[3] with cmd := .high, silentRun := 0, edges := [{ fell := sec 1 - 160, rising := true, dt := 160, seen := none }] } })
       ({ up with sy.permit := true, pm.level := .awake }.setFld F.LG_CTRL_RUN 1 15))).seen .A 0
     let A := (L.takeClocks g cs).legSettle g k
     let edge := (A.leg g k).edges.find? (fun e => e.rising == rise && e.seen.isNone)
     decide (L.awakeActs 10 = true ∧ L.inActs .drive 10 = true) && (
     (match edge with
     | some e =>
     decide (e.fell + e.dt ≤ A.now ∧ ((A.lg g).gen = false ∨ A.sy.permit = false ∨ A.vdc g < A.vsilMin g))
     | _ => false))) = true) ∧
    ((let g : Fin 16 := 15
     let k : Fin 4 := 3
     let rise : Bool := true
     let x : Option Nat := none
     let cs : List Nat := []
     let L := (pkg (on15 (fun x =>
       { x with lg.gen := true, tq.mode := .carrier, sd.val3 := [0, 0, 0, 48], lg.legs := x.lg.legs.set 3 { x.lg.legs[3] with cmd := .high, silentRun := 0, edges := [{ fell := sec 1 - 160, rising := true, dt := 160, seen := none }] } })
       ({ up with sy.permit := true, pm.level := .awake }.setFld F.LG_CTRL_RUN 1 15))).seen .A 0
     let A := (L.takeClocks g cs).legSettle g k
     let edge := (A.leg g k).edges.find? (fun e => e.rising == rise && e.seen.isNone)
     let show_ (X : Lane) (c m : Nat) : Lane := ((X.setFld F.LG_SENSE_CLASS c g k).setFld F.LG_SENSE_DIR (b2n rise) g k).setFld F.LG_SENSE_M m g k
     decide (L.awakeActs 10 = true ∧ L.inActs .drive 10 = true) && (
     (match edge with
     | some e =>
     decide (e.fell + e.dt ≤ A.now) && (
     let N := A.updLeg g k (fun y => { y with edges := y.edges.filter (fun z => decide (z ≠ e)) })
     decide ((A.lg g).gen = true ∧ A.sy.permit = true ∧ A.vsilMin g ≤ A.vdc g) && (
     let M := (((show_ N 2 0).updLeg g k (fun y => { y with silent := true, silentRun := y.silentRun + 1, goodRun := 0 })).raise F.LG_EVENT_SILENT
       g).bump F.LG_CNT1_SILENT g
     decide (x.all (fun c => decide (e.dt + N.tsil g < c - N.fld F.LG_DTADP_SNS_COMP g)) = true ∧ (M.leg g k).silentRun < M.fld1 F.LG_SIL_SIL_N
       g)))
     | _ => false))) = true) ∧
    ((let g : Fin 16 := 15
     let k : Fin 4 := 3
     let rise : Bool := true
     let x : Option Nat := none
     let cs : List Nat := []
     let L := (pkg (on15 (fun x =>
       { x with lg.gen := true, tq.mode := .carrier, sd.val3 := [0, 0, 0, 48], lg.legs := x.lg.legs.set 3 { x.lg.legs[3] with cmd := .high, silentRun := 255, edges := [{ fell := sec 1 - 160, rising := true, dt := 160, seen := none }] } })
       ({ up with sy.permit := true, pm.level := .awake }.setFld F.LG_CTRL_RUN 1 15))).seen .A 0
     let A := (L.takeClocks g cs).legSettle g k
     let edge := (A.leg g k).edges.find? (fun e => e.rising == rise && e.seen.isNone)
     let show_ (X : Lane) (c m : Nat) : Lane := ((X.setFld F.LG_SENSE_CLASS c g k).setFld F.LG_SENSE_DIR (b2n rise) g k).setFld F.LG_SENSE_M m g k
     decide (L.awakeActs 10 = true ∧ L.inActs .drive 10 = true) && (
     (match edge with
     | some e =>
     decide (e.fell + e.dt ≤ A.now) && (
     let N := A.updLeg g k (fun y => { y with edges := y.edges.filter (fun z => decide (z ≠ e)) })
     decide ((A.lg g).gen = true ∧ A.sy.permit = true ∧ A.vsilMin g ≤ A.vdc g) && (
     let M := (((show_ N 2 0).updLeg g k (fun y => { y with silent := true, silentRun := y.silentRun + 1, goodRun := 0 })).raise F.LG_EVENT_SILENT
       g).bump F.LG_CNT1_SILENT g
     decide (x.all (fun c => decide (e.dt + N.tsil g < c - N.fld F.LG_DTADP_SNS_COMP g)) = true ∧ M.fld1 F.LG_SIL_SIL_N g ≤ (M.leg g k).silentRun
       ∧ k = 3)))
     | _ => false))) = true) ∧
    ((let g : Fin 16 := 15
     let k : Fin 4 := 0
     let rise : Bool := true
     let x : Option Nat := none
     let cs : List Nat := []
     let L := (pkg (on15 (fun x =>
       { x with lg.gen := true, tq.mode := .carrier, sd.val3 := [0, 0, 0, 48], lg.legs := x.lg.legs.set 0 { x.lg.legs[0] with cmd := .high, silentRun := 255, edges := [{ fell := sec 1 - 160, rising := true, dt := 160, seen := none }] } })
       ({ up with sy.permit := true, pm.level := .awake }.setFld F.LG_CTRL_RUN 1 15))).seen .A 0
     let A := (L.takeClocks g cs).legSettle g k
     let edge := (A.leg g k).edges.find? (fun e => e.rising == rise && e.seen.isNone)
     let show_ (X : Lane) (c m : Nat) : Lane := ((X.setFld F.LG_SENSE_CLASS c g k).setFld F.LG_SENSE_DIR (b2n rise) g k).setFld F.LG_SENSE_M m g k
     decide (L.awakeActs 10 = true ∧ L.inActs .drive 10 = true) && (
     (match edge with
     | some e =>
     decide (e.fell + e.dt ≤ A.now) && (
     let N := A.updLeg g k (fun y => { y with edges := y.edges.filter (fun z => decide (z ≠ e)) })
     decide ((A.lg g).gen = true ∧ A.sy.permit = true ∧ A.vsilMin g ≤ A.vdc g) && (
     let M := (((show_ N 2 0).updLeg g k (fun y => { y with silent := true, silentRun := y.silentRun + 1, goodRun := 0 })).raise F.LG_EVENT_SILENT
       g).bump F.LG_CNT1_SILENT g
     decide (x.all (fun c => decide (e.dt + N.tsil g < c - N.fld F.LG_DTADP_SNS_COMP g)) = true ∧ M.fld1 F.LG_SIL_SIL_N g ≤ (M.leg g k).silentRun
       ∧ k ≠ 3)))
     | _ => false))) = true) ∧
    ((let g : Fin 16 := 15
     let k : Fin 4 := 3
     let rise : Bool := true
     let x : Option Nat := some 160
     let cs : List Nat := []
     let L := (pkg (on15 (fun x =>
       { x with lg.gen := true, tq.mode := .carrier, sd.val3 := [0, 0, 0, 48], lg.legs := x.lg.legs.set 3 { x.lg.legs[3] with cmd := .high, silentRun := 0, edges := [{ fell := sec 1 - 160, rising := true, dt := 160, seen := none }] } })
       ({ up with sy.permit := true, pm.level := .awake }.setFld F.LG_CTRL_RUN 1 15))).seen .A 0
     let A := (L.takeClocks g cs).legSettle g k
     let edge := (A.leg g k).edges.find? (fun e => e.rising == rise && e.seen.isNone)
     decide (L.awakeActs 10 = true ∧ L.inActs .drive 10 = true) && (
     (match edge with
     | some e =>
     decide (e.fell + e.dt ≤ A.now) && (
     let N := A.updLeg g k (fun y => { y with edges := y.edges.filter (fun z => decide (z ≠ e)) })
     decide ((A.lg g).gen = true ∧ A.sy.permit = true ∧ A.vsilMin g ≤ A.vdc g) && (
     (match x with
     | some c =>
     let m := c - N.fld F.LG_DTADP_SNS_COMP g
     decide (e.dt ≤ m ∧ m ≤ e.dt + N.tsil g)
     | _ => false)))
     | _ => false))) = true) ∧
    ((let g : Fin 16 := 15
     let k : Fin 4 := 3
     let rise : Bool := true
     let x : Option Nat := some 0
     let cs : List Nat := []
     let L := (pkg (on15 (fun x =>
       { x with lg.gen := true, tq.mode := .carrier, sd.val3 := [0, 0, 0, 48], lg.legs := x.lg.legs.set 3 { x.lg.legs[3] with cmd := .high, silentRun := 0, edges := [{ fell := sec 1 - 160, rising := true, dt := 160, seen := none }] } })
       ({ up with sy.permit := true, pm.level := .awake }.setFld F.LG_CTRL_RUN 1 15))).seen .A 0
     let A := (L.takeClocks g cs).legSettle g k
     let edge := (A.leg g k).edges.find? (fun e => e.rising == rise && e.seen.isNone)
     let show_ (X : Lane) (c m : Nat) : Lane := ((X.setFld F.LG_SENSE_CLASS c g k).setFld F.LG_SENSE_DIR (b2n rise) g k).setFld F.LG_SENSE_M m g k
     decide (L.awakeActs 10 = true ∧ L.inActs .drive 10 = true) && (
     (match edge with
     | some e =>
     decide (e.fell + e.dt ≤ A.now) && (
     let N := A.updLeg g k (fun y => { y with edges := y.edges.filter (fun z => decide (z ≠ e)) })
     decide ((A.lg g).gen = true ∧ A.sy.permit = true ∧ A.vsilMin g ≤ A.vdc g) && (
     (match x with
     | some c =>
     let m := c - N.fld F.LG_DTADP_SNS_COMP g
     decide (m < e.dt) && (
     let S := show_ N 0 (min m 0xFFFF)
     decide (k = 3 ∨ S.flag F.LG_CTRL_ADAPT g = false ∨ absR (S.fastAt g k e.fell) < S.izc g))
     | _ => false)))
     | _ => false))) = true) ∧
    ((let g : Fin 16 := 15
     let k : Fin 4 := 0
     let rise : Bool := true
     let x : Option Nat := some 0
     let cs : List Nat := []
     let L := (pkg (on15 (fun x =>
       { x with lg.gen := true, tq.mode := .carrier, sd.val3 := [0, 0, 0, 48], lg.legs := x.lg.legs.set 0 { x.lg.legs[0] with cmd := .high, edges := [{ fell := sec 1 - 160, rising := true, dt := 160, seen := none }] }, sd.hist := List.replicate 200 15 })
       (((((((({ up with sy.permit := true, pm.level := .awake }.setFld F.LG_CTRL_RUN 1 15).setF32 F.SD_OC 1 15).setF32 F.SD_SCALE 1 15 0).setF32
       F.SD_SCALE 1 15 1).setF32 F.SD_SCALE 1 15 2).setF32 F.SD_SCALE 1 15 3).setFld F.SD_CTRL_ENABLE 1 15).setFld F.LG_CTRL_ADAPT 1 15))).seen .A 0
     let A := (L.takeClocks g cs).legSettle g k
     let edge := (A.leg g k).edges.find? (fun e => e.rising == rise && e.seen.isNone)
     let show_ (X : Lane) (c m : Nat) : Lane := ((X.setFld F.LG_SENSE_CLASS c g k).setFld F.LG_SENSE_DIR (b2n rise) g k).setFld F.LG_SENSE_M m g k
     decide (L.awakeActs 10 = true ∧ L.inActs .drive 10 = true) && (
     (match edge with
     | some e =>
     decide (e.fell + e.dt ≤ A.now) && (
     let N := A.updLeg g k (fun y => { y with edges := y.edges.filter (fun z => decide (z ≠ e)) })
     decide ((A.lg g).gen = true ∧ A.sy.permit = true ∧ A.vsilMin g ≤ A.vdc g) && (
     (match x with
     | some c =>
     let m := c - N.fld F.LG_DTADP_SNS_COMP g
     decide (m < e.dt) && (
     let S := show_ N 0 (min m 0xFFFF)
     decide (k ≠ 3 ∧ S.flag F.LG_CTRL_ADAPT g = true ∧ S.izc g ≤ absR (S.fastAt g k e.fell)))
     | _ => false)))
     | _ => false))) = true) := by decide +kernel

theorem witness_OvercurrentTripsThenIsolates :
    ((let g : Fin 16 := 15
     let u : List Nat := []
     let v : List Nat := []
     let w : List Nat := []
     let L := (pkg ((((((((up.setF32 F.SD_OC 1 15).setF32 F.SD_SCALE 1 15 0).setF32 F.SD_SCALE 1 15 1).setF32 F.SD_SCALE 1 15 2).setF32 F.SD_SCALE
       1 15 3).setFld F.SD_CTRL_ENABLE 1 15).updSd 15 (fun x => { x with settling := false })))).seen .A 0
     let bs := (joinPhases u v w).take (L.captured g L.now - (L.grp g).sd.taken)
     decide (L.acts .drive 13 = true ∧ (L.sdRuns g = false ∨ L.padsHeld .drive = true ∨ bs = []))) = true) ∧
    ((let g : Fin 16 := 15
     let u : List Nat := [0]
     let v : List Nat := [0]
     let w : List Nat := [0]
     let L := (pkg ((((((((up.setF32 F.SD_OC 1 15).setF32 F.SD_SCALE 1 15 0).setF32 F.SD_SCALE 1 15 1).setF32 F.SD_SCALE 1 15 2).setF32 F.SD_SCALE
       1 15 3).setFld F.SD_CTRL_ENABLE 1 15).updSd 15 (fun x => { x with settling := false })))).seen .A 0
     let bs := (joinPhases u v w).take (L.captured g L.now - (L.grp g).sd.taken)
     decide (L.acts .drive 13 = true ∧ L.sdRuns g = true ∧ L.padsHeld .drive = false ∧ bs ≠ [])) = true) ∧
    ((let g : Fin 16 := 15
     let L := (pkg ((((((((up.setF32 F.SD_OC 1 15).setF32 F.SD_SCALE 1 15 0).setF32 F.SD_SCALE 1 15 1).setF32 F.SD_SCALE 1 15 2).setF32 F.SD_SCALE
       1 15 3).setFld F.SD_CTRL_ENABLE 1 15).updSd 15 (fun x => { x with settling := false })))).seen .A 0
     decide (L.acts .drive 13 = true) && (
     let C : Lane := (((((((up.setF32 F.SD_OC 1 15).setF32 F.SD_SCALE 1 15 0).setF32 F.SD_SCALE 1 15 1).setF32 F.SD_SCALE 1 15 2).setF32
       F.SD_SCALE 1 15 3).setFld F.SD_CTRL_ENABLE 1 15).updSd 15 (fun x => { x with settling := false }))
     decide ((C.grp g).sd.oc = 0 ∨ ((C.lg g).tripHold = true ∧ (C.lg g).tripEnd = false)))) = true) ∧
    ((let g : Fin 16 := 15
     let L := (pkg ((((((((up.setF32 F.SD_OC 1 15).setF32 F.SD_SCALE 1 15 0).setF32 F.SD_SCALE 1 15 1).setF32 F.SD_SCALE 1 15 2).setF32 F.SD_SCALE
       1 15 3).setFld F.SD_CTRL_ENABLE 1 15).updSd 15 (fun x => { x with settling := false })))).seen .A 0
     decide (L.acts .drive 13 = true) && (
     let C : Lane := ((((((((((up.setF32 F.SD_OC 1 15).setF32 F.SD_SCALE 1 15 0).setF32 F.SD_SCALE 1 15 1).setF32 F.SD_SCALE 1 15 2).setF32
       F.SD_SCALE 1 15 3).setFld F.SD_CTRL_ENABLE 1 15).updSd 15 (fun x => { x with settling := false })).updSd 15 (fun x =>
       { x with hist := List.replicate 200 15 }))).updSd 15 (fun x => { x with oc := 7 })).updLg 15 (fun x =>
       { x with tripHold := true, tripEnd := true, tripClrAt := sec 1 })
     decide ((C.grp g).sd.oc ≠ 0 ∧ (C.lg g).tripHold = true ∧ (C.lg g).tripEnd = true ∧ (C.lg g).tripClrAt / 8 = C.now / 8))) = true) ∧
    ((let g : Fin 16 := 15
     let L := (pkg ((((((((up.setF32 F.SD_OC 1 15).setF32 F.SD_SCALE 1 15 0).setF32 F.SD_SCALE 1 15 1).setF32 F.SD_SCALE 1 15 2).setF32 F.SD_SCALE
       1 15 3).setFld F.SD_CTRL_ENABLE 1 15).updSd 15 (fun x => { x with settling := false })))).seen .A 0
     decide (L.acts .drive 13 = true) && (
     let C : Lane := ((((((((((up.setF32 F.SD_OC 1 15).setF32 F.SD_SCALE 1 15 0).setF32 F.SD_SCALE 1 15 1).setF32 F.SD_SCALE 1 15 2).setF32
       F.SD_SCALE 1 15 3).setFld F.SD_CTRL_ENABLE 1 15).updSd 15 (fun x => { x with settling := false })).updSd 15 (fun x =>
       { x with hist := List.replicate 200 15 }))).updSd 15 (fun x => { x with oc := 7 })).updLg 15 (fun x => { x with iso := .short })
     decide ((C.grp g).sd.oc ≠ 0 ∧ ((C.lg g).tripHold = false ∨ ((C.lg g).tripEnd = true ∧ (C.lg g).tripClrAt / 8 ≠ C.now / 8)) ∧ (C.lg g).iso ≠
       .none))) = true) ∧
    ((let g : Fin 16 := 15
     let L := (pkg ((((((((up.setF32 F.SD_OC 1 15).setF32 F.SD_SCALE 1 15 0).setF32 F.SD_SCALE 1 15 1).setF32 F.SD_SCALE 1 15 2).setF32 F.SD_SCALE
       1 15 3).setFld F.SD_CTRL_ENABLE 1 15).updSd 15 (fun x => { x with settling := false })))).seen .A 0
     decide (L.acts .drive 13 = true) && (
     let C : Lane := (((((((up.setF32 F.SD_OC 1 15).setF32 F.SD_SCALE 1 15 0).setF32 F.SD_SCALE 1 15 1).setF32 F.SD_SCALE 1 15 2).setF32
       F.SD_SCALE 1 15 3).setFld F.SD_CTRL_ENABLE 1 15).updSd 15 (fun x => { x with settling := false })).updSd 15 (fun x => { x with oc := 7 })
     let T := ((C.tripHold g).bump F.SD_CNT_TRIP_CNT g).tally 13 g
     let series := (C.grp g).sd.trips.filter (fun t0 => decide (C.now ≤ t0 + ms (T.tripWin g))) ++ [C.now]
     let V := T.updSd g (fun x => { x with trips := series })
     decide ((C.grp g).sd.oc ≠ 0 ∧ ((C.lg g).tripHold = false ∨ ((C.lg g).tripEnd = true ∧ (C.lg g).tripClrAt / 8 ≠ C.now / 8)) ∧ (C.lg g).iso =
       .none ∧ series.length < V.tripN g))) = true) ∧
    ((let g : Fin 16 := 15
     let L := (pkg ((((((((up.setF32 F.SD_OC 1 15).setF32 F.SD_SCALE 1 15 0).setF32 F.SD_SCALE 1 15 1).setF32 F.SD_SCALE 1 15 2).setF32 F.SD_SCALE
       1 15 3).setFld F.SD_CTRL_ENABLE 1 15).updSd 15 (fun x => { x with settling := false })))).seen .A 0
     decide (L.acts .drive 13 = true) && (
     let C : Lane := (((((((((up.setF32 F.SD_OC 1 15).setF32 F.SD_SCALE 1 15 0).setF32 F.SD_SCALE 1 15 1).setF32 F.SD_SCALE 1 15 2).setF32
       F.SD_SCALE 1 15 3).setFld F.SD_CTRL_ENABLE 1 15).updSd 15 (fun x => { x with settling := false })).updSd 15 (fun x =>
       { x with hist := List.replicate 200 15, trips := List.replicate 200 (sec 1) }))).updSd 15 (fun x => { x with oc := 7 })
     let T := ((C.tripHold g).bump F.SD_CNT_TRIP_CNT g).tally 13 g
     let series := (C.grp g).sd.trips.filter (fun t0 => decide (C.now ≤ t0 + ms (T.tripWin g))) ++ [C.now]
     let V := T.updSd g (fun x => { x with trips := series })
     decide ((C.grp g).sd.oc ≠ 0 ∧ ((C.lg g).tripHold = false ∨ ((C.lg g).tripEnd = true ∧ (C.lg g).tripClrAt / 8 ≠ C.now / 8)) ∧ (C.lg g).iso =
       .none ∧ V.tripN g ≤ series.length))) = true) := by decide +kernel

theorem witness_EnvelopeGuardChannelsAndLink :
    ((let g : Fin 16 := 15
     let u : List Nat := []
     let v : List Nat := []
     let w : List Nat := []
     let L := (pkg ((((((((((((up.setF32 F.SD_OC 1 15).setF32 F.SD_SCALE 1 15 0).setF32 F.SD_SCALE 1 15 1).setF32 F.SD_SCALE 1 15 2).setF32
       F.SD_SCALE 1 15 3).setFld F.SD_CTRL_ENABLE 1 15).updSd 15 (fun x => { x with settling := false })).updSd 15 (fun x =>
       { x with hist := List.replicate 200 15 }))).setF32 F.EG_OC 1 15).setF32 F.EG_OV 1 15))).seen .A 0
     let M := L.takeClocks g (joinPhases u v w)
     let reached := [0, 1, 2].any (fun k => decide (M.f32 F.EG_OC g ≤ absR (M.fast g k)))
     decide (L.acts .drive 17 = true ∧ M.sdRuns g = true ∧ f32pos (M.word F.EG_OC g) = true ∧ reached = true)) = true) ∧
    ((let g : Fin 16 := 15
     let u : List Nat := []
     let v : List Nat := []
     let w : List Nat := []
     let L := (pkg ((((((((((up.setF32 F.SD_OC 1 15).setF32 F.SD_SCALE 1 15 0).setF32 F.SD_SCALE 1 15 1).setF32 F.SD_SCALE 1 15 2).setF32
       F.SD_SCALE 1 15 3).setFld F.SD_CTRL_ENABLE 1 15).updSd 15 (fun x => { x with settling := false })).setF32 F.EG_OC 1 15).setF32 F.EG_OV 1
       15))).seen .A 0
     let M := L.takeClocks g (joinPhases u v w)
     let reached := [0, 1, 2].any (fun k => decide (M.f32 F.EG_OC g ≤ absR (M.fast g k)))
     decide (L.acts .drive 17 = true ∧ (M.sdRuns g = false ∨ f32pos (M.word F.EG_OC g) = false ∨ reached = false))) = true) ∧
    ((let g : Fin 16 := 15
     let cs : List Nat := []
     let L := (pkg (((((((((((((up.setF32 F.SD_OC 1 15).setF32 F.SD_SCALE 1 15 0).setF32 F.SD_SCALE 1 15 1).setF32 F.SD_SCALE 1 15 2).setF32
       F.SD_SCALE 1 15 3).setFld F.SD_CTRL_ENABLE 1 15).updSd 15 (fun x => { x with settling := false })).updSd 15 (fun x =>
       { x with hist := List.replicate 200 15 }))).setF32 F.EG_OC 1 15).setF32 F.EG_OV 1 15)).updSd 15 (fun x =>
       { x with since := [none, none, none, some 0] }))).seen .A 0
     let K := L.takeClocks g cs
     decide (L.acts .drive 17 = true ∧ K.sdRuns g = true ∧ f32pos (K.word F.EG_OV g) = true ∧ K.fastFor g 3 (us 1) = true)) = true) ∧
    ((let g : Fin 16 := 15
     let cs : List Nat := []
     let L := (pkg ((((((((((up.setF32 F.SD_OC 1 15).setF32 F.SD_SCALE 1 15 0).setF32 F.SD_SCALE 1 15 1).setF32 F.SD_SCALE 1 15 2).setF32
       F.SD_SCALE 1 15 3).setFld F.SD_CTRL_ENABLE 1 15).updSd 15 (fun x => { x with settling := false })).setF32 F.EG_OC 1 15).setF32 F.EG_OV 1
       15))).seen .A 0
     let K := L.takeClocks g cs
     decide (L.acts .drive 17 = true ∧ (K.sdRuns g = false ∨ f32pos (K.word F.EG_OV g) = false ∨ K.fastFor g 3 (us 1) = false))) = true) ∧
    ((let g : Fin 16 := 15
     let L := (pkg (((((((up.setF32 F.SD_OC 1 15).setF32 F.SD_SCALE 1 15 0).setF32 F.SD_SCALE 1 15 1).setF32 F.SD_SCALE 1 15 2).setF32 F.SD_SCALE
       1 15 3).setFld F.SD_CTRL_ENABLE 1 15).updSd 15 (fun x =>
       { x with settling := true, enabledAt := sec 1 - 3 * up.sdM 15 * up.sdDiv 15 * 8 }))).seen .A 0
     decide (L.acts .drive 13 = true ∧ (L.grp g).sd.settling = true ∧ L.flag F.SD_CTRL_ENABLE g = true ∧ (L.grp g).sd.enabledAt + 3 * L.sdM g *
       L.sdDiv g * 8 ≤ L.now)) = true) ∧
    ((let g : Fin 16 := 15
     let c : Fin 4 := 3
     let cs : List Nat := []
     let L := (pkg (((((((((up.setF32 F.SD_OC 1 15).setF32 F.SD_SCALE 1 15 0).setF32 F.SD_SCALE 1 15 1).setF32 F.SD_SCALE 1 15 2).setF32
       F.SD_SCALE 1 15 3).setFld F.SD_CTRL_ENABLE 1 15).updSd 15 (fun x => { x with settling := false }))).updSd 15 (fun x =>
       { x with runs := List.replicate 4 128 }))).seen .A 0
     let K := L.takeClocks g cs
     decide (L.acts .drive 13 = true ∧ (K.grp g).sd.settling = false ∧ K.sdRuns g = true ∧ bit (K.grp g).sd.chfault c = false ∧ 128 ≤ (K.grp
       g).sd.runs.getD c 0 ∧ c = 3)) = true) ∧
    ((let g : Fin 16 := 15
     let c : Fin 4 := 0
     let cs : List Nat := []
     let L := (pkg (((((((((up.setF32 F.SD_OC 1 15).setF32 F.SD_SCALE 1 15 0).setF32 F.SD_SCALE 1 15 1).setF32 F.SD_SCALE 1 15 2).setF32
       F.SD_SCALE 1 15 3).setFld F.SD_CTRL_ENABLE 1 15).updSd 15 (fun x => { x with settling := false }))).updSd 15 (fun x =>
       { x with runs := List.replicate 4 128 }))).seen .A 0
     let K := L.takeClocks g cs
     decide (L.acts .drive 13 = true ∧ (K.grp g).sd.settling = false ∧ K.sdRuns g = true ∧ bit (K.grp g).sd.chfault c = false ∧ 128 ≤ (K.grp
       g).sd.runs.getD c 0 ∧ c ≠ 3)) = true) ∧
    ((let g : Fin 16 := 15
     let c : Fin 4 := 3
     let cs : List Nat := []
     let L := (pkg ((((((((((up.setF32 F.SD_OC 1 15).setF32 F.SD_SCALE 1 15 0).setF32 F.SD_SCALE 1 15 1).setF32 F.SD_SCALE 1 15 2).setF32
       F.SD_SCALE 1 15 3).setFld F.SD_CTRL_ENABLE 1 15).updSd 15 (fun x => { x with settling := false })).setF32 F.EG_OC 1 15).setF32 F.EG_OV 1
       15))).seen .A 0
     let K := L.takeClocks g cs
     decide (L.acts .drive 13 = true ∧ ((K.grp g).sd.settling = true ∨ K.sdRuns g = false ∨ bit (K.grp g).sd.chfault c = true ∨ (K.grp
       g).sd.runs.getD c 0 < 128))) = true) ∧
    ((let g : Fin 16 := 15
     let cs : List Nat := []
     let L := (pkg (((((((((((up.setF32 F.LG_CH_VUVT 1 15).setF32 F.LG_CH_VUV 2 15).setF32 F.LG_CH_VOFF 3 15).setF32 F.LG_CH_VON 4 15).setF32
       F.LG_CH_VOV1 5 15).setF32 F.LG_CH_VOV2 6 15).setF32 F.LG_CH_VOV3 7 15).setF32 F.LG_CH_RCH 1 15).setF32 F.LG_CH_EMAX 1 15)).updSd 15 (fun x =>
       { x with since := [none, none, some 0, none] }))).seen .A 0
     let K := L.takeClocks g cs
     decide (L.acts .drive 10 = true ∧ K.fastFor g 2 (800 * K.ovQual g) = true ∧ (K.lg g).iso ≠ .groupOff)) = true) ∧
    ((let g : Fin 16 := 15
     let cs : List Nat := []
     let L := (pkg (((((((((((up.setF32 F.LG_CH_VUVT 1 15).setF32 F.LG_CH_VUV 2 15).setF32 F.LG_CH_VOFF 3 15).setF32 F.LG_CH_VON 4 15).setF32
       F.LG_CH_VOV1 5 15).setF32 F.LG_CH_VOV2 6 15).setF32 F.LG_CH_VOV3 7 15).setF32 F.LG_CH_RCH 1 15).setF32 F.LG_CH_EMAX 1 15)).updSd 15 (fun x =>
       { x with since := [none, some 0, none, none] }))).seen .A 0
     let K := L.takeClocks g cs
     decide (L.acts .drive 10 = true ∧ K.fastFor g 1 (800 * K.ovQual g) = true ∧ (K.grp g).tq.isolated = false)) = true) ∧
    ((let g : Fin 16 := 15
     let cs : List Nat := []
     let L := (pkg ((((((((((up.setF32 F.SD_OC 1 15).setF32 F.SD_SCALE 1 15 0).setF32 F.SD_SCALE 1 15 1).setF32 F.SD_SCALE 1 15 2).setF32
       F.SD_SCALE 1 15 3).setFld F.SD_CTRL_ENABLE 1 15).updSd 15 (fun x => { x with settling := false })).setF32 F.EG_OC 1 15).setF32 F.EG_OV 1
       15))).seen .A 0
     let K := L.takeClocks g cs
     decide (L.acts .drive 10 = true ∧ (K.fastFor g 2 (800 * K.ovQual g) = false ∨ (K.lg g).iso = .groupOff))) = true) ∧
    ((let g : Fin 16 := 15
     let cs : List Nat := []
     let L := (pkg ((((((((((up.setF32 F.SD_OC 1 15).setF32 F.SD_SCALE 1 15 0).setF32 F.SD_SCALE 1 15 1).setF32 F.SD_SCALE 1 15 2).setF32
       F.SD_SCALE 1 15 3).setFld F.SD_CTRL_ENABLE 1 15).updSd 15 (fun x => { x with settling := false })).setF32 F.EG_OC 1 15).setF32 F.EG_OV 1
       15))).seen .A 0
     let K := L.takeClocks g cs
     decide (L.acts .drive 10 = true ∧ (K.fastFor g 1 (800 * K.ovQual g) = false ∨ (K.grp g).tq.isolated = true))) = true) ∧
    ((let g : Fin 16 := 15
     let cs : List Nat := []
     let L := (pkg ((on15 (fun x => { x with lg.gen := true, lg.genAt := 0 }) ((((((((((up.setF32 F.LG_CH_VUVT 1 15).setF32 F.LG_CH_VUV 2
       15).setF32 F.LG_CH_VOFF 3 15).setF32 F.LG_CH_VON 4 15).setF32 F.LG_CH_VOV1 5 15).setF32 F.LG_CH_VOV2 6 15).setF32 F.LG_CH_VOV3 7 15).setF32
       F.LG_CH_RCH 1 15).setF32 F.LG_CH_EMAX 1 15))).updSd 15 (fun x => { x with since := [some 0, none, none, none] }))).seen .A 0
     let K := L.takeClocks g cs
     decide (L.acts .drive 10 = true ∧ K.fastFor g 0 (160000 * K.uvT g) = true ∧ (K.lg g).gen = true ∧ (K.lg g).genAt + 160000 * K.uvT g ≤ K.now ∧
       (K.grp g).tq.isolated = false)) = true) ∧
    ((let g : Fin 16 := 15
     let cs : List Nat := []
     let L := (pkg ((((((((((up.setF32 F.SD_OC 1 15).setF32 F.SD_SCALE 1 15 0).setF32 F.SD_SCALE 1 15 1).setF32 F.SD_SCALE 1 15 2).setF32
       F.SD_SCALE 1 15 3).setFld F.SD_CTRL_ENABLE 1 15).updSd 15 (fun x => { x with settling := false })).setF32 F.EG_OC 1 15).setF32 F.EG_OV 1
       15))).seen .A 0
     let K := L.takeClocks g cs
     decide (L.acts .drive 10 = true ∧ (K.fastFor g 0 (160000 * K.uvT g) = false ∨ (K.lg g).gen = false ∨ K.now < (K.lg g).genAt + 160000 * K.uvT
       g ∨ (K.grp g).tq.isolated = true))) = true) := by decide +kernel

theorem witness_FieldConverters :
    ((let L := (pkg ({ bench with ad.tick := 1, ad.tickAt := sec 1 - 4000, ad.frame := 0 })).seen .A 0
     decide (L.acts .field 15 = true ∧ L.frameDue = none)) = true) ∧
    ((let L := (pkg ({ bench with ad.tick := 0, ad.tickAt := sec 1, ad.frame := 1 })).seen .A 0
     decide (L.acts .field 15 = true) && (
     (match L.frameDue with
     | some n =>
     decide (n ≤ L.ad.frame)
     | _ => false))) = true) ∧
    ((let L := (pkg (up.setFld F.FB_EXC_EXC_EN 1)).seen .A 0
     decide (L.acts .field 15 = true) && (
     (match L.frameDue with
     | some n =>
     decide (L.ad.frame < n)
     | _ => false))) = true) ∧
    ((let L := (pkg ({ bench with ad.tick := 1, ad.tickAt := sec 1, ad.frame := 0 })).seen .A 0
     decide (L.acts .field 15 = true ∧ L.ad.tick % 2 = 1 ∧ L.ad.tickAt / 8 = L.now / 8)) = true) ∧
    ((let L := (pkg ({ bench with ad.tick := 1, ad.tickAt := sec 1 - 4000, ad.frame := 0 })).seen .A 0
     decide (L.acts .field 15 = true ∧ L.ad.tick % 2 = 1 ∧ L.ad.tickAt / 8 ≠ L.now / 8)) = true) ∧
    ((let L := (pkg (up.setFld F.FB_EXC_EXC_EN 1)).seen .A 0
     decide (L.acts .field 15 = true ∧ L.ad.tick % 2 = 0 ∧ (L.ad.tick = 0 ∨ L.ad.tickAt / 8 + 500 = L.now / 8))) = true) ∧
    ((let L := (pkg ({ bench with ad.tick := 2, ad.tickAt := sec 1, ad.frame := 0 })).seen .A 0
     decide (L.acts .field 15 = true ∧ L.ad.tick % 2 = 0 ∧ L.ad.tick ≠ 0 ∧ L.ad.tickAt / 8 + 500 ≠ L.now / 8)) = true) ∧
    ((let L := (pkg (up.setFld F.FB_EXC_EXC_EN 1)).seen .A 0
     decide (L.acts .field 15 = true ∧ L.pairActs .field 15 = true) && (
     let v : Word := F.AD_DAC_ROUTE.put 0 2
     decide (F.AD_DAC_ROUTE.get v = 2 ∧ L.ky.state ≠ .bench))) = true) ∧
    ((let L := (pkg (up.setFld F.FB_EXC_EXC_EN 1)).seen .A 0
     decide (L.acts .field 15 = true ∧ L.pairActs .field 15 = true) && (
     let v : Word := 0
     decide (F.AD_DAC_ROUTE.get v ≠ 2 ∨ L.ky.state = .bench))) = true) ∧
    ((let L := (pkg bench).seen .A 0
     decide (L.acts .field 15 = true ∧ L.flag F.FB_EXC_EXC_EN = false)) = true) ∧
    ((let L := (pkg ((up.setFld F.FB_EXC_EXC_EN 1).setFld F.FB_EXC_EXC_AMP 20)).seen .A 0
     decide (L.acts .field 15 = true ∧ L.flag F.FB_EXC_EXC_EN = true) && (
     let a : Nat := 170
     let want := L.fldIn F.FB_EXC_EXC_AMP 20 70 * 10
     decide (want * 85 ≤ a * 100 ∧ a * 100 ≤ want * 115))) = true) := by decide +kernel

theorem witness_FeedbackInterfaces :
    ((let f : Fin 16 := 15
     let held : Nat := 0
     let L := (pkg ((((run.setFld F.FB_CTRL_ENABLE 1 15).setFld F.FB_CTRL_MODE 3 15)).updFb 15 (fun x => { x with qSeen := true }))).seen .A 0
     decide (L.inActs .drive 14 = true ∧ held < L.fld F.FB_CTRL_FILT f)) = true) ∧
    ((let f : Fin 16 := 15
     let held : Nat := 2
     let L := (pkg ((((run.setFld F.FB_CTRL_ENABLE 1 15).setFld F.FB_CTRL_MODE 3 15)).updFb 15 (fun x => { x with qSeen := true }))).seen .A 0
     let J := L.zJudge f
     decide (L.inActs .drive 14 = true ∧ L.fld F.FB_CTRL_FILT f ≤ held ∧ J.fbOn f = true ∧ (J.fb f).fault = false ∧ (J.fbMode f = fbIncr ∨
       J.fbMode f = fbSinCos)) && (
     let a : Bool := false
     let b : Bool := false
     let d := (quadState a b + 4 - quadState (J.fb f).levelA (J.fb f).levelB) % 4
     decide (d = 0))) = true) ∧
    ((let f : Fin 16 := 15
     let held : Nat := 2
     let L := (pkg ((((run.setFld F.FB_CTRL_ENABLE 1 15).setFld F.FB_CTRL_MODE 3 15)).updFb 15 (fun x => { x with qSeen := true }))).seen .A 0
     let J := L.zJudge f
     decide (L.inActs .drive 14 = true ∧ L.fld F.FB_CTRL_FILT f ≤ held ∧ J.fbOn f = true ∧ (J.fb f).fault = false ∧ (J.fbMode f = fbIncr ∨
       J.fbMode f = fbSinCos)) && (
     let a : Bool := true
     let b : Bool := false
     let d := (quadState a b + 4 - quadState (J.fb f).levelA (J.fb f).levelB) % 4
     decide (d = 1))) = true) ∧
    ((let f : Fin 16 := 15
     let held : Nat := 2
     let L := (pkg ((((run.setFld F.FB_CTRL_ENABLE 1 15).setFld F.FB_CTRL_MODE 3 15)).updFb 15 (fun x => { x with qSeen := true }))).seen .A 0
     let J := L.zJudge f
     decide (L.inActs .drive 14 = true ∧ L.fld F.FB_CTRL_FILT f ≤ held ∧ J.fbOn f = true ∧ (J.fb f).fault = false ∧ (J.fbMode f = fbIncr ∨
       J.fbMode f = fbSinCos)) && (
     let a : Bool := false
     let b : Bool := true
     let d := (quadState a b + 4 - quadState (J.fb f).levelA (J.fb f).levelB) % 4
     decide (d = 3))) = true) ∧
    ((let f : Fin 16 := 15
     let held : Nat := 2
     let L := (pkg ((((run.setFld F.FB_CTRL_ENABLE 1 15).setFld F.FB_CTRL_MODE 3 15)).updFb 15 (fun x => { x with qSeen := true }))).seen .A 0
     let J := L.zJudge f
     decide (L.inActs .drive 14 = true ∧ L.fld F.FB_CTRL_FILT f ≤ held ∧ J.fbOn f = true ∧ (J.fb f).fault = false ∧ (J.fbMode f = fbIncr ∨
       J.fbMode f = fbSinCos)) && (
     let a : Bool := true
     let b : Bool := true
     let d := (quadState a b + 4 - quadState (J.fb f).levelA (J.fb f).levelB) % 4
     decide (d = 2))) = true) ∧
    ((let f : Fin 16 := 15
     let held : Nat := 2
     let L := (pkg ((((run.setFld F.FB_CTRL_ENABLE 1 15).setFld F.FB_CTRL_MODE 3 15)).updFb 15 (fun x => { x with qSeen := true }))).seen .A 0
     let J := L.zJudge f
     decide (L.inActs .drive 14 = true ∧ L.fld F.FB_CTRL_FILT f ≤ held) && (
     let M := J.updFb f (fun x => { x with levelZ := true })
     decide (M.fbOn f = false ∨ (M.fb f).fault = true ∨ (M.fb f).valid = false ∨ M.flag F.FB_CTRL_Z_USE f = false))) = true) ∧
    ((let f : Fin 16 := 15
     let held : Nat := 2
     let L := (pkg ((((run.setFld F.FB_CTRL_ENABLE 1 15).setFld F.FB_CTRL_MODE 3 15).setFld F.FB_CTRL_Z_USE 1 15).updFb 15 (fun x =>
       { x with valid := true, refOk := false }))).seen .A 0
     let J := L.zJudge f
     decide (L.inActs .drive 14 = true ∧ L.fld F.FB_CTRL_FILT f ≤ held) && (
     let M := J.updFb f (fun x => { x with levelZ := true })
     decide (M.fbOn f = true ∧ (M.fb f).fault = false ∧ (M.fb f).valid = true ∧ M.flag F.FB_CTRL_Z_USE f = true ∧ (M.fbMode f = fbIncr ∨ M.fbMode
       f = fbSinCos) ∧ (M.fb f).refOk = false))) = true) ∧
    ((let f : Fin 16 := 15
     let held : Nat := 2
     let L := (pkg ((((run.setFld F.FB_CTRL_ENABLE 1 15).setFld F.FB_CTRL_MODE 3 15).setFld F.FB_CTRL_Z_USE 1 15).updFb 15 (fun x =>
       { x with valid := true, refOk := true }))).seen .A 0
     let J := L.zJudge f
     decide (L.inActs .drive 14 = true ∧ L.fld F.FB_CTRL_FILT f ≤ held) && (
     let M := J.updFb f (fun x => { x with levelZ := true })
     decide (M.fbOn f = true ∧ (M.fb f).fault = false ∧ (M.fb f).valid = true ∧ M.flag F.FB_CTRL_Z_USE f = true ∧ (M.fbMode f = fbIncr ∨ M.fbMode
       f = fbSinCos) ∧ (M.fb f).refOk = true))) = true) ∧
    ((let f : Fin 16 := 15
     let L := (pkg ((((run.setFld F.FB_CTRL_ENABLE 1 15).setFld F.FB_CTRL_MODE 3 15)).updFb 15 (fun x => { x with valid := true }))).seen .A 0
     decide (L.pairActs .drive 14 = true ∧ L.fbOn f = true ∧ L.fbMode f = fbIncr ∧ L.flag F.FB_CTRL_Z_USE f = false ∧ (L.fb f).fault = false ∧
       (L.fb f).valid = true)) = true) ∧
    ((let f : Fin 16 := 15
     let L := (pkg ((((run.setFld F.FB_CTRL_ENABLE 1 15).setFld F.FB_CTRL_MODE 3 15)).updFb 15 (fun x => { x with qSeen := true }))).seen .A 0
     decide (L.pairActs .drive 14 = true ∧ (L.fbOn f = false ∨ L.fbMode f ≠ fbIncr ∨ L.flag F.FB_CTRL_Z_USE f = true ∨ (L.fb f).fault = true ∨
       (L.fb f).valid = false))) = true) ∧
    ((let f : Fin 16 := 15
     let held : Nat := 2
     let L := (pkg ((((run.setFld F.FB_CTRL_ENABLE 1 15).setFld F.FB_CTRL_MODE 3 15)).updFb 15 (fun x => { x with qSeen := true }))).seen .A 0
     decide (L.inActs .drive 14 = true ∧ L.fld F.FB_CTRL_FILT f ≤ held) && (
     let p : Nat := 0
     let N := L.updFb f (fun x => { x with levelA := bit p 0, levelB := bit p 1, levelZ := bit p 2 })
     decide (N.fbOn f = false ∨ N.fbMode f ≠ fbHall))) = true) ∧
    ((let f : Fin 16 := 15
     let held : Nat := 2
     let L := (pkg ((((run.setFld F.FB_CTRL_ENABLE 1 15).setFld F.FB_CTRL_MODE 4 15)).updFb 15 (fun x => { x with p := 0 }))).seen .A 0
     decide (L.inActs .drive 14 = true ∧ L.fld F.FB_CTRL_FILT f ≤ held) && (
     let p : Nat := 0
     let N := L.updFb f (fun x => { x with levelA := bit p 0, levelB := bit p 1, levelZ := bit p 2 })
     let k := hallSector (N.flag F.FB_HALL_HALL_INV f) p
     let last := (N.fb f).hallLast
     decide (N.fbOn f = true ∧ N.fbMode f = fbHall ∧ ((N.fb f).fault = true ∨ k = 7 ∨ last = 7 ∨ k = last)))) = true) ∧
    ((let f : Fin 16 := 15
     let held : Nat := 2
     let L := (pkg ((((run.setFld F.FB_CTRL_ENABLE 1 15).setFld F.FB_CTRL_MODE 4 15)).updFb 15 (fun x =>
       { x with fault := false, hallLast := 0 }))).seen .A 0
     decide (L.inActs .drive 14 = true ∧ L.fld F.FB_CTRL_FILT f ≤ held) && (
     let p : Nat := 3
     let N := L.updFb f (fun x => { x with levelA := bit p 0, levelB := bit p 1, levelZ := bit p 2 })
     let k := hallSector (N.flag F.FB_HALL_HALL_INV f) p
     let last := (N.fb f).hallLast
     decide (N.fbOn f = true ∧ N.fbMode f = fbHall ∧ (N.fb f).fault = false ∧ k < 6 ∧ last < 6 ∧ k = (last + 1) % 6))) = true) ∧
    ((let f : Fin 16 := 15
     let held : Nat := 2
     let L := (pkg ((((run.setFld F.FB_CTRL_ENABLE 1 15).setFld F.FB_CTRL_MODE 4 15)).updFb 15 (fun x =>
       { x with fault := false, hallLast := 0 }))).seen .A 0
     decide (L.inActs .drive 14 = true ∧ L.fld F.FB_CTRL_FILT f ≤ held) && (
     let p : Nat := 5
     let N := L.updFb f (fun x => { x with levelA := bit p 0, levelB := bit p 1, levelZ := bit p 2 })
     let k := hallSector (N.flag F.FB_HALL_HALL_INV f) p
     let last := (N.fb f).hallLast
     decide (N.fbOn f = true ∧ N.fbMode f = fbHall ∧ (N.fb f).fault = false ∧ k < 6 ∧ last < 6 ∧ last = (k + 1) % 6))) = true) ∧
    ((let f : Fin 16 := 15
     let held : Nat := 2
     let L := (pkg ((((run.setFld F.FB_CTRL_ENABLE 1 15).setFld F.FB_CTRL_MODE 4 15)).updFb 15 (fun x =>
       { x with fault := false, hallLast := 0 }))).seen .A 0
     decide (L.inActs .drive 14 = true ∧ L.fld F.FB_CTRL_FILT f ≤ held) && (
     let p : Nat := 2
     let N := L.updFb f (fun x => { x with levelA := bit p 0, levelB := bit p 1, levelZ := bit p 2 })
     let k := hallSector (N.flag F.FB_HALL_HALL_INV f) p
     let last := (N.fb f).hallLast
     decide (N.fbOn f = true ∧ N.fbMode f = fbHall ∧ (N.fb f).fault = false ∧ k < 6 ∧ last < 6 ∧ k ≠ last ∧ k ≠ (last + 1) % 6 ∧ last ≠ (k + 1) %
       6))) = true) ∧
    ((let f : Fin 16 := 15
     let L := (pkg ((((run.setFld F.FB_CTRL_ENABLE 1 15).setFld F.FB_CTRL_MODE 4 15)).updFb 15 (fun x => { x with p := 0 }))).seen .A 0
     decide (L.acts .drive 14 = true ∧ L.fbOn f = true ∧ L.fbMode f = fbHall ∧ (L.fb f).hall = 7 ∧ (L.fb f).hallAt + us 1 < L.now ∧ (L.fb f).fault
       = false)) = true) ∧
    ((let f : Fin 16 := 15
     let L := (pkg ((((run.setFld F.FB_CTRL_ENABLE 1 15).setFld F.FB_CTRL_MODE 5 15).setFld F.FB_SSI2_SSI_FRAMES 64 15).updFb 15 (fun x =>
       { x with framesSince := 1 }))).seen .A 0
     decide (L.fbOn f = true ∧ L.inActs .drive 14 = true ∧ L.fbMode f = fbSsi ∧ (L.fb f).fault = false ∧ L.ssiParam f = false ∧ (L.fb
       f).framesSince ≠ 0 ∧ ((L.fb f).framesSince - 1) % L.ssiFrames f = 0)) = true) ∧
    ((let f : Fin 16 := 15
     let L := (pkg ((((run.setFld F.FB_CTRL_ENABLE 1 15).setFld F.FB_CTRL_MODE 3 15)).updFb 15 (fun x => { x with qSeen := true }))).seen .A 0
     decide (L.fbOn f = true ∧ L.inActs .drive 14 = true ∧ (L.fbMode f ≠ fbSsi ∨ (L.fb f).fault = true ∨ L.ssiParam f = true ∨ (L.fb
       f).framesSince = 0 ∨ ((L.fb f).framesSince - 1) % L.ssiFrames f ≠ 0))) = true) ∧
    ((let f : Fin 16 := 15
     let L := (pkg ((((run.setFld F.FB_CTRL_ENABLE 1 15).setFld F.FB_CTRL_MODE 3 15)).updFb 15 (fun x => { x with qSeen := true }))).seen .A 0
     decide (L.fbOn f = true ∧ L.inActs .drive 14 = true ∧ ((L.fb f).busy = false ∨ (L.fb f).fault = true ∨ L.now < L.ssiEnd f))) = true) ∧
    ((let f : Fin 16 := 15
     let L := (pkg ((((run.setFld F.FB_CTRL_ENABLE 1 15).setFld F.FB_CTRL_MODE 2 15)).updFb 15 (fun x =>
       { x with busy := true, refOk := true }))).seen .A 0
     decide (L.fbOn f = true ∧ L.inActs .drive 14 = true ∧ (L.fb f).busy = true ∧ (L.fb f).fault = false ∧ L.ssiEnd f ≤ L.now)) = true) ∧
    ((let f : Fin 16 := 15
     let L := (pkg ((((run.setFld F.FB_CTRL_ENABLE 1 15).setFld F.FB_CTRL_MODE 3 15)).updFb 15 (fun x => { x with qSeen := true }))).seen .A 0
     decide (L.fbOn f = true) && (
     let K : Lane := ((((((run.setFld F.FB_CTRL_ENABLE 1 15).setFld F.FB_CTRL_MODE 5 15).setFld F.FB_SSI_BITS 20 15).setFld F.FB_SSI_ST_BITS 16
       15).setFld F.FB_SSI_PARITY 1 15).setFld F.FB_SSI_GRAY 0 15).updFb 15 (fun x =>
       { x with busy := true, refOk := true, valid := true, rev := 1, ssiRx := some { began := 0, word := 65536, par := false, last := false } })
     (match (K.fb f).ssiRx with
     | some x =>
     decide ((K.fb f).conv = [] ∧ K.fbMode f = fbSsi ∧ (K.fb f).fault = false) && (
     let M := K.updFb f (fun y => { y with ssiRx := none })
     let n := M.ssiBits f
     let odd : Prop := (ones n x.word + b2n x.par) % 2 = 1
     let parBad : Prop := (M.ssiParity f = 1 ∧ odd) ∨ (2 ≤ M.ssiParity f ∧ ¬ odd)
     decide (parBad ∨ x.last = true))
     | _ => false))) = true) ∧
    ((let f : Fin 16 := 15
     let L := (pkg ((((run.setFld F.FB_CTRL_ENABLE 1 15).setFld F.FB_CTRL_MODE 3 15)).updFb 15 (fun x => { x with qSeen := true }))).seen .A 0
     decide (L.fbOn f = true) && (
     let K : Lane := ((((((run.setFld F.FB_CTRL_ENABLE 1 15).setFld F.FB_CTRL_MODE 5 15).setFld F.FB_SSI_BITS 20 15).setFld F.FB_SSI_ST_BITS 20
       15).setFld F.FB_SSI_PARITY 0 15).setFld F.FB_SSI_GRAY 1 15).updFb 15 (fun x =>
       { x with busy := true, refOk := false, valid := true, rev := 0, ssiRx := some { began := 0, word := 5, par := false, last := false } })
     (match (K.fb f).ssiRx with
     | some x =>
     decide ((K.fb f).conv = [] ∧ K.fbMode f = fbSsi ∧ (K.fb f).fault = false) && (
     let M := K.updFb f (fun y => { y with ssiRx := none })
     let n := M.ssiBits f
     let odd : Prop := (ones n x.word + b2n x.par) % 2 = 1
     let parBad : Prop := (M.ssiParity f = 1 ∧ odd) ∨ (2 ≤ M.ssiParity f ∧ ¬ odd)
     decide (¬ parBad ∧ x.last = false ∧ (K.fb f).refOk = false))
     | _ => false))) = true) ∧
    ((let f : Fin 16 := 15
     let L := (pkg ((((run.setFld F.FB_CTRL_ENABLE 1 15).setFld F.FB_CTRL_MODE 3 15)).updFb 15 (fun x => { x with qSeen := true }))).seen .A 0
     decide (L.fbOn f = true) && (
     let K : Lane := ((((((run.setFld F.FB_CTRL_ENABLE 1 15).setFld F.FB_CTRL_MODE 5 15).setFld F.FB_SSI_BITS 20 15).setFld F.FB_SSI_ST_BITS 16
       15).setFld F.FB_SSI_PARITY 0 15).setFld F.FB_SSI_GRAY 0 15).updFb 15 (fun x =>
       { x with busy := true, refOk := true, valid := true, rev := 3, ssiRx := some { began := 0, word := 65536, par := false, last := false } })
     (match (K.fb f).ssiRx with
     | some x =>
     decide ((K.fb f).conv = [] ∧ K.fbMode f = fbSsi ∧ (K.fb f).fault = false) && (
     let M := K.updFb f (fun y => { y with ssiRx := none })
     let n := M.ssiBits f
     let odd : Prop := (ones n x.word + b2n x.par) % 2 = 1
     let parBad : Prop := (M.ssiParity f = 1 ∧ odd) ∨ (2 ≤ M.ssiParity f ∧ ¬ odd)
     let v := if M.flag F.FB_SSI_GRAY f then grayDecode n (x.word % 2 ^ n) else x.word % 2 ^ n
     let st := M.ssiSt f
     let mtBits := n - st
     let one := v % 2 ^ st
     let pos := if 16 ≤ st then one / 2 ^ (st - 16) else one * 2 ^ (16 - st)
     decide (¬ parBad ∧ x.last = false ∧ (K.fb f).refOk = true ∧ mtBits ≠ 0 ∧ M.revAt f pos % 2 ^ mtBits ≠ ((v / 2 ^ st : Nat) : Int)))
     | _ => false))) = true) ∧
    ((let f : Fin 16 := 15
     let L := (pkg ((((run.setFld F.FB_CTRL_ENABLE 1 15).setFld F.FB_CTRL_MODE 3 15)).updFb 15 (fun x => { x with qSeen := true }))).seen .A 0
     decide (L.fbOn f = true) && (
     let K : Lane := ((((((run.setFld F.FB_CTRL_ENABLE 1 15).setFld F.FB_CTRL_MODE 5 15).setFld F.FB_SSI_BITS 20 15).setFld F.FB_SSI_ST_BITS 20
       15).setFld F.FB_SSI_PARITY 0 15).setFld F.FB_SSI_GRAY 0 15).updFb 15 (fun x =>
       { x with busy := true, refOk := true, valid := true, rev := 0, ssiRx := some { began := 0, word := 5, par := false, last := false } })
     (match (K.fb f).ssiRx with
     | some x =>
     decide ((K.fb f).conv = [] ∧ K.fbMode f = fbSsi ∧ (K.fb f).fault = false) && (
     let M := K.updFb f (fun y => { y with ssiRx := none })
     let n := M.ssiBits f
     let odd : Prop := (ones n x.word + b2n x.par) % 2 = 1
     let parBad : Prop := (M.ssiParity f = 1 ∧ odd) ∨ (2 ≤ M.ssiParity f ∧ ¬ odd)
     let v := if M.flag F.FB_SSI_GRAY f then grayDecode n (x.word % 2 ^ n) else x.word % 2 ^ n
     let st := M.ssiSt f
     let mtBits := n - st
     let one := v % 2 ^ st
     let pos := if 16 ≤ st then one / 2 ^ (st - 16) else one * 2 ^ (16 - st)
     decide (¬ parBad ∧ x.last = false ∧ (K.fb f).refOk = true ∧ (mtBits = 0 ∨ M.revAt f pos % 2 ^ mtBits = ((v / 2 ^ st : Nat) : Int))))
     | _ => false))) = true) ∧
    ((let f : Fin 16 := 15
     let L := (pkg ((((run.setFld F.FB_CTRL_ENABLE 1 15).setFld F.FB_CTRL_MODE 3 15)).updFb 15 (fun x => { x with qSeen := true }))).seen .A 0
     decide (L.fbOn f = true ∧ L.acts .drive 14 = true)) = true) ∧
    ((let f : Fin 16 := 15
     let L := (pkg ((((run.setFld F.FB_CTRL_ENABLE 1 15).setFld F.FB_CTRL_MODE 3 15)).updFb 15 (fun x => { x with qSeen := true }))).seen .A 0
     decide (L.fbOn f = true ∧ L.inActs .drive 14 = true ∧ L.fbMode f = fbIncr) && (
     let r : Fin 3 := 0
     let M := (L.updFb f (fun x => { x with line := putBit x.line r true })).raise F.FB_EVENT_LINE f
     decide (r ≠ 2 ∨ M.flag F.FB_CTRL_Z_USE f = true))) = true) ∧
    ((let f : Fin 16 := 15
     let L := (pkg ((((run.setFld F.FB_CTRL_ENABLE 1 15).setFld F.FB_CTRL_MODE 3 15)).updFb 15 (fun x => { x with qSeen := true }))).seen .A 0
     decide (L.fbOn f = true ∧ L.inActs .drive 14 = true ∧ L.fbMode f = fbIncr) && (
     let r : Fin 3 := 2
     let M := (L.updFb f (fun x => { x with line := putBit x.line r true })).raise F.FB_EVENT_LINE f
     decide (r = 2 ∧ M.flag F.FB_CTRL_Z_USE f = false))) = true) := by decide +kernel

theorem witness_RotorAngleStartAndSources :
    ((let g : Fin 16 := 15
     let L := (pkg (run.updAn 15 (fun x => { x with starting := true, polOk := false, testAt := some 0, peakPlus := 11, peakMinus := 5 }))).seen
       .A 0
     decide (L.acts .drive 12 = true) && (
     let lo : List Nat := []
     let hi : List Nat := []
     let K := L.takeClocks g (joinPairs lo hi)
     decide ((K.an g).starting = true ∧ (K.an g).polOk = false) && (
     (match (K.an g).testAt with
     | some t0 =>
     decide (t0 + 4 * us (K.polWidth g) ≤ K.now) && (
     let M := K.updAn g (fun x => { x with tests := x.tests + 1, testAt := none, peakPlus := 0, peakMinus := 0 })
     let m : Rat := 1 + (M.polMargin g : Rat) / 100
     let p := (K.an g).peakPlus
     let q := (K.an g).peakMinus
     decide (q * m ≤ p ∧ q < p))
     | _ => false)))) = true) ∧
    ((let g : Fin 16 := 15
     let L := (pkg (run.updAn 15 (fun x => { x with starting := true, polOk := false, testAt := some 0, peakPlus := 5, peakMinus := 11 }))).seen
       .A 0
     decide (L.acts .drive 12 = true) && (
     let lo : List Nat := []
     let hi : List Nat := []
     let K := L.takeClocks g (joinPairs lo hi)
     decide ((K.an g).starting = true ∧ (K.an g).polOk = false) && (
     (match (K.an g).testAt with
     | some t0 =>
     decide (t0 + 4 * us (K.polWidth g) ≤ K.now) && (
     let M := K.updAn g (fun x => { x with tests := x.tests + 1, testAt := none, peakPlus := 0, peakMinus := 0 })
     let m : Rat := 1 + (M.polMargin g : Rat) / 100
     let p := (K.an g).peakPlus
     let q := (K.an g).peakMinus
     decide (p * m ≤ q ∧ p < q))
     | _ => false)))) = true) ∧
    ((let g : Fin 16 := 15
     let L := (pkg (run.updAn 15 (fun x => { x with starting := true, polOk := false, testAt := some 0, peakPlus := 5, peakMinus := 5 }))).seen .A
       0
     decide (L.acts .drive 12 = true) && (
     let lo : List Nat := []
     let hi : List Nat := []
     let K := L.takeClocks g (joinPairs lo hi)
     decide ((K.an g).starting = true ∧ (K.an g).polOk = false) && (
     (match (K.an g).testAt with
     | some t0 =>
     decide (t0 + 4 * us (K.polWidth g) ≤ K.now) && (
     let M := K.updAn g (fun x => { x with tests := x.tests + 1, testAt := none, peakPlus := 0, peakMinus := 0 })
     let m : Rat := 1 + (M.polMargin g : Rat) / 100
     let p := (K.an g).peakPlus
     let q := (K.an g).peakMinus
     decide (((p < q * m ∨ p ≤ q)) ∧ ((q < p * m ∨ q ≤ p))))
     | _ => false)))) = true) ∧
    ((let g : Fin 16 := 15
     let L := (pkg (run.updAn 15 (fun x =>
       { x with starting := true, polOk := false, testAt := some (sec 1), peakPlus := 5, peakMinus := 5 }))).seen .A 0
     decide (L.acts .drive 12 = true) && (
     let lo : List Nat := []
     let hi : List Nat := []
     let K := L.takeClocks g (joinPairs lo hi)
     (match (K.an g).testAt with
     | some t0 =>
     decide (K.now < t0 + 4 * us (K.polWidth g))
     | _ => false))) = true) ∧
    ((let g : Fin 16 := 15
     let L := (pkg (run.updAn 15 (fun x => { x with starting := true, polOk := false, startAt := sec 1 - ms 5 }))).seen .A 0
     decide (L.acts .drive 12 = true ∧ (L.an g).starting = true ∧ (L.an g).polOk = false ∧ (((L.an g).reachedAt = none ∧ (L.an g).startAt + ms 5 ≤
       L.now) ∨ 3 ≤ (L.an g).tests))) = true) ∧
    ((let g : Fin 16 := 15
     let L := (pkg (run.updAn 15 (fun x => { x with polWait := some (sec 1) }))).seen .A 0
     decide (L.acts .drive 12 = true ∧ ((L.an g).starting = false ∨ (L.an g).polOk = true))) = true) ∧
    ((let g : Fin 16 := 15
     let L := (pkg (run.updAn 15 (fun x => { x with polWait := some (sec 1) }))).seen .A 0
     decide (L.acts .drive 12 = true) && (
     (match (L.an g).polWait with
     | some d =>
     decide (d ≤ L.now)
     | _ => false))) = true) ∧
    ((let g : Fin 16 := 15
     let L := (pkg (run.updAn 15 (fun x => { x with polWait := some (sec 1 + 1) }))).seen .A 0
     decide (L.acts .drive 12 = true) && (
     (match (L.an g).polWait with
     | some d =>
     decide (L.now < d)
     | _ => false))) = true) ∧
    ((let g : Fin 16 := 15
     let L := (pkg (run.updAn 15 (fun x => { x with alignSince := some (sec 1 - ms 100) }))).seen .A 0
     decide (L.acts .drive 12 = true) && (
     (match (L.an g).alignSince with
     | some x =>
     decide (x + ms 100 ≤ L.now)
     | _ => false))) = true) ∧
    ((let g : Fin 16 := 15
     let L := (pkg (run.updAn 15 (fun x => { x with alignSince := some (sec 1 - ms 100 + 1) }))).seen .A 0
     decide (L.acts .drive 12 = true) && (
     (match (L.an g).alignSince with
     | some x =>
     decide (L.now < x + ms 100)
     | _ => false))) = true) ∧
    ((let g : Fin 16 := 15
     let L := (pkg (run.updAn 15 (fun x => { x with misSince := some (sec 1 - ms 10) }))).seen .A 0
     decide (L.acts .drive 12 = true) && (
     (match (L.an g).misSince with
     | some x =>
     decide (x + ms 10 ≤ L.now)
     | _ => false))) = true) ∧
    ((let g : Fin 16 := 15
     let L := (pkg (run.updAn 15 (fun x => { x with confObs := 255 }))).seen .A 0
     decide (L.acts .drive 12 = true ∧ L.pairActs .drive 12 = true ∧ (L.an g).confObs = 255)) = true) ∧
    ((let g : Fin 16 := 15
     let L := (pkg (run.updAn 15 (fun x => { x with starting := true, polOk := false, reachedAt := some 0, polWait := none, tests := 2 }))).seen
       .A 0
     decide (L.acts .drive 12 = true ∧ L.pairActs .drive 12 = true ∧ (L.an g).confObs ≠ 255 ∧ (L.an g).confInj ≠ 255)) = true) ∧
    ((let g : Fin 16 := 15
     let L := (pkg (run.updAn 15 (fun x => { x with peerN.seen := true, peerN.staleTold := false, peerN.age := 1500 }))).seen .A 0
     decide (L.acts .drive 12 = true ∧ (L.an g).peerN.seen = true ∧ (L.an g).peerN.staleTold = false ∧ 30 / 1000000 < L.peerElapsed .N (L.an
       g).peerN)) = true) ∧
    ((let g : Fin 16 := 15
     let L := (pkg (run.updAn 15 (fun x => { x with obsLost := true, obsOkAt := some (sec 1 - ms 1) }))).seen .A 0
     decide (L.acts .drive 12 = true ∧ (L.an g).obsLost = true) && (
     (match (L.an g).obsOkAt with
     | some x =>
     decide (x + ms 1 ≤ L.now)
     | _ => false))) = true) ∧
    ((let g : Fin 16 := 15
     let L := (pkg (run.updAn 15 (fun x => { x with injLost := true, injOkAt := some (sec 1 - ms 1) }))).seen .A 0
     decide (L.acts .drive 12 = true ∧ (L.an g).injLost = true) && (
     (match (L.an g).injOkAt with
     | some x =>
     decide (x + ms 1 ≤ L.now)
     | _ => false))) = true) := by decide +kernel

theorem witness_AuthorityTickBoundary :
    ((let L := (pkg ({ svc with ky.state := .off })).seen .A 0
     decide (L.acts .link 8 = true ∧ (L.ky.state = .off ∨ L.pm.level = .cellar))) = true) ∧
    ((let L := (pkg ({ svc with pm.level := .hold })).seen .A 0
     let K := ({ L with cx := { L.cx with keyTick := [] } } : Lane).flushKeys.taskMissed
     decide (L.acts .link 8 = true ∧ L.ky.state ≠ .off ∧ L.pm.level ≠ .cellar ∧ K.pm.level = .hold)) = true) ∧
    ((let L := (pkg ({ run with ky.boundary := sec 1 })).seen .A 0
     let K := ({ L with cx := { L.cx with keyTick := [] } } : Lane).flushKeys.taskMissed
     decide (L.acts .link 8 = true ∧ L.ky.state ≠ .off ∧ L.pm.level ≠ .cellar ∧ K.pm.level ≠ .hold ∧ K.taskRuns = true)) = true) ∧
    ((let L := (pkg up).seen .A 0
     let K := ({ L with cx := { L.cx with keyTick := [] } } : Lane).flushKeys.taskMissed
     decide (L.acts .link 8 = true ∧ L.ky.state ≠ .off ∧ L.pm.level ≠ .cellar ∧ K.pm.level ≠ .hold ∧ K.taskRuns = false)) = true) ∧
    ((let L := (pkg ({ svc with ky.state := .off })).seen .A 0
     decide (L.acts .core 0x20 = true ∧ L.lc.booted = true ∧ L.sy.debugHalt = false ∧ L.pairRan = true ∧ L.ky.boundary + us 47 ≤ L.now)) = true) ∧
    ((let L := (pkg ({ run with ky.boundary := sec 1 })).seen .A 0
     decide (L.acts .core 0x20 = true ∧ (L.lc.booted = false ∨ L.sy.debugHalt = true ∨ L.pairRan = false ∨ L.now < L.ky.boundary + us 47))) = true) := by decide +kernel

theorem witness_ExchangeTickSendsVoteAndAngle :
    ((let L := (pkg ({ svc with sy.lock := false })).seen .A 0
     decide (L.acts .link 9 = true ∧ L.mainRuns = false)) = true) ∧
    ((let n : Nat := 0
     let p : Nat := 0
     let L := (pkg ({ svc with pm.level := .hold })).seen .A 0
     decide (L.acts .link 9 = true ∧ L.mainRuns = true) && (
     let A := L.flushKeys.latchSrc 113
     let B : Lane := { A with ky := { A.ky with ownVote := A.fld F.EG_VOTE_OWN_VOTE, voteSeq := (A.ky.voteSeq + 1) % 4096 } }
     let C := (B.setFld F.CX_RTT_RTT_N (if (B.link .N).up then n else 0)).setFld F.CX_RTT_RTT_P (if (B.link .P).up then p else 0)
     decide (C.pm.level = .hold))) = true) ∧
    ((let n : Nat := 0
     let p : Nat := 0
     let L := (pkg up).seen .A 0
     decide (L.acts .link 9 = true ∧ L.mainRuns = true) && (
     let A := L.flushKeys.latchSrc 113
     let B : Lane := { A with ky := { A.ky with ownVote := A.fld F.EG_VOTE_OWN_VOTE, voteSeq := (A.ky.voteSeq + 1) % 4096 } }
     let C := (B.setFld F.CX_RTT_RTT_N (if (B.link .N).up then n else 0)).setFld F.CX_RTT_RTT_P (if (B.link .P).up then p else 0)
     decide (C.pm.level ≠ .hold))) = true) := by decide +kernel

theorem witness_BadFrameOnlyCountsAsBad :
    ((let L := (pkg up).seen .A 0
     decide (L.acts .link 9 = true) && (
     let m : KeyMsg := { kind := 1, sender := 1, epoch := 5, number := 0, named := 0 }
     decide (m.kind ≠ 0))) = true) ∧
    ((let L := (pkg up).seen .A 0
     decide (L.acts .link 9 = true) && (
     let m : KeyMsg := { kind := 0, sender := 1, epoch := 5, number := 0, named := 0 }
     decide (m.kind ≠ 1))) = true) ∧
    ((let L := (pkg up).seen .A 0
     decide (L.acts .link 9 = true) && (
     let m : KeyMsg := { kind := 0, sender := 1, epoch := 5, number := 0, named := 0 }
     decide (m.kind ≠ 2))) = true) ∧
    ((let L := (pkg up).seen .A 0
     decide (L.acts .link 9 = true) && (
     let m : KeyMsg := { kind := 0, sender := 1, epoch := 5, number := 0, named := 0 }
     decide (m.kind ≠ 3))) = true) ∧
    ((let L := (pkg up).seen .A 0
     decide (L.acts .link 9 = true) && (
     let m : KeyMsg := { kind := 0, sender := 1, epoch := 5, number := 0, named := 0 }
     decide (m.kind ≠ 4))) = true) ∧
    ((let L := (pkg up).seen .A 0
     decide (L.acts .link 9 = true) && (
     let m : KeyMsg := { kind := 0, sender := 1, epoch := 5, number := 0, named := 0 }
     decide (m.kind ≠ 5))) = true) ∧
    ((let L := (pkg up).seen .A 0
     decide (L.acts .link 9 = true) && (
     let m : KeyMsg := { kind := 0, sender := 1, epoch := 5, number := 0, named := 0 }
     decide (m.kind ≠ 6))) = true) := by decide +kernel

theorem witness_GoodFramesAreKept :
    ((let L := (pkg
       ({ up with ky.voteN := some { frame := { release := 0, seq := 1, stop := false, against := 0, live := 0xFFFF, capable := 0xFFFF }, arrival := 0, inService := true, before := none } })).seen
       .A 0
     decide (L.acts .link 9 = true ∧ L.injecting 12 = false)) = true) ∧
    ((let L := (pkg under).seen .A 0
     decide (L.acts .link 9 = true) && (
     let p : Port := .N
     decide (L.injecting (11 + portNo p) = false) && (
     let M := (L.rxFrame p true 1040).1
     decide (M.ky.holder = some (M.id.at p))))) = true) ∧
    ((let L := (pkg
       ({ up with ky.voteN := some { frame := { release := 0, seq := 1, stop := false, against := 0, live := 0xFFFF, capable := 0xFFFF }, arrival := 0, inService := true, before := none } })).seen
       .A 0
     decide (L.acts .link 9 = true) && (
     let p : Port := .N
     decide (L.injecting (11 + portNo p) = false) && (
     let M := (L.rxFrame p true 1040).1
     decide (M.ky.holder ≠ some (M.id.at p))))) = true) ∧
    ((let L := (pkg ({ svc with ky.sibN := 4, ky.sibP := 4 })).seen .A 0
     decide (L.acts .link 9 = true) && (
     let p : Port := .N
     decide (L.injecting (11 + portNo p) = false) && (
     let fr : CoordFrame :=
       { seq := 0, sender := 1, state := 5, toCellar := false, noToken := true, testPassed := true, runComplete := true, tokenNum := 0, tokenHolder := 3, tokenPass := 0, lastHeld := [0, 0, 0], votes := 0, downN := false, downP := false, downFar := false, start := false, stop := false, standstill := true, motionGrant := true, standCond := true, delivering := true, digest := List.replicate 8 0, epoch := 5 }
     let M := (L.rxFrame p true 40).1
     decide (fr.sender = (M.id.at p).index ∧ fr.state = 5 ∧ M.sib p = 4 ∧ M.ky.state = .service)))) = true) ∧
    ((let L := (pkg
       ({ up with ky.voteN := some { frame := { release := 0, seq := 1, stop := false, against := 0, live := 0xFFFF, capable := 0xFFFF }, arrival := 0, inService := true, before := none } })).seen
       .A 0
     decide (L.acts .link 9 = true) && (
     let p : Port := .N
     decide (L.injecting (11 + portNo p) = false) && (
     let fr : CoordFrame :=
       { seq := 0, sender := 1, state := 4, toCellar := false, noToken := true, testPassed := true, runComplete := true, tokenNum := 0, tokenHolder := 3, tokenPass := 0, lastHeld := [0, 0, 0], votes := 0, downN := false, downP := false, downFar := false, start := false, stop := false, standstill := true, motionGrant := true, standCond := true, delivering := true, digest := List.replicate 8 0, epoch := 5 }
     let M := (L.rxFrame p true 40).1
     decide (fr.sender = (M.id.at p).index ∧ (fr.state ≠ 5 ∨ M.sib p ≠ 4 ∨ M.ky.state ≠ .service))))) = true) ∧
    ((let L := (pkg
       ({ up with ky.voteN := some { frame := { release := 0, seq := 1, stop := false, against := 0, live := 0xFFFF, capable := 0xFFFF }, arrival := 0, inService := true, before := none } })).seen
       .A 0
     decide (L.acts .link 9 = true) && (
     let p : Port := .P
     decide (L.injecting (11 + portNo p) = false) && (
     let fr : CoordFrame :=
       { seq := 0, sender := 1, state := 4, toCellar := false, noToken := true, testPassed := true, runComplete := true, tokenNum := 0, tokenHolder := 3, tokenPass := 0, lastHeld := [0, 0, 0], votes := 0, downN := false, downP := false, downFar := false, start := false, stop := false, standstill := true, motionGrant := true, standCond := true, delivering := true, digest := List.replicate 8 0, epoch := 5 }
     let M := (L.rxFrame p true 40).1
     decide (fr.sender ≠ (M.id.at p).index)))) = true) ∧
    ((let L := (pkg ({ svc with ky.sibN := 4, ky.sibP := 4 })).seen .A 0
     decide (L.acts .link 9 = true ∧ L.injecting 11 = false) && (
     let M := (L.rxFrame .N true 16).1
     decide (M.ky.voteN = none))) = true) ∧
    ((let L := (pkg
       ({ up with ky.voteN := some { frame := { release := 0, seq := 1, stop := false, against := 0, live := 0xFFFF, capable := 0xFFFF }, arrival := 0, inService := true, before := none } })).seen
       .A 0
     decide (L.acts .link 9 = true ∧ L.injecting 11 = false) && (
     let fr : VoteFrame := { release := 0, seq := 1, stop := false, against := 0, live := 0xFFFF, capable := 0xFFFF }
     let M := (L.rxFrame .N true 16).1
     (match M.ky.voteN with
     | some v =>
     let d := (fr.seq + 4096 - v.frame.seq % 4096) % 4096
     decide (d = 0 ∨ 2047 < d)
     | _ => false))) = true) ∧
    ((let L := (pkg
       ({ up with ky.voteN := some { frame := { release := 0, seq := 1, stop := false, against := 0, live := 0xFFFF, capable := 0xFFFF }, arrival := 0, inService := true, before := none } })).seen
       .A 0
     decide (L.acts .link 9 = true ∧ L.injecting 11 = false) && (
     let fr : VoteFrame := { release := 0, seq := 2, stop := false, against := 0, live := 0xFFFF, capable := 0xFFFF }
     let M := (L.rxFrame .N true 16).1
     (match M.ky.voteN with
     | some v =>
     let d := (fr.seq + 4096 - v.frame.seq % 4096) % 4096
     decide (0 < d ∧ d ≤ 2047)
     | _ => false))) = true) ∧
    ((let L := (pkg ({ svc with ky.sibN := 4, ky.sibP := 4 })).seen .A 0
     decide (L.acts .link 9 = true ∧ L.injecting 11 = false) && (
     let M := (L.rxFrame .N true 144).1
     decide ((M.sib .N = 3 ∨ M.sib .N = 4) ∧ M.cx.angNumN = none))) = true) ∧
    ((let L := (pkg
       ({ up with ky.voteN := some { frame := { release := 0, seq := 1, stop := false, against := 0, live := 0xFFFF, capable := 0xFFFF }, arrival := 0, inService := true, before := none } })).seen
       .A 0
     decide (L.acts .link 9 = true ∧ L.injecting 11 = false) && (
     let M := (L.rxFrame .N true 144).1
     decide (M.sib .N ≠ 3 ∧ M.sib .N ≠ 4))) = true) := by decide +kernel

theorem witness_LinksGoDownAndUp :
    ((let p : Port := .P
     let L := (pkg ({ svc with cx.n.lastValid := sec 1 - us 20 + 1 })).seen .A 0
     decide (L.acts .link 9 = true ∧ ((L.link p).lastValid + us 20 ≤ L.now ∨ 3 ≤ (L.link p).crcRun))) = true) ∧
    ((let p : Port := .N
     let L := (pkg ({ svc with cx.n.lastValid := sec 1 - us 20 + 1 })).seen .A 0
     decide (L.acts .link 9 = true ∧ L.now < (L.link p).lastValid + us 20 ∧ (L.link p).crcRun < 3)) = true) ∧
    ((let p : Port := .N
     let L := (pkg ({ svc with cx.n.lastValid := sec 1 - us 20 + 1 })).seen .A 0
     decide (L.acts .link 9 = true ∧ ((L.link p).up = true ∨ (L.link p).valid < 100))) = true) ∧
    ((let L := (pkg ({ up with cx.n.valid := 100, cx.p.valid := 100 })).seen .A 0
     decide (L.acts .link 9 = true ∧ (L.link .N).up = false ∧ 100 ≤ (L.link .N).valid)) = true) ∧
    ((let L := (pkg ({ up with cx.n.valid := 100, cx.p.valid := 100 })).seen .A 0
     decide (L.acts .link 9 = true ∧ (L.link .P).up = false ∧ 100 ≤ (L.link .P).valid)) = true) := by decide +kernel

theorem witness_RenewalsAndTheirAcknowledgements :
    ((let p : Port := .N
     let m : KeyMsg := { kind := 0, sender := 1, epoch := 5, number := 0, named := 0 }
     let L := (pkg svc).seen .A 0
     decide (L.acts .link 9 = true ∧ L.injecting (11 + portNo p) = false) && (
     let M := (L.rxFrame p true 16).1
     decide (m.kind = 0 ∧ M.ky.holder = some M.id))) = true) ∧
    ((let p : Port := .N
     let m : KeyMsg := { kind := 0, sender := 1, epoch := 5, number := 0, named := 0 }
     let L := (pkg under).seen .A 0
     decide (L.acts .link 9 = true ∧ L.injecting (11 + portNo p) = false) && (
     let M := (L.rxFrame p true 16).1
     let e := m.epoch % 65536
     decide (m.kind = 0 ∧ M.ky.holder = some (M.id.at p) ∧ e = M.ky.epoch ∧ M.inSvcShadow = true ∧ M.ky.claim = none))) = true) ∧
    ((let p : Port := .N
     let m : KeyMsg := { kind := 0, sender := 1, epoch := 5, number := 0, named := 0 }
     let L := (pkg ({ under with ky.claim := some { claimant := .A, epoch := 6, at_ := 0, acks := [] } })).seen .A 0
     decide (L.acts .link 9 = true ∧ L.injecting (11 + portNo p) = false) && (
     let M := (L.rxFrame p true 16).1
     let e := m.epoch % 65536
     decide (m.kind = 0 ∧ M.ky.holder = some (M.id.at p) ∧ e = M.ky.epoch ∧ (M.inSvcShadow = false ∨ M.ky.claim ≠ none)))) = true) ∧
    ((let p : Port := .N
     let m : KeyMsg := { kind := 0, sender := 1, epoch := 5, number := 0, named := 0 }
     let L := (pkg bench).seen .A 0
     decide (L.acts .link 9 = true ∧ L.injecting (11 + portNo p) = false) && (
     let M := (L.rxFrame p true 16).1
     let e := m.epoch % 65536
     let d := (e + 65536 - M.ky.epoch) % 65536
     decide (m.kind = 0 ∧ M.ky.state = .bench ∧ M.ky.revoked ≠ some e ∧ (M.ky.holder = none ∨ (M.ky.holder ≠ some M.id ∧ 0 < d ∧ d ≤ 32767))))) = true) ∧
    ((let p : Port := .N
     let m : KeyMsg := { kind := 1, sender := 1, epoch := 5, number := 0, named := 0 }
     let L := (pkg svc).seen .A 0
     decide (L.acts .link 9 = true ∧ L.injecting (11 + portNo p) = false) && (
     let M := (L.rxFrame p true 16).1
     decide (m.kind = 1 ∧ M.ky.holder = some M.id ∧ m.epoch = M.ky.epoch))) = true) ∧
    ((let p : Port := .N
     let m : KeyMsg := { kind := 1, sender := 1, epoch := 5, number := 0, named := 0 }
     let L := (pkg ({ under with ky.claim := some { claimant := .A, epoch := 6, at_ := 0, acks := [] } })).seen .A 0
     decide (L.acts .link 9 = true ∧ L.injecting (11 + portNo p) = false) && (
     let M := (L.rxFrame p true 16).1
     decide (m.kind = 1 ∧ (M.ky.holder ≠ some M.id ∨ m.epoch ≠ M.ky.epoch)))) = true) := by decide +kernel

theorem witness_ClaimsAcknowledgedAndWithdrawn :
    ((let p : Port := .N
     let m : KeyMsg := { kind := 2, sender := 1, epoch := 5, number := 0, named := 0 }
     let L := (pkg
       ({ run with ky.claim := some { claimant := .A, epoch := 6, at_ := sec 1, acks := [] }, ky.holder := none, ky.epoch := 5 })).seen .A 0
     decide (L.acts .link 9 = true ∧ L.injecting (11 + portNo p) = false) && (
     let M := (L.rxFrame p true 16).1
     let e := m.epoch % 65536
     let d := (e + 65536 - M.ky.epoch) % 65536
     decide (m.kind = 2 ∧ (M.ky.state ≠ .service ∨ M.ky.holder = some M.id ∨ M.inService (M.id.at p) = false ∨ d = 0 ∨ 32767 < d)))) = true) ∧
    ((let p : Port := .N
     let m : KeyMsg := { kind := 2, sender := 1, epoch := 6, number := 1, named := 1 }
     let L := (pkg under).seen .A 0
     decide (L.acts .link 9 = true ∧ L.injecting (11 + portNo p) = false) && (
     let M := (L.rxFrame p true 16).1
     let e := m.epoch % 65536
     let d := (e + 65536 - M.ky.epoch) % 65536
     decide (m.kind = 2 ∧ M.ky.state = .service ∧ M.ky.holder ≠ some M.id ∧ M.inService (M.id.at p) = true ∧ 0 < d ∧ d ≤ 32767 ∧ M.ky.claim = none
       ∧ M.ky.acked = none))) = true) ∧
    ((let p : Port := .N
     let m : KeyMsg := { kind := 3, sender := 1, epoch := 5, number := 0, named := 0 }
     let L := (pkg up).seen .A 0
     decide (L.acts .link 9 = true ∧ L.injecting (11 + portNo p) = false) && (
     let M := (L.rxFrame p true 16).1
     decide (m.kind = 3 ∧ M.ky.claim = none ∧ M.ky.acked = none))) = true) ∧
    ((let p : Port := .N
     let m : KeyMsg := { kind := 3, sender := 1, epoch := 6, number := 0, named := 0 }
     let L := (pkg
       ({ run with ky.claim := some { claimant := .A, epoch := 6, at_ := sec 1, acks := [] }, ky.holder := none, ky.epoch := 5 })).seen .A 0
     decide (L.acts .link 9 = true ∧ L.injecting (11 + portNo p) = false) && (
     let M := (L.rxFrame p true 16).1
     decide (m.kind = 3) && (
     (match M.ky.claim with
     | some c =>
     decide (M.ky.acked = none ∧ c.epoch = m.epoch ∧ c.claimant.index = m.named ∧ M.id.at p ∉ c.acks)
     | _ => false)))) = true) ∧
    ((let p : Port := .N
     let m : KeyMsg := { kind := 4, sender := 1, epoch := 5, number := 0, named := 0 }
     let L := (pkg
       ({ run with ky.claim := some { claimant := .A, epoch := 6, at_ := sec 1, acks := [] }, ky.holder := none, ky.epoch := 5 })).seen .A 0
     decide (L.acts .link 9 = true ∧ L.injecting (11 + portNo p) = false) && (
     let M := (L.rxFrame p true 16).1
     decide (m.kind = 4 ∧ M.ky.acked = none))) = true) ∧
    ((let p : Port := .N
     let m : KeyMsg := { kind := 4, sender := 1, epoch := 6, number := 1, named := 1 }
     let L := (pkg ({ run with ky.acked := some { claimant := .B, epoch := 6, at_ := sec 1, acks := [] } })).seen .A 0
     decide (L.acts .link 9 = true ∧ L.injecting (11 + portNo p) = false) && (
     let M := (L.rxFrame p true 16).1
     decide (m.kind = 4) && (
     (match M.ky.acked with
     | some c =>
     decide (c.claimant = M.id.at p ∧ c.epoch = m.epoch)
     | _ => false)))) = true) ∧
    ((let p : Port := .N
     let m : KeyMsg := { kind := 4, sender := 1, epoch := 5, number := 0, named := 0 }
     let L := (pkg ({ run with ky.acked := some { claimant := .B, epoch := 6, at_ := sec 1, acks := [] } })).seen .A 0
     decide (L.acts .link 9 = true ∧ L.injecting (11 + portNo p) = false) && (
     let M := (L.rxFrame p true 16).1
     decide (m.kind = 4) && (
     (match M.ky.acked with
     | some c =>
     decide (c.claimant ≠ M.id.at p ∨ c.epoch ≠ m.epoch)
     | _ => false)))) = true) := by decide +kernel

theorem witness_ReleaseAndRevocation :
    ((let p : Port := .N
     let m : KeyMsg := { kind := 5, sender := 1, epoch := 5, number := 0, named := 0 }
     let L := (pkg ({ svc with ky.revocations := [.C] })).seen .A 0
     decide (L.acts .link 9 = true ∧ L.injecting (11 + portNo p) = false) && (
     let M := (L.rxFrame p true 16).1
     decide (m.kind = 5 ∧ (m.epoch ≠ M.ky.epoch ∨ M.ky.lastHolder ≠ some (M.id.at p))))) = true) ∧
    ((let p : Port := .N
     let m : KeyMsg := { kind := 5, sender := 1, epoch := 5, number := 0, named := 1 }
     let L := (pkg ({ under with ky.lastHolder := some .B })).seen .A 0
     decide (L.acts .link 9 = true ∧ L.injecting (11 + portNo p) = false) && (
     let M := (L.rxFrame p true 16).1
     decide (m.kind = 5 ∧ m.epoch = M.ky.epoch ∧ M.ky.lastHolder = some (M.id.at p) ∧ M.ky.holder = some (M.id.at p) ∧ m.named ≠ M.id.index))) = true) ∧
    ((let p : Port := .N
     let m : KeyMsg := { kind := 5, sender := 1, epoch := 5, number := 0, named := 0 }
     let L := (pkg ({ under with ky.lastHolder := some .B })).seen .A 0
     decide (L.acts .link 9 = true ∧ L.injecting (11 + portNo p) = false) && (
     let M := (L.rxFrame p true 16).1
     decide (m.kind = 5 ∧ m.epoch = M.ky.epoch ∧ M.ky.lastHolder = some (M.id.at p) ∧ M.ky.holder = some (M.id.at p) ∧ m.named = M.id.index ∧
       M.ky.state = .service))) = true) ∧
    ((let p : Port := .N
     let m : KeyMsg := { kind := 5, sender := 1, epoch := 5, number := 0, named := 1 }
     let L := (pkg ({ run with ky.holder := none, ky.lastHolder := some .B, ky.epoch := 5, ky.state := .service })).seen .A 0
     decide (L.acts .link 9 = true ∧ L.injecting (11 + portNo p) = false) && (
     let M := (L.rxFrame p true 16).1
     decide (m.kind = 5 ∧ m.epoch = M.ky.epoch ∧ M.ky.lastHolder = some (M.id.at p) ∧ M.ky.holder = none ∧ m.named ≠ M.id.index))) = true) ∧
    ((let p : Port := .N
     let m : KeyMsg := { kind := 5, sender := 1, epoch := 5, number := 0, named := 0 }
     let L := (pkg ({ run with ky.holder := none, ky.lastHolder := some .B, ky.epoch := 5, ky.state := .service })).seen .A 0
     decide (L.acts .link 9 = true ∧ L.injecting (11 + portNo p) = false) && (
     let M := (L.rxFrame p true 16).1
     decide (m.kind = 5 ∧ m.epoch = M.ky.epoch ∧ M.ky.lastHolder = some (M.id.at p) ∧ M.ky.holder = none ∧ m.named = M.id.index ∧ M.ky.state =
       .service))) = true) ∧
    ((let p : Port := .N
     let m : KeyMsg := { kind := 6, sender := 1, epoch := 6, number := 1, named := 1 }
     let L := (pkg ({ svc with ky.revocations := [.C] })).seen .A 0
     decide (L.acts .link 9 = true ∧ L.injecting (11 + portNo p) = false) && (
     let M := (L.rxFrame p true 16).1
     decide (m.kind = 6 ∧ (M.ky.holder ≠ some M.id ∨ m.epoch ≠ M.ky.epoch)))) = true) ∧
    ((let p : Port := .N
     let m : KeyMsg := { kind := 6, sender := 1, epoch := 5, number := 0, named := 0 }
     let L := (pkg svc).seen .A 0
     decide (L.acts .link 9 = true ∧ L.injecting (11 + portNo p) = false) && (
     let M := (L.rxFrame p true 16).1
     decide (m.kind = 6 ∧ M.ky.holder = some M.id ∧ m.epoch = M.ky.epoch ∧ M.id.at p ∉ M.ky.revocations ∧ M.ky.revocations = []))) = true) ∧
    ((let p : Port := .N
     let m : KeyMsg := { kind := 6, sender := 1, epoch := 5, number := 0, named := 0 }
     let L := (pkg ({ svc with ky.revocations := [.C] })).seen .A 0
     decide (L.acts .link 9 = true ∧ L.injecting (11 + portNo p) = false) && (
     let M := (L.rxFrame p true 16).1
     decide (m.kind = 6 ∧ M.ky.holder = some M.id ∧ m.epoch = M.ky.epoch ∧ M.id.at p ∉ M.ky.revocations ∧ M.ky.revocations ≠ []))) = true) := by decide +kernel

theorem witness_AuthorityTimers :
    ((let L := (pkg ({ svc with ky.lease := some (sec 1) })).seen .A 0
     decide (L.acts .core 8 = true ∧ L.ky.holder = some L.id) && (
     (match L.ky.lease with
     | some d =>
     decide (d ≤ L.now)
     | _ => false))) = true) ∧
    ((let L := (pkg svc).seen .A 0
     decide (L.acts .core 8 = true ∧ L.ky.holder = some L.id) && (
     (match L.ky.lease with
     | some d =>
     decide (L.now < d)
     | _ => false))) = true) ∧
    ((let L := (pkg ({ svc with ky.lease := some (sec 1) })).seen .A 0
     decide (L.acts .core 8 = true ∧ (L.ky.silence = none ∨ L.ky.holder = some L.id))) = true) ∧
    ((let L := (pkg under).seen .A 0
     decide (L.acts .core 8 = true) && (
     (match L.ky.silence with
     | some d =>
     decide (L.now < d + us 350)
     | _ => false))) = true) ∧
    ((let L := (pkg ({ run with ky.holder := some .B, ky.silence := some (sec 1 - us 350) })).seen .A 0
     let U := L.unrecognise
     decide (L.acts .core 8 = true) && (
     (match L.ky.silence with
     | some d =>
     decide (L.ky.holder ≠ some L.id ∧ d + us 350 ≤ L.now ∧ U.ky.state ≠ .service)
     | _ => false))) = true) ∧
    ((let L := (pkg ({ under with ky.silence := some (sec 1 - us 350), ky.sibP := 3 })).seen .A 0
     let U := L.unrecognise
     decide (L.acts .core 8 = true) && (
     (match L.ky.silence with
     | some d =>
     decide (L.ky.holder ≠ some L.id ∧ d + us 350 ≤ L.now ∧ U.ky.state = .service ∧ U.rankOf U.id = 1)
     | _ => false))) = true) ∧
    ((let L := (pkg ({ under with ky.silence := some (sec 1 - us 350) })).seen .A 0
     let U := L.unrecognise
     decide (L.acts .core 8 = true) && (
     (match L.ky.silence with
     | some d =>
     decide (L.ky.holder ≠ some L.id ∧ d + us 350 ≤ L.now ∧ U.ky.state = .service ∧ U.rankOf U.id = 2 ∧ L.now < d + us 420)
     | _ => false))) = true) ∧
    ((let L := (pkg
       ({ run with id := .C, ky.holder := some .A, ky.lastHolder := some .A, ky.state := .service, ky.silence := some (sec 1 - us 420), ky.sibN := 4, ky.sibP := 4 })).seen
       .A 0
     let U := L.unrecognise
     decide (L.acts .core 8 = true) && (
     (match L.ky.silence with
     | some d =>
     decide (L.ky.holder ≠ some L.id ∧ d + us 350 ≤ L.now ∧ U.ky.state = .service ∧ U.rankOf U.id = 2 ∧ d + us 420 ≤ L.now ∧ U.ky.acked = none)
     | _ => false))) = true) ∧
    ((let L := (pkg ({ svc with ky.holder := none, ky.interSince := sec 1 - us 1000 })).seen .A 0
     decide (L.acts .core 8 = true ∧ L.ky.state = .service ∧ L.ky.holder = none ∧ L.ky.interSince + us 1000 ≤ L.now)) = true) ∧
    ((let L := (pkg ({ svc with ky.lease := some (sec 1) })).seen .A 0
     decide (L.acts .core 8 = true ∧ (L.ky.state ≠ .service ∨ L.ky.holder ≠ none ∨ L.now < L.ky.interSince + us 1000))) = true) := by decide +kernel

theorem witness_CommandsAndControlledStop :
    ((let L := (pkg ({ run with stop.active := true, stop.still := some (sec 1 - ms 500), now := sec 1 })).seen .A 0
     decide (L.pairActs .core 8 = true ∧ L.ky.holder ≠ some L.id)) = true) ∧
    ((let L := (pkg svc).seen .A 0
     decide (L.pairActs .core 8 = true ∧ L.ky.holder = some L.id)) = true) ∧
    ((let L := (pkg svc).seen .A 0
     decide (L.pairActs .core 8 = true ∧ L.ky.state = .service)) = true) ∧
    ((let L := (pkg ({ run with stop.active := true, stop.still := some (sec 1 - ms 500), now := sec 1 })).seen .A 0
     decide (L.pairActs .core 8 = true ∧ L.ky.state ≠ .service)) = true) ∧
    ((let L := (pkg bench).seen .A 0
     decide (L.pairActs .core 8 = true ∧ L.ky.state = .bench)) = true) ∧
    ((let L := (pkg ({ run with stop.active := true, stop.still := some (sec 1 - ms 500), now := sec 1 })).seen .A 0
     decide (L.pairActs .core 8 = true ∧ L.ky.state ≠ .bench)) = true) ∧
    ((let L := (pkg run).seen .A 0
     decide (L.acts .core 0x20 = true ∧ L.runtime = true ∧ L.stop.active = false)) = true) ∧
    ((let L := (pkg ({ run with stop.active := true, stop.still := some (sec 1 - ms 500), now := sec 1 })).seen .A 0
     decide (L.acts .core 0x20 = true ∧ L.runtime = true ∧ L.stop.active = true ∧ L.stop.confirmed = none) && (
     (match L.stop.still with
     | some d =>
     decide (d + ms L.cfg.stillTime ≤ L.now)
     | _ => false))) = true) ∧
    ((let L := (pkg ({ run with stop.active := true, now := sec 40, stop.began := sec 10 })).seen .A 0
     decide (L.acts .core 0x20 = true ∧ L.runtime = true ∧ L.stop.active = true ∧ L.stop.confirmed = none ∧ L.stop.began + sec L.cfg.limitTime ≤
       L.now)) = true) ∧
    ((let L := (pkg ({ run with stop.active := true, stop.still := some (sec 1 - ms 500), now := sec 1 })).seen .A 0
     decide (L.acts .core 0x20 = true ∧ L.runtime = true ∧ L.stop.active = true ∧ L.stop.confirmed = none ∧ L.now < L.stop.began + sec
       L.cfg.limitTime)) = true) ∧
    ((let L := (pkg ({ run with stop.active := true, stop.confirmed := some 0, now := sec 10 })).seen .A 0
     decide (L.acts .core 0x20 = true ∧ L.runtime = true ∧ L.stop.active = true) && (
     (match L.stop.confirmed with
     | some c =>
     decide (L.stop.ramp = none ∧ c + sec L.cfg.holdTime ≤ L.now)
     | _ => false))) = true) ∧
    ((let L := (pkg ({ run with stop.active := true, stop.ramp := some (sec 1 - ms 100) })).seen .A 0
     decide (L.acts .core 0x20 = true ∧ L.runtime = true ∧ L.stop.active = true) && (
     (match L.stop.ramp with
     | some r =>
     decide (r + ms 100 ≤ L.now)
     | _ => false))) = true) ∧
    ((let L := (pkg svc).seen .A 0
     decide (L.acts .core 0x20 = true ∧ L.runtime = true) && (
     let v : Nat := 0
     decide (L.ky.holder = some L.id ∧ v ≤ 3))) = true) ∧
    ((let L := (pkg ({ run with stop.active := true, stop.still := some (sec 1 - ms 500), now := sec 1 })).seen .A 0
     decide (L.acts .core 0x20 = true ∧ L.runtime = true) && (
     let v : Nat := 0
     decide (L.ky.holder ≠ some L.id ∨ 3 < v))) = true) ∧
    ((let L := (pkg bench).seen .A 0
     decide (L.acts .core 0x20 = true ∧ L.runtime = true ∧ L.ky.state = .bench)) = true) ∧
    ((let L := (pkg ({ run with stop.active := true, stop.still := some (sec 1 - ms 500), now := sec 1 })).seen .A 0
     decide (L.acts .core 0x20 = true ∧ L.runtime = true ∧ L.ky.state ≠ .bench)) = true) ∧
    ((let L := (pkg svc).seen .A 0
     decide (L.acts .core 0x20 = true ∧ L.runtime = true ∧ L.ky.state = .service)) = true) ∧
    ((let L := (pkg ({ run with stop.active := true, stop.still := some (sec 1 - ms 500), now := sec 1 })).seen .A 0
     decide (L.acts .core 0x20 = true ∧ L.runtime = true ∧ L.ky.state ≠ .service)) = true) := by decide +kernel

theorem witness_DieToDieLinkAndFieldSupplies :
    ((let L := (pkg (((run.setFld F.SF_CTRL_PS_EN 15).setFld F.SF_CTRL_SS_EN 15).updSupply 7 (fun x =>
       { x with lim := true, limSince := sec 1 - ms 10 }))).seen .A 0
     decide (L.acts .field 16 = true ∧ L.injecting 10 = false)) = true) ∧
    ((let L := (pkg (({ run with fc.injArm := true }).setFld F.FC_INJ_CHECKER 10)).seen .A 0
     decide (L.acts .field 16 = true ∧ L.injecting 10 = true)) = true) ∧
    ((let L := (pkg (((run.setFld F.SF_CTRL_PS_EN 15).setFld F.SF_CTRL_SS_EN 15).updSupply 7 (fun x =>
       { x with lim := true, limSince := sec 1 - ms 10 }))).seen .A 0
     decide (L.acts .field 16 = true ∧ L.sf.d2dLost = false ∧ (2 ≤ L.sf.d2dRun ∨ L.sf.d2dLast + us 4 ≤ L.now))) = true) ∧
    ((let L := (pkg ({ run with sf.d2dLost := true })).seen .A 0
     decide (L.acts .field 16 = true ∧ (L.sf.d2dLost = true ∨ (L.sf.d2dRun < 2 ∧ L.now < L.sf.d2dLast + us 4)) ∧ L.sf.fieldLost = false ∧ (2 ≤
       L.sf.fieldRun ∨ L.sf.fieldLast + us 4 ≤ L.now))) = true) ∧
    ((let L := (pkg ({ run with sf.fieldLost := true, sf.d2dLast := sec 1 })).seen .A 0
     decide (L.acts .field 16 = true ∧ (L.sf.d2dLost = true ∨ (L.sf.d2dRun < 2 ∧ L.now < L.sf.d2dLast + us 4)) ∧ (L.sf.fieldLost = true ∨
       (L.sf.fieldRun < 2 ∧ L.now < L.sf.fieldLast + us 4)))) = true) ∧
    ((let x : Fin 8 := 7
     let L := (pkg (((run.setFld F.SF_CTRL_PS_EN 15).setFld F.SF_CTRL_SS_EN 15).updSupply 7 (fun x =>
       { x with lim := true, limSince := sec 1 - ms 10 }))).seen .A 0
     decide (L.acts .field 16 = true ∧ L.supplyOn x = true ∧ (L.supply x).lim = true ∧ (L.supply x).limSince + ms 10 ≤ L.now)) = true) ∧
    ((let x : Fin 8 := 0
     let L := (pkg (((run.setFld F.SF_CTRL_PS_EN 15).setFld F.SF_CTRL_SS_EN 15).updSupply 7 (fun x =>
       { x with lim := true, limSince := sec 1 - ms 10 }))).seen .A 0
     decide (L.acts .field 16 = true ∧ (L.supplyOn x = false ∨ (L.supply x).lim = false ∨ L.now < (L.supply x).limSince + ms 10))) = true) ∧
    ((let x : Fin 8 := 7
     let L := (pkg (((run.setFld F.SF_CTRL_PS_EN 15).setFld F.SF_CTRL_SS_EN 15).updSupply 7 (fun x =>
       { x with off := true, retryAt := some (sec 1 + 1) }))).seen .A 0
     decide (L.acts .field 16 = true) && (
     (match (L.supply x).retryAt with
     | some d =>
     decide (L.now < d)
     | _ => false))) = true) ∧
    ((let x : Fin 8 := 7
     let L := (pkg (((run.setFld F.SF_CTRL_PS_EN 15).setFld F.SF_CTRL_SS_EN 15).updSupply 7 (fun x =>
       { x with off := true, retryAt := some (sec 1) }))).seen .A 0
     decide (L.acts .field 16 = true) && (
     (match (L.supply x).retryAt with
     | some d =>
     decide (L.supplyEn x = true ∧ (L.supply x).off = true ∧ d ≤ L.now)
     | _ => false))) = true) ∧
    ((let x : Fin 8 := 7
     let L := (pkg (((run.setFld F.SF_CTRL_PS_EN 15).setFld F.SF_CTRL_SS_EN 15).updSupply 7 (fun x =>
       { x with lim := true, limSince := sec 1 - ms 10 }))).seen .A 0
     decide (L.acts .field 16 = true ∧ ((L.supply x).retryAt = none ∨ L.supplyEn x = false ∨ (L.supply x).off = false))) = true) ∧
    ((let x : Fin 8 := 0
     let L := (pkg (((run.setFld F.SF_CTRL_PS_EN 15).setFld F.SF_CTRL_SS_EN 15).updSupply 7 (fun x =>
       { x with lim := true, limSince := sec 1 - ms 10 }))).seen .A 0
     decide (L.acts .field 16 = true ∧ L.pairActs .field 16 = true ∧ x.val < 4)) = true) ∧
    ((let x : Fin 8 := 7
     let L := (pkg (((run.setFld F.SF_CTRL_PS_EN 15).setFld F.SF_CTRL_SS_EN 15).updSupply 7 (fun x =>
       { x with lim := true, limSince := sec 1 - ms 10 }))).seen .A 0
     decide (L.acts .field 16 = true ∧ L.pairActs .field 16 = true ∧ 4 ≤ x.val)) = true) ∧
    ((let x : Fin 8 := 0
     let L := (pkg (((run.setFld F.SF_CTRL_PS_EN 15).setFld F.SF_CTRL_SS_EN 15).updSupply 7 (fun x =>
       { x with lim := true, limSince := sec 1 - ms 10 }))).seen .A 0
     decide (L.acts .field 16 = true ∧ L.supplyOn x = true ∧ (L.supply x).lim = false)) = true) ∧
    ((let x : Fin 8 := 7
     let L := (pkg (((run.setFld F.SF_CTRL_PS_EN 15).setFld F.SF_CTRL_SS_EN 15).updSupply 7 (fun x =>
       { x with off := true, retryAt := some (sec 1) }))).seen .A 0
     decide (L.acts .field 16 = true ∧ L.supplyOn x = false)) = true) := by decide +kernel

theorem witness_SafetyInputs :
    ((let L := (pkg ({ run with sf.d2dLost := true })).seen .A 0
     decide (L.acts .field 16 = true ∧ (L.padsHeld .field = true ∨ L.sf.d2dLost = true ∨ L.sf.fieldLost = true))) = true) ∧
    ((let L := (pkg (((run.setFld F.SF_CTRL_PS_EN 15).setFld F.SF_CTRL_SS_EN 15))).seen .A 0
     decide (L.acts .field 16 = true ∧ L.padsHeld .field = false ∧ L.sf.d2dLost = false ∧ L.sf.fieldLost = false)) = true) ∧
    ((let L := (pkg ({ run with sf.d2dLost := true })).seen .A 0
     decide (L.acts .field 16 = true) && (
     let j : Fin 4 := 3
     decide (L.pulseDue j = false))) = true) ∧
    ((let L := (pkg ({ run with sf.d2dLost := true })).seen .A 0
     decide (L.acts .field 16 = true) && (
     let j : Fin 4 := 0
     decide (L.pulseDue j = true))) = true) ∧
    ((let L := (pkg ({ run with sf.d2dLost := true })).seen .A 0
     decide (L.acts .field 16 = true) && (
     let j : Fin 4 := 3
     decide (L.padsHeld .field = true ∨ L.testDue j = false))) = true) ∧
    ((let L := (pkg ({ run with sf.pulseAt := List.replicate 4 (some (sec 1 - us 180)) })).seen .A 0
     decide (L.acts .field 16 = true) && (
     let j : Fin 4 := 3
     decide (L.padsHeld .field = false ∧ L.testDue j = true) && (
     let M : Lane := { L with sf := { L.sf with tested := putBit L.sf.tested j true } }
     decide (M.supplyOn ⟨j.val, by omega⟩ = false)))) = true) ∧
    ((let L := (pkg
       ({ ((run.setFld F.SF_CTRL_PS_EN 15).setFld F.SF_CTRL_SS_EN 15) with sf.pulseAt := List.replicate 4 (some (sec 1 - us 180)) })).seen .A 0
     decide (L.acts .field 16 = true) && (
     let j : Fin 4 := 3
     decide (L.padsHeld .field = false ∧ L.testDue j = true) && (
     let M : Lane := { L with sf := { L.sf with tested := putBit L.sf.tested j true } }
     decide (M.supplyOn ⟨j.val, by omega⟩ = true)))) = true) ∧
    ((let L := (pkg ({ run with sf.cycleNo := 50 })).seen .A 0
     decide (L.acts .field 16 = true ∧ L.devTime / 20000000 = L.sf.cycleNo)) = true) ∧
    ((let L := (pkg ({ run with sf.d2dLost := true })).seen .A 0
     decide (L.acts .field 16 = true ∧ L.devTime / 20000000 ≠ L.sf.cycleNo)) = true) := by decide +kernel

theorem witness_NetworkSlotsAndCycles :
    ((let k : Fin 64 := 63
     let L := (pkg
       ({ (((((run.setFld F.LN_CFG_NODE 1).setFld F.LN_CYC_CYCLE_LEN 250 0 0).setFld F.LN_CYC_NSLOT 2 0 0).setFld F.LN_SLEN0_LEN 100 0 0).setFld F.LN_SLEN0_LEN 100 0 1) with ln.state := .sync, ln.on := 3 })).seen
       .A 0
     let S := L.txSettle
     let m := if k.val = 0 then S.ln.switchTo.getD S.ln.mode else S.ln.mode
     let start := S.ln.cycStart + 1000 * (if k.val = 0 then S.cycLen S.ln.mode else S.slotStart m k)
     decide (L.acts .link 18 = true ∧ (S.ln.state ≠ .sync ∨ S.linkSleeps = true ∨ bit S.ln.done k = true ∨ S.nslot m ≤ k.val ∨ S.devTime + 5000 <
       start))) = true) ∧
    ((let k : Fin 64 := 1
     let L := (pkg
       ({ (((((run.setFld F.LN_CFG_NODE 1).setFld F.LN_CYC_CYCLE_LEN 250 0 0).setFld F.LN_CYC_NSLOT 2 0 0).setFld F.LN_SLEN0_LEN 100 0 0).setFld F.LN_SLEN0_LEN 100 0 1) with ln.state := .sync, ln.on := 3 })).seen
       .A 0
     let S := L.txSettle
     let m := if k.val = 0 then S.ln.switchTo.getD S.ln.mode else S.ln.mode
     let start := S.ln.cycStart + 1000 * (if k.val = 0 then S.cycLen S.ln.mode else S.slotStart m k)
     decide (L.acts .link 18 = true ∧ S.ln.state = .sync ∧ S.linkSleeps = false ∧ bit S.ln.done k = false ∧ k.val < S.nslot m ∧ start ≤ S.devTime
       + 5000) && (
     let M := S.updLn (fun x => { x with done := putBit x.done k true })
     decide (M.txKind m k = none))) = true) ∧
    ((let k : Fin 64 := 1
     let L := (pkg
       ({ (((((((run.setFld F.LN_CFG_NODE 1).setFld F.LN_CYC_CYCLE_LEN 250 0 0).setFld F.LN_CYC_NSLOT 2 0 0).setFld F.LN_SLEN0_LEN 100 0 0).setFld F.LN_SLEN0_LEN 100 0 1).setFld F.LN_SLOT0_ACTION 2 0 1).setFld F.LN_SLOT0_KIND 3 0 1).setFld F.LN_SLOT0_LEN 40 0 1 with ln.state := .sync, ln.on := 3, oc.netTx := [⟨headOf svcRead 1 7 0 0, 0, []⟩] })).seen
       .A 0
     let S := L.txSettle
     let m := if k.val = 0 then S.ln.switchTo.getD S.ln.mode else S.ln.mode
     let start := S.ln.cycStart + 1000 * (if k.val = 0 then S.cycLen S.ln.mode else S.slotStart m k)
     decide (L.acts .link 18 = true ∧ S.ln.state = .sync ∧ S.linkSleeps = false ∧ bit S.ln.done k = false ∧ k.val < S.nslot m ∧ start ≤ S.devTime
       + 5000) && (
     let M := S.updLn (fun x => { x with done := putBit x.done k true })
     (match M.txKind m k with
     | some kd =>
     decide (kd = 3 ∧ M.responseFits m k = true) && (
     (match M.oc.netTx with
     | _r :: _q =>
     true
     | _ => false))
     | _ => false))) = true) ∧
    ((let k : Fin 64 := 1
     let L := (pkg
       ({ (((((((run.setFld F.LN_CFG_NODE 1).setFld F.LN_CYC_CYCLE_LEN 250 0 0).setFld F.LN_CYC_NSLOT 2 0 0).setFld F.LN_SLEN0_LEN 100 0 0).setFld F.LN_SLEN0_LEN 100 0 1).setFld F.LN_SLOT0_ACTION 2 0 1).setFld F.LN_SLOT0_KIND 1 0 1) with ln.state := .sync, ln.on := 3, ln.commit := 2 })).seen
       .A 0
     let S := L.txSettle
     let m := if k.val = 0 then S.ln.switchTo.getD S.ln.mode else S.ln.mode
     let start := S.ln.cycStart + 1000 * (if k.val = 0 then S.cycLen S.ln.mode else S.slotStart m k)
     decide (L.acts .link 18 = true ∧ S.ln.state = .sync ∧ S.linkSleeps = false ∧ bit S.ln.done k = false ∧ k.val < S.nslot m ∧ start ≤ S.devTime
       + 5000) && (
     let M := S.updLn (fun x => { x with done := putBit x.done k true })
     (match M.txKind m k with
     | some kd =>
     decide ((kd ≠ 3 ∨ M.responseFits m k = false ∨ M.oc.netTx = []) ∧ M.commitDue k = true)
     | _ => false))) = true) ∧
    ((let k : Fin 64 := 1
     let L := (pkg
       ({ (((((((run.setFld F.LN_CFG_NODE 1).setFld F.LN_CYC_CYCLE_LEN 250 0 0).setFld F.LN_CYC_NSLOT 2 0 0).setFld F.LN_SLEN0_LEN 100 0 0).setFld F.LN_SLEN0_LEN 100 0 1).setFld F.LN_SLOT0_ACTION 2 0 1).setFld F.LN_SLOT0_KIND 2 0 1) with ln.state := .sync, ln.on := 3 })).seen
       .A 0
     let S := L.txSettle
     let m := if k.val = 0 then S.ln.switchTo.getD S.ln.mode else S.ln.mode
     let start := S.ln.cycStart + 1000 * (if k.val = 0 then S.cycLen S.ln.mode else S.slotStart m k)
     decide (L.acts .link 18 = true ∧ S.ln.state = .sync ∧ S.linkSleeps = false ∧ bit S.ln.done k = false ∧ k.val < S.nslot m ∧ start ≤ S.devTime
       + 5000) && (
     let M := S.updLn (fun x => { x with done := putBit x.done k true })
     (match M.txKind m k with
     | some kd =>
     decide ((kd ≠ 3 ∨ M.responseFits m k = false ∨ M.oc.netTx = []) ∧ M.commitDue k = false ∧ (kd = 2 ∨ kd = 3))
     | _ => false))) = true) ∧
    ((let k : Fin 64 := 1
     let L := (pkg
       ({ (((((((run.setFld F.LN_CFG_NODE 1).setFld F.LN_CYC_CYCLE_LEN 250 0 0).setFld F.LN_CYC_NSLOT 2 0 0).setFld F.LN_SLEN0_LEN 100 0 0).setFld F.LN_SLEN0_LEN 100 0 1).setFld F.LN_SLOT0_ACTION 2 0 1).setFld F.LN_SLOT0_KIND 4 0 1) with ln.state := .sync, ln.on := 3 })).seen
       .A 0
     let S := L.txSettle
     let m := if k.val = 0 then S.ln.switchTo.getD S.ln.mode else S.ln.mode
     let start := S.ln.cycStart + 1000 * (if k.val = 0 then S.cycLen S.ln.mode else S.slotStart m k)
     decide (L.acts .link 18 = true ∧ S.ln.state = .sync ∧ S.linkSleeps = false ∧ bit S.ln.done k = false ∧ k.val < S.nslot m ∧ start ≤ S.devTime
       + 5000) && (
     let M := S.updLn (fun x => { x with done := putBit x.done k true })
     (match M.txKind m k with
     | some kd =>
     decide ((kd ≠ 3 ∨ M.responseFits m k = false ∨ M.oc.netTx = []) ∧ M.commitDue k = false ∧ 4 ≤ kd)
     | _ => false))) = true) ∧
    ((let k : Fin 64 := 1
     let L := (pkg
       ({ (((((((run.setFld F.LN_CFG_NODE 1).setFld F.LN_CYC_CYCLE_LEN 250 0 0).setFld F.LN_CYC_NSLOT 2 0 0).setFld F.LN_SLEN0_LEN 100 0 0).setFld F.LN_SLEN0_LEN 100 0 1).setFld F.LN_SLOT0_ACTION 2 0 1).setFld F.LN_SLOT0_KIND 1 0 1) with ln.state := .sync, ln.on := 3 })).seen
       .A 0
     let S := L.txSettle
     let m := if k.val = 0 then S.ln.switchTo.getD S.ln.mode else S.ln.mode
     let start := S.ln.cycStart + 1000 * (if k.val = 0 then S.cycLen S.ln.mode else S.slotStart m k)
     decide (L.acts .link 18 = true ∧ S.ln.state = .sync ∧ S.linkSleeps = false ∧ bit S.ln.done k = false ∧ k.val < S.nslot m ∧ start ≤ S.devTime
       + 5000) && (
     let M := S.updLn (fun x => { x with done := putBit x.done k true })
     (match M.txKind m k with
     | some kd =>
     decide ((kd ≠ 3 ∨ M.responseFits m k = false ∨ M.oc.netTx = []) ∧ M.commitDue k = false ∧ kd < 2)
     | _ => false))) = true) ∧
    ((let k : Fin 64 := 1
     let L := (pkg
       ({ (((((run.setFld F.LN_CFG_NODE 1).setFld F.LN_CYC_CYCLE_LEN 250 0 0).setFld F.LN_CYC_NSLOT 2 0 0).setFld F.LN_SLEN0_LEN 100 0 0).setFld F.LN_SLEN0_LEN 100 0 1) with ln.state := .sync, ln.on := 3, ln.cycStart := 10^12 })).seen
       .A 0
     let S := L.txSettle
     decide (L.acts .link 18 = true ∧ (S.devTime < S.actionNs k ∨ bit S.ln.acted k = true))) = true) ∧
    ((let L := (pkg
       ({ (((((run.setFld F.LN_CFG_NODE 1).setFld F.LN_CYC_CYCLE_LEN 250 0 0).setFld F.LN_CYC_NSLOT 2 0 0).setFld F.LN_SLEN0_LEN 100 0 0).setFld F.LN_SLEN0_LEN 100 0 1) with ln.state := .integrate })).seen
       .A 0
     let S := L.txSettle
     decide (L.acts .link 18 = true ∧ S.ln.state ≠ .sync ∧ S.ln.state ≠ .coldStart)) = true) ∧
    ((let k : Fin 64 := 1
     let L := (pkg
       ({ (((((run.setFld F.LN_CFG_NODE 1).setFld F.LN_CYC_CYCLE_LEN 250 0 0).setFld F.LN_CYC_NSLOT 2 0 0).setFld F.LN_SLEN0_LEN 100 0 0).setFld F.LN_SLEN0_LEN 100 0 1) with ln.state := .coldStart })).seen
       .A 0
     let S := L.txSettle
     decide (L.acts .link 18 = true ∧ S.ln.state = .coldStart ∧ S.actionNs k ≤ S.devTime ∧ bit S.ln.acted k = false ∧ (k.val ≠ 0 ∨ S.ln.cyc %
       S.coldK ≠ 0 ∨ 4 ≤ S.ln.csSent ∨ S.ln.csSent * S.coldK ≠ S.ln.cyc))) = true) ∧
    ((let k : Fin 64 := 0
     let L := (pkg
       ({ (((((run.setFld F.LN_CFG_NODE 1).setFld F.LN_CYC_CYCLE_LEN 250 0 0).setFld F.LN_CYC_NSLOT 2 0 0).setFld F.LN_SLEN0_LEN 100 0 0).setFld F.LN_SLEN0_LEN 100 0 1) with ln.state := .coldStart })).seen
       .A 0
     let S := L.txSettle
     decide (L.acts .link 18 = true ∧ S.ln.state = .coldStart ∧ S.actionNs k ≤ S.devTime ∧ bit S.ln.acted k = false ∧ k.val = 0 ∧ S.ln.cyc %
       S.coldK = 0 ∧ S.ln.csSent < 4 ∧ S.ln.csSent * S.coldK = S.ln.cyc)) = true) ∧
    ((let k : Fin 64 := 1
     let L := (pkg
       ({ (((((run.setFld F.LN_CFG_NODE 1).setFld F.LN_CYC_CYCLE_LEN 250 0 0).setFld F.LN_CYC_NSLOT 2 0 0).setFld F.LN_SLEN0_LEN 100 0 0).setFld F.LN_SLEN0_LEN 100 0 1) with ln.state := .sync, ln.on := 3 })).seen
       .A 0
     let S := L.txSettle
     decide (L.acts .link 18 = true ∧ S.ln.state = .sync ∧ S.actionNs k ≤ S.devTime ∧ bit S.ln.acted k = false ∧ k.val < S.nslot S.ln.mode)) = true) ∧
    ((let L := (pkg
       ({ (((((run.setFld F.LN_CFG_NODE 1).setFld F.LN_CYC_CYCLE_LEN 250 0 0).setFld F.LN_CYC_NSLOT 2 0 0).setFld F.LN_SLEN0_LEN 100 0 0).setFld F.LN_SLEN0_LEN 100 0 1) with ln.state := .sync, ln.on := 3, ln.cycStart := 10^12 })).seen
       .A 0
     let S := L.txSettle
     decide (L.acts .link 18 = true ∧ (S.ln.state = .off ∨ S.ln.state = .listen ∨ S.devTime < S.ln.cycStart + 1000 * S.cycLen S.ln.mode))) = true) ∧
    ((let L := (pkg
       ({ (((((run.setFld F.LN_CFG_NODE 1).setFld F.LN_CYC_CYCLE_LEN 250 0 0).setFld F.LN_CYC_NSLOT 2 0 0).setFld F.LN_SLEN0_LEN 100 0 0).setFld F.LN_SLEN0_LEN 100 0 1) with ln.state := .sync, ln.on := 3 })).seen
       .A 0
     let S := L.txSettle
     decide (L.acts .link 18 = true ∧ S.ln.state ≠ .off ∧ S.ln.state ≠ .listen ∧ S.ln.cycStart + 1000 * S.cycLen S.ln.mode ≤ S.devTime) && (
     let sync := S.ln.state == .sync
     let A := S.when sync (fun L => (L.missCount).tally 18 10)
     let B := A.keepTime.when sync Lane.clockCorrect
     let C := B.updLn (fun x =>
       { x with p0 := (if sync then x.p0.endCycle else x.p0).grow, p1 := (if sync then x.p1.endCycle else x.p1).grow, cyc := (x.cyc + 1) % 2 ^ 48, cycStart := x.cycStart + 1000 * S.cycLen S.ln.mode, nit := false, present := [], modes := [], rankCheck := x.rankCheck && x.samples == [], srcSeen := x.srcSeen + 1, holdCyc := if x.holdover then x.holdCyc + 1 else 0, done := x.done % 2, acted := 0, integ := x.integ.map (fun y => { y with missed := y.missed + 1 }) })
     let D := C.ln.switchTo.elim C (fun m => (C.updLn (fun x => { x with mode := m, switchTo := none })).raise F.LN_TEVENT_MODE_SWITCH)
     let E := D.updLn (fun x => { x with on := x.on &&& D.fld F.LN_CFG_ENABLE })
     decide (E.ln.on = 0))) = true) ∧
    ((let L := (pkg
       ({ ((((((run.setFld F.LN_CFG_NODE 1).setFld F.LN_CYC_CYCLE_LEN 250 0 0).setFld F.LN_CYC_NSLOT 2 0 0).setFld F.LN_SLEN0_LEN 100 0 0).setFld F.LN_SLEN0_LEN 100 0 1).setFld F.LN_CFG_ENABLE 3) with ln.on := 3, ln.state := .sync, ln.rankCheck := true, ln.samples := [30000] })).seen
       .A 0
     let S := L.txSettle
     decide (L.acts .link 18 = true ∧ S.ln.state ≠ .off ∧ S.ln.state ≠ .listen ∧ S.ln.cycStart + 1000 * S.cycLen S.ln.mode ≤ S.devTime) && (
     let sync := S.ln.state == .sync
     let A := S.when sync (fun L => (L.missCount).tally 18 10)
     let far := A.ln.rankCheck && A.ln.samples != [] && (decide (20000 < meanI A.ln.samples) || decide (meanI A.ln.samples < -20000))
     let B := A.keepTime.when sync Lane.clockCorrect
     let C := B.updLn (fun x =>
       { x with p0 := (if sync then x.p0.endCycle else x.p0).grow, p1 := (if sync then x.p1.endCycle else x.p1).grow, cyc := (x.cyc + 1) % 2 ^ 48, cycStart := x.cycStart + 1000 * S.cycLen S.ln.mode, nit := false, present := [], modes := [], rankCheck := x.rankCheck && x.samples == [], srcSeen := x.srcSeen + 1, holdCyc := if x.holdover then x.holdCyc + 1 else 0, done := x.done % 2, acted := 0, integ := x.integ.map (fun y => { y with missed := y.missed + 1 }) })
     let D := C.ln.switchTo.elim C (fun m => (C.updLn (fun x => { x with mode := m, switchTo := none })).raise F.LN_TEVENT_MODE_SWITCH)
     let E := D.updLn (fun x => { x with on := x.on &&& D.fld F.LN_CFG_ENABLE })
     decide (E.ln.on ≠ 0 ∧ sync = true ∧ far = true))) = true) ∧
    ((let L := (pkg
       ({ ((((((run.setFld F.LN_CFG_NODE 1).setFld F.LN_CYC_CYCLE_LEN 250 0 0).setFld F.LN_CYC_NSLOT 2 0 0).setFld F.LN_SLEN0_LEN 100 0 0).setFld F.LN_SLEN0_LEN 100 0 1).setFld F.LN_CFG_ENABLE 3) with ln.on := 3, ln.state := .integrate })).seen
       .A 0
     let S := L.txSettle
     decide (L.acts .link 18 = true ∧ S.ln.state ≠ .off ∧ S.ln.state ≠ .listen ∧ S.ln.cycStart + 1000 * S.cycLen S.ln.mode ≤ S.devTime) && (
     let sync := S.ln.state == .sync
     let A := S.when sync (fun L => (L.missCount).tally 18 10)
     let far := A.ln.rankCheck && A.ln.samples != [] && (decide (20000 < meanI A.ln.samples) || decide (meanI A.ln.samples < -20000))
     let B := A.keepTime.when sync Lane.clockCorrect
     let C := B.updLn (fun x =>
       { x with p0 := (if sync then x.p0.endCycle else x.p0).grow, p1 := (if sync then x.p1.endCycle else x.p1).grow, cyc := (x.cyc + 1) % 2 ^ 48, cycStart := x.cycStart + 1000 * S.cycLen S.ln.mode, nit := false, present := [], modes := [], rankCheck := x.rankCheck && x.samples == [], srcSeen := x.srcSeen + 1, holdCyc := if x.holdover then x.holdCyc + 1 else 0, done := x.done % 2, acted := 0, integ := x.integ.map (fun y => { y with missed := y.missed + 1 }) })
     let D := C.ln.switchTo.elim C (fun m => (C.updLn (fun x => { x with mode := m, switchTo := none })).raise F.LN_TEVENT_MODE_SWITCH)
     let E := D.updLn (fun x => { x with on := x.on &&& D.fld F.LN_CFG_ENABLE })
     decide (E.ln.on ≠ 0 ∧ (sync = false ∨ far = false)))) = true) ∧
    ((let L := (pkg
       ({ (((((run.setFld F.LN_CFG_NODE 1).setFld F.LN_CYC_CYCLE_LEN 250 0 0).setFld F.LN_CYC_NSLOT 2 0 0).setFld F.LN_SLEN0_LEN 100 0 0).setFld F.LN_SLEN0_LEN 100 0 1) with ln.state := .sync, ln.on := 3 })).seen
       .A 0
     decide (L.acts .link 18 = true ∧ L.inActs .link 18 = true)) = true) ∧
    ((let L := (pkg up).seen .A 0
     let S := L.txSettle
     decide (L.acts .link 18 = true ∧ (S.ln.state = .off ∨ S.ln.state = .listen ∨ S.ln.nit = true))) = true) ∧
    ((let L := (pkg
       ({ (((((run.setFld F.LN_CFG_NODE 1).setFld F.LN_CYC_CYCLE_LEN 250 0 0).setFld F.LN_CYC_NSLOT 2 0 0).setFld F.LN_SLEN0_LEN 100 0 0).setFld F.LN_SLEN0_LEN 100 0 1) with ln.state := .integrate })).seen
       .A 0
     let S := L.txSettle
     decide (L.acts .link 18 = true ∧ S.ln.state ≠ .off ∧ S.ln.state ≠ .listen ∧ S.ln.nit = false ∧ S.ln.cycStart + 1000 * S.slotStart S.ln.mode
       (min 64 (S.nslot S.ln.mode)) ≤ S.devTime) && (
     let M := ((S.updLn (fun x => { x with nit := true, done := 0 })).guardCompare 0).guardCompare 1
     decide (M.ln.state ≠ .sync))) = true) ∧
    ((let L := (pkg
       ({ (((((run.setFld F.LN_CFG_NODE 1).setFld F.LN_CYC_CYCLE_LEN 250 0 0).setFld F.LN_CYC_NSLOT 2 0 0).setFld F.LN_SLEN0_LEN 100 0 0).setFld F.LN_SLEN0_LEN 100 0 1) with ln.state := .sync, ln.on := 3 })).seen
       .A 0
     let S := L.txSettle
     decide (L.acts .link 18 = true ∧ S.ln.state ≠ .off ∧ S.ln.state ≠ .listen ∧ S.ln.nit = false ∧ S.ln.cycStart + 1000 * S.slotStart S.ln.mode
       (min 64 (S.nslot S.ln.mode)) ≤ S.devTime) && (
     let M := ((S.updLn (fun x => { x with nit := true, done := 0 })).guardCompare 0).guardCompare 1
     decide (M.ln.state = .sync))) = true) := by decide +kernel

theorem witness_NetworkPortsAndGuardians :
    ((let p : Fin 2 := 1
     let L := (pkg ({ run with ln.state := .sync, ln.on := 3, ln.p1.lost := false, ln.p1.noneRun := 255, ln.p1.someRun := 255 })).seen .A 0
     let out := if L.ln.state = .sync then 0 else (L.now - L.ln.outAt) / us (max 1 (L.cycLen L.ln.mode))
     decide (L.acts .link 18 = true ∧ (L.lnPort p).lost = false ∧ L.portTo_ ≤ (L.lnPort p).noneRun + out)) = true) ∧
    ((let p : Fin 2 := 0
     let L := (pkg ({ run with ln.state := .sync, ln.on := 3, ln.p1.lost := false, ln.p1.noneRun := 255, ln.p1.someRun := 255 })).seen .A 0
     let out := if L.ln.state = .sync then 0 else (L.now - L.ln.outAt) / us (max 1 (L.cycLen L.ln.mode))
     decide (L.acts .link 18 = true ∧ ((L.lnPort p).lost = true ∨ (L.lnPort p).noneRun + out < L.portTo_))) = true) ∧
    ((let p : Fin 2 := 1
     let L := (pkg ({ run with ln.state := .sync, ln.on := 3, ln.p1.lost := true, ln.p1.someRun := 255 })).seen .A 0
     decide (L.acts .link 18 = true ∧ (L.lnPort p).lost = true ∧ L.fld1 F.LN_PORTTO_PORT_BACK ≤ (L.lnPort p).someRun)) = true) ∧
    ((let p : Fin 2 := 0
     let L := (pkg ({ run with ln.state := .sync, ln.on := 3, ln.p1.lost := false, ln.p1.noneRun := 255, ln.p1.someRun := 255 })).seen .A 0
     decide (L.acts .link 18 = true ∧ (L.lnPort p).lost = true ∧ (L.lnPort p).someRun < L.fld1 F.LN_PORTTO_PORT_BACK)) = true) ∧
    ((let p : Fin 2 := 1
     let L := (pkg
       ({ run with ln.p1.tx := some { frame := some { bytes := [], endOk := true, stamp := 0 }, ends := sec 2, shuts := sec 2, irq := false } })).seen
       .A 0
     let S := L.txSettle
     decide (L.acts .link 18 = true ∧ L.inActs .link 18 = true ∧ (S.lnPort p).tx.isSome = true)) = true) ∧
    ((let p : Fin 2 := 1
     let L := (pkg ({ run with ln.state := .sync, ln.on := 3, ln.p1.lost := false, ln.p1.noneRun := 255, ln.p1.someRun := 255 })).seen .A 0
     let S := L.txSettle
     decide (L.acts .link 18 = true ∧ L.inActs .link 18 = true ∧ (S.lnPort p).tx = none)) = true) ∧
    ((let p : Fin 2 := 1
     let L := (pkg ((((((((run.setFld F.LN_CFG_NODE 1).setFld F.LN_CYC_CYCLE_LEN 250 0 0).setFld F.LN_CYC_NSLOT 2 0 0).setFld F.LN_SLEN0_LEN 100 0
       0).setFld F.LN_SLEN0_LEN 100 0 1).setFld F.LN_CFG_ETHERTYPE 0x88B5).setFld F.LN_CFG_ENABLE 3))).seen .A 0
     let S := L.txSettle
     decide (L.acts .link 18 = true ∧ S.portOn p = false)) = true) ∧
    ((let p : Fin 2 := 1
     let L := (pkg ({ run with ln.state := .sync, ln.on := 3, ln.p1.lost := false, ln.p1.noneRun := 255, ln.p1.someRun := 255 })).seen .A 0
     let S := L.txSettle
     decide (L.acts .link 18 = true) && (
     let d : Nat := 0
     decide (S.portOn p = true ∧ S.guardAllows p d = true))) = true) ∧
    ((let p : Fin 2 := 1
     let L := (pkg ({ run with ln.state := .sync, ln.on := 3, ln.p1.lost := false, ln.p1.noneRun := 255, ln.p1.someRun := 255 })).seen .A 0
     let S := L.txSettle
     decide (L.acts .link 18 = true) && (
     let d : Nat := 5000
     decide (S.portOn p = true ∧ S.guardAllows p d = false))) = true) ∧
    ((let L := (pkg ({ run with ln.state := .sync, ln.on := 3, ln.p1.lost := false, ln.p1.noneRun := 255, ln.p1.someRun := 255 })).seen .A 0
     decide (L.acts .link 18 = true ∧ L.pairActs .link 18 = true ∧ L.lnParam = true)) = true) ∧
    ((let p : Fin 2 := 1
     let L := (pkg
       ({ (((((((run.setFld F.LN_CFG_NODE 1).setFld F.LN_CYC_CYCLE_LEN 250 0 0).setFld F.LN_CYC_NSLOT 2 0 0).setFld F.LN_SLEN0_LEN 100 0 0).setFld F.LN_SLEN0_LEN 100 0 1).setFld F.LN_CFG_ETHERTYPE 0x88B5).setFld F.LN_CFG_ENABLE 3) with ln.on := 3 })).seen
       .A 0
     decide (L.acts .link 18 = true ∧ L.pairActs .link 18 = true ∧ L.lnParam = false) && (
     let A := L.setFld F.LN_CFG_ENABLE (putBit (L.fld F.LN_CFG_ENABLE) p true)
     decide (A.portOn p = true))) = true) ∧
    ((let p : Fin 2 := 1
     let L := (pkg ((((((((run.setFld F.LN_CFG_NODE 1).setFld F.LN_CYC_CYCLE_LEN 250 0 0).setFld F.LN_CYC_NSLOT 2 0 0).setFld F.LN_SLEN0_LEN 100 0
       0).setFld F.LN_SLEN0_LEN 100 0 1).setFld F.LN_CFG_ETHERTYPE 0x88B5).setFld F.LN_CFG_ENABLE 3))).seen .A 0
     decide (L.acts .link 18 = true ∧ L.pairActs .link 18 = true ∧ L.lnParam = false) && (
     let A := L.setFld F.LN_CFG_ENABLE (putBit (L.fld F.LN_CFG_ENABLE) p true)
     let B := ((A.updLn (fun x => { x with on := putBit x.on p true })).updPort p (fun x =>
       { LnPortS.reset with latched := x.latched, viols := x.viols, copy := x.copy })).clearValid p
     decide (A.portOn p = false ∧ B.ln.state = .off))) = true) ∧
    ((let p : Fin 2 := 1
     let L := (pkg
       ({ (((((((run.setFld F.LN_CFG_NODE 1).setFld F.LN_CYC_CYCLE_LEN 250 0 0).setFld F.LN_CYC_NSLOT 2 0 0).setFld F.LN_SLEN0_LEN 100 0 0).setFld F.LN_SLEN0_LEN 100 0 1).setFld F.LN_CFG_ETHERTYPE 0x88B5).setFld F.LN_CFG_ENABLE 3) with ln.state := .sync })).seen
       .A 0
     decide (L.acts .link 18 = true ∧ L.pairActs .link 18 = true ∧ L.lnParam = false) && (
     let A := L.setFld F.LN_CFG_ENABLE (putBit (L.fld F.LN_CFG_ENABLE) p true)
     let B := ((A.updLn (fun x => { x with on := putBit x.on p true })).updPort p (fun x =>
       { LnPortS.reset with latched := x.latched, viols := x.viols, copy := x.copy })).clearValid p
     decide (A.portOn p = false ∧ B.ln.state ≠ .off))) = true) ∧
    ((let L := (pkg ({ run with ln.state := .sync, ln.on := 3, ln.p1.lost := false, ln.p1.noneRun := 255, ln.p1.someRun := 255 })).seen .A 0
     let S := L.txSettle
     decide (L.acts .link 18 = true ∧ L.pairActs .link 18 = true ∧ S.ky.state ≠ .bench)) = true) ∧
    ((let L := (pkg bench).seen .A 0
     let S := L.txSettle
     decide (L.acts .link 18 = true ∧ L.pairActs .link 18 = true ∧ S.ky.state = .bench)) = true) ∧
    ((let p : Fin 2 := 1
     let L := (pkg ((((((((run.setFld F.LN_CFG_NODE 1).setFld F.LN_CYC_CYCLE_LEN 250 0 0).setFld F.LN_CYC_NSLOT 2 0 0).setFld F.LN_SLEN0_LEN 100 0
       0).setFld F.LN_SLEN0_LEN 100 0 1).setFld F.LN_CFG_ETHERTYPE 0x88B5).setFld F.LN_CFG_ENABLE 3))).seen .A 0
     let S := L.txSettle
     decide (L.acts .link 18 = true ∧ (S.portOn p = false ∨ S.ln.state ≠ .sync))) = true) ∧
    ((let p : Fin 2 := 1
     let L := (pkg ({ run with ln.state := .sync, ln.on := 3, ln.p1.lost := false, ln.p1.noneRun := 255, ln.p1.someRun := 255 })).seen .A 0
     let S := L.txSettle
     let G := (S.lnPort p).guard
     decide (L.acts .link 18 = true ∧ S.portOn p = true ∧ S.ln.state = .sync ∧ G.origin = none)) = true) ∧
    ((let p : Fin 2 := 1
     let c : Nat := 0
     let L := (pkg
       ({ ((((((run.setFld F.LN_CFG_NODE 1).setFld F.LN_CYC_CYCLE_LEN 250 0 0).setFld F.LN_CYC_NSLOT 2 0 0).setFld F.LN_SLEN0_LEN 100 0 0).setFld F.LN_SLEN0_LEN 100 0 1).setFld F.LN_CFG_ENABLE 3) with ln.on := 3, ln.state := .sync, ln.p1.guard := { run.ln.p1.guard with origin := some (0, 0), missed := true }, ln.p0.guard := { run.ln.p0.guard with origin := some (0, 0), missed := true } })).seen
       .A 0
     let S := L.txSettle
     let G := (S.lnPort p).guard
     let rate := G.rate
     let len := S.guardLen p
     decide (L.acts .link 18 = true ∧ S.portOn p = true ∧ S.ln.state = .sync) && (
     (match G.origin with
     | some o =>
     let late : Prop := G.missed = true ∧ 2 * (((c : Int) - o.1 : Int) : Rat) < rate * (len : Rat)
     decide (late)
     | _ => false))) = true) ∧
    ((let p : Fin 2 := 1
     let c : Nat := 12499
     let L := (pkg
       ({ ((((((run.setFld F.LN_CFG_NODE 1).setFld F.LN_CYC_CYCLE_LEN 250 0 0).setFld F.LN_CYC_NSLOT 2 0 0).setFld F.LN_SLEN0_LEN 100 0 0).setFld F.LN_SLEN0_LEN 100 0 1).setFld F.LN_CFG_ENABLE 3) with ln.on := 3, ln.state := .sync, ln.p1.guard := { run.ln.p1.guard with origin := some (0, 0) }, ln.p0.guard := { run.ln.p0.guard with origin := some (0, 0) } })).seen
       .A 0
     let S := L.txSettle
     let G := (S.lnPort p).guard
     let rate := G.rate
     let len := S.guardLen p
     decide (L.acts .link 18 = true ∧ S.portOn p = true ∧ S.ln.state = .sync) && (
     (match G.origin with
     | some o =>
     let dev : Rat := ((((c : Int) - o.1 : Int) : Rat) - rate * (len : Rat)) / rate
     let late : Prop := G.missed = true ∧ 2 * (((c : Int) - o.1 : Int) : Rat) < rate * (len : Rat)
     decide (¬ late ∧ -1 ≤ dev ∧ dev ≤ 1)
     | _ => false))) = true) ∧
    ((let p : Fin 2 := 1
     let c : Nat := 0
     let L := (pkg
       ({ ((((((run.setFld F.LN_CFG_NODE 1).setFld F.LN_CYC_CYCLE_LEN 250 0 0).setFld F.LN_CYC_NSLOT 2 0 0).setFld F.LN_SLEN0_LEN 100 0 0).setFld F.LN_SLEN0_LEN 100 0 1).setFld F.LN_CFG_ENABLE 3) with ln.on := 3, ln.state := .sync, ln.p1.guard := { run.ln.p1.guard with origin := some (0, 0) }, ln.p0.guard := { run.ln.p0.guard with origin := some (0, 0) } })).seen
       .A 0
     let S := L.txSettle
     let G := (S.lnPort p).guard
     let rate := G.rate
     let len := S.guardLen p
     decide (L.acts .link 18 = true ∧ S.portOn p = true ∧ S.ln.state = .sync) && (
     (match G.origin with
     | some o =>
     let dev : Rat := ((((c : Int) - o.1 : Int) : Rat) - rate * (len : Rat)) / rate
     let late : Prop := G.missed = true ∧ 2 * (((c : Int) - o.1 : Int) : Rat) < rate * (len : Rat)
     decide (¬ late ∧ (dev < -1 ∨ 1 < dev))
     | _ => false))) = true) ∧
    ((let p : Fin 2 := 1
     let c : Nat := 0
     let L := (pkg
       ({ ((((((run.setFld F.LN_CFG_NODE 1).setFld F.LN_CYC_CYCLE_LEN 250 0 0).setFld F.LN_CYC_NSLOT 2 0 0).setFld F.LN_SLEN0_LEN 100 0 0).setFld F.LN_SLEN0_LEN 100 0 1).setFld F.LN_CFG_ENABLE 3) with ln.on := 3, ln.state := .sync, ln.p1.guard := { run.ln.p1.guard with origin := some (0, 0) }, ln.p0.guard := { run.ln.p0.guard with origin := some (0, 0) } })).seen
       .A 0
     let S := L.txSettle
     let G := (S.lnPort p).guard
     let rate := G.rate
     let len := S.guardLen p
     decide (L.acts .link 18 = true ∧ S.portOn p = true ∧ S.ln.state = .sync) && (
     (match G.origin with
     | some o =>
     let dev : Rat := ((((c : Int) - o.1 : Int) : Rat) - rate * (len : Rat)) / rate
     decide (dev ≤ 1)
     | _ => false))) = true) ∧
    ((let p : Fin 2 := 1
     let c : Nat := 3000000
     let L := (pkg
       ({ ((((((run.setFld F.LN_CFG_NODE 1).setFld F.LN_CYC_CYCLE_LEN 250 0 0).setFld F.LN_CYC_NSLOT 2 0 0).setFld F.LN_SLEN0_LEN 100 0 0).setFld F.LN_SLEN0_LEN 100 0 1).setFld F.LN_CFG_ENABLE 3) with ln.on := 3, ln.state := .sync, ln.p1.guard := { run.ln.p1.guard with origin := some (0, 0) }, ln.p0.guard := { run.ln.p0.guard with origin := some (0, 0) } })).seen
       .A 0
     let S := L.txSettle
     let G := (S.lnPort p).guard
     let rate := G.rate
     let len := S.guardLen p
     decide (L.acts .link 18 = true ∧ S.portOn p = true ∧ S.ln.state = .sync) && (
     (match G.origin with
     | some o =>
     let dev : Rat := ((((c : Int) - o.1 : Int) : Rat) - rate * (len : Rat)) / rate
     decide (1 < dev)
     | _ => false))) = true) := by decide +kernel

theorem witness_NetworkStartUpAndSources :
    ((let L := (pkg
       ({ ((((((run.setFld F.LN_CFG_NODE 1).setFld F.LN_CYC_CYCLE_LEN 250 0 0).setFld F.LN_CYC_NSLOT 2 0 0).setFld F.LN_SLEN0_LEN 100 0 0).setFld F.LN_SLEN0_LEN 100 0 1).setFld F.LN_TCFG_RANK 1) with ln.state := .coldStart, ln.csSent := 1 })).seen
       .A 0
     decide (L.acts .link 18 = true ∧ (L.ln.state ≠ .listen ∨ L.rank = 0 ∨ L.now < L.ln.listenAt + us (2 * L.cycLen 0 + 250 * (L.rank - 1))))) = true) ∧
    ((let L := (pkg
       ({ ((((((run.setFld F.LN_CFG_NODE 1).setFld F.LN_CYC_CYCLE_LEN 250 0 0).setFld F.LN_CYC_NSLOT 2 0 0).setFld F.LN_SLEN0_LEN 100 0 0).setFld F.LN_SLEN0_LEN 100 0 1).setFld F.LN_TCFG_RANK 1) with ln.state := .listen })).seen
       .A 0
     decide (L.acts .link 18 = true ∧ L.ln.state = .listen ∧ L.rank ≠ 0 ∧ L.ln.listenAt + us (2 * L.cycLen 0 + 250 * (L.rank - 1)) ≤ L.now)) = true) ∧
    ((let L := (pkg
       ({ (((((run.setFld F.LN_CFG_NODE 1).setFld F.LN_CYC_CYCLE_LEN 250 0 0).setFld F.LN_CYC_NSLOT 2 0 0).setFld F.LN_SLEN0_LEN 100 0 0).setFld F.LN_SLEN0_LEN 100 0 1) with ln.state := .coldStart, ln.csSent := 1, ln.csStart := 2 * 10 ^ 9 })).seen
       .A 0
     let S := L.txSettle
     decide (L.acts .link 18 = true ∧ L.inActs .link 18 = true ∧ S.ln.state = .coldStart ∧ S.ln.csSent ≠ 0 ∧ S.devTime ≤ S.ln.csStart + 100 *
       frameTime 16 S.lnCmac)) = true) ∧
    ((let L := (pkg
       ({ ((((((run.setFld F.LN_CFG_NODE 1).setFld F.LN_CYC_CYCLE_LEN 250 0 0).setFld F.LN_CYC_NSLOT 2 0 0).setFld F.LN_SLEN0_LEN 100 0 0).setFld F.LN_SLEN0_LEN 100 0 1).setFld F.LN_TCFG_RANK 1) with ln.state := .listen })).seen
       .A 0
     let S := L.txSettle
     decide (L.acts .link 18 = true ∧ S.ln.state ≠ .coldStart ∧ L.inActs .link 18 = true)) = true) ∧
    ((let L := (pkg
       ({ ((((((run.setFld F.LN_CFG_NODE 1).setFld F.LN_CYC_CYCLE_LEN 250 0 0).setFld F.LN_CYC_NSLOT 2 0 0).setFld F.LN_SLEN0_LEN 100 0 0).setFld F.LN_SLEN0_LEN 100 0 1).setFld F.LN_TCFG_RANK 1) with ln.state := .coldStart, ln.csSent := 1 })).seen
       .A 0
     let S := L.txSettle
     decide (L.acts .link 18 = true ∧ S.ln.state = .coldStart ∧ (S.ln.csSent < 4 ∨ S.ln.p0.tx.isSome = true ∨ S.ln.p1.tx.isSome = true))) = true) ∧
    ((let L := (pkg
       ({ ((((((run.setFld F.LN_CFG_NODE 1).setFld F.LN_CYC_CYCLE_LEN 250 0 0).setFld F.LN_CYC_NSLOT 2 0 0).setFld F.LN_SLEN0_LEN 100 0 0).setFld F.LN_SLEN0_LEN 100 0 1).setFld F.LN_TCFG_RANK 1) with ln.state := .coldStart, ln.csSent := 4 })).seen
       .A 0
     let S := L.txSettle
     decide (L.acts .link 18 = true ∧ S.ln.state = .coldStart ∧ 4 ≤ S.ln.csSent ∧ S.ln.p0.tx = none ∧ S.ln.p1.tx = none)) = true) ∧
    ((let L := (pkg
       ({ (((((run.setFld F.LN_CFG_NODE 1).setFld F.LN_CYC_CYCLE_LEN 250 0 0).setFld F.LN_CYC_NSLOT 2 0 0).setFld F.LN_SLEN0_LEN 100 0 0).setFld F.LN_SLEN0_LEN 100 0 1) with ln.state := .integrate, ln.integ := some { node := 1, kind := 1, slot := 1, missed := 3, depth := 0, ref := 0, refRank := 0 } })).seen
       .A 0
     decide (L.acts .link 18 = true) && (
     (match L.ln.integ with
     | some x =>
     decide (L.ln.state = .integrate ∧ L.ln.toSync = none) && (
     let n := if x.kind = 5 then 2 * L.coldK else 2
     decide (n < x.missed ∨ (x.missed = n ∧ L.actionNs x.slot + 1000 < L.devTime)))
     | _ => false))) = true) ∧
    ((let L := (pkg
       ({ (((((run.setFld F.LN_CFG_NODE 1).setFld F.LN_CYC_CYCLE_LEN 250 0 0).setFld F.LN_CYC_NSLOT 2 0 0).setFld F.LN_SLEN0_LEN 100 0 0).setFld F.LN_SLEN0_LEN 100 0 1) with ln.state := .integrate, ln.integ := some { node := 1, kind := 1, slot := 1, missed := 0, depth := 0, ref := 0, refRank := 0 } })).seen
       .A 0
     decide (L.acts .link 18 = true) && (
     (match L.ln.integ with
     | some x =>
     decide (L.ln.state = .integrate ∧ L.ln.toSync = none) && (
     let n := if x.kind = 5 then 2 * L.coldK else 2
     decide (x.missed < n ∨ (x.missed = n ∧ L.devTime ≤ L.actionNs x.slot + 1000)))
     | _ => false))) = true) ∧
    ((let L := (pkg
       ({ ((((((run.setFld F.LN_CFG_NODE 1).setFld F.LN_CYC_CYCLE_LEN 250 0 0).setFld F.LN_CYC_NSLOT 2 0 0).setFld F.LN_SLEN0_LEN 100 0 0).setFld F.LN_SLEN0_LEN 100 0 1).setFld F.LN_TCFG_RANK 1) with ln.state := .listen })).seen
       .A 0
     decide (L.acts .link 18 = true ∧ L.ln.integ = none)) = true) ∧
    ((let L := (pkg
       ({ (((((run.setFld F.LN_CFG_NODE 1).setFld F.LN_CYC_CYCLE_LEN 250 0 0).setFld F.LN_CYC_NSLOT 2 0 0).setFld F.LN_SLEN0_LEN 100 0 0).setFld F.LN_SLEN0_LEN 100 0 1) with ln.state := .sync, ln.holdover := true, ln.holdCyc := 256 })).seen
       .A 0
     decide (L.acts .link 18 = true ∧ L.ln.state = .sync ∧ L.ln.holdover = true ∧ L.fld1 F.LN_TCFG_HOLD < L.ln.holdCyc)) = true) ∧
    ((let L := (pkg
       ({ ((((((run.setFld F.LN_CFG_NODE 1).setFld F.LN_CYC_CYCLE_LEN 250 0 0).setFld F.LN_CYC_NSLOT 2 0 0).setFld F.LN_SLEN0_LEN 100 0 0).setFld F.LN_SLEN0_LEN 100 0 1).setFld F.LN_TCFG_RANK 1) with ln.state := .listen })).seen
       .A 0
     decide (L.acts .link 18 = true ∧ (L.ln.state ≠ .sync ∨ L.ln.holdover = false ∨ L.ln.holdCyc ≤ L.fld1 F.LN_TCFG_HOLD))) = true) ∧
    ((let L := (pkg
       ({ ((((((run.setFld F.LN_CFG_NODE 1).setFld F.LN_CYC_CYCLE_LEN 250 0 0).setFld F.LN_CYC_NSLOT 2 0 0).setFld F.LN_SLEN0_LEN 100 0 0).setFld F.LN_SLEN0_LEN 100 0 1).setFld F.LN_TCFG_RANK 1) with ln.state := .listen })).seen
       .A 0
     decide (L.acts .link 18 = true ∧ (L.ln.state ≠ .sync ∨ L.ln.depth = 0 ∨ L.ln.srcSeen ≤ L.srcTo))) = true) ∧
    ((let L := (pkg
       ({ (((((run.setFld F.LN_CFG_NODE 1).setFld F.LN_CYC_CYCLE_LEN 250 0 0).setFld F.LN_CYC_NSLOT 2 0 0).setFld F.LN_SLEN0_LEN 100 0 0).setFld F.LN_SLEN0_LEN 100 0 1) with ln.state := .sync, ln.depth := 1, ln.srcSeen := 255, ln.peers := [{ node := 2, port := 0, depth := 0, ref := 2, refRank := 1, cyc := 0, stamp := 0, action := 0 }] })).seen
       .A 0
     decide (L.acts .link 18 = true ∧ L.ln.state = .sync ∧ L.ln.depth ≠ 0 ∧ L.srcTo < L.ln.srcSeen) && (
     let M := L.when (!L.ln.holdover) (·.bump F.LN_TCNT_SRC_LOSS)
     let cs := M.candidates.filter (fun x => x.node != M.ln.source && (M.rank == 0 || (x.refRank != 0 && decide (x.refRank < M.rank))))
     (match bestPeer cs with
     | some _x =>
     true
     | _ => false))) = true) ∧
    ((let L := (pkg
       ({ (((((run.setFld F.LN_CFG_NODE 1).setFld F.LN_CYC_CYCLE_LEN 250 0 0).setFld F.LN_CYC_NSLOT 2 0 0).setFld F.LN_SLEN0_LEN 100 0 0).setFld F.LN_SLEN0_LEN 100 0 1) with ln.state := .sync, ln.depth := 1, ln.srcSeen := 255, ln.holdover := true })).seen
       .A 0
     decide (L.acts .link 18 = true ∧ L.ln.state = .sync ∧ L.ln.depth ≠ 0 ∧ L.srcTo < L.ln.srcSeen) && (
     let M := L.when (!L.ln.holdover) (·.bump F.LN_TCNT_SRC_LOSS)
     let cs := M.candidates.filter (fun x => x.node != M.ln.source && (M.rank == 0 || (x.refRank != 0 && decide (x.refRank < M.rank))))
     decide (bestPeer cs = none ∧ L.ln.holdover = true))) = true) ∧
    ((let L := (pkg
       ({ (((((run.setFld F.LN_CFG_NODE 1).setFld F.LN_CYC_CYCLE_LEN 250 0 0).setFld F.LN_CYC_NSLOT 2 0 0).setFld F.LN_SLEN0_LEN 100 0 0).setFld F.LN_SLEN0_LEN 100 0 1) with ln.state := .sync, ln.depth := 1, ln.srcSeen := 255 })).seen
       .A 0
     decide (L.acts .link 18 = true ∧ L.ln.state = .sync ∧ L.ln.depth ≠ 0 ∧ L.srcTo < L.ln.srcSeen) && (
     let M := L.when (!L.ln.holdover) (·.bump F.LN_TCNT_SRC_LOSS)
     let cs := M.candidates.filter (fun x => x.node != M.ln.source && (M.rank == 0 || (x.refRank != 0 && decide (x.refRank < M.rank))))
     decide (bestPeer cs = none ∧ L.ln.holdover = false ∧ M.rank = 0))) = true) ∧
    ((let L := (pkg
       ({ ((((((run.setFld F.LN_CFG_NODE 1).setFld F.LN_CYC_CYCLE_LEN 250 0 0).setFld F.LN_CYC_NSLOT 2 0 0).setFld F.LN_SLEN0_LEN 100 0 0).setFld F.LN_SLEN0_LEN 100 0 1).setFld F.LN_TCFG_RANK 1) with ln.state := .sync, ln.depth := 1, ln.srcSeen := 255 })).seen
       .A 0
     decide (L.acts .link 18 = true ∧ L.ln.state = .sync ∧ L.ln.depth ≠ 0 ∧ L.srcTo < L.ln.srcSeen) && (
     let M := L.when (!L.ln.holdover) (·.bump F.LN_TCNT_SRC_LOSS)
     let cs := M.candidates.filter (fun x => x.node != M.ln.source && (M.rank == 0 || (x.refRank != 0 && decide (x.refRank < M.rank))))
     decide (bestPeer cs = none ∧ L.ln.holdover = false ∧ M.rank ≠ 0))) = true) ∧
    ((let L := (pkg
       ({ ((((((run.setFld F.LN_CFG_NODE 1).setFld F.LN_CYC_CYCLE_LEN 250 0 0).setFld F.LN_CYC_NSLOT 2 0 0).setFld F.LN_SLEN0_LEN 100 0 0).setFld F.LN_SLEN0_LEN 100 0 1).setFld F.LN_TCFG_RANK 1) with ln.state := .listen })).seen
       .A 0
     decide (L.acts .link 18 = true ∧ (L.ln.state ≠ .sync ∨ L.ln.cyc % 8 ≠ 0 ∨ L.ln.topoAt = some L.ln.cyc))) = true) ∧
    ((let L := (pkg
       ({ (((((run.setFld F.LN_CFG_NODE 1).setFld F.LN_CYC_CYCLE_LEN 250 0 0).setFld F.LN_CYC_NSLOT 2 0 0).setFld F.LN_SLEN0_LEN 100 0 0).setFld F.LN_SLEN0_LEN 100 0 1) with ln.state := .sync, ln.holdover := true, ln.holdCyc := 256 })).seen
       .A 0
     decide (L.acts .link 18 = true ∧ L.ln.state = .sync ∧ L.ln.cyc % 8 = 0 ∧ L.ln.topoAt ≠ some L.ln.cyc)) = true) := by decide +kernel

theorem witness_NetworkCommandRegisters :
    ((let v : Word := F.LN_RXLOCK_LOCK.put 0 1
     let L := (pkg ({ run with ln.lock := some (0, 0) })).seen .A 0
     decide (L.pairActs .link 18 = true) && (
     let M := ((L.setFld F.LN_RXLOCK_SLOT (F.LN_RXLOCK_SLOT.get v)).setFld F.LN_RXLOCK_PORT (F.LN_RXLOCK_PORT.get v)).setFld F.LN_RXLOCK_LOCK
       (F.LN_RXLOCK_LOCK.get v)
     let w := (F.LN_RXLOCK_SLOT.get v, F.LN_RXLOCK_PORT.get v)
     decide (F.LN_RXLOCK_LOCK.get v = 1 ∧ M.ln.lock = some w))) = true) ∧
    ((let v : Word := 0xFFFFFFFF
     let L := (pkg ({ run with ln.state := .sync })).seen .A 0
     decide (L.pairActs .link 18 = true) && (
     let M := ((L.setFld F.LN_RXLOCK_SLOT (F.LN_RXLOCK_SLOT.get v)).setFld F.LN_RXLOCK_PORT (F.LN_RXLOCK_PORT.get v)).setFld F.LN_RXLOCK_LOCK
       (F.LN_RXLOCK_LOCK.get v)
     let w := (F.LN_RXLOCK_SLOT.get v, F.LN_RXLOCK_PORT.get v)
     decide (F.LN_RXLOCK_LOCK.get v = 1 ∧ M.ln.lock ≠ some w))) = true) ∧
    ((let v : Word := 0
     let L := (pkg ({ run with ln.state := .sync })).seen .A 0
     decide (L.pairActs .link 18 = true ∧ F.LN_RXLOCK_LOCK.get v ≠ 1)) = true) ∧
    ((let v : Word := 0
     let L := (pkg ({ run with ln.state := .sync })).seen .A 0
     decide (L.pairActs .link 18 = true ∧ F.LN_INJ_ARM.get v = 0)) = true) ∧
    ((let v : Word := 0xFFFFFFFF
     let L := (pkg ({ run with ln.state := .sync })).seen .A 0
     decide (L.pairActs .link 18 = true) && (
     let M := ((((L.setFld F.LN_INJ_ACTION (F.LN_INJ_ACTION.get v)).setFld F.LN_INJ_PORT (F.LN_INJ_PORT.get v)).setFld F.LN_INJ_SLOT
       (F.LN_INJ_SLOT.get v)).setFld F.LN_INJ_SLOT2 (F.LN_INJ_SLOT2.get v)).setFld F.LN_INJ_CYCLES (F.LN_INJ_CYCLES.get v)
     decide (F.LN_INJ_ARM.get v ≠ 0 ∧ M.lc.state ≠ .service))) = true) ∧
    ((let v : Word := F.LN_INJ_ARM.put 0 1
     let L := (pkg
       ({ run with lc.otp.lcs := .field, lc.overlay := some { began := sec 1, duration := sec 1, lanes := 7, vendor := false } })).seen .A 0
     decide (L.pairActs .link 18 = true) && (
     let M := ((((L.setFld F.LN_INJ_ACTION (F.LN_INJ_ACTION.get v)).setFld F.LN_INJ_PORT (F.LN_INJ_PORT.get v)).setFld F.LN_INJ_SLOT
       (F.LN_INJ_SLOT.get v)).setFld F.LN_INJ_SLOT2 (F.LN_INJ_SLOT2.get v)).setFld F.LN_INJ_CYCLES (F.LN_INJ_CYCLES.get v)
     decide (F.LN_INJ_ARM.get v ≠ 0 ∧ M.lc.state = .service ∧ M.fld F.LN_INJ_ACTION ≠ 3))) = true) ∧
    ((let v : Word := 0
     let L := (pkg ({ run with ln.state := .sync })).seen .A 0
     decide (L.pairActs .link 18 = true ∧ (F.LN_MREQ_GO.get v = 0 ∨ L.ln.state ≠ .sync ∨ L.ln.pend.isSome = true))) = true) ∧
    ((let v : Word := 0xFFFFFFFF
     let L := (pkg ({ run with ln.state := .sync })).seen .A 0
     decide (L.pairActs .link 18 = true ∧ F.LN_MREQ_GO.get v ≠ 0 ∧ L.ln.state = .sync ∧ L.ln.pend = none)) = true) := by decide +kernel

theorem witness_RequestsReadAndWriteEntries :
    ((let c : Carrier := .can
     let client : Nat := 1
     let rid : Nat := 1
     let index : Nat := 0x100A
     let sub : Nat := 0
     let L := (pkg ({ bench with th.flashOk := true, oc.on := true })).seen .A 0
     decide (L.acts .core 0x20 = true ∧ L.runtime = true) && (
     let h := headOf svcRead client rid index sub
     let M := L.admitted c h []
     decide ((L.takeMsg c (h.bytes [])).answers = true ∧ ((L.takeMsg c (h.bytes [])).touch h.client).known h.client h.rid = none ∧ (((L.takeMsg c
       (h.bytes [])).touch h.client).enter h.client h.rid).mustWait h = false ∧ M.judged c h [] = stOk) && (
     let V := M.when (h.index == 0x7010) Lane.unlockChallenge
     let v := V.entryRead h.index h.sub
     let N : Lane := { V with fresh := V.fresh + 1 }
     decide (v.length ≤ N.capacity c)))) = true) ∧
    ((let c : Carrier := .net
     let client : Nat := 1
     let rid : Nat := 1
     let index : Nat := 0x100A
     let sub : Nat := 0
     let L := (pkg ({ bench with th.flashOk := true, oc.on := true })).seen .A 0
     decide (L.acts .core 0x20 = true ∧ L.runtime = true) && (
     let h := headOf svcRead client rid index sub
     let M := L.admitted c h []
     decide ((L.takeMsg c (h.bytes [])).answers = true ∧ ((L.takeMsg c (h.bytes [])).touch h.client).known h.client h.rid = none ∧ (((L.takeMsg c
       (h.bytes [])).touch h.client).enter h.client h.rid).mustWait h = false ∧ M.judged c h [] = stOk) && (
     let V := M.when (h.index == 0x7010) Lane.unlockChallenge
     let v := V.entryRead h.index h.sub
     let N : Lane := { V with fresh := V.fresh + 1 }
     decide (N.capacity c < v.length)))) = true) ∧
    ((let c : Carrier := .can
     let client : Nat := 1
     let rid : Nat := 1
     let index : Nat := 0x7010
     let sub : Nat := 0
     let L := (pkg
       ({ bench with th.flashOk := true, oc.on := true, oc.xfers := [{ client := 1, write := false, index := 0x7010, sub := 0, size := 32, data := List.replicate 32 0, last := sec 1 }] })).seen
       .A 0
     decide (L.acts .core 0x20 = true ∧ L.runtime = true) && (
     let o : Nat := 0
     let h := headOf svcReadSeg client rid index sub
     let M := L.admitted c h (leBytes 4 o)
     decide ((L.takeMsg c (h.bytes (leBytes 4 o))).answers = true ∧ ((L.takeMsg c (h.bytes (leBytes 4 o))).touch h.client).known h.client h.rid =
       none ∧ (((L.takeMsg c (h.bytes (leBytes 4 o))).touch h.client).enter h.client h.rid).mustWait h = false ∧ M.judged c h (leBytes 4 o) = stOk)
       && (
     (match M.xferFor h false with
     | some _x =>
     true
     | _ => false)))) = true) ∧
    ((let c : Carrier := .can
     let client : Nat := 1
     let rid : Nat := 1
     let index : Nat := 0x5010
     let sub : Nat := 1
     let L := (pkg ({ bench with th.flashOk := true, oc.on := true })).seen .A 0
     decide (L.acts .core 0x20 = true ∧ L.runtime = true) && (
     let d : List Byte := List.replicate 8 1
     let h := headOf svcWrite client rid index sub
     let M := L.admitted c h d
     decide ((L.takeMsg c (h.bytes d)).answers = true ∧ ((L.takeMsg c (h.bytes d)).touch h.client).known h.client h.rid = none ∧ (((L.takeMsg c
       (h.bytes d)).touch h.client).enter h.client h.rid).mustWait h = false ∧ M.judged c h d = stOk ∧ flashEntry h.index = true))) = true) ∧
    ((let c : Carrier := .can
     let client : Nat := 1
     let rid : Nat := 1
     let index : Nat := 0x7100
     let sub : Nat := 0
     let L := (pkg ({ bench with th.flashOk := true, oc.on := true })).seen .A 0
     decide (L.acts .core 0x20 = true ∧ L.runtime = true) && (
     let d : List Byte := [1]
     let h := headOf svcWrite client rid index sub
     let M := L.admitted c h d
     decide ((L.takeMsg c (h.bytes d)).answers = true ∧ ((L.takeMsg c (h.bytes d)).touch h.client).known h.client h.rid = none ∧ (((L.takeMsg c
       (h.bytes d)).touch h.client).enter h.client h.rid).mustWait h = false ∧ M.judged c h d = stOk ∧ flashEntry h.index = false) && (
     (match entryAt h.index h.sub with
     | some e =>
     decide (e.acc ≠ .cmd)
     | _ => false)))) = true) ∧
    ((let c : Carrier := .can
     let client : Nat := 1
     let rid : Nat := 1
     let index : Nat := 0x3021
     let sub : Nat := 0
     let L := (pkg ({ bench with th.flashOk := true, oc.on := true })).seen .A 0
     decide (L.acts .core 0x20 = true ∧ L.runtime = true) && (
     let d : List Byte := [1]
     let h := headOf svcWrite client rid index sub
     let M := L.admitted c h d
     decide ((L.takeMsg c (h.bytes d)).answers = true ∧ ((L.takeMsg c (h.bytes d)).touch h.client).known h.client h.rid = none ∧ (((L.takeMsg c
       (h.bytes d)).touch h.client).enter h.client h.rid).mustWait h = false ∧ M.judged c h d = stOk ∧ flashEntry h.index = false) && (
     (match entryAt h.index h.sub with
     | some e =>
     decide (e.acc = .cmd)
     | _ => false)))) = true) ∧
    ((let c : Carrier := .can
     let client : Nat := 1
     let rid : Nat := 1
     let index : Nat := 0x7100
     let sub : Nat := 0
     let L := (pkg ({ bench with th.flashOk := true, oc.on := true })).seen .A 0
     decide (L.acts .core 0x20 = true ∧ L.runtime = true) && (
     let n : Nat := 1
     let h := headOf svcWriteInit client rid index sub
     let M := L.admitted c h (leBytes 4 n)
     decide ((L.takeMsg c (h.bytes (leBytes 4 n))).answers = true ∧ ((L.takeMsg c (h.bytes (leBytes 4 n))).touch h.client).known h.client h.rid =
       none ∧ (((L.takeMsg c (h.bytes (leBytes 4 n))).touch h.client).enter h.client h.rid).mustWait h = false ∧ M.judged c h (leBytes 4 n) = stOk))) = true) ∧
    ((let c : Carrier := .can
     let client : Nat := 1
     let rid : Nat := 1
     let index : Nat := 0x7100
     let sub : Nat := 0
     let L := (pkg
       ({ bench with th.flashOk := true, oc.on := true, oc.xfers := [{ client := 1, write := true, index := 0x7100, sub := 0, size := 2, data := [1], last := sec 1 }] })).seen
       .A 0
     decide (L.acts .core 0x20 = true ∧ L.runtime = true) && (
     let o : Nat := 0
     let d : List Byte := [1]
     let h := headOf svcWriteSeg client rid index sub
     let M := L.admitted c h (leBytes 4 o ++ d)
     decide ((L.takeMsg c (h.bytes (leBytes 4 o ++ d))).answers = true ∧ ((L.takeMsg c (h.bytes (leBytes 4 o ++ d))).touch h.client).known
       h.client h.rid = none ∧ (((L.takeMsg c (h.bytes (leBytes 4 o ++ d))).touch h.client).enter h.client h.rid).mustWait h = false ∧ M.judged c h
       (leBytes 4 o ++ d) = stOk) && (
     (match M.xferFor h true with
     | some _x =>
     true
     | _ => false)))) = true) ∧
    ((let c : Carrier := .can
     let client : Nat := 1
     let rid : Nat := 1
     let index : Nat := 0x7100
     let sub : Nat := 0
     let L := (pkg
       ({ bench with th.flashOk := true, oc.on := true, oc.xfers := [{ client := 1, write := true, index := 0x7100, sub := 0, size := 1, data := [1], last := sec 1 }] })).seen
       .A 0
     decide (L.acts .core 0x20 = true ∧ L.runtime = true) && (
     let n : Nat := 1
     let x : Word := crc32c [1]
     let h := headOf svcWriteEnd client rid index sub
     let M := L.admitted c h (leBytes 4 n ++ wordBytes x)
     decide ((L.takeMsg c (h.bytes (leBytes 4 n ++ wordBytes x))).answers = true ∧ ((L.takeMsg c (h.bytes (leBytes 4 n ++ wordBytes x))).touch
       h.client).known h.client h.rid = none ∧ (((L.takeMsg c (h.bytes (leBytes 4 n ++ wordBytes x))).touch h.client).enter h.client h.rid).mustWait
       h = false ∧ M.judged c h (leBytes 4 n ++ wordBytes x) = stOk))) = true) ∧
    ((let c : Carrier := .can
     let client : Nat := 1
     let rid : Nat := 1
     let index : Nat := 0x7010
     let sub : Nat := 0
     let L := (pkg
       ({ bench with th.flashOk := true, oc.on := true, oc.xfers := [{ client := 1, write := false, index := 0x7010, sub := 0, size := 32, data := List.replicate 32 0, last := sec 1 }] })).seen
       .A 0
     decide (L.acts .core 0x20 = true ∧ L.runtime = true) && (
     let h := headOf svcAbort client rid index sub
     let M := L.admitted c h []
     decide ((L.takeMsg c (h.bytes [])).answers = true ∧ ((L.takeMsg c (h.bytes [])).touch h.client).known h.client h.rid = none ∧ (((L.takeMsg c
       (h.bytes [])).touch h.client).enter h.client h.rid).mustWait h = false ∧ M.judged c h [] = stOk))) = true) := by decide +kernel

theorem witness_ObjectChannelProgress :
    ((let client : Nat := 1
     let rid : Nat := 1
     let L := (pkg
       ({ bench with th.flashOk := true, oc.on := true, oc.xfers := [{ client := 1, write := true, index := 0x7100, sub := 0, size := 2, data := [1], last := sec 1 }] })).seen
       .A 0
     decide (L.acts .core 0x20 = true ∧ L.runtime = true) && (
     let mine (r : ReqS) : Bool := r.head.client == client && r.head.rid == rid
     decide (L.oc.inprog.find? mine = none))) = true) ∧
    ((let client : Nat := 1
     let rid : Nat := 1
     let L := (pkg
       ({ bench with th.flashOk := true, oc.on := true, oc.inprog := [{ head := headOf svcWrite 1 1 0x5010 1, carrier := .can, since := sec 1, lastBusy := sec 1, job := .wait [1] }] })).seen
       .A 0
     decide (L.acts .core 0x20 = true ∧ L.runtime = true) && (
     let mine (r : ReqS) : Bool := r.head.client == client && r.head.rid == rid
     (match L.oc.inprog.find? mine with
     | some r =>
     decide (r.lastBusy = r.since ∨ r.lastBusy + us 4500 ≤ L.now)
     | _ => false))) = true) ∧
    ((let client : Nat := 1
     let rid : Nat := 1
     let L := (pkg
       ({ bench with th.flashOk := true, oc.on := true, oc.inprog := [{ head := headOf svcWrite 1 1 0x5010 1, carrier := .can, since := sec 1, lastBusy := sec 1, job := .wait [1] }] })).seen
       .A 0
     decide (L.acts .core 0x20 = true ∧ L.runtime = true) && (
     let mine (r : ReqS) : Bool := r.head.client == client && r.head.rid == rid
     (match L.oc.inprog.find? mine with
     | some r =>
     let d : List Byte := [1]
     decide (r.job = .wait d)
     | _ => false))) = true) ∧
    ((let client : Nat := 1
     let rid : Nat := 1
     let L := (pkg
       ({ bench with th.flashOk := true, oc.on := true, oc.inprog := [{ head := headOf svcWrite 1 1 0x5010 1, carrier := .can, since := sec 1, lastBusy := sec 1, job := .record [1] }] })).seen
       .A 0
     decide (L.acts .core 0x20 = true ∧ L.runtime = true) && (
     let mine (r : ReqS) : Bool := r.head.client == client && r.head.rid == rid
     (match L.oc.inprog.find? mine with
     | some r =>
     let d : List Byte := [1]
     decide (r.job = .record d)
     | _ => false))) = true) ∧
    ((let client : Nat := 1
     let L := (pkg
       ({ { bench with th.flashOk := true, oc.on := true, oc.xfers := [{ client := 1, write := true, index := 0x7100, sub := 0, size := 2, data := [1], last := sec 1 }] } with now := sec 100 })).seen
       .A 0
     decide (L.acts .core 0x20 = true ∧ L.runtime = true) && (
     (match L.xferOf client with
     | some x =>
     decide (x.last + ms L.xferTo ≤ L.now)
     | _ => false))) = true) ∧
    ((let client : Nat := 1
     let L := (pkg
       ({ bench with th.flashOk := true, oc.on := true, oc.xfers := [{ client := 1, write := true, index := 0x7100, sub := 0, size := 2, data := [1], last := sec 1 }] })).seen
       .A 0
     decide (L.acts .core 0x20 = true ∧ L.runtime = true) && (
     (match L.xferOf client with
     | some x =>
     decide (L.now < x.last + ms L.xferTo)
     | _ => false))) = true) ∧
    ((let client : Nat := 1
     let L := (pkg
       ({ bench with th.flashOk := true, oc.on := true, oc.inprog := [{ head := headOf svcWrite 1 1 0x5010 1, carrier := .can, since := sec 1, lastBusy := sec 1, job := .wait [1] }] })).seen
       .A 0
     decide (L.acts .core 0x20 = true ∧ L.runtime = true ∧ L.xferOf client = none)) = true) := by decide +kernel

theorem witness_CanCarrier :
    ((let L := (pkg up).seen .A 0
     decide (L.acts .link 19 = true ∧ L.inActs .link 19 = true ∧ L.oc.on = false)) = true) ∧
    ((let L := (pkg ({ run with oc.on := true })).seen .A 0
     decide (L.acts .link 19 = true ∧ L.inActs .link 19 = true) && (
     let room := if L.flag F.OC_CFG_FD then 64 else 8
     let ext : Bool := true
     let rem : Bool := true
     let id : Nat := 0
     let d : List Byte := []
     decide (L.oc.on = true ∧ (L.oc.busOff = true ∨ ext = false ∨ rem = true ∨ L.canForUs id = false ∨ room < d.length)))) = true) ∧
    ((let L := (pkg ({ run with oc.on := true, pm.level := .hold })).seen .A 0
     decide (L.acts .link 19 = true ∧ L.inActs .link 19 = true) && (
     let room := if L.flag F.OC_CFG_FD then 64 else 8
     let id : Nat := 2 ^ 24 * up.fld F.OC_CFG_BASE + 2 ^ 17 * up.fld F.OC_CFG_NODE
     let d : List Byte := []
     decide (L.oc.on = true ∧ L.oc.busOff = false ∧ L.canForUs id = true ∧ d.length ≤ room ∧ L.linkSleeps = true))) = true) ∧
    ((let L := (pkg ({ run with oc.on := true })).seen .A 0
     decide (L.acts .link 19 = true ∧ L.inActs .link 19 = true) && (
     let room := if L.flag F.OC_CFG_FD then 64 else 8
     let id : Nat := 2 ^ 24 * up.fld F.OC_CFG_BASE + 2 ^ 17 * up.fld F.OC_CFG_NODE
     let d : List Byte := []
     decide (L.oc.on = true ∧ L.oc.busOff = false ∧ L.canForUs id = true ∧ d.length ≤ room ∧ L.linkSleeps = false))) = true) ∧
    ((let L := (pkg ({ run with oc.on := true })).seen .A 0
     decide (L.acts .link 19 = true ∧ L.oc.part = none)) = true) ∧
    ((let L := (pkg ({ run with oc.on := true, oc.part := some { client := 1, next := 1, data := [], at_ := sec 1 - ms 10 } })).seen .A 0
     decide (L.acts .link 19 = true) && (
     (match L.oc.part with
     | some q =>
     decide (q.at_ + ms 10 ≤ L.now)
     | _ => false))) = true) ∧
    ((let L := (pkg ({ run with oc.on := true, oc.part := some { client := 1, next := 1, data := [], at_ := sec 1 } })).seen .A 0
     decide (L.acts .link 19 = true) && (
     (match L.oc.part with
     | some q =>
     decide (L.now < q.at_ + ms 10)
     | _ => false))) = true) ∧
    ((let L := (pkg ({ run with oc.on := true })).seen .A 0
     decide (L.acts .link 19 = true) && (
     let client : Nat := 1
     let rid : Nat := 1
     decide (L.oc.canTx.find? (fun r => r.1.head.client == client && r.1.head.rid == rid) = none))) = true) ∧
    ((let L := (pkg ({ run with oc.on := true, oc.canTx := [({ head := headOf svcRead 1 1 0x7010 0, status := 0, data := [] }, 0)] })).seen .A 0
     decide (L.acts .link 19 = true) && (
     let client : Nat := 1
     let rid : Nat := 1
     (match L.oc.canTx.find? (fun r => r.1.head.client == client && r.1.head.rid == rid) with
     | some r =>
     decide (r.2 + us (10 * L.retxBudget) ≤ L.now)
     | _ => false))) = true) ∧
    ((let L := (pkg up).seen .A 0
     decide (L.acts .link 19 = true ∧ L.inActs .link 19 = true ∧ (L.oc.on = false ∨ L.oc.busOff = true))) = true) := by decide +kernel

theorem witness_UnlockAttestationAndLifeCycle :
    ((let L := (pkg ({ run with lc.attest := some (1, []) })).seen .A 0
     decide (L.acts .core 0x20 = true ∧ L.runtime = true ∧ (L.lc.state ≠ .field ∨ L.servesWrites = false))) = true) ∧
    ((let L := (pkg ({ svc with lc.otp.lcs := .field })).seen .A 0
     decide (L.acts .core 0x20 = true ∧ L.runtime = true ∧ L.lc.state = .field ∧ L.servesWrites = true)) = true) ∧
    ((let L := (pkg ({ run with lc.attest := some (1, []) })).seen .A 0
     decide (L.acts .core 0x20 = true ∧ L.runtime = true ∧ L.servesWrites = false)) = true) ∧
    ((let L := (pkg ({ svc with lc.otp.lcs := .field })).seen .A 0
     decide (L.acts .core 0x20 = true ∧ L.runtime = true ∧ L.lc.attest = none)) = true) ∧
    ((let L := (pkg ({ run with lc.attest := some (1, []) })).seen .A 0
     decide (L.acts .core 0x20 = true ∧ L.runtime = true) && (
     (match L.lc.attest with
     | some _a =>
     true
     | _ => false))) = true) ∧
    ((let L := (pkg ({ svc with lc.otp.lcs := .field })).seen .A 0
     decide (L.lc.overlay = none)) = true) ∧
    ((let L := (pkg
       ({ run with lc.otp.lcs := .field, lc.overlay := some { began := sec 1, duration := sec 1, lanes := 7, vendor := false } })).seen .A 0
     (match L.lc.overlay with
     | some o =>
     decide (L.now < o.began + L.cellarTime o.duration)
     | _ => false)) = true) ∧
    ((let L := (pkg
       ({ run with sy.resetHeld := true, lc.otp.lcs := .field, lc.overlay := some { began := 0, duration := 0, lanes := 7, vendor := false } })).seen
       .A 0
     (match L.lc.overlay with
     | some o =>
     decide (o.began + L.cellarTime o.duration ≤ L.now ∧ L.sy.resetHeld = true)
     | _ => false)) = true) ∧
    ((let L := (pkg ({ run with lc.otp.lcs := .field, lc.overlay := some { began := 0, duration := 1, lanes := 7, vendor := false } })).seen .A 0
     (match L.lc.overlay with
     | some o =>
     decide (o.began + L.cellarTime o.duration ≤ L.now ∧ L.sy.resetHeld = false) && (
     let A := ((({ L with lc := { L.lc with overlay := none } }).raise F.LC_EVENT_SVC_END).eachGroup (fun L g => L.genUpdate g)).injWatch
     let A := A.when (A.st.prog == .direct) Lane.endRun
     let B := (({ A with fc := { A.fc with xinjLeft := 0 }, ln := { A.ln with injLeft := 0 }, sy := { A.sy with debugHalt := false } }).setFld
       F.FC_XINJ_ARM 0).setFld F.LN_INJ_ARM 0
     (!B.lc.taken || B.lc.sealed))
     | _ => false)) = true) ∧
    ((let L := (pkg
       ({ run with lc.otp.lcs := .field, lc.taken := true, lc.sealed := false, lc.overlay := some { began := 0, duration := 0, lanes := 7, vendor := false } })).seen
       .A 0
     (match L.lc.overlay with
     | some o =>
     decide (o.began + L.cellarTime o.duration ≤ L.now ∧ L.sy.resetHeld = false) && (
     let A := ((({ L with lc := { L.lc with overlay := none } }).raise F.LC_EVENT_SVC_END).eachGroup (fun L g => L.genUpdate g)).injWatch
     let A := A.when (A.st.prog == .direct) Lane.endRun
     let B := (({ A with fc := { A.fc with xinjLeft := 0 }, ln := { A.ln with injLeft := 0 }, sy := { A.sy with debugHalt := false } }).setFld
       F.FC_XINJ_ARM 0).setFld F.LN_INJ_ARM 0
     (B.lc.taken && !B.lc.sealed))
     | _ => false)) = true) ∧
    ((let L := (pkg
       ({ run with lc.otp.lcs := .field, lc.overlay := some { began := sec 1, duration := sec 1, lanes := 7, vendor := false } })).seen .A 0
     decide (L.sy.resetHeld = false ∧ (L.lc.state = .blank ∨ L.lc.state = .service))) = true) ∧
    ((let L := (pkg ({ svc with lc.otp.lcs := .field })).seen .A 0
     decide (L.sy.resetHeld = true ∨ (L.lc.state ≠ .blank ∧ L.lc.state ≠ .service))) = true) ∧
    ((let L := (pkg ({ run with lc.otp.lcs := .blank })).seen .A 0
     decide (L.sy.resetHeld = false ∧ L.lc.state = .blank)) = true) ∧
    ((let L := (pkg ({ svc with lc.otp.lcs := .field })).seen .A 0
     decide (L.sy.resetHeld = true ∨ L.lc.state ≠ .blank)) = true) := by decide +kernel

theorem witness_CommitAndInstall :
    ((let L := (pkg ({ bench with lc.commitDone := some (sec 1) })).seen .A 0
     decide (L.acts .core 0x20 = true ∧ L.runtime = true ∧ (L.ky.state ≠ .bench ∨ L.lc.commit.isSome = true ∨ L.th.flashOk = false))) = true) ∧
    ((let L := (pkg ({ bench with th.flashOk := true, oc.on := true })).seen .A 0
     decide (L.acts .core 0x20 = true ∧ L.runtime = true ∧ L.ky.state = .bench ∧ L.lc.commit = none ∧ L.th.flashOk = true)) = true) ∧
    ((let L := (pkg ({ bench with th.flashOk := true, oc.on := true })).seen .A 0
     decide (L.acts .core 0x20 = true ∧ L.runtime = true ∧ L.commitHeader.lc.commitDone = none)) = true) ∧
    ((let L := (pkg ({ bench with lc.commitDone := some (sec 1) })).seen .A 0
     decide (L.acts .core 0x20 = true ∧ L.runtime = true) && (
     (match L.commitHeader.lc.commitDone with
     | some _d =>
     true
     | _ => false))) = true) ∧
    ((let L := (pkg ({ bench with th.flashOk := true, ky.sibN := 4, ky.sibP := 4, ky.hostWord := 12 })).seen .A 0
     decide (L.acts .core 0x20 = true ∧ L.runtime = true ∧ L.installLanes = true ∧ L.installFree = true ∧ L.th.flashOk = true)) = true) ∧
    ((let L := (pkg ({ bench with th.flashOk := true, oc.on := true })).seen .A 0
     decide (L.acts .core 0x20 = true ∧ L.runtime = true ∧ (L.installLanes = false ∨ L.installFree = false ∨ L.th.flashOk = false))) = true) ∧
    ((let L := (pkg ({ bench with th.flashOk := true, lc.install := 2 })).seen .A 0
     decide (L.acts .core 0x20 = true ∧ L.runtime = true ∧ L.ky.state = .bench ∧ L.lc.install = 2 ∧ L.th.flashOk = true)) = true) ∧
    ((let L := (pkg ({ bench with th.flashOk := true, oc.on := true })).seen .A 0
     decide (L.acts .core 0x20 = true ∧ L.runtime = true ∧ (L.ky.state ≠ .bench ∨ L.lc.install ≠ 2 ∨ L.th.flashOk = false))) = true) ∧
    ((let L := (pkg ({ bench with th.flashOk := true, oc.on := true })).seen .A 0
     decide (L.acts .core 0x20 = true ∧ L.runtime = true ∧ L.lc.install ≠ 3)) = true) ∧
    ((let L := (pkg ({ bench with lc.install := 3 })).seen .A 0
     decide (L.acts .core 0x20 = true ∧ L.runtime = true ∧ L.lc.install = 3)) = true) ∧
    ((let L := (pkg run).seen .A 0
     decide (L.acts .core 0x20 = true ∧ L.runtime = true ∧ L.ky.state ≠ .bench)) = true) ∧
    ((let L := (pkg ({ bench with lc.lostLane := true })).seen .A 0
     decide (L.acts .core 0x20 = true ∧ L.runtime = true ∧ L.lc.lostLane = true)) = true) ∧
    ((let L := (pkg ({ bench with th.flashOk := true, oc.on := true })).seen .A 0
     decide (L.acts .core 0x20 = true ∧ L.runtime = true ∧ L.lc.lostLane = false)) = true) ∧
    ((let L := (pkg ({ bench with th.flashOk := true, lc.trialBad := true, lc.install := 5 })).seen .A 0
     decide (L.acts .core 0x20 = true ∧ L.runtime = true ∧ L.lc.trialBad = true ∧ (L.lc.install = 5 ∨ L.lc.install = 6) ∧ L.th.flashOk = true)) = true) ∧
    ((let L := (pkg ({ bench with th.flashOk := true, oc.on := true })).seen .A 0
     decide (L.acts .core 0x20 = true ∧ L.runtime = true ∧ (L.lc.trialBad = false ∨ (L.lc.install ≠ 5 ∧ L.lc.install ≠ 6) ∨ L.th.flashOk = false))) = true) := by decide +kernel

theorem witness_EthernetPort :
    ((let L := (pkg ({ (run.setFld F.EN_CFG_ENABLE 1).setFld F.EN_STREAM_OUT_EN 15 with en.link := true })).seen .A 0
     decide (L.inActs .link 20 = true) && (
     let dst : List Byte := []
     let src : List Byte := []
     let etherType : List Byte := []
     let head : List Byte := []
     let data : List Byte := []
     let fcs : List Byte := []
     let bs := dst ++ src ++ etherType ++ head ++ data ++ fcs
     decide (L.enForUs bs = false))) = true) ∧
    ((let L := (pkg ({ (run.setFld F.EN_CFG_ENABLE 1).setFld F.EN_STREAM_OUT_EN 15 with en.link := true })).seen .A 0
     decide (L.inActs .link 20 = true) && (
     let dst : List Byte := refcs ((run.enFrame 4 0 0 [1]).set 14 2)
     let src : List Byte := []
     let etherType : List Byte := []
     let head : List Byte := []
     let data : List Byte := []
     let fcs : List Byte := []
     let bs := dst ++ src ++ etherType ++ head ++ data ++ fcs
     decide (L.enForUs bs = true ∧ enFrameOk bs = false))) = true) ∧
    ((let L := (pkg ({ (run.setFld F.EN_CFG_ENABLE 1).setFld F.EN_STREAM_OUT_EN 15 with en.link := true, lc.install := 1 })).seen .A 0
     decide (L.inActs .link 20 = true) && (
     let dst : List Byte := run.enFrame 4 0 0 [1]
     let src : List Byte := []
     let etherType : List Byte := []
     let head : List Byte := []
     let data : List Byte := []
     let fcs : List Byte := []
     let bs := dst ++ src ++ etherType ++ head ++ data ++ fcs
     let M := (L.sendAcks.tally 20 1).tally 20 3 bs.length
     decide (L.enForUs bs = true ∧ enFrameOk bs = true ∧ M.installOpenNow = true))) = true) ∧
    ((let L := (pkg ({ (run.setFld F.EN_CFG_ENABLE 1).setFld F.EN_STREAM_OUT_EN 15 with en.link := true })).seen .A 0
     decide (L.inActs .link 20 = true) && (
     let dst : List Byte := run.enFrame 4 0 0 [1]
     let src : List Byte := []
     let etherType : List Byte := []
     let head : List Byte := []
     let data : List Byte := []
     let fcs : List Byte := []
     let bs := dst ++ src ++ etherType ++ head ++ data ++ fcs
     let M := (L.sendAcks.tally 20 1).tally 20 3 bs.length
     decide (L.enForUs bs = true ∧ enFrameOk bs = true ∧ M.installOpenNow = false))) = true) ∧
    ((let L := (pkg ({ (run.setFld F.EN_CFG_ENABLE 1).setFld F.EN_STREAM_OUT_EN 15 with en.link := true })).seen .A 0
     decide (L.acts .core 0x20 = true ∧ L.runtime = true) && (
     let b : Nat := 1
     decide (L.lc.install ≠ 1 ∨ L.blockEnded b = false ∨ L.th.flashOk = false))) = true) ∧
    ((let L := (pkg
       ({ run with lc.install := 1, th.flashOk := true, lc.instSize := 65537, lc.stored := [(0, 0, [])], en.bufs := [(1, [(1, [1])])] })).seen .A 0
     decide (L.acts .core 0x20 = true ∧ L.runtime = true) && (
     let b : Nat := 1
     decide (L.lc.install = 1 ∧ L.blockEnded b = true ∧ b ≠ 0 ∧ L.blockStored 0 = true ∧ L.th.flashOk = true ∧ layPieces (L.blockSize b)
       (L.blockPieces b) = none))) = true) ∧
    ((let L := (pkg
       ({ run with lc.install := 1, th.flashOk := true, lc.instSize := 65537, lc.stored := [(0, 0, [])], en.bufs := [(1, [(0, [1])])] })).seen .A 0
     decide (L.acts .core 0x20 = true ∧ L.runtime = true) && (
     let b : Nat := 1
     decide (L.lc.install = 1 ∧ L.blockEnded b = true ∧ b ≠ 0 ∧ L.blockStored 0 = true ∧ L.th.flashOk = true) && (
     (match layPieces (L.blockSize b) (L.blockPieces b) with
     | some _bs =>
     true
     | _ => false)))) = true) ∧
    ((let L := (pkg ({ run with lc.install := 1, lc.instSize := 512, th.flashOk := true, en.bufs := [(0, [(0, List.replicate 512 0)])] })).seen .A
       0
     decide (L.acts .core 0x20 = true ∧ L.runtime = true ∧ L.lc.install = 1 ∧ L.blockEnded 0 = true ∧ L.th.flashOk = true) && (
     (match layPieces (L.blockSize 0) (L.blockPieces 0) with
     | some bs =>
     decide (L.kindOk bs = false)
     | _ => false))) = true) ∧
    ((let L := (pkg
       ({ run with lc.install := 1, lc.instSize := 512, th.flashOk := true, en.bufs := [(0, [(0, (List.replicate 512 0).set 17 2)])] })).seen .A 0
     decide (L.acts .core 0x20 = true ∧ L.runtime = true ∧ L.lc.install = 1 ∧ L.blockEnded 0 = true ∧ L.th.flashOk = true) && (
     (match layPieces (L.blockSize 0) (L.blockPieces 0) with
     | some bs =>
     decide (L.kindOk bs = true)
     | _ => false))) = true) ∧
    ((let L := (pkg ({ (run.setFld F.EN_CFG_ENABLE 1).setFld F.EN_STREAM_OUT_EN 15 with en.link := true })).seen .A 0
     decide (L.acts .link 20 = true ∧ L.inActs .link 20 = true ∧ L.flag F.EN_CFG_ENABLE = true ∧ L.en.link = true)) = true) ∧
    ((let L := (pkg ({ (run.setFld F.EN_CFG_ENABLE 1).setFld F.EN_STREAM_OUT_EN 15 with en.link := false })).seen .A 0
     decide (L.acts .link 20 = true ∧ L.inActs .link 20 = true ∧ L.flag F.EN_CFG_ENABLE = true ∧ L.en.link = false)) = true) ∧
    ((let L := (pkg ({ (run.setFld F.EN_CFG_ENABLE 1).setFld F.EN_STREAM_OUT_EN 15 with en.link := true })).seen .A 0
     decide (L.acts .link 20 = true ∧ L.inActs .link 20 = true) && (
     let up : Bool := false
     decide (L.en.link = true ∧ (up = false ∨ L.flag F.EN_CFG_ENABLE = false)))) = true) ∧
    ((let L := (pkg ({ (run.setFld F.EN_CFG_ENABLE 1).setFld F.EN_STREAM_OUT_EN 15 with en.link := false })).seen .A 0
     decide (L.acts .link 20 = true ∧ L.inActs .link 20 = true) && (
     let up : Bool := false
     decide (L.en.link = false ∧ (up = false ∨ L.flag F.EN_CFG_ENABLE = false)))) = true) ∧
    ((let L := (pkg
       ({ run with lc.install := 1, th.flashOk := true, lc.instSize := 65537, lc.stored := [(0, 0, [])], en.bufs := [(1, [(0, [1])])] })).seen .A 0
     decide (L.acts .link 20 = true) && (
     let K := L.sendAcks
     let k : Nat := 1
     decide (K.streamOn k = false))) = true) ∧
    ((let L := (pkg
       ({ (run.setFld F.EN_CFG_ENABLE 1).setFld F.EN_STREAM_OUT_EN 15 with en.link := true, en.snapOut := some (0, [1]), en.sentAt := [(sec 1, 10 ^ 9)] })).seen
       .A 0
     decide (L.acts .link 20 = true) && (
     let K := L.sendAcks
     decide (K.enRoom = none))) = true) ∧
    ((let L := (pkg ({ (run.setFld F.EN_CFG_ENABLE 1).setFld F.EN_STREAM_OUT_EN 15 with en.link := true })).seen .A 0
     decide (L.acts .link 20 = true) && (
     let K := L.sendAcks
     let k : Nat := 1
     decide (K.streamOn k = true) && (
     (match K.enRoom with
     | some room =>
     decide (K.streamNext k room = none)
     | _ => false)))) = true) ∧
    ((let L := (pkg ({ (run.setFld F.EN_CFG_ENABLE 1).setFld F.EN_STREAM_OUT_EN 15 with en.link := true, en.snapOut := some (0, [1]) })).seen .A 0
     decide (L.acts .link 20 = true) && (
     let K := L.sendAcks
     let k : Nat := 1
     decide (K.streamOn k = true) && (
     (match K.enRoom with
     | some room =>
     (match K.streamNext k room with
     | some (_o, d, _M) =>
     decide (d ≠ [])
     | _ => false)
     | _ => false)))) = true) ∧
    ((let L := (pkg ({ (run.setFld F.EN_CFG_ENABLE 1).setFld F.EN_STREAM_OUT_EN 7 with en.link := true, en.snapOut := some (0, []) })).seen .A 0
     decide (L.acts .link 20 = true) && (
     let K := L.sendAcks
     let k : Nat := 1
     decide (K.streamOn k = true) && (
     (match K.enRoom with
     | some room =>
     (match K.streamNext k room with
     | some (_o, d, _M) =>
     decide (d = [])
     | _ => false)
     | _ => false)))) = true) := by decide +kernel

theorem witness_FlashOperationsAndEventLog :
    ((let L := (pkg ({ ((run.setWord F.CF_ADDR 0x08000000).setWord F.CF_LEN 16) with th.flashOk := true })).seen .A 0
     let a := (L.word F.CF_ADDR).toNat
     decide (L.pairActs .core 7 = true ∧ (L.flashBusy = true ∨ L.th.flashOk = false ∨ a % 65536 ≠ 0 ∨ flashOwned a 65536 = true))) = true) ∧
    ((let L := (pkg ({ ((run.setWord F.CF_ADDR 0x09570000).setWord F.CF_LEN 8) with th.flashOk := true })).seen .A 0
     let a := (L.word F.CF_ADDR).toNat
     decide (L.pairActs .core 7 = true ∧ L.flashBusy = false ∧ L.th.flashOk = true ∧ a % 65536 = 0 ∧ flashOwned a 65536 = false)) = true) ∧
    ((let L := (pkg ({ run with lc.op := some (1, 0x09570000, [1]) })).seen .A 0
     let a := (L.word F.CF_ADDR).toNat
     let n := (L.word F.CF_LEN).toNat
     decide (L.pairActs .core 7 = true ∧ (n < 16 ∨ 4096 < n ∨ n % 16 ≠ 0)) && (
     let r := L.drawNat.1 % 4097
     decide (L.flashBusy = true ∨ L.th.flashOk = false ∨ a % 16 ≠ 0 ∨ flashOwned a r = true))) = true) ∧
    ((let L := (pkg ({ ((run.setWord F.CF_ADDR 0x09570000).setWord F.CF_LEN 8) with th.flashOk := true })).seen .A 0
     let a := (L.word F.CF_ADDR).toNat
     let n := (L.word F.CF_LEN).toNat
     decide (L.pairActs .core 7 = true ∧ (n < 16 ∨ 4096 < n ∨ n % 16 ≠ 0)) && (
     let r := L.drawNat.1 % 4097
     decide (L.flashBusy = false ∧ L.th.flashOk = true ∧ a % 16 = 0 ∧ flashOwned a r = false))) = true) ∧
    ((let L := (pkg ({ ((run.setWord F.CF_ADDR 0x08000000).setWord F.CF_LEN 16) with th.flashOk := true })).seen .A 0
     let a := (L.word F.CF_ADDR).toNat
     let n := (L.word F.CF_LEN).toNat
     decide (L.pairActs .core 7 = true ∧ 16 ≤ n ∧ n ≤ 4096 ∧ n % 16 = 0 ∧ (L.flashBusy = true ∨ L.th.flashOk = false ∨ a % 16 ≠ 0 ∨ flashOwned a n
       = true))) = true) ∧
    ((let L := (pkg ({ ((run.setWord F.CF_ADDR 0x09570000).setWord F.CF_LEN 16) with th.flashOk := true })).seen .A 0
     let a := (L.word F.CF_ADDR).toNat
     let n := (L.word F.CF_LEN).toNat
     decide (L.pairActs .core 7 = true ∧ 16 ≤ n ∧ n ≤ 4096 ∧ n % 16 = 0 ∧ L.flashBusy = false ∧ L.th.flashOk = true ∧ a % 16 = 0 ∧ flashOwned a n
       = false)) = true) ∧
    ((let L := (pkg ({ ((run.setWord F.CF_ADDR 0x09570000).setWord F.CF_LEN 8) with th.flashOk := true })).seen .A 0
     decide (L.acts .core 7 = true ∧ L.lc.op = none)) = true) ∧
    ((let L := (pkg ({ run with lc.op := some (1, 0, [1]) })).seen .A 0
     decide (L.acts .core 7 = true) && (
     (match L.lc.op with
     | some (_k, x, _bs) =>
     decide (x < 0x08000000 ∨ 0x09800000 ≤ x)
     | _ => false))) = true) ∧
    ((let L := (pkg ({ run with lc.op := some (1, 0x09570000, [1]) })).seen .A 0
     decide (L.acts .core 7 = true) && (
     (match L.lc.op with
     | some (k, x, _bs) =>
     decide (0x08000000 ≤ x ∧ x < 0x09800000 ∧ k = 1)
     | _ => false))) = true) ∧
    ((let L := (pkg ({ run with lc.op := some (2, 0x09570000, [1]) })).seen .A 0
     decide (L.acts .core 7 = true) && (
     (match L.lc.op with
     | some (k, x, _bs) =>
     decide (0x08000000 ≤ x ∧ x < 0x09800000 ∧ k ≠ 1)
     | _ => false))) = true) ∧
    ((let L := (pkg ({ ((run.setWord F.CF_ADDR 0x09570000).setWord F.CF_LEN 8) with th.flashOk := true })).seen .A 0
     decide (L.acts .core 3 = true ∧ L.fc.queue = [])) = true) ∧
    ((let L := (pkg
       ({ run with th.flashOk := false, fc.dropped := 0, fc.queue := [{ kind := 1, cls := 0, source := 0, flags := 0, unit_ := 0, laneState := 0, level := 0, tick := 0, time := 0, detail := [] }] })).seen
       .A 0
     decide (L.acts .core 3 = true) && (
     (match L.fc.queue with
     | _r :: _q =>
     decide (L.th.flashOk = false)
     | _ => false))) = true) := by decide +kernel

theorem witness_CheckerReports :
    ((let x : Nat := 32
     let L := (pkg (({ run with fc.injArm := true }).setFld F.FC_INJ_CHECKER 5)).seen .A 0
     decide (L.acts .core (if srcClass x = 2 then 0xFF else 3) = true ∧ 32 ≤ x)) = true) ∧
    ((let x : Nat := 0
     let u : Nat := 0
     let L := (pkg (({ run with fc.injArm := true }).setFld F.FC_INJ_CHECKER 5)).seen .A 0
     decide (L.acts .core (if srcClass x = 2 then 0xFF else 3) = true ∧ x < 32 ∧ (L.fc.injArm = false ∨ L.injReports x u = false))) = true) ∧
    ((let x : Nat := 0
     let u : Nat := 5
     let L := (pkg (({ run with fc.injArm := true }).setFld F.FC_INJ_CHECKER 5)).seen .A 0
     decide (L.acts .core (if srcClass x = 2 then 0xFF else 3) = true ∧ x < 32 ∧ L.fc.injArm = true ∧ L.injReports x u = true)) = true) := by decide +kernel

theorem witness_FatalFaultWithdrawsTheLane :
    (let L : Lane := up
     let x : Nat := 1
     decide (srcClass x = 2 ∧ L.pm.phase = .none ∧ L.ky.state ≠ .off ∧ L.fc.forced = false)) = true := by decide +kernel

theorem witness_ErrOutAndQuietPeriods :
    ((let L := (pkg ({ run with fc.quiet := [(0, sec 1 + 1)] })).seen .A 0
     decide (L.acts .core 3 = true ∧ L.fc.pulse = none)) = true) ∧
    ((let L := (pkg ({ run with fc.pulse := some { began := sec 1, releasing := true, source := 0 } })).seen .A 0
     decide (L.acts .core 3 = true) && (
     (match L.fc.pulse with
     | some p =>
     decide (L.now < p.began + us 10)
     | _ => false))) = true) ∧
    ((let L := (pkg ({ run with fc.pulse := some { began := sec 1 - us 10, releasing := true, source := 0 } })).seen .A 0
     decide (L.acts .core 3 = true) && (
     (match L.fc.pulse with
     | some p =>
     decide (p.began + us 10 ≤ L.now ∧ p.releasing = true)
     | _ => false))) = true) ∧
    ((let L := (pkg ({ run with fc.pulse := some { began := sec 1 - us 10, releasing := false, source := 0 } })).seen .A 0
     decide (L.acts .core 3 = true) && (
     (match L.fc.pulse with
     | some p =>
     decide (p.began + us 10 ≤ L.now ∧ p.releasing = false)
     | _ => false))) = true) ∧
    ((let v : Word := 0xFFFFFFFF
     let L := (pkg ({ run with fc.pulse := some { began := sec 1, releasing := true, source := 0 } })).seen .A 0
     decide (L.acts .core 3 = true ∧ L.pairActs .core 3 = true ∧ F.FC_ERROUT_MERGED.get v ≠ 0)) = true) ∧
    ((let v : Word := 0
     let L := (pkg ({ run with fc.pulse := some { began := sec 1, releasing := true, source := 0 } })).seen .A 0
     decide (L.acts .core 3 = true ∧ L.pairActs .core 3 = true ∧ F.FC_ERROUT_MERGED.get v = 0)) = true) ∧
    ((let x : Nat := 0
     let L := (pkg ({ run with fc.pulse := some { began := sec 1, releasing := true, source := 0 } })).seen .A 0
     decide (L.acts .core 3 = true ∧ x ≠ 32 ∧ L.fc.quiet.find? (fun c => c.1 == x) = none)) = true) ∧
    ((let L := (pkg ({ run with fc.pulse := some { began := sec 1, releasing := true, source := 0 } })).seen .A 0
     decide (L.acts .core 3 = true ∧ L.fc.wdrQuiet = none)) = true) ∧
    ((let L := (pkg ({ run with fc.wdrQuiet := some (sec 1 + 0) })).seen .A 0
     decide (L.acts .core 3 = true) && (
     (match L.fc.wdrQuiet with
     | some e =>
     decide (L.now / 8 ≤ e / 8)
     | _ => false))) = true) ∧
    ((let x : Nat := 0
     let L := (pkg ({ run with fc.quiet := [(0, sec 1 + 1)] })).seen .A 0
     decide (L.acts .core 3 = true ∧ x ≠ 32) && (
     (match L.fc.quiet.find? (fun c => c.1 == x) with
     | some c =>
     decide (L.now / 8 ≤ c.2 / 8)
     | _ => false))) = true) ∧
    ((let L := (pkg ({ run with fc.pulse := some { began := sec 1, releasing := true, source := 0 } })).seen .A 0
     decide (L.acts .core 3 = true) && (
     let M : Lane := { run.setFld F.FC_STATE (2^14) with fc.quiet := [], th.shutdown := true, th.read := [some 1300, none, none, none, none] }
     decide (M.srcBit F.FC_STATE 14 = true ∧ M.srcBit F.FC_LATCH 14 = false ∧ M.stillHot = true))) = true) ∧
    ((let L := (pkg ({ run with fc.pulse := some { began := sec 1, releasing := true, source := 0 } })).seen .A 0
     decide (L.acts .core 3 = true) && (
     let M : Lane := { run.setFld F.FC_STATE (2^14) with fc.quiet := [], th.shutdown := true, th.read := [some 1299, none, none, none, none] }
     decide (M.srcBit F.FC_STATE 14 = true ∧ M.srcBit F.FC_LATCH 14 = false ∧ M.stillHot = false ∧ M.fc.quiet.any (fun c => c.1 == 14) = false))) = true) ∧
    ((let L := (pkg ({ run with fc.pulse := some { began := sec 1, releasing := true, source := 0 } })).seen .A 0
     decide (L.acts .core 3 = true) && (
     let M : Lane :=
       { run.setFld F.FC_STATE (2^14) with fc.quiet := [(14, sec 1)], th.shutdown := true, th.read := [some 1299, none, none, none, none] }
     decide (M.srcBit F.FC_STATE 14 = true ∧ M.srcBit F.FC_LATCH 14 = false ∧ M.stillHot = false ∧ M.fc.quiet.any (fun c => c.1 == 14) = true))) = true) ∧
    ((let x : Nat := 4
     let L := (pkg ({ run with fc.quiet := [(4, sec 1 - 1)], fc.recov := [(4, List.replicate 20 (sec 1))] })).seen .A 0
     decide (L.acts .core 3 = true ∧ x < 32) && (
     (match L.fc.quiet.find? (fun c => c.1 == x) with
     | some c =>
     decide (c.2 / 8 < L.now / 8 ∧ (L.quietEnd x).2 = false)
     | _ => false))) = true) ∧
    ((let x : Nat := 4
     let L := (pkg ({ run with fc.quiet := [(4, sec 1 - 1)] })).seen .A 0
     decide (L.acts .core 3 = true ∧ x < 32) && (
     (match L.fc.quiet.find? (fun c => c.1 == x) with
     | some c =>
     decide (c.2 / 8 < L.now / 8 ∧ (L.quietEnd x).2 = true)
     | _ => false))) = true) ∧
    ((let L := (pkg ({ run.setFld F.FC_CFG_AUTORST 0 with fc.wdrQuiet := some (sec 1 - 1) })).seen .A 0
     decide (L.acts .core 3 = true) && (
     (match L.fc.wdrQuiet with
     | some e =>
     decide (e / 8 < L.now / 8 ∧ L.wdrEnd.2 = false)
     | _ => false))) = true) ∧
    ((let L := (pkg ({ run with fc.wdrQuiet := some (sec 1 - 1) })).seen .A 0
     decide (L.acts .core 3 = true) && (
     (match L.fc.wdrQuiet with
     | some e =>
     decide (e / 8 < L.now / 8 ∧ L.wdrEnd.2 = true)
     | _ => false))) = true) ∧
    ((let L := (pkg ({ run with fc.quiet := [(33, sec 1 - 1)], fc.recov := [(33, List.replicate 20 (sec 1))] })).seen .A 0
     decide (L.acts .core 3 = true) && (
     (match L.fc.quiet.find? (fun c => c.1 == 33) with
     | some c =>
     decide (c.2 / 8 < L.now / 8 ∧ L.bootEnd.2 = false)
     | _ => false))) = true) ∧
    ((let L := (pkg ({ run with fc.quiet := [(33, sec 1 - 1)] })).seen .A 0
     decide (L.acts .core 3 = true) && (
     (match L.fc.quiet.find? (fun c => c.1 == 33) with
     | some c =>
     decide (c.2 / 8 < L.now / 8 ∧ L.bootEnd.2 = true)
     | _ => false))) = true) := by decide +kernel

theorem witness_InjectionArming :
    ((let v : Word := 0
     let L := (pkg
       ({ run with lc.otp.lcs := .field, lc.overlay := some { began := sec 1, duration := sec 1, lanes := 7, vendor := false } })).seen .A 0
     decide (L.pairActs .core 3 = true ∧ F.FC_INJ_ARM.get v = 0)) = true) ∧
    ((let v : Word := 0xFFFFFFFF
     let L := (pkg
       ({ run with lc.otp.lcs := .field, lc.overlay := some { began := sec 1, duration := sec 1, lanes := 7, vendor := false } })).seen .A 0
     decide (L.pairActs .core 3 = true) && (
     let chk := F.FC_INJ_CHECKER.get v
     let M := ((L.setFld F.FC_INJ_CHECKER (if 17 < chk then L.fld F.FC_INJ_CHECKER else chk)).setFld F.FC_INJ_MODE (F.FC_INJ_MODE.get v)).setFld
       F.FC_INJ_COUNT (F.FC_INJ_COUNT.get v)
     decide (F.FC_INJ_ARM.get v ≠ 0 ∧ (17 < F.FC_INJ_CHECKER.get v ∨ M.injAllowed = false)))) = true) ∧
    ((let v : Word := F.FC_INJ_ARM.put 0 1
     let L := (pkg
       ({ run with lc.otp.lcs := .field, lc.overlay := some { began := sec 1, duration := sec 1, lanes := 7, vendor := false } })).seen .A 0
     decide (L.pairActs .core 3 = true) && (
     let chk := F.FC_INJ_CHECKER.get v
     let M := ((L.setFld F.FC_INJ_CHECKER (if 17 < chk then L.fld F.FC_INJ_CHECKER else chk)).setFld F.FC_INJ_MODE (F.FC_INJ_MODE.get v)).setFld
       F.FC_INJ_COUNT (F.FC_INJ_COUNT.get v)
     decide (F.FC_INJ_ARM.get v ≠ 0 ∧ F.FC_INJ_CHECKER.get v ≤ 17 ∧ M.injAllowed = true))) = true) ∧
    ((let v : Word := 0
     let L := (pkg
       ({ run with lc.otp.lcs := .field, lc.overlay := some { began := sec 1, duration := sec 1, lanes := 7, vendor := false } })).seen .A 0
     decide (L.pairActs .core 3 = true ∧ F.FC_XINJ_ARM.get v = 0)) = true) ∧
    ((let v : Word := 0xFFFFFFFF
     let L := (pkg ({ run with lc.otp.lcs := .blank })).seen .A 0
     decide (L.pairActs .core 3 = true) && (
     let M := ((((L.setFld F.FC_XINJ_ACTION (F.FC_XINJ_ACTION.get v)).setFld F.FC_XINJ_PORT (F.FC_XINJ_PORT.get v)).setFld F.FC_XINJ_CLASS
       (F.FC_XINJ_CLASS.get v)).setFld F.FC_XINJ_OFS (F.FC_XINJ_OFS.get v)).setFld F.FC_XINJ_COUNT (F.FC_XINJ_COUNT.get v)
     decide (F.FC_XINJ_ARM.get v ≠ 0 ∧ M.lc.state ≠ .service))) = true) ∧
    ((let v : Word := 0xFFFFFFFF
     let L := (pkg
       ({ run with lc.otp.lcs := .field, lc.overlay := some { began := sec 1, duration := sec 1, lanes := 7, vendor := false } })).seen .A 0
     decide (L.pairActs .core 3 = true) && (
     let M := ((((L.setFld F.FC_XINJ_ACTION (F.FC_XINJ_ACTION.get v)).setFld F.FC_XINJ_PORT (F.FC_XINJ_PORT.get v)).setFld F.FC_XINJ_CLASS
       (F.FC_XINJ_CLASS.get v)).setFld F.FC_XINJ_OFS (F.FC_XINJ_OFS.get v)).setFld F.FC_XINJ_COUNT (F.FC_XINJ_COUNT.get v)
     decide (F.FC_XINJ_ARM.get v ≠ 0 ∧ M.lc.state = .service))) = true) ∧
    ((let L := (pkg
       ({ run with lc.otp.lcs := .field, lc.overlay := some { began := sec 1, duration := sec 1, lanes := 7, vendor := false } })).seen .A 0
     decide (L.pairActs .core 3 = true ∧ L.lc.state ≠ .blank)) = true) ∧
    ((let L := (pkg ({ run with lc.otp.lcs := .blank })).seen .A 0
     decide (L.pairActs .core 3 = true ∧ L.lc.state = .blank)) = true) := by decide +kernel

theorem witness_HelmPairAndInterrupts :
    ((let L := (pkg ({ run with ic.halted := true })).seen .A 0
     decide (L.acts .core 0x20 = true ∧ L.pairRan = false)) = true) ∧
    ((let n : Nat := 1024
     let L := (pkg ({ (((run.setFld F.IC_SRC_LEVEL 3 0 112).setFld F.IC_CTRL_EN_H 1)) with ic.latched := 2 ^ 112 })).seen .A 0
     decide (L.acts .core 0x20 = true ∧ 1024 ≤ n ∧ L.pairRan = true)) = true) ∧
    ((let n : Nat := 112
     let L := (pkg ({ run with ic.halted := true })).seen .A 0
     decide (L.acts .core 0x20 = true ∧ (n < 1024 ∨ L.pairRan = false))) = true) ∧
    ((let L := (pkg ({ (((run.setFld F.IC_SRC_LEVEL 3 0 112).setFld F.IC_CTRL_EN_H 1)) with ic.latched := 2 ^ 112 })).seen .A 0
     decide (L.acts .core 0x20 = true ∧ L.ic.halted = false ∧ L.meip = true)) = true) ∧
    ((let L := (pkg ({ run with ic.halted := true })).seen .A 0
     decide (L.acts .core 0x20 = true ∧ (L.ic.halted = true ∨ L.meip = false))) = true) ∧
    ((let L := (pkg ({ run with ic.halted := true })).seen .A 0
     decide (L.ic.halted = true ∨ L.acts .core 0x20 = false)) = true) ∧
    ((let yard : Bool := true
     let L := (pkg ({ run with ic.halted := true })).seen .A 0
     decide (L.acts .core 22 = true ∧ (yard = true ∨ L.ic.halted = false) ∧ L.bestSrc yard = none)) = true) ∧
    ((let yard : Bool := false
     let L := (pkg
       ({ (((run.setFld F.IC_SRC_LEVEL 3 0 112).setFld F.IC_CTRL_EN_H 1)) with ic.latched := 2 ^ 112, ic.stack := [1, 2, 3, 4, 5, 6, 7], ic.yStack := [1] })).seen
       .A 0
     decide (L.acts .core 22 = true ∧ (yard = true ∨ L.ic.halted = false)) && (
     (match L.bestSrc yard with
     | some _n =>
     decide (7 ≤ (L.thrStack yard).length)
     | _ => false))) = true) ∧
    ((let yard : Bool := false
     let L := (pkg ({ (((run.setFld F.IC_SRC_LEVEL 3 0 112).setFld F.IC_CTRL_EN_H 1)) with ic.latched := 2 ^ 112 })).seen .A 0
     decide (L.acts .core 22 = true ∧ (yard = true ∨ L.ic.halted = false)) && (
     (match L.bestSrc yard with
     | some _n =>
     decide ((L.thrStack yard).length < 7)
     | _ => false))) = true) ∧
    ((let yard : Bool := true
     let L := (pkg ({ run with ic.halted := true })).seen .A 0
     decide (L.acts .core 22 = true ∧ (yard = true ∨ L.ic.halted = false)) && (
     let n : Nat := 112
     decide (n ∉ L.ic.active ∨ L.srcTarget n ≠ yard))) = true) ∧
    ((let yard : Bool := false
     let L := (pkg ({ run with ic.active := [112] })).seen .A 0
     decide (L.acts .core 22 = true ∧ (yard = true ∨ L.ic.halted = false)) && (
     let n : Nat := 112
     decide (n ∈ L.ic.active ∧ L.srcTarget n = yard ∧ n ≠ 115) && (
     let again := bit (L.setNow (F.IC_PEND.addr 0 (n / 32))) (n % 32)
     let M : Lane := { L with ic := { L.ic with active := L.ic.active.filter (fun x => x != n), latched := putBit L.ic.latched n again } }
     decide (M.thrStack yard = [])))) = true) ∧
    ((let yard : Bool := false
     let L := (pkg ({ run with ic.active := [112], ic.stack := [1], ic.yStack := [1] })).seen .A 0
     decide (L.acts .core 22 = true ∧ (yard = true ∨ L.ic.halted = false)) && (
     let n : Nat := 112
     decide (n ∈ L.ic.active ∧ L.srcTarget n = yard ∧ n ≠ 115) && (
     let again := bit (L.setNow (F.IC_PEND.addr 0 (n / 32))) (n % 32)
     let M : Lane := { L with ic := { L.ic with active := L.ic.active.filter (fun x => x != n), latched := putBit L.ic.latched n again } }
     (match M.thrStack yard with
     | _x :: _st =>
     true
     | _ => false)))) = true) ∧
    ((let yard : Bool := false
     let L := (pkg ({ run with ic.active := [115] })).seen .A 0
     decide (L.acts .core 22 = true ∧ (yard = true ∨ L.ic.halted = false) ∧ 115 ∈ L.ic.active ∧ L.srcTarget 115 = yard ∧ L.thrStack yard = [] ∧
       bit (L.setNow (F.IC_PEND.addr 0 3)) 19 = false)) = true) ∧
    ((let L := (pkg ({ run with ic.halted := true })).seen .A 0
     decide (L.acts .core 22 = true ∧ L.ic.halted = true)) = true) ∧
    ((let L := (pkg ({ (((run.setFld F.IC_SRC_LEVEL 3 0 112).setFld F.IC_CTRL_EN_H 1)) with ic.latched := 2 ^ 112 })).seen .A 0
     decide (L.pairActs .core 0x20 = true)) = true) := by decide +kernel

theorem witness_YardCoreAndDoorbells :
    ((let n : Nat := 0
     let L := (pkg (run.setFld F.IC_YARD_YRUN 1)).seen .A 0
     decide (L.pairActs .core 0x20 = true ∧ n % 2 ^ 24 = 0)) = true) ∧
    ((let n : Nat := 1
     let L := (pkg (run.setFld F.IC_YARD_YRUN 1)).seen .A 0
     decide (L.pairActs .core 0x20 = true ∧ n % 2 ^ 24 ≠ 0)) = true) ∧
    ((let L := (pkg (run.setFld F.IC_YARD_YRUN 1)).seen .A 0
     decide (L.acts .core 0x20 = true ∧ L.ic.budgetEnd = none)) = true) ∧
    ((let L := (pkg ({ run with ic.budgetEnd := some (sec 1 + 1), ic.appBudget := true, ic.window := true })).seen .A 0
     decide (L.acts .core 0x20 = true) && (
     (match L.ic.budgetEnd with
     | some d =>
     decide (L.now < d)
     | _ => false))) = true) ∧
    ((let L := (pkg ({ run with ic.budgetEnd := some (sec 1), ic.appBudget := false, ic.window := true })).seen .A 0
     decide (L.acts .core 0x20 = true) && (
     (match L.ic.budgetEnd with
     | some d =>
     decide (d ≤ L.now ∧ (L.ic.appBudget = false ∨ (L.ic.window = false ∧ L.ic.init = false)))
     | _ => false))) = true) ∧
    ((let L := (pkg ({ run with ic.budgetEnd := some (sec 1), ic.appBudget := true, ic.window := true })).seen .A 0
     decide (L.acts .core 0x20 = true) && (
     (match L.ic.budgetEnd with
     | some d =>
     decide (d ≤ L.now ∧ L.ic.appBudget = true ∧ (L.ic.window = true ∨ L.ic.init = true))
     | _ => false))) = true) ∧
    ((let L := (pkg (run.setFld F.IC_YARD_YRUN 1)).seen .A 0
     decide (L.pairActs .core 22 = true)) = true) ∧
    ((let L := (pkg ({ run with ic.budgetEnd := some (sec 1 + 1), ic.appBudget := true, ic.window := true })).seen .A 0
     decide (L.acts .core 0x21 = true ∧ L.yardRuns = false)) = true) ∧
    ((let L := (pkg (run.setFld F.IC_YARD_YRUN 1)).seen .A 0
     decide (L.acts .core 0x21 = true) && (
     let a : Nat := 0x24000000
     let w : Bool := true
     decide (L.yardRuns = false ∨ yardMay a w = true))) = true) ∧
    ((let L := (pkg (run.setFld F.IC_YARD_YRUN 1)).seen .A 0
     decide (L.acts .core 0x21 = true) && (
     let a : Nat := 0
     let w : Bool := true
     decide (L.yardRuns = true ∧ yardMay a w = false))) = true) ∧
    ((let L := (pkg (run.setFld F.IC_YARD_YRUN 1)).seen .A 0
     decide (L.acts .core 0x21 = true ∧ (L.ic.refused.filter (fun x => decide (L.now < x + ms 1))).length < 1000)) = true) ∧
    ((let L := (pkg ({ run with ic.refused := List.replicate 1000 (sec 1) })).seen .A 0
     decide (L.acts .core 0x21 = true ∧ 1000 ≤ (L.ic.refused.filter (fun x => decide (L.now < x + ms 1))).length)) = true) := by decide +kernel

theorem witness_ApplicationCalls :
    ((let L := (pkg run).seen .A 0
     decide (L.acts .core 0x20 = true ∧ L.runtime = true ∧ L.appRuns = false)) = true) ∧
    ((let L := (pkg ({ run with ic.app := some (0xFFFF, 0xFFFFFFFF), ic.window := true, ic.logCalls := 4 })).seen .A 0
     decide (L.acts .core 0x20 = true ∧ L.runtime = true ∧ L.appRuns = true ∧ 4 ≤ L.ic.logCalls)) = true) ∧
    ((let L := (pkg ({ run with ic.app := some (0xFFFF, 0xFFFFFFFF), ic.window := true })).seen .A 0
     decide (L.acts .core 0x20 = true ∧ L.runtime = true ∧ L.appRuns = true ∧ L.ic.logCalls < 4)) = true) ∧
    ((let L := (pkg ({ run with ic.app := some (0, 0), ic.window := true })).seen .A 0
     decide (L.acts .core 0x20 = true ∧ L.runtime = true ∧ L.appRuns = true ∧ bit ((L.ic.app.getD (0, 0)).2) 0 = false)) = true) ∧
    ((let L := (pkg ({ run with ic.app := some (0xFFFF, 0xFFFFFFFF), ic.window := true })).seen .A 0
     decide (L.acts .core 0x20 = true ∧ L.runtime = true ∧ L.appRuns = true) && (
     let b : Nat := 22
     let i : Nat := 63
     decide (bit ((L.ic.app.getD (0, 0)).2) 0 = true ∧ b ≤ 22 ∧ i < 64))) = true) ∧
    ((let L := (pkg ({ run with ic.app := some (0xFFFF, 0xFFFFFFFF), ic.window := true })).seen .A 0
     decide (L.acts .core 0x20 = true ∧ L.runtime = true ∧ L.appRuns = true) && (
     let a : Nat := 0
     let n : Nat := 0
     decide (L.ic.mail = true ∨ n = 0 ∨ 256 < n ∨ a < 0x202E0000 ∨ 0x20300000 < a + n))) = true) ∧
    ((let L := (pkg ({ run with ic.app := some (0xFFFF, 0xFFFFFFFF), ic.window := true })).seen .A 0
     decide (L.acts .core 0x20 = true ∧ L.runtime = true ∧ L.appRuns = true) && (
     let a : Nat := 0x202E0000
     let n : Nat := 1
     decide (L.ic.mail = false ∧ 0 < n ∧ n ≤ 256 ∧ 0x202E0000 ≤ a ∧ a + n ≤ 0x20300000))) = true) ∧
    ((let L := (pkg ({ run with ic.app := some (0xFFFF, 0xFFFFFFFF), ic.init := true })).seen .A 0
     decide (L.acts .core 0x20 = true ∧ L.runtime = true ∧ L.appRuns = true ∧ L.ic.init = true)) = true) ∧
    ((let L := (pkg (({ run with ic.app := some (0xFFFF, 0), ic.window := true }).setMemWord 0x202DF800 0x7F800000)).seen .A 0
     decide (L.acts .core 0x20 = true ∧ L.runtime = true ∧ L.appRuns = true ∧ L.ic.init = false ∧ (List.range 16).any (fun n => L.owned n &&
       !(f32finite (L.outWord (8 * n)))) = true)) = true) ∧
    ((let L := (pkg ({ run with ic.app := some (0xFFFF, 0xFFFFFFFF), ic.window := true })).seen .A 0
     decide (L.acts .core 0x20 = true ∧ L.runtime = true ∧ L.appRuns = true ∧ L.ic.init = false ∧ (List.range 16).any (fun n => L.owned n &&
       !(f32finite (L.outWord (8 * n)))) = false) && (
     let A : Lane := { L with ic := { L.ic with window := false, abortRun := 0, budgetEnd := none, appBudget := false } }
     let B : Lane := { A with ky := { A.ky with own := A.appSetpoints } }
     let C := (B.setFld F.EG_VOTE_OWN_VOTE (if B.ky.state = .service then B.ky.own.release else 0)).sendSetpoints
     decide (C.ky.holder ≠ some C.id))) = true) ∧
    ((let L := (pkg ({ svc with ic.app := some (0, 0), ic.window := true, ky.holder := some .A })).seen .A 0
     decide (L.acts .core 0x20 = true ∧ L.runtime = true ∧ L.appRuns = true ∧ L.ic.init = false ∧ (List.range 16).any (fun n => L.owned n &&
       !(f32finite (L.outWord (8 * n)))) = false) && (
     let A : Lane := { L with ic := { L.ic with window := false, abortRun := 0, budgetEnd := none, appBudget := false } }
     let B : Lane := { A with ky := { A.ky with own := A.appSetpoints } }
     let C := (B.setFld F.EG_VOTE_OWN_VOTE (if B.ky.state = .service then B.ky.own.release else 0)).sendSetpoints
     let ws := (List.range 64).map (fun i => C.outWord (0x80 + 4 * i))
     let D := C.setWords F.KY_SHELF_OUT 0xC0 ws
     decide (C.ky.holder = some C.id ∧ D.out.shelf = none))) = true) ∧
    ((let L := (pkg
       ({ svc with ic.app := some (0, 0), ic.window := true, ky.holder := some .A, out.shelf := some { tick := 0, epoch := 5, count := 0, words := [] } })).seen
       .A 0
     decide (L.acts .core 0x20 = true ∧ L.runtime = true ∧ L.appRuns = true ∧ L.ic.init = false ∧ (List.range 16).any (fun n => L.owned n &&
       !(f32finite (L.outWord (8 * n)))) = false) && (
     let A : Lane := { L with ic := { L.ic with window := false, abortRun := 0, budgetEnd := none, appBudget := false } }
     let B : Lane := { A with ky := { A.ky with own := A.appSetpoints } }
     let C := (B.setFld F.EG_VOTE_OWN_VOTE (if B.ky.state = .service then B.ky.own.release else 0)).sendSetpoints
     let ws := (List.range 64).map (fun i => C.outWord (0x80 + 4 * i))
     let D := C.setWords F.KY_SHELF_OUT 0xC0 ws
     decide (C.ky.holder = some C.id) && (
     (match D.out.shelf with
     | some _f =>
     true
     | _ => false)))) = true) := by decide +kernel

theorem witness_SelfTestRunsAndSlices :
    ((let L := (pkg ({ run with cx := { run.cx with n := { run.cx.n with up := true } } })).seen .A 0
     decide (L.acts .core 4 = true ∧ L.ky.state = .booting ∧ L.lc.booted = true ∧ L.ic.halted = false ∧ L.hears = true ∧ L.st.prog = .idle ∧
       L.st.passed = false)) = true) ∧
    ((let L := (pkg ({ bench with lc.otp.lcs := .blank })).seen .A 0
     decide (L.acts .core 4 = true ∧ L.ky.state ≠ .booting)) = true) ∧
    ((let L := (pkg ({ bench with lc.otp.lcs := .blank })).seen .A 0
     decide (L.acts .core 4 = true ∧ L.startUpRun.skipContinuous.st.todo = [])) = true) ∧
    ((let L := (pkg ({ run with st.prog := .direct, st.slice := none, st.todo := [0, 1], st.holds := true, ky.boundary := sec 1 })).seen .A 0
     decide (L.acts .core 4 = true) && (
     let n : Nat := 1
     let M := L.startUpRun.skipContinuous
     (match M.st.todo with
     | u :: _us_ =>
     decide (M.st.holds = true ∧ M.st.slice = none ∧ M.st.prog ≠ .idle ∧ M.ky.state ≠ .withdrawn ∧ M.ky.state ≠ .off ∧ 0 < n ∧ n ≤ 50 ∧ M.now + us
       (n + 3) ≤ M.ky.boundary + us 50 ∧ M.powered (unitDomain u) = true ∧ M.gapFree u n = true)
     | _ => false))) = true) ∧
    ((let L := (pkg
       ({ (({ run with st.prog := .startUp, st.slice := none, st.todo := [2, 1], st.holds := true, ky.boundary := sec 1 }).setFld F.IC_YARD_YRUN 1) with oc.on := true })).seen
       .A 0
     decide (L.acts .core 4 = true) && (
     let n : Nat := 1
     let M := L.startUpRun.skipContinuous
     (match M.st.todo with
     | u :: _us_ =>
     decide (M.st.holds = true ∧ M.st.slice = none ∧ M.st.prog ≠ .idle ∧ M.ky.state ≠ .withdrawn ∧ M.ky.state ≠ .off ∧ 0 < n ∧ n ≤ 50 ∧ M.now + us
       (n + 3) ≤ M.ky.boundary + us 50 ∧ (M.powered (unitDomain u) = false ∨ M.gapFree u n = false))
     | _ => false))) = true) ∧
    ((let L := (pkg ({ bench with lc.otp.lcs := .blank })).seen .A 0
     decide (L.acts .core 4 = true ∧ L.pairActs .core 4 = true ∧ L.ky.state = .bench ∧ L.st.prog = .idle)) = true) ∧
    ((let L := (pkg ({ run with st.prog := .direct, st.slice := none, st.todo := [0, 1], st.holds := true, ky.boundary := sec 1 })).seen .A 0
     decide (L.acts .core 4 = true ∧ L.pairActs .core 4 = true ∧ (L.ky.state ≠ .bench ∨ L.st.prog ≠ .idle))) = true) ∧
    ((let L := (pkg
       ({ run with st.prog := .direct, st.slice := some { unit := 0, began := sec 1, len := 10, group := 0, inputs := none, copy := false }, st.todo := [0, 1], st.holds := true, ky.boundary := sec 1 })).seen
       .A 0
     decide (L.acts .core 4 = true ∧ L.pairActs .core 4 = true ∧ L.st.prog ≠ .idle ∧ L.st.slice.isSome = true)) = true) ∧
    ((let L := (pkg ({ run with st.prog := .direct, st.slice := none, st.todo := [0, 1], st.holds := true, ky.boundary := sec 1 })).seen .A 0
     decide (L.acts .core 4 = true ∧ L.pairActs .core 4 = true ∧ L.st.prog ≠ .idle ∧ L.st.slice = none)) = true) ∧
    ((let L := (pkg ({ ({ bench with lc.otp.lcs := .blank }).setFld F.ST_CTRL_DIRECT 1 with st.prog := .deep })).seen .A 0
     decide (L.acts .core 4 = true ∧ L.pairActs .core 4 = true ∧ L.st.prog ≠ .idle ∧ L.directAllowed = true ∧ L.flag F.ST_CTRL_DIRECT = true)) = true) ∧
    ((let L := (pkg ({ run with st.prog := .direct, st.slice := none, st.todo := [0, 1], st.holds := true, ky.boundary := sec 1 })).seen .A 0
     decide (L.acts .core 4 = true ∧ L.pairActs .core 4 = true ∧ (L.directAllowed = false ∨ L.flag F.ST_CTRL_DIRECT = false))) = true) ∧
    ((let L := (pkg ((({ bench with lc.otp.lcs := .blank }).setFld F.ST_CTRL_DIRECT 1).setWord F.ST_SELECT_LO 1)).seen .A 0
     decide (L.acts .core 4 = true ∧ L.pairActs .core 4 = true ∧ L.directAllowed = true ∧ L.flag F.ST_CTRL_DIRECT = true ∧ L.st.prog = .idle) && (
     (match (List.range 51).find? (fun u => bit L.selected u) with
     | some _u =>
     true
     | _ => false))) = true) ∧
    ((let L := (pkg ({ run with st.prog := .direct, st.slice := none, st.todo := [0, 1], st.holds := true, ky.boundary := sec 1 })).seen .A 0
     decide (L.acts .core 4 = true ∧ (L.flag F.ST_CTRL_PERIODIC = false ∨ L.inSvcShadow = false ∨ L.now < L.st.cycleAt + sec L.st.cycleLen))) = true) ∧
    ((let L := (pkg ({ (svc.setFld F.ST_CTRL_PERIODIC 1) with now := sec 20 })).seen .A 0
     decide (L.acts .core 4 = true ∧ L.flag F.ST_CTRL_PERIODIC = true ∧ L.inSvcShadow = true ∧ L.st.cycleAt + sec L.st.cycleLen ≤ L.now ∧
       L.st.prog = .idle)) = true) ∧
    ((let L := (pkg ({ (svc.setFld F.ST_CTRL_PERIODIC 1) with now := sec 20, st.prog := .periodic })).seen .A 0
     decide (L.acts .core 4 = true ∧ L.flag F.ST_CTRL_PERIODIC = true ∧ L.inSvcShadow = true ∧ L.st.cycleAt + sec L.st.cycleLen ≤ L.now ∧
       L.st.prog = .periodic)) = true) ∧
    ((let L := (pkg ({ run with st.prog := .direct, st.slice := none, st.todo := [0, 1], st.holds := true, ky.boundary := sec 1 })).seen .A 0
     decide (L.acts .core 4 = true ∧ (L.st.holds = true ∨ L.ky.state = .off ∨ L.now < L.st.lastPass + ms 1 ∨ L.tokenMaker = false ∨ (L.ky.state ≠
       .service ∧ L.hears = false)))) = true) ∧
    ((let L := (pkg ({ (svc.setFld F.ST_CTRL_PERIODIC 1) with now := sec 20 })).seen .A 0
     decide (L.acts .core 4 = true ∧ L.st.holds = false ∧ (L.ky.state = .service ∨ (L.ky.state ≠ .off ∧ L.hears = true)) ∧ L.st.lastPass + ms 1 ≤
       L.now ∧ L.tokenMaker = true)) = true) ∧
    ((let L := (pkg
       ({ run with st.prog := .direct, st.slice := some { unit := 0, began := sec 1, len := 10, group := 0, inputs := none, copy := false }, st.todo := [0, 1], st.holds := true, ky.boundary := sec 1 })).seen
       .A 0
     decide (L.acts .core 4 = true) && (
     (match L.st.slice with
     | some x =>
     decide (L.now < x.began + us x.len)
     | _ => false))) = true) ∧
    ((let L := (pkg
       ({ run with st.prog := .direct, st.slice := some { unit := 3, began := sec 1 - us 10, len := 10, group := 3, inputs := none, copy := true }, st.todo := [3, 1], st.holds := true, ky.boundary := sec 1 })).seen
       .A 0
     decide (L.acts .core 4 = true) && (
     (match L.st.slice with
     | some x =>
     decide (x.began + us x.len ≤ L.now ∧ signatureUnit x.unit = true ∧ L.st.prog = .direct ∧ L.st.abortReq = false)
     | _ => false))) = true) ∧
    ((let L := (pkg
       ({ run with st.prog := .direct, st.slice := some { unit := 0, began := sec 1 - us 10, len := 10, group := 0, inputs := none, copy := false }, st.todo := [0, 1], st.holds := true, ky.boundary := sec 1 })).seen
       .A 0
     decide (L.acts .core 4 = true) && (
     (match L.st.slice with
     | some x =>
     decide (x.began + us x.len ≤ L.now ∧ signatureUnit x.unit = false ∧ L.st.prog = .direct ∧ L.st.abortReq = false) && (
     let A := L.tally 4 0
     let B (spent : Nat) (todo : List Nat) : Lane := { A with st := { A.st with slice := none, spent := spent, todo := todo } }
     let C := (B (L.st.spent + x.len) A.st.todo).setWord F.ST_DUR (BitVec.ofNat 32 (L.st.spent + x.len)) 0 x.unit
     decide (C.st.prog = .direct ∧ C.st.abortReq = false))
     | _ => false))) = true) ∧
    ((let L := (pkg
       ({ run with st.prog := .direct, st.slice := some { unit := 0, began := sec 1 - us 10, len := 10, group := 0, inputs := none, copy := false }, st.todo := [0, 1], st.holds := true, ky.boundary := sec 1 })).seen
       .A 0
     decide (L.acts .core 4 = true) && (
     (match L.st.slice with
     | some x =>
     decide (x.began + us x.len ≤ L.now ∧ signatureUnit x.unit = false ∧ L.st.prog = .direct ∧ L.st.abortReq = false) && (
     let A := L.tally 4 0
     let B (spent : Nat) (todo : List Nat) : Lane := { A with st := { A.st with slice := none, spent := spent, todo := todo } }
     let D := ((B 0 (A.st.todo.drop 1)).unitResult x.unit 1 ((B 0 (A.st.todo.drop 1)).covOf x.unit) (L.st.spent + x.len)).when ((B 0
       (A.st.todo.drop 1)).st.prog != .startUp) (·.setFailed x.unit false)
     decide (D.st.prog = .direct ∧ D.st.abortReq = false))
     | _ => false))) = true) := by decide +kernel

theorem witness_SleepIsPreparedInBench :
    ((let L := (pkg ({ bench with pm.phase := .prepare })).seen .A 0
     decide (L.pairActs .core 1 = true ∧ (L.pm.level = .awake ∨ L.pm.level = .doze) ∧ L.ky.state = .bench)) = true) ∧
    ((let L := (pkg up).seen .A 0
     decide (L.pairActs .core 1 = true ∧ (L.pm.level = .awake ∨ L.pm.level = .doze) ∧ L.ky.state ≠ .bench)) = true) ∧
    ((let L := (pkg ({ bench with pm.level := .entering })).seen .A 0
     decide (L.pairActs .core 1 = true ∧ L.pm.level ≠ .awake ∧ L.pm.level ≠ .doze)) = true) ∧
    ((let L := (pkg ({ bench with pm.level := .hold })).seen .A 0
     decide (L.pm.phase ≠ .prepare)) = true) ∧
    ((let L := (pkg ({ bench with pm.phase := .prepare, pm.wakes := 1 })).seen .A 0
     decide (L.pm.phase = .prepare ∧ L.wakeActive = true)) = true) ∧
    ((let L := (pkg ({ bench with pm.phase := .prepare, pm.ask := [20] })).seen .A 0
     decide (L.pm.phase = .prepare) && (
     let k : Bool := true
     decide (L.wakeActive = false) && (
     (match L.pm.ask with
     | b :: _r =>
     decide ((b ≠ 4 ∨ L.st.slice = none) ∧ L.refusal b k ≠ 0)
     | _ => false)))) = true) ∧
    ((let L := (pkg ({ bench with pm.phase := .prepare, pm.ask := [7, 10] })).seen .A 0
     decide (L.pm.phase = .prepare) && (
     let k : Bool := true
     decide (L.wakeActive = false) && (
     (match L.pm.ask with
     | b :: r =>
     decide ((b ≠ 4 ∨ L.st.slice = none) ∧ L.refusal b k = 0 ∧ r ≠ [])
     | _ => false)))) = true) ∧
    ((let L := (pkg ({ bench with pm.phase := .prepare, pm.ask := [7] })).seen .A 0
     decide (L.pm.phase = .prepare) && (
     let k : Bool := true
     decide (L.wakeActive = false) && (
     (match L.pm.ask with
     | b :: r =>
     decide ((b ≠ 4 ∨ L.st.slice = none) ∧ L.refusal b k = 0 ∧ r = [])
     | _ => false)))) = true) ∧
    ((let L := (pkg ({ bench with pm.phase := .prepare, pm.askedAt := sec 1 - us 100 + 1 })).seen .A 0
     decide (L.pm.phase = .prepare ∧ L.now < L.pm.askedAt + us 100)) = true) ∧
    ((let L := (pkg ({ bench with pm.phase := .prepare })).seen .A 0
     decide (L.pm.phase = .prepare ∧ L.pm.askedAt + us 100 ≤ L.now)) = true) ∧
    ((let L := (pkg ({ bench with pm.level := .hold })).seen .A 0
     decide (L.pm.phase ≠ .drain)) = true) ∧
    ((let L := (pkg ({ bench with pm.phase := .drain, pm.level := .entering, pm.phaseAt := sec 1 - us 0 })).seen .A 0
     let xs : List Nat := [7]
     decide (L.pm.phase = .drain ∧ xs ≠ [] ∧ L.now < L.pm.phaseAt + us 50)) = true) ∧
    ((let L := (pkg ({ bench with pm.phase := .drain, pm.level := .entering })).seen .A 0
     let xs : List Nat := [7]
     decide (L.pm.phase = .drain ∧ xs ≠ [] ∧ L.pm.phaseAt + us 50 ≤ L.now)) = true) := by decide +kernel

theorem witness_SaveWakeAndStandby :
    ((let L := (pkg ({ bench with pm.phase := .window, pm.phaseAt := sec 1 - ns 5500 })).seen .A 0
     decide (L.pm.phase ≠ .save)) = true) ∧
    ((let L := (pkg ({ bench with pm.phase := .save, pm.level := .entering })).seen .A 0
     decide (L.pm.phase = .save)) = true) ∧
    ((let L := (pkg ({ bench with pm.phase := .save, pm.level := .entering })).seen .A 0
     decide (L.pm.phase ≠ .window ∨ L.now < L.pm.phaseAt + ns 5500)) = true) ∧
    ((let L := (pkg ({ bench with pm.phase := .window, pm.phaseAt := sec 1 - ns 5500 })).seen .A 0
     decide (L.pm.phase = .window ∧ L.pm.phaseAt + ns 5500 ≤ L.now) && (
     let A : Lane :=
       { L with pm := { L.pm with level := if L.pm.cellar then .cellar else .hold, phase := .none, entered := L.now, ask := [], acked := [] } }
     let B := A.tally 1 (if A.pm.cellar then 2 else 1)
     decide (B.pm.wakes = 0))) = true) ∧
    ((let L := (pkg ({ bench with pm.phase := .window, pm.phaseAt := sec 1 - ns 5500, pm.wakes := 1 })).seen .A 0
     decide (L.pm.phase = .window ∧ L.pm.phaseAt + ns 5500 ≤ L.now) && (
     let A : Lane :=
       { L with pm := { L.pm with level := if L.pm.cellar then .cellar else .hold, phase := .none, entered := L.now, ask := [], acked := [] } }
     let B := A.tally 1 (if A.pm.cellar then 2 else 1)
     decide (B.pm.wakes ≠ 0))) = true) ∧
    ((let L := (pkg
       ({ (bench.setFld F.PM_WAKE_INPUT 0xFFFF) with pm.phase := .prepare, pm.level := .entering, pm.inHigh := List.replicate 16 (some 0) })).seen
       .A 0
     let i : Nat := 15
     decide (i < 16 ∧ bit (L.fld F.PM_WAKE_INPUT) i = true ∧ L.inputStands i = true ∧ L.pm.phase = .prepare)) = true) ∧
    ((let L := (pkg
       ({ (bench.setFld F.PM_WAKE_INPUT 0xFFFF) with pm.phase := .none, pm.level := .hold, pm.inHigh := List.replicate 16 (some 0) })).seen .A 0
     let asleep : Prop := L.pm.level = .hold ∨ L.pm.level = .cellar
     let i : Nat := 15
     decide (i < 16 ∧ bit (L.fld F.PM_WAKE_INPUT) i = true ∧ L.inputStands i = true ∧ L.pm.phase = .none ∧ asleep)) = true) ∧
    ((let L := (pkg
       ({ (bench.setFld F.PM_WAKE_INPUT 0xFFFF) with pm.phase := .none, pm.level := .awake, pm.inHigh := List.replicate 16 (some 0) })).seen .A 0
     let i : Nat := 15
     decide (i < 16 ∧ bit (L.fld F.PM_WAKE_INPUT) i = true ∧ L.inputStands i = true ∧ L.pm.phase = .none ∧ (L.pm.level = .awake ∨ L.pm.level =
       .doze))) = true) ∧
    ((let L := (pkg ({ bench with pm.phase := .save, pm.level := .entering })).seen .A 0
     let i : Nat := 15
     decide (i < 16 ∧ (bit (L.fld F.PM_WAKE_INPUT) i = false ∨ L.inputStands i = false))) = true) ∧
    ((let i : Nat := 16
     decide (i = 16 ∨ i = 17 ∨ (18 < i ∧ i < 32))) = true) ∧
    ((let L := (pkg ({ bench with pm.phase := .save, pm.level := .entering })).seen .A 0
     decide (L.flag F.PM_WAKE_SUPPLY = false ∨ L.asleep = false ∨ L.supplyBack = false)) = true) ∧
    ((let L := (pkg ({ (run.setFld F.PM_WAKE_SUPPLY 1) with pm.level := .hold, pm.vin := 900, pm.vinLow := some 0, pm.vinBack := false })).seen .A
       0
     let asleep : Prop := L.pm.level = .hold ∨ L.pm.level = .cellar
     decide (L.flag F.PM_WAKE_SUPPLY = true ∧ L.supplyBack = true ∧ L.pm.phase = .none ∧ asleep)) = true) ∧
    ((let L := (pkg ({ bench with pm.phase := .save, pm.level := .entering })).seen .A 0
     let v : Nat := 0
     let M := L.seeSupply v
     decide (M.flag F.PM_WAKE_SUPPLY = false ∨ M.asleep = false ∨ M.supplyBack = false)) = true) ∧
    ((let L := (pkg ({ (run.setFld F.PM_WAKE_SUPPLY 1) with pm.level := .hold, pm.vin := 0, pm.vinLow := some 0, pm.vinBack := false })).seen .A 0
     let asleep : Prop := L.pm.level = .hold ∨ L.pm.level = .cellar
     let v : Nat := 900
     let M := L.seeSupply v
     decide (M.flag F.PM_WAKE_SUPPLY = true ∧ M.supplyBack = true ∧ L.pm.phase = .none ∧ asleep)) = true) ∧
    ((let L := (pkg ({ bench with pm.phase := .save, pm.level := .entering })).seen .A 0
     decide ((L.word F.PM_TIMER).toNat = 0)) = true) ∧
    ((let L := (pkg ({ (bench.setWord F.PM_TIMER 1) with pm.phase := .none, pm.level := .hold })).seen .A 0
     let asleep : Prop := L.pm.level = .hold ∨ L.pm.level = .cellar
     decide ((L.word F.PM_TIMER).toNat ≠ 0 ∧ L.pm.phase = .none ∧ asleep ∧ L.pm.entered + L.cellarTime (ms (L.word F.PM_TIMER).toNat) ≤ L.now)) = true) ∧
    ((let L := (pkg ({ bench with pm.phase := .save, pm.level := .entering })).seen .A 0
     decide (L.pm.level ≠ .waking)) = true) ∧
    ((let L := (pkg ({ bench with pm.level := .waking })).seen .A 0
     decide (L.pm.level = .waking)) = true) ∧
    ((let L := (pkg ({ run with pm.pads := 2 })).seen .A 0
     decide (L.padsHeld .drive = true)) = true) ∧
    ((let L := (pkg ({ run with pm.pads := 8 })).seen .A 0
     decide (L.padsHeld .field = true)) = true) ∧
    ((let L := (pkg ({ run with pm.pads := 4 })).seen .A 0
     decide (L.padsHeld .link = true)) = true) ∧
    ((let L := (pkg ({ bench with pm.phase := .save, pm.level := .entering })).seen .A 0
     let a : Nat := 0
     decide (L.flag F.SB_CFG_ENABLE = false ∨ L.sbParam = true ∨ a ≠ L.fld F.SB_CFG_ADDR)) = true) ∧
    ((let L := (pkg ({ ((bench.setFld F.SB_CFG_ENABLE 1).setFld F.SB_CFG_ADDR 0x08) with pm.phase := .window, pm.level := .entering })).seen .A 0
     decide (L.flag F.SB_CFG_ENABLE = true ∧ L.sbParam = false ∧ L.pm.phase = .window)) = true) ∧
    ((let L := (pkg ({ ((bench.setFld F.SB_CFG_ENABLE 1).setFld F.SB_CFG_ADDR 0x08) with pm.phase := .prepare, pm.level := .entering })).seen .A 0
     decide (L.flag F.SB_CFG_ENABLE = true ∧ L.sbParam = false ∧ L.pm.phase ≠ .window)) = true) ∧
    ((let L := (pkg ({ bench with pm.phase := .save, pm.level := .entering })).seen .A 0
     decide (L.flag F.SB_CFG_ENABLE = false ∨ L.sbParam = true ∨ L.pm.phase = .window)) = true) ∧
    ((let L := (pkg ({ bench with pm.level := .hold })).seen .A 0
     decide (L.pm.level = .hold ∨ L.pm.level = .cellar)) = true) ∧
    ((let L := (pkg ({ bench with pm.phase := .save, pm.level := .entering })).seen .A 0
     decide (L.pm.level ≠ .hold ∧ L.pm.level ≠ .cellar)) = true) ∧
    ((let L := (pkg ({ run with th.read := [some 1299, none, none, none, none] })).seen .A 0
     decide (L.pairActs .core 2 = true) && (
     (match L.tj with
     | some x =>
     decide (x < 1300 ∧ L.setNow (F.TH_STATUS_SHUT_FLAG.addr 0 0) = 0)
     | _ => false))) = true) ∧
    ((let L := (pkg ({ run with marks := [(sec 1, F.TH_STATUS_SHUT_FLAG.addr 0 0, 0x80000000)] })).seen .A 0
     decide (L.pairActs .core 2 = true ∧ L.setNow (F.TH_STATUS_SHUT_FLAG.addr 0 0) ≠ 0)) = true) ∧
    ((let L := (pkg ({ run with th.read := [some 1300, none, none, none, none] })).seen .A 0
     decide (L.pairActs .core 2 = true) && (
     (match L.tj with
     | some x =>
     decide (1300 ≤ x)
     | _ => false))) = true) ∧
    ((let L := (pkg ({ bench with pm.phase := .save, pm.level := .entering })).seen .A 0
     decide (L.pairActs .core 2 = true ∧ L.tj = none)) = true) := by decide +kernel

theorem witness_TalliesAtticAndCoreCounters :
    ((let L := (pkg ({ run with tl.windowAt := sec 1 - us 50 * 2000 + 1 })).seen .A 0
     let since := (L.ky.tick + 2 ^ 32 - L.tl.windowAt) % 2 ^ 32
     decide (L.acts .core 5 = true ∧ (L.nowCycle L.ky.boundary = false ∨ since < L.tl.windowLen))) = true) ∧
    ((let L := (pkg ({ run with tl.windowAt := 0, ky.boundary := sec 1, ky.tick := 5, tl.windowLen := 2 })).seen .A 0
     let since := (L.ky.tick + 2 ^ 32 - L.tl.windowAt) % 2 ^ 32
     decide (L.acts .core 5 = true ∧ L.nowCycle L.ky.boundary = true ∧ L.tl.windowLen ≤ since)) = true) ∧
    ((let L := (pkg ({ run with tl.windowAt := sec 1 - us 50 * 2000 + 1 })).seen .A 0
     decide (L.acts .core 5 = true ∧ L.tl.latch = none)) = true) ∧
    ((let L := (pkg ({ run with tl.latch := some (0, []) })).seen .A 0
     decide (L.acts .core 5 = true) && (
     (match L.tl.latch with
     | some x =>
     let A : Lane := { L with tl := { L.tl with prev := L.tl.snap, snap := x.2, snapTime := x.1, latch := none } }
     let B := (List.range 10).foldl (fun (L : Lane) k => L.setF32 F.TL_BW (L.bandwidth k) 0 k) A
     let C := (List.range 8).foldl (fun (L : Lane) k => L.setFld F.TL_TD_SHARE (L.slotShare (k / 4) (k % 4)) 0 k) B
     let D := (C.setWord F.TL_SNAPNUM (C.word F.TL_SNAPNUM + 1)).raise F.TL_EVENT_SNAP
     decide (D.streamOn 1 = false)
     | _ => false))) = true) ∧
    ((let L := (pkg
       (({ (({ run with tl.latch := some (0, []) }).setFld F.EN_STREAM_OUT_EN 1).setFld F.EN_CFG_ENABLE 1 with en.snapOut := some (0, [1]) }))).seen
       .A 0
     decide (L.acts .core 5 = true) && (
     (match L.tl.latch with
     | some x =>
     let A : Lane := { L with tl := { L.tl with prev := L.tl.snap, snap := x.2, snapTime := x.1, latch := none } }
     let B := (List.range 10).foldl (fun (L : Lane) k => L.setF32 F.TL_BW (L.bandwidth k) 0 k) A
     let C := (List.range 8).foldl (fun (L : Lane) k => L.setFld F.TL_TD_SHARE (L.slotShare (k / 4) (k % 4)) 0 k) B
     let D := (C.setWord F.TL_SNAPNUM (C.word F.TL_SNAPNUM + 1)).raise F.TL_EVENT_SNAP
     decide (D.streamOn 1 = true ∧ D.en.snapOut.isSome = true)
     | _ => false))) = true) ∧
    ((let L := (pkg ((({ run with tl.latch := some (0, []) }).setFld F.EN_STREAM_OUT_EN 1).setFld F.EN_CFG_ENABLE 1)).seen .A 0
     decide (L.acts .core 5 = true) && (
     (match L.tl.latch with
     | some x =>
     let A : Lane := { L with tl := { L.tl with prev := L.tl.snap, snap := x.2, snapTime := x.1, latch := none } }
     let B := (List.range 10).foldl (fun (L : Lane) k => L.setF32 F.TL_BW (L.bandwidth k) 0 k) A
     let C := (List.range 8).foldl (fun (L : Lane) k => L.setFld F.TL_TD_SHARE (L.slotShare (k / 4) (k % 4)) 0 k) B
     let D := (C.setWord F.TL_SNAPNUM (C.word F.TL_SNAPNUM + 1)).raise F.TL_EVENT_SNAP
     decide (D.streamOn 1 = true ∧ D.en.snapOut = none)
     | _ => false))) = true) ∧
    ((let L := (pkg ({ run with tl.windowAt := sec 1 - us 50 * 2000 + 1 })).seen .A 0
     decide (L.acts .core 5 = true ∧ L.pairActs .core 5 = true ∧ L.fld F.TL_PEEK_BLOCK ≤ 22)) = true) ∧
    ((let L := (pkg (run.setFld F.TL_PEEK_BLOCK 23)).seen .A 0
     decide (L.acts .core 5 = true ∧ L.pairActs .core 5 = true ∧ 22 < L.fld F.TL_PEEK_BLOCK)) = true) ∧
    ((let L := (pkg ({ run with tl.windowAt := sec 1 - us 50 * 2000 + 1 })).seen .A 0
     decide (L.acts .core 5 = true) && (
     let c : Nat := 1
     let M := L.coreEvent c
     decide (M.flag F.TL_ASAMP_AEN = false ∨ M.tl.atticStop = true ∨ M.tl.atticFull = true ∨ c ≠ M.fld F.TL_ASAMP_EVENT ∨ atticEvent c = false))) = true) ∧
    ((let L := (pkg (((run.setFld F.TL_ASAMP_AEN 1).setFld F.TL_ASAMP_EVENT 1).setFld F.TL_ASAMP_PERIOD 2)).seen .A 0
     decide (L.acts .core 5 = true) && (
     let c : Nat := 1
     let M := L.coreEvent c
     decide (M.flag F.TL_ASAMP_AEN = true ∧ M.tl.atticStop = false ∧ M.tl.atticFull = false ∧ c = M.fld F.TL_ASAMP_EVENT ∧ atticEvent c = true ∧
       M.tl.occ + 1 < M.fld1 F.TL_ASAMP_PERIOD))) = true) ∧
    ((let L := (pkg (((run.setFld F.TL_ASAMP_AEN 1).setFld F.TL_ASAMP_EVENT 1).setFld F.TL_ASAMP_PERIOD 1)).seen .A 0
     decide (L.acts .core 5 = true) && (
     let c : Nat := 1
     let M := L.coreEvent c
     decide (M.flag F.TL_ASAMP_AEN = true ∧ M.tl.atticStop = false ∧ M.tl.atticFull = false ∧ c = M.fld F.TL_ASAMP_EVENT ∧ atticEvent c = true ∧
       M.fld1 F.TL_ASAMP_PERIOD ≤ M.tl.occ + 1))) = true) ∧
    ((let k : Nat := 0
     let L := (pkg ({ run with tl.windowAt := sec 1 - us 50 * 2000 + 1 })).seen .A 0
     decide (L.pairActs .core 0x20 = true ∧ k < 29 ∧ L.tallyNow 5 k = 0) && (
     let x : Nat := 0
     decide (x < 2 ^ 48))) = true) ∧
    ((let k : Nat := 0
     let L := (pkg ({ run with tl.windowAt := sec 1 - us 50 * 2000 + 1 })).seen .A 0
     decide (L.pairActs .core 0x20 = true ∧ k < 0x323)) = true) := by decide +kernel

theorem witness_BusWrites :
    ((let L := (pkg ({ run with ic.halted := true })).seen .A 0
     decide (L.acts .core 0x20 = true ∧ L.ic.halted = true)) = true) ∧
    ((let a : Nat := 0
     let n : Nat := 4
     let v : Word := 0
     let u : Bool := true
     let L := (pkg ({ run with ic.app := some (0xFFFF, 0xFFFFFFFF), ic.window := true })).seen .A 0
     decide (L.acts .core 0x20 = true) && (
     let y : BusTxn := ⟨.write, 0x20000000, 4, 1, false, 0⟩
     decide (L.ic.halted = false ∧ y ≠ ⟨.write, a, n, v, u, 0⟩))) = true) ∧
    ((let a : Nat := 0
     let n : Nat := 4
     let v : Word := 0
     let u : Bool := true
     let L := (pkg ({ run with sy.releasedAt := 0 })).seen .A 0
     decide (L.acts .core 0x20 = true) && (
     let y : Option BusTxn := none
     decide ((y = none ∨ y = some ⟨.write, a, n, v, u, 0⟩) ∧ L.ic.halted = false ∧ L.appRuns = false ∧ u = true))) = true) ∧
    ((let a : Nat := 0
     let n : Nat := 0
     let v : Word := 0
     let u : Bool := true
     let L := (pkg ({ run with ic.app := some (0xFFFF, 0xFFFFFFFF), ic.window := true })).seen .A 0
     decide (L.acts .core 0x20 = true) && (
     let y : Option BusTxn := none
     decide ((y = none ∨ y = some ⟨.write, a, n, v, u, 0⟩) ∧ L.ic.halted = false ∧ L.appRuns = true ∧ u = true ∧ (n = 0 ∨ a % n ≠ 0)))) = true) ∧
    ((let a : Nat := 0
     let n : Nat := 4
     let v : Word := 0
     let u : Bool := true
     let L := (pkg ({ run with ic.app := some (0xFFFF, 0xFFFFFFFF), ic.window := true })).seen .A 0
     decide (L.acts .core 0x20 = true) && (
     let y : Option BusTxn := none
     decide ((y = none ∨ y = some ⟨.write, a, n, v, u, 0⟩) ∧ L.ic.halted = false ∧ L.appRuns = true ∧ u = true ∧ n ≠ 0 ∧ a % n = 0 ∧ L.pmpMay true
       2 a = false))) = true) ∧
    ((let a : Nat := 0
     let n : Nat := 0
     let v : Word := 0
     let u : Bool := false
     let L := (pkg ({ run with ic.app := some (0xFFFF, 0xFFFFFFFF), ic.window := true })).seen .A 0
     decide (L.acts .core 0x20 = true) && (
     let y : Option BusTxn := none
     decide ((y = none ∨ y = some ⟨.write, a, n, v, u, 0⟩) ∧ L.ic.halted = false ∧ u = false ∧ (n = 0 ∨ a % n ≠ 0) ∧ a < 0x40000000))) = true) ∧
    ((let a : Nat := 0x40170000
     let n : Nat := 0
     let v : Word := 0
     let u : Bool := false
     let L := (pkg ({ run with ic.app := some (0xFFFF, 0xFFFFFFFF), ic.window := true })).seen .A 0
     decide (L.acts .core 0x20 = true) && (
     let y : Option BusTxn := none
     decide ((y = none ∨ y = some ⟨.write, a, n, v, u, 0⟩) ∧ L.ic.halted = false ∧ u = false ∧ (n = 0 ∨ a % n ≠ 0) ∧ 0x40000000 ≤ a))) = true) ∧
    ((let a : Nat := 0
     let n : Nat := 4
     let v : Word := 0
     let u : Bool := false
     let L := (pkg ({ run with ic.app := some (0xFFFF, 0xFFFFFFFF), ic.window := true })).seen .A 0
     decide (L.acts .core 0x20 = true) && (
     let y : Option BusTxn := none
     decide ((y = none ∨ y = some ⟨.write, a, n, v, u, 0⟩) ∧ L.ic.halted = false ∧ (u = true → L.appRuns = true ∧ L.pmpMay true 2 a = true) ∧ n ≠
       0 ∧ a % n = 0 ∧ L.pmpMay false 2 a = false))) = true) ∧
    ((let a : Nat := 0x25000000
     let n : Nat := 4
     let v : Word := 0
     let u : Bool := false
     let L := (pkg ({ run with ic.app := some (0xFFFF, 0xFFFFFFFF), ic.window := true })).seen .A 0
     decide (L.acts .core 0x20 = true) && (
     let y : Option BusTxn := none
     decide ((y = none ∨ y = some ⟨.write, a, n, v, u, 0⟩) ∧ L.ic.halted = false ∧ (u = true → L.appRuns = true ∧ L.pmpMay true 2 a = true) ∧ n ≠
       0 ∧ a % n = 0 ∧ L.pmpMay false 2 a = true ∧ a < 0x40000000 ∧ (memMapped a = false ∨ memReadOnly a = true ∨ (0x25000000 ≤ a ∧ a <
       0x25010000))))) = true) ∧
    ((let a : Nat := 0x20000000
     let n : Nat := 4
     let v : Word := 0
     let u : Bool := false
     let L := (pkg ({ run with ic.app := some (0xFFFF, 0xFFFFFFFF), ic.window := true })).seen .A 0
     decide (L.acts .core 0x20 = true) && (
     let y : Option BusTxn := none
     decide ((y = none ∨ y = some ⟨.write, a, n, v, u, 0⟩) ∧ L.ic.halted = false ∧ (u = true → L.appRuns = true ∧ L.pmpMay true 2 a = true) ∧ n ≠
       0 ∧ a % n = 0 ∧ L.pmpMay false 2 a = true ∧ a < 0x40000000 ∧ memMapped a = true ∧ memReadOnly a = false ∧ (a < 0x25000000 ∨ 0x25010000 ≤ a)))) = true) ∧
    ((let a : Nat := 0x40170000
     let n : Nat := 1
     let v : Word := 0
     let u : Bool := false
     let L := (pkg ({ run with ic.app := some (0xFFFF, 0xFFFFFFFF), ic.window := true })).seen .A 0
     decide (L.acts .core 0x20 = true) && (
     let y : Option BusTxn := none
     decide ((y = none ∨ y = some ⟨.write, a, n, v, u, 0⟩) ∧ L.ic.halted = false ∧ (u = true → L.appRuns = true ∧ L.pmpMay true 2 a = true) ∧ n ≠
       0 ∧ a % n = 0 ∧ L.pmpMay false 2 a = true ∧ 0x40000000 ≤ a ∧ n ≠ 4))) = true) ∧
    ((let a : Nat := 0x40170000
     let n : Nat := 4
     let v : Word := 0
     let u : Bool := false
     let L := (pkg ({ run with ic.app := some (0xFFFF, 0xFFFFFFFF), ic.window := true })).seen .A 0
     decide (L.acts .core 0x20 = true) && (
     let y : Option BusTxn := none
     decide ((y = none ∨ y = some ⟨.write, a, n, v, u, 0⟩) ∧ L.ic.halted = false ∧ (u = true → L.appRuns = true ∧ L.pmpMay true 2 a = true) ∧ n ≠
       0 ∧ a % n = 0 ∧ L.pmpMay false 2 a = true ∧ 0x40000000 ≤ a ∧ busHole a = true))) = true) ∧
    ((let a : Nat := 0x40000000
     let n : Nat := 4
     let v : Word := 0
     let u : Bool := false
     let L := (pkg ({ run with ic.app := some (0xFFFF, 0xFFFFFFFF), ic.window := true })).seen .A 0
     decide (L.acts .core 0x20 = true) && (
     let y : Option BusTxn := none
     decide ((y = none ∨ y = some ⟨.write, a, n, v, u, 0⟩) ∧ L.ic.halted = false ∧ (u = true → L.appRuns = true ∧ L.pmpMay true 2 a = true) ∧ n ≠
       0 ∧ a % n = 0 ∧ L.pmpMay false 2 a = true ∧ 0x40000000 ≤ a ∧ n = 4 ∧ busHole a = false ∧ L.sy.releasedAt / 8 ≠ L.now / 8))) = true) := by decide +kernel

theorem witness_ClearWrapLeavesCountsAlone :
    (let L := (pkg up).seen .A 0
     decide (L.pairActs .core 5 = true)) = true := by decide +kernel

theorem witness_HolesOfTheRegisterMap :
    ((let a : Nat := 0x40000FFC
     let L := (pkg (run.setFld F.IC_YARD_YRUN 1)).seen .A 0
     decide (L.pairActs .core 0x20 = true ∧ L.pmpMay false 2 a = true ∧ a % 4 = 0 ∧ 0x40000000 ≤ a ∧ a % 0x10000 < windowSize (blockOf a) ∧ a <
       0x40170000 ∧ regAt a = none ∧ L.sy.releasedAt / 8 ≠ L.now / 8)) = true) ∧
    ((let a : Nat := 0x40170000
     let L := (pkg (run.setFld F.IC_YARD_YRUN 1)).seen .A 0
     decide (L.pairActs .core 0x20 = true ∧ L.pmpMay false 2 a = true ∧ a % 4 = 0 ∧ 0x40000000 ≤ a ∧ (0x40170000 ≤ a ∨ windowSize (blockOf a) ≤ a
       % 0x10000))) = true) ∧
    ((let a : Nat := 0x40000FFC
     let w : Bool := true
     let L := (pkg (run.setFld F.IC_YARD_YRUN 1)).seen .A 0
     decide (L.acts .core 0x21 = true ∧ L.yardRuns = true ∧ yardMay a w = false)) = true) := by decide +kernel

theorem witness_HysteresisStates :
    ((let L : Lane := (((((up.setF32 F.TQ_HT 2 15).setF32 F.TQ_HPSI 1 15).setF32 F.TQ_FREF 5 15))).setGrp 15
       { (up.grp 15) with tq.mode := .carrier, tq.cT := 1, tq.tRef := 3, tq.psiA := 3 }
     let g : Fin 16 := 15
     decide ((L.grp g).tq.mode ≠ .tracking ∧ 0 ≤ L.bandT g ∧ 0 ≤ L.bandF g) && (
     let cT := (L.grp g).tq.cT
     let eT := (L.grp g).tq.tRef - (L.grp g).tq.tHat
     let hT := L.bandT g
     decide (cT = 1 ∧ hT < eT))) = true) ∧
    ((let L : Lane := (((((up.setF32 F.TQ_HT 2 15).setF32 F.TQ_HPSI 1 15).setF32 F.TQ_FREF 5 15))).setGrp 15
       { (up.grp 15) with tq.mode := .carrier, tq.cT := 1, tq.tRef := 2, tq.psiA := 3 }
     let g : Fin 16 := 15
     decide ((L.grp g).tq.mode ≠ .tracking ∧ 0 ≤ L.bandT g ∧ 0 ≤ L.bandF g) && (
     let cT := (L.grp g).tq.cT
     let eT := (L.grp g).tq.tRef - (L.grp g).tq.tHat
     let hT := L.bandT g
     decide (cT = 1 ∧ 0 < eT ∧ eT ≤ hT))) = true) ∧
    ((let L : Lane := (((((up.setF32 F.TQ_HT 2 15).setF32 F.TQ_HPSI 1 15).setF32 F.TQ_FREF 5 15))).setGrp 15
       { (up.grp 15) with tq.mode := .carrier, tq.cT := 1, tq.tRef := 0, tq.psiA := 3 }
     let g : Fin 16 := 15
     decide ((L.grp g).tq.mode ≠ .tracking ∧ 0 ≤ L.bandT g ∧ 0 ≤ L.bandF g) && (
     let cT := (L.grp g).tq.cT
     let eT := (L.grp g).tq.tRef - (L.grp g).tq.tHat
     decide (cT = 1 ∧ eT = 0))) = true) ∧
    ((let L : Lane := (((((up.setF32 F.TQ_HT 2 15).setF32 F.TQ_HPSI 1 15).setF32 F.TQ_FREF 5 15))).setGrp 15
       { (up.grp 15) with tq.mode := .carrier, tq.cT := 1, tq.tRef := (-2), tq.psiA := 3 }
     let g : Fin 16 := 15
     decide ((L.grp g).tq.mode ≠ .tracking ∧ 0 ≤ L.bandT g ∧ 0 ≤ L.bandF g) && (
     let cT := (L.grp g).tq.cT
     let eT := (L.grp g).tq.tRef - (L.grp g).tq.tHat
     let hT := L.bandT g
     decide (cT = 1 ∧ -hT ≤ eT ∧ eT < 0))) = true) ∧
    ((let L : Lane := (((((up.setF32 F.TQ_HT 2 15).setF32 F.TQ_HPSI 1 15).setF32 F.TQ_FREF 5 15))).setGrp 15
       { (up.grp 15) with tq.mode := .carrier, tq.cT := 1, tq.tRef := (-3), tq.psiA := 3 }
     let g : Fin 16 := 15
     decide ((L.grp g).tq.mode ≠ .tracking ∧ 0 ≤ L.bandT g ∧ 0 ≤ L.bandF g) && (
     let cT := (L.grp g).tq.cT
     let eT := (L.grp g).tq.tRef - (L.grp g).tq.tHat
     let hT := L.bandT g
     decide (cT = 1 ∧ eT < -hT))) = true) ∧
    ((let L : Lane := (((((up.setF32 F.TQ_HT 2 15).setF32 F.TQ_HPSI 1 15).setF32 F.TQ_FREF 5 15))).setGrp 15
       { (up.grp 15) with tq.mode := .carrier, tq.cT := 0, tq.tRef := 3, tq.psiA := 3 }
     let g : Fin 16 := 15
     decide ((L.grp g).tq.mode ≠ .tracking ∧ 0 ≤ L.bandT g ∧ 0 ≤ L.bandF g) && (
     let cT := (L.grp g).tq.cT
     let eT := (L.grp g).tq.tRef - (L.grp g).tq.tHat
     let hT := L.bandT g
     decide (cT = 0 ∧ hT < eT))) = true) ∧
    ((let L : Lane := (((((up.setF32 F.TQ_HT 2 15).setF32 F.TQ_HPSI 1 15).setF32 F.TQ_FREF 5 15))).setGrp 15
       { (up.grp 15) with tq.mode := .carrier, tq.cT := 0, tq.tRef := 2, tq.psiA := 3 }
     let g : Fin 16 := 15
     decide ((L.grp g).tq.mode ≠ .tracking ∧ 0 ≤ L.bandT g ∧ 0 ≤ L.bandF g) && (
     let cT := (L.grp g).tq.cT
     let eT := (L.grp g).tq.tRef - (L.grp g).tq.tHat
     let hT := L.bandT g
     decide (cT = 0 ∧ 0 < eT ∧ eT ≤ hT))) = true) ∧
    ((let L : Lane := (((((up.setF32 F.TQ_HT 2 15).setF32 F.TQ_HPSI 1 15).setF32 F.TQ_FREF 5 15))).setGrp 15
       { (up.grp 15) with tq.mode := .carrier, tq.cT := 0, tq.tRef := 0, tq.psiA := 3 }
     let g : Fin 16 := 15
     decide ((L.grp g).tq.mode ≠ .tracking ∧ 0 ≤ L.bandT g ∧ 0 ≤ L.bandF g) && (
     let cT := (L.grp g).tq.cT
     let eT := (L.grp g).tq.tRef - (L.grp g).tq.tHat
     decide (cT = 0 ∧ eT = 0))) = true) ∧
    ((let L : Lane := (((((up.setF32 F.TQ_HT 2 15).setF32 F.TQ_HPSI 1 15).setF32 F.TQ_FREF 5 15))).setGrp 15
       { (up.grp 15) with tq.mode := .carrier, tq.cT := 0, tq.tRef := (-2), tq.psiA := 3 }
     let g : Fin 16 := 15
     decide ((L.grp g).tq.mode ≠ .tracking ∧ 0 ≤ L.bandT g ∧ 0 ≤ L.bandF g) && (
     let cT := (L.grp g).tq.cT
     let eT := (L.grp g).tq.tRef - (L.grp g).tq.tHat
     let hT := L.bandT g
     decide (cT = 0 ∧ -hT ≤ eT ∧ eT < 0))) = true) ∧
    ((let L : Lane := (((((up.setF32 F.TQ_HT 2 15).setF32 F.TQ_HPSI 1 15).setF32 F.TQ_FREF 5 15))).setGrp 15
       { (up.grp 15) with tq.mode := .carrier, tq.cT := 0, tq.tRef := (-3), tq.psiA := 3 }
     let g : Fin 16 := 15
     decide ((L.grp g).tq.mode ≠ .tracking ∧ 0 ≤ L.bandT g ∧ 0 ≤ L.bandF g) && (
     let cT := (L.grp g).tq.cT
     let eT := (L.grp g).tq.tRef - (L.grp g).tq.tHat
     let hT := L.bandT g
     decide (cT = 0 ∧ eT < -hT))) = true) ∧
    ((let L : Lane := (((((up.setF32 F.TQ_HT 2 15).setF32 F.TQ_HPSI 1 15).setF32 F.TQ_FREF 5 15))).setGrp 15
       { (up.grp 15) with tq.mode := .carrier, tq.cT := -1, tq.tRef := 3, tq.psiA := 3 }
     let g : Fin 16 := 15
     decide ((L.grp g).tq.mode ≠ .tracking ∧ 0 ≤ L.bandT g ∧ 0 ≤ L.bandF g) && (
     let cT := (L.grp g).tq.cT
     let eT := (L.grp g).tq.tRef - (L.grp g).tq.tHat
     let hT := L.bandT g
     decide (cT = -1 ∧ hT < eT))) = true) ∧
    ((let L : Lane := (((((up.setF32 F.TQ_HT 2 15).setF32 F.TQ_HPSI 1 15).setF32 F.TQ_FREF 5 15))).setGrp 15
       { (up.grp 15) with tq.mode := .carrier, tq.cT := -1, tq.tRef := 2, tq.psiA := 3 }
     let g : Fin 16 := 15
     decide ((L.grp g).tq.mode ≠ .tracking ∧ 0 ≤ L.bandT g ∧ 0 ≤ L.bandF g) && (
     let cT := (L.grp g).tq.cT
     let eT := (L.grp g).tq.tRef - (L.grp g).tq.tHat
     let hT := L.bandT g
     decide (cT = -1 ∧ 0 < eT ∧ eT ≤ hT))) = true) ∧
    ((let L : Lane := (((((up.setF32 F.TQ_HT 2 15).setF32 F.TQ_HPSI 1 15).setF32 F.TQ_FREF 5 15))).setGrp 15
       { (up.grp 15) with tq.mode := .carrier, tq.cT := -1, tq.tRef := 0, tq.psiA := 3 }
     let g : Fin 16 := 15
     decide ((L.grp g).tq.mode ≠ .tracking ∧ 0 ≤ L.bandT g ∧ 0 ≤ L.bandF g) && (
     let cT := (L.grp g).tq.cT
     let eT := (L.grp g).tq.tRef - (L.grp g).tq.tHat
     decide (cT = -1 ∧ eT = 0))) = true) ∧
    ((let L : Lane := (((((up.setF32 F.TQ_HT 2 15).setF32 F.TQ_HPSI 1 15).setF32 F.TQ_FREF 5 15))).setGrp 15
       { (up.grp 15) with tq.mode := .carrier, tq.cT := -1, tq.tRef := (-2), tq.psiA := 3 }
     let g : Fin 16 := 15
     decide ((L.grp g).tq.mode ≠ .tracking ∧ 0 ≤ L.bandT g ∧ 0 ≤ L.bandF g) && (
     let cT := (L.grp g).tq.cT
     let eT := (L.grp g).tq.tRef - (L.grp g).tq.tHat
     let hT := L.bandT g
     decide (cT = -1 ∧ -hT ≤ eT ∧ eT < 0))) = true) ∧
    ((let L : Lane := (((((up.setF32 F.TQ_HT 2 15).setF32 F.TQ_HPSI 1 15).setF32 F.TQ_FREF 5 15))).setGrp 15
       { (up.grp 15) with tq.mode := .carrier, tq.cT := -1, tq.tRef := (-3), tq.psiA := 3 }
     let g : Fin 16 := 15
     decide ((L.grp g).tq.mode ≠ .tracking ∧ 0 ≤ L.bandT g ∧ 0 ≤ L.bandF g) && (
     let cT := (L.grp g).tq.cT
     let eT := (L.grp g).tq.tRef - (L.grp g).tq.tHat
     let hT := L.bandT g
     decide (cT = -1 ∧ eT < -hT))) = true) ∧
    ((let L : Lane := (((up.setF32 F.TQ_HT 2 15).setF32 F.TQ_HPSI 1 15)).setGrp 15
       { (up.grp 15) with tq.mode := .carrier, tq.psiStar := 6, tq.psiA := 4 }
     let g : Fin 16 := 15
     decide ((L.grp g).tq.mode ≠ .tracking ∧ 0 ≤ L.bandT g ∧ 0 ≤ L.bandF g) && (
     let ePsi := (L.grp g).tq.psiStar - sqrtR ((L.grp g).tq.psiA * (L.grp g).tq.psiA + (L.grp g).tq.psiB * (L.grp g).tq.psiB)
     decide (L.bandF g < ePsi))) = true) ∧
    ((let L : Lane := (((((up.setF32 F.TQ_HT 2 15).setF32 F.TQ_HPSI 1 15).setF32 F.TQ_FREF 5 15))).setGrp 15
       { (up.grp 15) with tq.mode := .carrier, tq.cT := 1, tq.tRef := 3, tq.psiA := 3 }
     let g : Fin 16 := 15
     decide ((L.grp g).tq.mode ≠ .tracking ∧ 0 ≤ L.bandT g ∧ 0 ≤ L.bandF g) && (
     let ePsi := (L.grp g).tq.psiStar - sqrtR ((L.grp g).tq.psiA * (L.grp g).tq.psiA + (L.grp g).tq.psiB * (L.grp g).tq.psiB)
     decide (ePsi < -(L.bandF g)))) = true) ∧
    ((let L : Lane := (((up.setF32 F.TQ_HT 2 15).setF32 F.TQ_HPSI 1 15)).setGrp 15
       { (up.grp 15) with tq.mode := .carrier, tq.psiStar := 5, tq.psiA := 4 }
     let g : Fin 16 := 15
     decide ((L.grp g).tq.mode ≠ .tracking ∧ 0 ≤ L.bandT g ∧ 0 ≤ L.bandF g) && (
     let ePsi := (L.grp g).tq.psiStar - sqrtR ((L.grp g).tq.psiA * (L.grp g).tq.psiA + (L.grp g).tq.psiB * (L.grp g).tq.psiB)
     decide (-(L.bandF g) ≤ ePsi ∧ ePsi ≤ L.bandF g))) = true) := by decide +kernel

/-! ### Witnesses over commands, queues and steps -/

/-- A queue is empty after reset. -/
theorem witness_StepRunsFrontCommand : State.reset.pending = [] := by decide +kernel

/-- Lane B is another lane than the one that the command reaches. -/
theorem witness_CommandChangesOnlyItsLane : LaneId.B ≠ (Instr.rstNLow .A 5).lane := by decide +kernel

/-- Two packages that differ in lane B alone, and what a command to lane A makes of them. -/
theorem witness_CommandReadsOnlyItsLane :
    ∃ t₁ t₂ : State, State.reset.lane (Instr.rstNLow .A 5).lane = { State.reset with b := { up with id := .B } }.lane (Instr.rstNLow .A 5).lane ∧
      exec (.rstNLow .A 5) State.reset = .next t₁ ∧ exec (.rstNLow .A 5) { State.reset with b := { up with id := .B } } = .next t₂ :=
  ⟨_, _, rfl, rfl, rfl⟩

/-- A step that moves the time of lane A. -/
theorem witness_LaneTimeNeverGoesBack : ∃ s', step { State.reset with pending := [.rstNLow .A 5] } = .next s' ∧ (s'.lane .A).now = 5 :=
  ⟨_, rfl, by decide +kernel⟩

/-- Lane A with interrupt 112 active and its former target waiting. -/
def waiting : State := { pkg { run with ic := { run.ic with active := [112], oldTarget := [(112, 1)] } } with pending := [.rstNLow .A 5] }

/-- A state that keeps the invariant with a target waiting, and a step from it. -/
theorem witness_EveryStepKeepsSettledLanes : waiting.Inv ∧ ∃ s', step waiting = .next s' := by
  refine ⟨fun l => ⟨by cases l <;> rfl, fun c h => ?_⟩, _, rfl⟩
  cases l with
  | A => exact .inr (by simp [waiting, pkg, State.lane] at h ⊢; subst h; simp)
  | B => simp [waiting, pkg, State.lane, State.reset, Lane.reset, IcS.reset] at h
  | C => simp [waiting, pkg, State.lane, State.reset, Lane.reset, IcS.reset] at h

/-- A lane held in reset, and a command that does not reach it there. -/
theorem witness_LaneHeldInResetTakesNoCommand :
    (Instr.bench .A 5).reachesReset = false ∧ (State.reset.lane (Instr.bench .A 5).lane).sy.resetHeld = true := by decide +kernel

/-- One request of every service to index 0, which no entry has. -/
def requests : List (ObjHead × List Byte) :=
  [(headOf svcRead 1 7 0 0, []), (headOf svcWrite 1 7 0 0, [1]), (headOf svcReadSeg 1 7 0 0, leBytes 4 0), (headOf svcWriteInit 1 7 0 0, leBytes 4 1),
   (headOf svcWriteSeg 1 7 0 0, leBytes 4 0 ++ [1]), (headOf svcWriteEnd 1 7 0 0, leBytes 4 1 ++ wordBytes 0), (headOf svcAbort 1 7 0 0, [])]

/-- A lane that does not answer; one that has the identifier with its response, or without one; and one that refuses a new request. -/
theorem witness_RequestsRepeatedOrRefused :
    (requests.all (fun r =>
      let h := r.1
      let N := (pkg run).seen .A 0
      let K (x : Option ObjResp) := (pkg { bench with oc := { bench.oc with windows := [(1, [(7, x)])] } }).seen .A 0
      let L := (pkg bench).seen .A 0
      let k (x : Option ObjResp) := ((K x).takeMsg .can (h.bytes r.2))
      let M := L.takeMsg .can (h.bytes r.2)
      let v := L.judged .can h r.2
      decide (N.acts .core 0x20 = true ∧ N.runtime = true ∧ (N.takeMsg .can (h.bytes r.2)).answers = false) &&
      decide ((k none).answers = true ∧ ((k none).touch 1).known 1 7 = some none) &&
      decide ((k (some ⟨h, 0, []⟩)).answers = true ∧ ((k (some ⟨h, 0, []⟩)).touch 1).known 1 7 = some (some ⟨h, 0, []⟩)) &&
      decide (L.acts .core 0x20 = true ∧ L.runtime = true ∧ M.answers = true ∧ (M.touch 1).known 1 7 = none ∧
        ((M.touch 1).enter 1 7).mustWait h = false ∧ v ≠ stOk ∧ v ≠ stNoResource))) = true := by decide +kernel

/-- A record to write, after none and after some were dropped. -/
theorem witness_FlashOperationsAndEventLog_written :
    (let r : LogRec :=
       { kind := 1, cls := 0, source := 0, flags := 0, unit_ := 0, laneState := 0, level := 0, tick := 0, time := 0, detail := [] }
     let X (n : Nat) := (pkg { run with fc := { run.fc with queue := [r], dropped := n }, th := { run.th with flashOk := true } }).seen .A 0
     let M (n : Nat) := ({ X n with fc := { (X n).fc with queue := [] } }).writeRec r
     ([0, 1].all (fun n => decide ((X n).acts .core 3 = true ∧ (X n).fc.queue = [r] ∧ (X n).th.flashOk = true))) &&
     (M 0).fc.dropped == 0 && (M 1).fc.dropped == 1) = true := by decide +kernel

/-! ### Ill-formed commands -/

/-- A lane-network frame with a device time of 65 bits. -/
def netLate : LnFrame := { bytes := [], endOk := true, stamp := 2 ^ 64 }

/-- One ill-formed term for every operand check. -/
theorem test_ill_formed_operands :
    [Instr.guardianCountWindow .A 0 (2 ^ 32), .configLoad .A 0 256, .decisionTick .A 0 [], .adcFrame .A 0 [] [] [],
      .voteFrameReceive .A 0 .N { release := 0, seq := 4096, stop := false, against := 0, live := 0, capable := 0 } true,
      .angleFrameReceive .A 0 .N { num := 0, sender := 3, age := 0, stars := [] } true,
      .setpointFrameReceive .A 0 .N { epoch := 0, torque := [], release := 0, agreeNext := none, agreePrev := none, position := [], valid := 0 } true,
      .shelfFrameReceive .A 0 .N { tick := 0, epoch := 0, count := 255, words := [] } true,
      .coordinationFrameReceive .A 0 .N (Lane.coordFrame up 65536 3 3 [0, 0, 0]) true,
      .renewalReceive .A 0 .N { kind := 0, sender := 3, epoch := 0, number := 0, named := 0 } true,
      .lnFrameReceive .A 0 0 netLate,
      .canFrameReceive .A 0 true false 0 (List.replicate 65 0), .attestationNonce .A 0 (List.replicate 33 0), .quietPeriodEnd .A 0 34,
      .wakeSource .A 0 19, .sliceStart .A 0 51, .imageBlockStored .A 0 128 true, .overcurrentTrip .A 0 0 [0] [] [], .polarityTest .A 0 0 [4] [0],
      .channelStuck .A 0 0 ⟨0, [16]⟩, .hallChange .A 0 0 ⟨8, 0⟩, .imageFrameReceive .A 0 [] [] [] [] [] [], .log .A 0 (.log 65536) 0,
      .registerWrite .A 0 0 ⟨8, 0, false, none⟩].map Instr.wf = List.replicate 24 false := by decide +kernel

/-- And some that are well formed. -/
theorem test_well_formed_operands :
    [Instr.bench .A 0, .guardianCountWindow .A 0 500, .sliceStart .A 0 50, .wakeSource .A 0 18,
      .renewalReceive .B 0 .P { kind := 1, sender := 2, epoch := 65535, number := 0, named := 3 } true].map Instr.wf = List.replicate 5 true := by decide +kernel

/-! ### Values of the manual -/

/-- The class of every fault source (table of R350): 0 reported, 1 withdrawing, 2 fatal, in the order of the sources. -/
theorem test_fault_classes :
    (List.range 32).map srcClass = [0, 2, 1, 0, 2, 1, 0, 2, 2, 2, 2, 2, 2, 2, 2, 2, 2, 1, 1, 1, 1, 1, 1, 1, 0, 0, 1, 1, 1, 2, 1, 1] := by decide +kernel

/-- F32 values: 1, −2, a half, the largest finite value. -/
theorem test_f32 : [f32of 1, f32of (-2), f32of (1 / 2), f32of ((2 - 1 / 2 ^ 23) * 2 ^ 127)] = [0x3F800000, 0xC0000000, 0x3F000000, 0x7F7FFFFF] := by
  decide +kernel

/-- The check value of CRC-32C. -/
theorem test_crc32c : crc32c [0x31, 0x32, 0x33, 0x34, 0x35, 0x36, 0x37, 0x38, 0x39] = 0xE3069283 := by decide +kernel

/-- A block as bytes, most significant byte first. -/
def block (x : Nat) : List Byte := (beList x).map (BitVec.ofNat 8)

/-- The CMACs of the empty message and of one block under the AES-128 example key of SP 800-38B. -/
theorem test_cmac :
    [aesCmac (block 0x2b7e151628aed2a6abf7158809cf4f3c) [], aesCmac (block 0x2b7e151628aed2a6abf7158809cf4f3c) (block 0x6bc1bee22e409f96e93d7e117393172a)] =
      [block 0xbb1d6929e95937287fa37d129b756746, block 0x070a16b46b4d4144f79bdd9dd04a287c] := by decide +kernel

/-- The digest of "abc" as FIPS 180-4 gives it, its first 16 bytes. -/
theorem test_sha512 : (sha512 [0x61, 0x62, 0x63]).take 16 = block 0xddaf35a193617abacc417349ae204131 := by decide +kernel

/-- The unwrap of 128 bits of key data under a 128-bit key, the example of RFC 3394. -/
theorem test_key_unwrap :
    keyUnwrap (block 0x000102030405060708090A0B0C0D0E0F) (block 0x1FA68B0A8112B447AEF34BD8FB5A7B82 ++ (block 0x9D3E862371D2CFE50000000000000000).take 8) =
      some (block 0x00112233445566778899AABBCCDDEEFF) := by decide +kernel

/-- The base point of P-521 lies on the curve, and so does its double. -/
theorem test_p521 : [base521, pointAdd base521 base521].map (fun q => q.map (fun c => onCurve c.1 c.2)) = [some true, some true] := by decide +kernel

/-- The highest sub-index of 0x1000 is 7 (R313). -/
theorem test_highest_sub_index : highSub 0x1000 = 7 := by decide +kernel

end Sys2Proof.Tests
end

section
/-! PROOFS. From a command to the lane: what a command does is what its lane operation makes of the lane, once its gate is passed; held pads deliver
nothing. -/

namespace Sys2Proof.Proofs

open Sys2Proof.Machine Sys2Proof.Laws

variable {i : Instr} {l : LaneId} {t : Nat} {s : State} {M : Lane} {f : Lane → Lane} {d : Domain} {b : Nat}

theorem does_ungated (hi : exec i s = onLane l t f s) (hf : f (s.seen l t) = M) : Does i l t s M := does_of rfl hi hf

theorem does_gate (hi : exec i s = onLane l t (gate d b f) s) (ha : (s.seen l t).acts d b = true) (hf : f (s.seen l t) = M) : Does i l t s M :=
  does_of rfl hi ((gate_on f ha).trans hf)

theorem does_gatePair (hi : exec i s = onLane l t (gatePair d b f) s) (ha : (s.seen l t).pairActs d b = true) (hf : f (s.seen l t) = M) :
    Does i l t s M :=
  does_of rfl hi ((gatePair_on f ha).trans hf)

theorem inActs_of_padsHeld {L : Lane} (b : Nat) (h : L.padsHeld d = true) : L.inActs d b = false := by simp [Lane.inActs, h]

/-- Held pads deliver nothing, whatever the block would make of it (R395). -/
theorem does_gateIn_held (hi : exec i s = onLane l t (gateIn d b f) s) (h : (s.seen l t).padsHeld d = true) : Does i l t s (s.seen l t) :=
  does_of rfl hi (gateIn_off f (inActs_of_padsHeld b h))

/-- So too for a block whose clock may rest in Doze. -/
theorem does_gateAwakeIn_held (hi : exec i s = onLane l t (gateAwakeIn b f) s) (h : (s.seen l t).padsHeld .drive = true) :
    Does i l t s (s.seen l t) :=
  does_of rfl hi (by simp [gateAwakeIn, inActs_of_padsHeld b h])

/-- A lane operation that leaves this lane as it is does so behind its gate too. -/
theorem does_gate_fixed (hi : exec i s = onLane l t (gate d b f) s) (hf : f (s.seen l t) = s.seen l t) : Does i l t s (s.seen l t) :=
  does_of rfl hi (by simp [gate, hf])

end Sys2Proof.Proofs
end

section
/-! PROOFS. SY_CMD.LRESET (R439) and the TAP (R33, R164, R412). -/

namespace Sys2Proof.Proofs

open Sys2Proof.Machine Sys2Proof.Laws

/-- The lane states in which SY_CMD.LRESET acts (R439). -/
def ResetState (k : LaneState) : Prop := k = .booting ∨ k = .bench ∨ k = .withdrawn

theorem rebootBy_boots (L : Lane) (f : Fld) (h : L.ky.state ≠ .withdrawn ∨ L.latched = false) : L.rebootBy f = (L.laneReset.raise f).release :=
  if_neg (by rintro ⟨hk, hl⟩; rcases h with h | h <;> simp_all)

/-- A Withdrawn lane with a latched fault stays there through a reset by the hub or by firmware (R41). -/
theorem rebootBy_stays (L : Lane) (f : Fld) (hk : L.ky.state = .withdrawn) (hl : L.latched = true) :
    L.rebootBy f = { (L.laneReset.raise f).release with ky := { (L.laneReset.raise f).release.ky with state := .withdrawn } } :=
  if_pos ⟨hk, hl⟩

theorem lreset_reboots (L : Lane) (v : Word) (hu : F.SY_CMD_UNLOCK.get v = 0xA5C3) (hr : F.SY_CMD_LRESET.get v = 1) (hk : ResetState L.ky.state) :
    L.lreset v = ({ L with now := L.now + us 10 }).rebootBy F.SY_RSTCAUSE_FW :=
  if_pos ⟨hu, hr, hk⟩

theorem lreset_idle (L : Lane) (v : Word) (h : ¬ (F.SY_CMD_UNLOCK.get v = 0xA5C3 ∧ F.SY_CMD_LRESET.get v = 1 ∧ ResetState L.ky.state)) :
    L.lreset v = L :=
  if_neg h

theorem tapUpdate_boundary (L : Lane) (b : List Bool) : L.tapUpdate none (some b) = { L with sy := { L.sy with boundaryReg := b } } := rfl

/-- A public instruction is taken as it comes. -/
theorem tapUpdate_public (L : Lane) (i : TapInstr) (hh : i ≠ .debugHalt) (hr : i ≠ .debugResume) :
    L.tapUpdate (some i) none = { L with sy := { L.sy with tap := i } } :=
  if_neg (fun h => h.elim hh hr)

/-- A debug instruction is taken where debug is allowed (R412), and halts or resumes the cores. -/
theorem tapUpdate_debug (L : Lane) (i : TapInstr) (hi : i = .debugHalt ∨ i = .debugResume) (ha : L.debugAllowed = true) :
    L.tapUpdate (some i) none = { L with sy := { L.sy with tap := i, debugHalt := i == .debugHalt } } := by
  simp only [Lane.tapUpdate, if_pos hi, if_pos ha]

theorem tapUpdate_debug_refused (L : Lane) (i : TapInstr) (hi : i = .debugHalt ∨ i = .debugResume) (ha : L.debugAllowed = false) :
    L.tapUpdate (some i) none = L := by
  simp [Lane.tapUpdate, hi, ha]

/-- Settles O12: the reset by the code, the lane state and the latch, and the TAP by its instruction. -/
theorem firmwareResetAndTap : Obligations.FirmwareResetAndTap := by
  refine ⟨?lreset, ?tap⟩
  case lreset =>
    intro s l t v L hp
    refine ⟨fun hu hr hk => ⟨fun h => ?_, fun hw hl => ?_⟩, fun h => ?_⟩
    · exact does_gatePair rfl hp ((lreset_reboots L v hu hr hk).trans (rebootBy_boots _ _ h))
    · exact does_gatePair rfl hp ((lreset_reboots L v hu hr hk).trans (rebootBy_stays _ _ hw hl))
    · refine does_gatePair rfl hp (lreset_idle L v ?_)
      rintro ⟨hu, hr, hk⟩
      rcases h with h | h | ⟨hBooting, hBench, hWithdrawn⟩
      · exact h hu
      · exact h hr
      · exact hk.elim hBooting (fun hk => hk.elim hBench hWithdrawn)
  case tap =>
    intro s l t L
    refine ⟨does_ungated rfl rfl, fun h => if_pos h, fun h => if_neg h, fun b => does_ungated rfl (tapUpdate_boundary L b),
      fun i hh hr => does_ungated rfl (tapUpdate_public L i hh hr), fun ha => ⟨?_, ?_⟩, fun ha => ⟨?_, ?_⟩⟩
    · exact does_ungated rfl (tapUpdate_debug L _ (.inl rfl) ha)
    · exact does_ungated rfl (tapUpdate_debug L _ (.inr rfl) ha)
    · exact does_ungated rfl (tapUpdate_debug_refused L _ (.inl rfl) ha)
    · exact does_ungated rfl (tapUpdate_debug_refused L _ (.inr rfl) ha)

end Sys2Proof.Proofs
end

section
/-! PROOFS. ERR_OUT (R353) and the quiet periods of the fault hub (R355 to R357, R405, R440). -/

namespace Sys2Proof.Proofs

open Sys2Proof.Machine Sys2Proof.Laws

/-! ### ERR_OUT -/

theorem errOutPulseEnd_none (L : Lane) (h : L.fc.pulse = none) : L.errOutPulseEnd = L := by simp [Lane.errOutPulseEnd, h]

section Pulse

variable (L : Lane) {p : PulseS} (h : L.fc.pulse = some p)
include h

theorem errOutPulseEnd_running (ht : L.now < p.began + us 10) : L.errOutPulseEnd = L := by simp [Lane.errOutPulseEnd, h, ht]

theorem errOutPulseEnd_releasing (ht : p.began + us 10 ≤ L.now) (hr : p.releasing = true) :
    L.errOutPulseEnd = { L with fc := { L.fc with pulse := some { p with began := L.now, releasing := false } } } := by
  simp [Lane.errOutPulseEnd, h, Nat.not_lt.2 ht, hr]

theorem errOutPulseEnd_asserting (ht : p.began + us 10 ≤ L.now) (hr : p.releasing = false) :
    L.errOutPulseEnd = { L with fc := { L.fc with pulse := none } } := by
  simp [Lane.errOutPulseEnd, h, Nat.not_lt.2 ht, hr]

end Pulse

theorem fcErroutWrite_keeps (L : Lane) (v : Word) (h : F.FC_ERROUT_MERGED.get v ≠ 0) :
    L.fcErroutWrite v = L.setFld F.FC_ERROUT_HOLD (F.FC_ERROUT_HOLD.get v) :=
  if_neg h

/-- A MERGED field of 0 clears the counter with its stuck flag, but for an increment of the same cycle (R16). -/
theorem fcErroutWrite_clears (L : Lane) (v : Word) (h : F.FC_ERROUT_MERGED.get v = 0) :
    let M := L.setFld F.FC_ERROUT_HOLD (F.FC_ERROUT_HOLD.get v)
    let N := M.setFld F.FC_ERROUT_MERGED (b2n (F.FC_ERROUT_MERGED.get (BitVec.ofNat 32 (M.setNow (F.FC_ERROUT_MERGED.addr 0 0))) != 0))
    L.fcErroutWrite v = N.setFld F.FC_STUCK_STUCK (putBit (N.fld F.FC_STUCK_STUCK) 4 false) :=
  if_pos h

/-! ### Which quiet period has ended -/

theorem quietCheck_wdr_none (L : Lane) (h : L.fc.wdrQuiet = none) : L.quietCheck 32 = (L, false) := by simp [Lane.quietCheck, h]

theorem quietCheck_wdr_running (L : Lane) {e : Nat} (h : L.fc.wdrQuiet = some e) (ht : L.now / 8 ≤ e / 8) : L.quietCheck 32 = (L, false) := by
  simp [Lane.quietCheck, h, ht]

theorem quietCheck_wdr_over (L : Lane) {e : Nat} (h : L.fc.wdrQuiet = some e) (ht : e / 8 < L.now / 8) : L.quietCheck 32 = L.wdrEnd := by
  simp [Lane.quietCheck, h, Nat.not_le.2 ht]

theorem quietCheck_none (L : Lane) {x : Nat} (hx : x ≠ 32) (h : L.fc.quiet.find? (fun c => c.1 == x) = none) : L.quietCheck x = (L, false) := by
  simp only [Lane.quietCheck, if_neg hx, h]

section Period

variable (L : Lane) {x : Nat} {c : Nat × Nat} (h : L.fc.quiet.find? (fun c => c.1 == x) = some c)
include h

theorem quietCheck_running (hx : x ≠ 32) (ht : L.now / 8 ≤ c.2 / 8) : L.quietCheck x = (L, false) := by
  simp only [Lane.quietCheck, if_neg hx, h, if_pos ht]

theorem quietCheck_source_over (hx : x < 32) (ht : c.2 / 8 < L.now / 8) : L.quietCheck x = L.quietEnd x := by
  simp only [Lane.quietCheck, if_neg (Nat.ne_of_lt hx), h, if_neg (Nat.not_le.2 ht), if_neg (show x ≠ 33 by omega)]

end Period

theorem quietCheck_boot_over (L : Lane) {c : Nat × Nat} (h : L.fc.quiet.find? (fun c => c.1 == 33) = some c) (ht : c.2 / 8 < L.now / 8) :
    L.quietCheck 33 = L.bootEnd := by
  simp [Lane.quietCheck, h, Nat.not_le.2 ht]

/-! ### What the end of a quiet period does -/

section End

variable {L : Lane} {x : Nat} {r : Lane × Bool} (h : L.quietCheck x = r)
include h

theorem quietPeriodEnd_stays (hr : r.2 = false) : L.quietPeriodEnd x = r.1 := by subst h; simp [Lane.quietPeriodEnd, hr]

/-- The hub resets the lane, and records the cause and the source. -/
theorem quietPeriodEnd_resets (hr : r.2 = true) :
    L.quietPeriodEnd x = (r.1.rebootBy F.SY_RSTCAUSE_FAULT).setFld F.SY_RSTCAUSE_SOURCE (if 32 ≤ x then 0xFF else x) := by
  subst h; simp only [Lane.quietPeriodEnd, hr, if_true]

theorem quietPeriodEnd_resets_source (hx : x < 32) (hr : r.2 = true) :
    L.quietPeriodEnd x = (r.1.rebootBy F.SY_RSTCAUSE_FAULT).setFld F.SY_RSTCAUSE_SOURCE x := by
  rw [quietPeriodEnd_resets h hr, if_neg (Nat.not_le.2 hx)]

theorem quietPeriodEnd_resets_sourceless (hx : 32 ≤ x) (hr : r.2 = true) :
    L.quietPeriodEnd x = (r.1.rebootBy F.SY_RSTCAUSE_FAULT).setFld F.SY_RSTCAUSE_SOURCE 0xFF := by
  rw [quietPeriodEnd_resets h hr, if_pos hx]

end End

/-! ### The quiet period of source 14 (R405) -/

section Hot

variable (L : Lane) (hs : L.srcBit F.FC_STATE 14 = true) (hl : L.srcBit F.FC_LATCH 14 = false)
include hs hl

/-- It does not run while Tj stays at 130 °C or more. -/
theorem hotQuiet_hot (hh : L.stillHot = true) :
    L.hotQuiet = { L with fc := { L.fc with quiet := L.fc.quiet.filter (fun (c : Nat × Nat) => c.1 != 14) } } := by
  simp [Lane.hotQuiet, hs, hl, hh]

/-- It begins as Tj falls below. -/
theorem hotQuiet_begins (hh : L.stillHot = false) (hq : L.fc.quiet.any (fun c => c.1 == 14) = false) :
    L.hotQuiet =
      { L with fc := { L.fc with quiet := L.fc.quiet.filter (fun (c : Nat × Nat) => c.1 != 14) ++ [(14, L.now + ms L.quietMs)] } } := by
  simp only [Lane.hotQuiet, hs, hl, hh, hq]; rfl

/-- Once begun it goes on. -/
theorem hotQuiet_runs (hh : L.stillHot = false) (hq : L.fc.quiet.any (fun c => c.1 == 14) = true) : L.hotQuiet = L := by
  simp only [Lane.hotQuiet, hs, hl, hh, hq]; rfl

end Hot

/-- Settles O48: ERR_OUT by the phase of its pulse, FC_ERROUT by its MERGED field, and the quiet periods by which of them has ended and whether
the hub then resets the lane. -/
theorem errOutAndQuietPeriods : Obligations.ErrOutAndQuietPeriods := by
  refine ⟨?errOut, ?quiet⟩
  case errOut =>
    intro s l t v L ha
    refine ⟨fun h => does_gate rfl ha (errOutPulseEnd_none L h),
      fun p h => ⟨fun ht => ?running, fun ht hr => ?releasing, fun ht hr => ?asserting⟩, fun hp => ⟨fun hm => ?keeps, fun hm => ?clears⟩⟩
    case running => exact does_gate rfl ha (errOutPulseEnd_running L h ht)
    case releasing => exact does_gate rfl ha (errOutPulseEnd_releasing L h ht hr)
    case asserting => exact does_gate rfl ha (errOutPulseEnd_asserting L h ht hr)
    case keeps => exact does_gatePair rfl hp (fcErroutWrite_keeps L v hm)
    case clears => exact does_gatePair rfl hp (fcErroutWrite_clears L v hm)
  case quiet =>
    intro s l t x L ha
    refine ⟨fun hx h => ?none, fun h => ?wdrNone, fun e h ht => ?wdrRunning, fun c hx h ht => ?running,
      fun M hs hl => ⟨hotQuiet_hot M hs hl, hotQuiet_begins M hs hl, hotQuiet_runs M hs hl⟩, fun c hx h ht => ?source, fun e h ht => ?wdr,
      fun c h ht => ?boot⟩
    case none => exact does_gate rfl ha (quietPeriodEnd_stays (quietCheck_none L hx h) rfl)
    case wdrNone => exact does_gate rfl ha (quietPeriodEnd_stays (quietCheck_wdr_none L h) rfl)
    case wdrRunning => exact does_gate rfl ha (quietPeriodEnd_stays (quietCheck_wdr_running L h ht) rfl)
    case running => exact does_gate rfl ha (quietPeriodEnd_stays (quietCheck_running L h hx ht) rfl)
    case source =>
      have hc := quietCheck_source_over L h hx ht
      exact ⟨fun hr => does_gate rfl ha (quietPeriodEnd_stays hc hr), fun hr => does_gate rfl ha (quietPeriodEnd_resets_source hc hx hr)⟩
    case wdr =>
      have hc := quietCheck_wdr_over L h ht
      exact ⟨fun hr => does_gate rfl ha (quietPeriodEnd_stays hc hr),
        fun hr => does_gate rfl ha (quietPeriodEnd_resets_sourceless hc (Nat.le_refl 32) hr)⟩
    case boot =>
      have hc := quietCheck_boot_over L h ht
      exact ⟨fun hr => does_gate rfl ha (quietPeriodEnd_stays hc hr),
        fun hr => does_gate rfl ha (quietPeriodEnd_resets_sourceless hc (by decide) hr)⟩

end Sys2Proof.Proofs
end

section
/-! PROOFS. Save, final window, wake sources and wake (R394 to R400), held pads (R395), the standby link and heat in sleep (R396, R405, R407). -/

namespace Sys2Proof.Proofs

open Sys2Proof.Machine Sys2Proof.Laws

variable (L : Lane)

/-- The lane is in Hold or in Cellar, where a wake source wakes it (R397). -/
def InSleep : Prop := L.pm.level = .hold ∨ L.pm.level = .cellar

theorem asleep_of_inSleep (h : InSleep L) : L.asleep = true := by rcases h with h | h <;> simp [Lane.asleep, h]

/-! ### Save and final window -/

theorem larderSaveDone_idle (h : L.pm.phase ≠ .save) : L.larderSaveDone = L := if_pos h

/-- The registers and the digest are saved, the pads latched and the domains off. -/
theorem larderSaveDone_saves (h : L.pm.phase = .save) :
    L.larderSaveDone = { L.powerDown L.pm.cellar with pm := { L.pm with
      phase := .window, phaseAt := L.now, saved := some (L.savedRegs L.pm.cellar, L.lc.digest), vinLow := none, vinBack := false
      pads := if L.pm.cellar then 15 else 11, held := L.heldNow } } :=
  if_neg (not_not_intro h)

theorem finalWindowEnd_idle (h : L.pm.phase ≠ .window ∨ L.now < L.pm.phaseAt + ns 5500) : L.finalWindowEnd = L := if_pos h

/-- The lane as the final window leaves it: in its sleep level, the entry over. -/
def entered : Lane :=
  { L with pm := { L.pm with level := if L.pm.cellar then .cellar else .hold, phase := .none, entered := L.now, ask := [], acked := [] } }

/-- The same with its entry counted. -/
def enteredTold : Lane := (entered L).tally 1 (if (entered L).pm.cellar then 2 else 1)

section WindowOver

variable (hw : L.pm.phase = .window) (ht : L.pm.phaseAt + ns 5500 ≤ L.now)
include hw ht

theorem finalWindowEnd_over : L.finalWindowEnd = if (enteredTold L).pm.wakes = 0 then enteredTold L else (enteredTold L).startWake :=
  if_neg (fun h => h.elim (fun hn => hn hw) (Nat.not_lt.2 ht))

theorem finalWindowEnd_sleeps (h : (enteredTold L).pm.wakes = 0) : L.finalWindowEnd = enteredTold L :=
  (finalWindowEnd_over L hw ht).trans (if_pos h)

theorem finalWindowEnd_wakes (h : (enteredTold L).pm.wakes ≠ 0) : L.finalWindowEnd = (enteredTold L).startWake :=
  (finalWindowEnd_over L hw ht).trans (if_neg h)

end WindowOver

/-! ### A wake source recognised -/

theorem wakeBy_prepare (x : Nat) (h : L.pm.phase = .prepare) : L.wakeBy x = L.refuse 0x22 6 := if_pos h

theorem committed_of_phase_none (h : L.pm.phase = .none) : L.committed = false := by simp [Lane.committed, h]

theorem wakeBy_asleep (x : Nat) (h : L.pm.phase = .none) (ha : InSleep L) :
    L.wakeBy x = ({ L with pm := { L.pm with wakes := putBit L.pm.wakes x true } }).startWake := by
  simp only [Lane.wakeBy, h, committed_of_phase_none L h]
  exact if_pos ha

theorem wakeBy_awake (x : Nat) (h : L.pm.phase = .none) (ha : L.pm.level = .awake ∨ L.pm.level = .doze) : L.wakeBy x = L := by
  rcases ha with ha | ha <;> simp [Lane.wakeBy, h, committed_of_phase_none L h, ha]

/-! ### What the cellar sees -/

/-- Safety input `i` is looked at. -/
theorem wakeSource_input {i : Nat} (hi : i < 16) :
    L.wakeSource i = if bit (L.fld F.PM_WAKE_INPUT) i && L.inputStands i then L.wakeBy i else L :=
  if_pos hi

theorem wakeSource_input_stands {i : Nat} (hi : i < 16) (he : bit (L.fld F.PM_WAKE_INPUT) i = true) (hs : L.inputStands i = true) :
    L.wakeSource i = L.wakeBy i := by
  rw [wakeSource_input L hi, he, hs]; rfl

theorem wakeSource_input_rests {i : Nat} (hi : i < 16) (h : bit (L.fld F.PM_WAKE_INPUT) i = false ∨ L.inputStands i = false) :
    L.wakeSource i = L := by
  rw [wakeSource_input L hi]
  rcases h with h | h <;> simp [h]

theorem wakeSource_low {i : Nat} (hi : i < 16) :
    L.wakeSource (32 + 2 * i) = { L with pm := { L.pm with inHigh := L.pm.inHigh.set i none } } := by
  have h1 : ¬ 32 + 2 * i < 16 := by omega
  have h2 : 32 ≤ 32 + 2 * i ∧ 32 + 2 * i < 64 := by omega
  have h3 : (32 + 2 * i - 32) / 2 = i := by omega
  have h4 : (32 + 2 * i) % 2 = 0 := by omega
  simp only [Lane.wakeSource, if_neg h1, if_pos h2, h3, h4]; rfl

theorem wakeSource_high {i : Nat} (hi : i < 16) :
    L.wakeSource (33 + 2 * i) = { L with pm := { L.pm with inHigh := L.pm.inHigh.set i (some ((L.pm.inHigh.getD i none).getD L.now)) } } := by
  have h1 : ¬ 33 + 2 * i < 16 := by omega
  have h2 : 32 ≤ 33 + 2 * i ∧ 33 + 2 * i < 64 := by omega
  have h3 : (33 + 2 * i - 32) / 2 = i := by omega
  have h4 : (33 + 2 * i) % 2 = 1 := by omega
  simp only [Lane.wakeSource, if_neg h1, if_pos h2, h3, h4]; rfl

/-- The codes of the standby link and of the timer, and those without a source, show the cellar nothing. -/
theorem wakeSource_other {i : Nat} (h : i = 16 ∨ i = 17 ∨ (18 < i ∧ i < 32)) : L.wakeSource i = L := by
  have h1 : ¬ i < 16 := by omega
  have h2 : ¬ (32 ≤ i ∧ i < 64) := by omega
  have h3 : ¬ 64 ≤ i := by omega
  have h4 : ¬ i = 18 := by omega
  simp [Lane.wakeSource, Lane.when, h1, h2, h3, h4]

/-- The return of the supply is looked at. -/
theorem wakeSource_supply :
    L.wakeSource 18 = if L.flag F.PM_WAKE_SUPPLY ∧ L.asleep ∧ L.supplyBack then L.wakeBy 18 else L := by
  simp [Lane.wakeSource, Lane.when]

/-- A level of VIN_FIELD is seen, and then the return of the supply looked at. -/
theorem wakeSource_level (v : Nat) : L.wakeSource (64 + v) = (L.seeSupply v).wakeSource 18 := by
  have h1 : ¬ 64 + v < 16 := by omega
  have h2 : ¬ (32 ≤ 64 + v ∧ 64 + v < 64) := by omega
  rw [wakeSource_supply]
  simp only [Lane.wakeSource, if_neg h1, if_neg h2, Nat.le_add_right, or_true, true_and, Nat.add_sub_cancel_left, Lane.when, decide_true, if_true]

theorem wakeSource_supply_rests (h : L.flag F.PM_WAKE_SUPPLY = false ∨ L.asleep = false ∨ L.supplyBack = false) : L.wakeSource 18 = L := by
  rw [wakeSource_supply]
  rcases h with h | h | h <;> simp [h]

theorem wakeSource_supply_wakes (hf : L.flag F.PM_WAKE_SUPPLY = true) (hb : L.supplyBack = true) (hp : L.pm.phase = .none) (ha : InSleep L) :
    L.wakeSource 18 = ({ L with pm := { L.pm with wakes := putBit L.pm.wakes 18 true } }).startWake := by
  rw [wakeSource_supply, if_pos ⟨hf, asleep_of_inSleep L ha, hb⟩, wakeBy_asleep L 18 hp ha]

theorem seeSupply_phase (v : Nat) : (L.seeSupply v).pm.phase = L.pm.phase := by unfold Lane.seeSupply; split <;> rfl

theorem seeSupply_level (v : Nat) : (L.seeSupply v).pm.level = L.pm.level := by unfold Lane.seeSupply; split <;> rfl

theorem seeSupply_inSleep (v : Nat) (h : InSleep L) : InSleep (L.seeSupply v) := by unfold InSleep; rwa [seeSupply_level]

theorem wakeTimer_off (h : (L.word F.PM_TIMER).toNat = 0) : L.wakeTimer = L := if_neg (fun c => c.1 h)

theorem wakeTimer_wakes (h : (L.word F.PM_TIMER).toNat ≠ 0) (hp : L.pm.phase = .none) (ha : InSleep L)
    (ht : L.pm.entered + L.cellarTime (ms (L.word F.PM_TIMER).toNat) ≤ L.now) :
    L.wakeTimer = ({ L with pm := { L.pm with wakes := putBit L.pm.wakes 17 true } }).startWake :=
  (if_pos ⟨h, ha.imp_right .inl, ht⟩ : L.wakeTimer = L.wakeBy 17).trans (wakeBy_asleep L 17 hp ha)

/-! ### The end of a wake -/

theorem wakeComplete_idle (a b : Bool) (n : Nat) (h : L.pm.level ≠ .waking) : L.wakeComplete a b n = L := if_pos h

section Waking

variable (a : Bool) (n : Nat) (h : L.pm.level = .waking)
include h

/-- A slot that verified: the lane is entered again. -/
theorem wakeComplete_enters :
    L.wakeComplete a true n = (L.wakeRestore a).wakeEnter (a && (L.pm.saved.getD ([], [])).2 == L.lc.digest) L.pm.cellar n :=
  if_neg (not_not_intro h)

/-- One that did not: the pair halts, and the boot fails. -/
theorem wakeComplete_fails :
    L.wakeComplete a false n = ({ L.wakeRestore a with ic := { (L.wakeRestore a).ic with halted := true } }).wakeFail :=
  if_neg (not_not_intro h)

end Waking

/-! ### Held pads -/

theorem takeClocks_padsHeld (g : Fin 16) (bs : List Nat) (h : L.padsHeld .drive = true) : L.takeClocks g bs = L := by
  simp [Lane.takeClocks, h]

/-! ### Standby link -/

theorem sbAddressMatch_foreign (x n : Nat) (h : L.flag F.SB_CFG_ENABLE = false ∨ L.sbParam = true ∨ x ≠ L.fld F.SB_CFG_ADDR) :
    L.sbAddressMatch x n = L :=
  if_pos (by simpa [or_assoc] using h)

theorem reg_raise_other (f : Fld) (g : Nat) {a : Nat} (h : a ≠ f.addr g 0) : (L.raise f g).reg a = L.reg a :=
  (note_reg _ _ _ _).trans (reg_setFld_other L f 1 g 0 h)

@[simp] theorem reg_setTally (b i v a : Nat) : (L.setTally b i v).reg a = L.reg a := rfl

@[simp] theorem reg_tallyMark (b i a : Nat) : (L.tallyMark b i).reg a = L.reg a := rfl

section TallyRegs

variable {a : Nat} (h : a ≠ F.TL_EVENT_WRAP.addr 0 0)
include h

theorem reg_tallyOne_other (b i n : Nat) : (L.tallyOne b i n).reg a = L.reg a := by
  simp only [Lane.tallyOne]
  split
  · rw [reg_setTally, reg_tallyMark]
  · rw [reg_raise_other _ _ _ h, reg_setTally, reg_tallyMark]

theorem reg_tallyFrom_other (f b i n : Nat) : (L.tallyFrom f b i n).reg a = L.reg a := by
  induction f generalizing L b i with
  | zero => exact reg_tallyOne_other L h b i n
  | succ f ih =>
    refine List.foldlRecOn (motive := fun M : Lane => M.reg a = L.reg a) _ _ (reg_tallyOne_other L h b i n) (fun M hM k _ => ?_)
    split
    · exact (ih M 5 k).trans hM
    · exact hM

/-- Of the registers, counting in a tally changes TL_EVENT alone. -/
theorem reg_tally_other (b i n : Nat) : (L.tally b i n).reg a = L.reg a := by
  unfold Lane.tally
  split
  · rfl
  · exact reg_tallyFrom_other L h 29 b i n

end TallyRegs

/-- The lane that has told and counted a match of its address with `n` bytes after it. -/
def matched (n : Nat) : Lane := ((L.raise F.SB_EVENT_MATCH).tally 21 0).tally 21 1 n

/-- Whether the standby link may wake the lane does not change with that. -/
theorem matched_wakeSb (n : Nat) : (matched L n).flag F.PM_WAKE_SB = L.flag F.PM_WAKE_SB := by
  have ht : F.PM_WAKE_SB.addr 0 0 ≠ F.TL_EVENT_WRAP.addr 0 0 := by decide
  have hm : F.PM_WAKE_SB.addr 0 0 ≠ F.SB_EVENT_MATCH.addr 0 0 := by decide
  simp only [matched, Lane.flag, Lane.fld, reg_tally_other _ ht, reg_raise_other _ _ _ hm]

section OwnAddress

variable (n : Nat) (he : L.flag F.SB_CFG_ENABLE = true) (hp : L.sbParam = false)
include he hp

theorem sbAddressMatch_window (hw : L.pm.phase = .window) :
    L.sbAddressMatch (L.fld F.SB_CFG_ADDR) n = L.raise F.SB_EVENT_WINDOW_NACK := by
  simp [Lane.sbAddressMatch, he, hp, hw]

theorem sbAddressMatch_own (hw : L.pm.phase ≠ .window) :
    L.sbAddressMatch (L.fld F.SB_CFG_ADDR) n = (matched L n).when ((matched L n).flag F.PM_WAKE_SB) (fun L => L.wakeBy 16) := by
  rw [matched_wakeSb]
  simp [Lane.sbAddressMatch, he, hp, hw, matched]

theorem sbRead_reports (hw : L.pm.phase ≠ .window) :
    L.sbRead n = { L.tally 21 2 n with
      rdata := BitVec.ofNat 32 (leNat (([BitVec.ofNat 8 L.sbByte0, BitVec.ofNat 8 L.sbByte1, 0xFF, 0xFF] : List Byte).take n)) } :=
  if_neg (by simp [he, hp, hw])

end OwnAddress

theorem sbRead_silent (n : Nat) (h : L.flag F.SB_CFG_ENABLE = false ∨ L.sbParam = true ∨ L.pm.phase = .window) : L.sbRead n = L :=
  if_pos (by simpa [or_assoc] using h)

/-! ### Heat in sleep (R405) -/

theorem cellarOvertemp_shuts (h : InSleep L) :
    L.cellarOvertemp =
      (({ L with th := { L.th with shutdown := true, wasReset := false } } : Lane).raise F.TH_STATUS_SHUT_FLAG).fault 14 0xFFFF :=
  if_pos h

theorem cellarOvertemp_idle (h : ¬ InSleep L) : L.cellarOvertemp = L := if_neg h

/-- The shutdown flag clears below 130 °C, but not in the cycle that sets it (R13). -/
theorem shutFlagClear_clears {x : Int} (hx : L.tj = some x) (hc : x < 1300) (hn : L.setNow (F.TH_STATUS_SHUT_FLAG.addr 0 0) = 0) :
    L.shutFlagClear = L.setFld F.TH_STATUS_SHUT_FLAG 0 := by
  simp only [Lane.shutFlagClear, hx, hc, hn, and_self, if_true]

theorem shutFlagClear_fresh (hn : L.setNow (F.TH_STATUS_SHUT_FLAG.addr 0 0) ≠ 0) : L.shutFlagClear = L := by
  unfold Lane.shutFlagClear
  split
  · exact if_neg (fun c => hn c.2)
  · rfl

theorem shutFlagClear_hot {x : Int} (hx : L.tj = some x) (hh : 1300 ≤ x) : L.shutFlagClear = L := by
  simp only [Lane.shutFlagClear, hx, Int.not_lt.2 hh, false_and, if_false]

theorem shutFlagClear_unread (hx : L.tj = none) : L.shutFlagClear = L := by simp only [Lane.shutFlagClear, hx]

/-- Settles O55: the sleep by its phases and the sources that wake it, the pads that are held, the standby link and the heat. -/
theorem saveWakeAndStandby : Obligations.SaveWakeAndStandby := by
  refine ⟨?sleep, ?pads, ?standby⟩
  case sleep =>
    intro s l t L asleep
    refine ⟨fun h => ?saveIdle, fun h => ?save, fun h => ?windowIdle, fun hw ht => ⟨fun h => ?sleeps, fun h => ?wakes⟩,
      fun i hi => ⟨fun he hs => ⟨fun hp => ?inputPrepare, fun hp ha => ?inputWakes, fun hp ha => ?inputAwake⟩, fun h => ?inputRests, ?low, ?high⟩,
      fun i hi => ?other, fun h => ?supplyRests, fun hf hb hp ha => ?supplyWakes,
      fun v => ⟨fun h => ?levelRests, fun hf hb hp ha => ?levelWakes⟩, fun h => ?timerOff, fun h hp ha ht => ?timerWakes,
      fun a b n h => ?wakeIdle, fun a n h => ⟨?enters, ?fails⟩⟩
    case saveIdle => exact does_ungated rfl (larderSaveDone_idle L h)
    case save => exact does_ungated rfl (larderSaveDone_saves L h)
    case windowIdle => exact does_ungated rfl (finalWindowEnd_idle L h)
    case sleeps => exact does_ungated rfl (finalWindowEnd_sleeps L hw ht h)
    case wakes => exact does_ungated rfl (finalWindowEnd_wakes L hw ht h)
    case inputPrepare => exact does_ungated rfl ((wakeSource_input_stands L hi he hs).trans (wakeBy_prepare L i hp))
    case inputWakes => exact does_ungated rfl ((wakeSource_input_stands L hi he hs).trans (wakeBy_asleep L i hp ha))
    case inputAwake => exact does_ungated rfl ((wakeSource_input_stands L hi he hs).trans (wakeBy_awake L i hp ha))
    case inputRests => exact does_ungated rfl (wakeSource_input_rests L hi h)
    case low => exact does_ungated rfl (wakeSource_low L hi)
    case high => exact does_ungated rfl (wakeSource_high L hi)
    case other => exact does_ungated rfl (wakeSource_other L hi)
    case supplyRests => exact does_ungated rfl (wakeSource_supply_rests L h)
    case supplyWakes => exact does_ungated rfl (wakeSource_supply_wakes L hf hb hp ha)
    case levelRests => exact does_ungated rfl ((wakeSource_level L v).trans (wakeSource_supply_rests _ h))
    case levelWakes =>
      exact does_ungated rfl ((wakeSource_level L v).trans
        (wakeSource_supply_wakes _ hf hb ((seeSupply_phase L v).trans hp) (seeSupply_inSleep L v ha)))
    case timerOff => exact does_ungated rfl (wakeTimer_off L h)
    case timerWakes => exact does_ungated rfl (wakeTimer_wakes L h hp ha ht)
    case wakeIdle => exact does_ungated rfl (wakeComplete_idle L a b n h)
    case enters => exact does_ungated rfl (wakeComplete_enters L a n h)
    case fails => exact does_ungated rfl (wakeComplete_fails L a n h)
  case pads =>
    intro s l t g k j p b c n m x cs bs ds es hs is fs z f q L
    refine ⟨fun h => ?drive, fun h => ?field, fun h => ?link⟩
    case drive =>
      exact ⟨does_gateAwakeIn_held rfl h, does_gateIn_held rfl h, does_gateIn_held rfl h, does_gateIn_held rfl h, does_gateIn_held rfl h,
        does_gateIn_held rfl h, does_gateIn_held rfl h, does_gate_fixed rfl (takeClocks_padsHeld L g _ h)⟩
    case field => exact ⟨does_gateIn_held rfl h, does_gateIn_held rfl h⟩
    case link =>
      exact ⟨does_gateIn_held rfl h, does_gateIn_held rfl h, does_gateIn_held rfl h, does_gateIn_held rfl h, does_gateIn_held rfl h,
        does_gateIn_held rfl h, does_gateIn_held rfl h⟩
  case standby =>
    intro s l t L
    refine ⟨fun a n h => ?foreign, fun n he hp => ⟨fun hw => ?nack, fun hw => ?own⟩, fun n h => ?silent, fun n he hp hw => ?reports,
      fun h => ?shuts, fun hh hc => ?cool, fun hp => ⟨fun x hx hc hn => ?clears, fun hn => ?fresh, fun x hx hh => ?hot, fun hx => ?unread⟩⟩
    case foreign => exact does_ungated rfl (sbAddressMatch_foreign L a n h)
    case nack => exact does_ungated rfl (sbAddressMatch_window L n he hp hw)
    case own => exact does_ungated rfl (sbAddressMatch_own L n he hp hw)
    case silent => exact does_ungated rfl (sbRead_silent L n h)
    case reports => exact does_ungated rfl (sbRead_reports L n he hp hw)
    case shuts => exact does_ungated rfl (cellarOvertemp_shuts L h)
    case cool => exact does_ungated rfl (cellarOvertemp_idle L (fun h => h.elim hh hc))
    case clears => exact does_gatePair rfl hp (shutFlagClear_clears L hx hc hn)
    case fresh => exact does_gatePair rfl hp (shutFlagClear_fresh L hn)
    case hot => exact does_gatePair rfl hp (shutFlagClear_hot L hx hh)
    case unread => exact does_gatePair rfl hp (shutFlagClear_unread L hx)

end Sys2Proof.Proofs
end

section
/-! PROOFS. A store of the helm pair: compared (R328, R329), judged by the PMP (R340 to R342), and written or refused on the bus (R335, R336,
R442). -/

namespace Sys2Proof.Proofs

open Sys2Proof.Machine Sys2Proof.Laws

variable (L : Lane) {a n : Nat} {v : Word} {u : Bool}

/-! ### The compare buffer -/

theorem agrees_iff (y : Option BusTxn) : (⟨n, v, u, y⟩ : StoreData).agrees a = true ↔ y = none ∨ y = some ⟨.write, a, n, v, u, 0⟩ := by
  cases y <;> simp [StoreData.agrees, StoreData.txn]

theorem pairMismatch_running (h : L.ic.halted = false) : L.pairMismatch = L.fault 7 0xFFFF := if_pos (by simp [Lane.pairRan, h])

theorem pairWrite_halted (x : StoreData) (h : L.ic.halted = true) : L.pairWrite a x = L := if_pos h

theorem pairWrite_differs {y : BusTxn} (h : L.ic.halted = false) (hy : y ≠ ⟨.write, a, n, v, u, 0⟩) :
    L.pairWrite a ⟨n, v, u, some y⟩ = L.fault 7 0xFFFF := by
  have ha : (⟨n, v, u, some y⟩ : StoreData).agrees a ≠ true := by simp [agrees_iff, hy]
  rw [Lane.pairWrite, if_neg (by simp [h]), if_neg ha, pairMismatch_running L h]

theorem pairWrite_agreed {y : Option BusTxn} (h : L.ic.halted = false) (hy : y = none ∨ y = some ⟨.write, a, n, v, u, 0⟩) :
    L.pairWrite a ⟨n, v, u, y⟩ = L.registerWrite u a n v := by
  rw [Lane.pairWrite, if_neg (by simp [h]), if_pos ((agrees_iff y).2 hy)]

/-! ### Application and alignment -/

theorem registerWrite_app_idle (hr : L.appRuns = false) (hu : u = true) : L.registerWrite u a n v = L := if_pos (by simp [hr, hu])

section Running

variable (hh : L.ic.halted = false)
include hh

theorem registerWrite_app_misaligned (hr : L.appRuns = true) (hu : u = true) (hm : n = 0 ∨ a % n ≠ 0) :
    L.registerWrite u a n v = (L.trapped true 6 a).appAbort 1 := by
  rw [Lane.registerWrite, if_neg (by simp [hh, hr]), if_pos (by simpa [hu] using hm)]

theorem registerWrite_app_refused (hr : L.appRuns = true) (hu : u = true) (hn : n ≠ 0) (hm : a % n = 0) (hp : L.pmpMay true 2 a = false) :
    L.registerWrite u a n v = (L.trapped true 7 a).appAbort 1 := by
  rw [Lane.registerWrite, if_neg (by simp [hh, hr]), if_neg (by simp [hn, hm]), if_pos (by simp [hu, hp])]

theorem registerWrite_machine_misaligned (hu : u = false) (hm : n = 0 ∨ a % n ≠ 0) :
    L.registerWrite u a n v = if a < 0x40000000 then L.trapped false 6 a else { L.trapped false 6 a with busErr := true } := by
  rw [Lane.registerWrite, if_neg (by simp [hh, hu]), if_neg (by simp [hu]), if_neg (by simp [hu]), if_pos hm]

/-! ### The bus -/

/-- A store that reaches the bus: the PMP judges it for machine mode, and the memory or the peripheral window at its address takes or refuses it. -/
def busStore (a n : Nat) (v : Word) : Lane :=
  if !(L.pmpMay false 2 a) then L.taskFault 7 a
  else if a < 0x40000000 then
    if !(memMapped a) || memReadOnly a || (decide (0x25000000 ≤ a) && decide (a < 0x25010000)) then { L with busErr := true }
    else ({ L with busErr := false }).memStore a n v
  else if L.busRefuses a n then { L with busErr := true }
  else ({ L with busErr := false }).putReg a v

/-- An aligned store in machine mode, or of a running application that the PMP lets through, reaches the bus. -/
theorem registerWrite_issued (hu : u = true → L.appRuns = true ∧ L.pmpMay true 2 a = true) (hn : n ≠ 0) (hm : a % n = 0) :
    L.registerWrite u a n v = busStore L a n v := by
  have h1 : ¬ (L.ic.halted || (u && !L.appRuns)) = true := by cases u <;> simp_all
  have h2 : ¬ (u && (n == 0 || a % n != 0)) = true := by simp [hn, hm]
  have h3 : ¬ (u && !(L.pmpMay true 2 a)) = true := by cases u <;> simp_all
  rw [Lane.registerWrite, if_neg h1, if_neg h2, if_neg h3, if_neg (by simp [hn, hm])]
  rfl

end Running

theorem busStore_refused (hp : L.pmpMay false 2 a = false) : busStore L a n v = L.taskFault 7 a := if_pos (by simp [hp])

section Allowed

variable (hp : L.pmpMay false 2 a = true)
include hp

theorem busStore_memory (ha : a < 0x40000000) :
    busStore L a n v = if memMapped a = false ∨ memReadOnly a = true ∨ (0x25000000 ≤ a ∧ a < 0x25010000) then { L with busErr := true }
      else ({ L with busErr := false }).memStore a n v := by
  simp [busStore, hp, ha, or_assoc]

theorem busStore_memory_refuses (ha : a < 0x40000000) (h : memMapped a = false ∨ memReadOnly a = true ∨ (0x25000000 ≤ a ∧ a < 0x25010000)) :
    busStore L a n v = { L with busErr := true } :=
  (busStore_memory L hp ha).trans (if_pos h)

theorem busStore_memory_takes (ha : a < 0x40000000) (hmap : memMapped a = true) (hro : memReadOnly a = false)
    (hl : a < 0x25000000 ∨ 0x25010000 ≤ a) : busStore L a n v = ({ L with busErr := false }).memStore a n v :=
  (busStore_memory L hp ha).trans (if_neg (by simp [hmap, hro]; omega))

theorem busStore_window (ha : 0x40000000 ≤ a) :
    busStore L a n v = if L.busRefuses a n then { L with busErr := true } else ({ L with busErr := false }).putReg a v := by
  rw [busStore, if_neg (by simp [hp]), if_neg (Nat.not_lt.2 ha)]

/-- A byte or a half-word in a peripheral window ends in a bus error (R10). -/
theorem busStore_window_part (ha : 0x40000000 ≤ a) (hn : n ≠ 4) : busStore L a n v = { L with busErr := true } :=
  (busStore_window L hp ha).trans (if_pos (by simp [Lane.busRefuses, hn]))

theorem busStore_window_hole (ha : 0x40000000 ≤ a) (h : busHole a = true) : busStore L a n v = { L with busErr := true } :=
  (busStore_window L hp ha).trans (if_pos (by simp [Lane.busRefuses, h]))

/-- A word of a register outside the cycle of a lane reset acts by the register's own rules. -/
theorem busStore_register (ha : 0x40000000 ≤ a) (hn : n = 4) (hm : a % n = 0) (hb : busHole a = false) (ht : L.sy.releasedAt / 8 ≠ L.now / 8) :
    busStore L a n v = ({ L with busErr := false }).putReg a v := by
  subst hn
  exact (busStore_window L hp ha).trans (if_neg (by simp [Lane.busRefuses, hm, hb, ht]))

end Allowed

/-- Settles O57: first what the compare buffer lets go, then the application's exceptions and alignment, then the bus by the PMP and the address. -/
theorem busWrites : Obligations.BusWrites := by
  intro s l t a n v u L ha
  refine ⟨fun x hh => does_gate rfl ha (pairWrite_halted L x hh), fun y hh hy => does_gate rfl ha (pairWrite_differs L hh hy),
    fun y hy hh => ?agreed⟩
  have store {M : Lane} (h : L.registerWrite u a n v = M) : Does (.registerWrite l t a ⟨n, v, u, y⟩) l t s M :=
    does_gate rfl ha ((pairWrite_agreed L hh hy).trans h)
  refine ⟨fun hr hu => store (registerWrite_app_idle L hr hu), fun hr hu hm => store (registerWrite_app_misaligned L hh hr hu hm),
    fun hr hu hn hm hp => store (registerWrite_app_refused L hh hr hu hn hm hp), fun hu hm => ?misaligned, fun hu hn hm => ?issued⟩
  case misaligned =>
    have h := registerWrite_machine_misaligned L (v := v) hh hu hm
    exact ⟨fun hlo => store (h.trans (if_pos hlo)), fun hhi => store (h.trans (if_neg (Nat.not_lt.2 hhi)))⟩
  case issued =>
    have bus {M : Lane} (h : busStore L a n v = M) : Does (.registerWrite l t a ⟨n, v, u, y⟩) l t s M :=
      store ((registerWrite_issued L hh hu hn hm).trans h)
    exact ⟨fun hp => bus (busStore_refused L hp),
      fun hp hlo => ⟨fun h => bus (busStore_memory_refuses L hp hlo h), fun hmap hro hl => bus (busStore_memory_takes L hp hlo hmap hro hl)⟩,
      fun hp hhi => ⟨fun h4 => bus (busStore_window_part L hp hhi h4), fun hb => bus (busStore_window_hole L hp hhi hb),
        fun h4 hb ht => bus (busStore_register L hp hhi h4 hm hb ht)⟩⟩

end Sys2Proof.Proofs
end

section
/-! PROOFS. One command, one lane (R19, R33): every command works on its own lane alone, so that over whole queues the lanes are isolated, and every
step keeps lane names and waiting interrupt targets settled (R338). -/

namespace Sys2Proof.Proofs

open Sys2Proof.Machine Sys2Proof.Laws

/-! ### A command is an operation on its lane -/

/-- Whatever the command, what it does is one operation on one lane, the command's own, at one time. -/
theorem exec_eq_onLane (i : Instr) : ∃ (t : Nat) (f : Lane → Lane), ∀ s, exec i s = onLane i.lane t f s := by
  cases i <;> exact ⟨_, _, fun _ => rfl⟩

/-- Every command answers a next state, in which its lane is what some operation made of it and settled. -/
theorem exec_eq_next (i : Instr) : ∃ (t : Nat) (f : Lane → Lane), ∀ s,
    exec i s = .next (s.setLane i.lane ((f (s.seen i.lane t)).after i.lane (s.seen i.lane t).now)) :=
  exec_eq_onLane i

/-- Settles O2: a command is an operation on its lane, and setting a lane leaves the queue and the others. -/
theorem commandChangesOnlyItsLane : Obligations.CommandChangesOnlyItsLane := by
  intro i s
  obtain ⟨t, f, h⟩ := exec_eq_next i
  exact ⟨_, h s, State.setLane_pending .., fun l hl => State.lane_setLane_other _ _ hl⟩

/-- Settles O3: what the operation makes of the lane is a function of that lane. -/
theorem commandReadsOnlyItsLane : Obligations.CommandReadsOnlyItsLane := by
  intro i s₁ s₂ t₁ t₂ hs h₁ h₂
  obtain ⟨t, f, h⟩ := exec_eq_next i
  obtain rfl := Host.Outcome.next.inj ((h s₁).symm.trans h₁)
  obtain rfl := Host.Outcome.next.inj ((h s₂).symm.trans h₂)
  simp only [State.lane_setLane_same, State.seen, hs]

/-! ### Whole queues -/

/-- A queue run to its end from its front command on. -/
theorem run_cons {i : Instr} {q : List Instr} {s s' : State} (h : exec i { s with pending := q } = .next s') (hq : s'.pending = q) :
    core.run (i :: q).length { s with pending := i :: q } = core.run q.length { s' with pending := q } := by
  subst hq
  have hstep : core.step { s with pending := i :: s'.pending } = .next s' := h
  simp only [List.length_cons, Host.Core.run, hstep]

/-- From packages that agree on lane `l`, a queue and its commands to that lane alone run to packages that agree on it. -/
theorem run_agrees_filter (l : LaneId) (q : List Instr) : ∀ s₁ s₂ : State, s₁.lane l = s₂.lane l → ∃ t u : State,
    core.run q.length { s₁ with pending := q } = .next t ∧
    core.run (q.filter (fun i => decide (i.lane = l))).length { s₂ with pending := q.filter (fun i => decide (i.lane = l)) } = .next u ∧
    t.lane l = u.lane l := by
  induction q with
  | nil => exact fun s₁ s₂ hs => ⟨_, _, rfl, rfl, by simpa using hs⟩
  | cons i q ih =>
    intro s₁ s₂ hs
    obtain ⟨s₁', h₁, hq₁, hother⟩ := commandChangesOnlyItsLane i { s₁ with pending := q }
    rw [run_cons h₁ hq₁]
    by_cases hi : i.lane = l
    · obtain ⟨s₂', h₂, hq₂, -⟩ := commandChangesOnlyItsLane i { s₂ with pending := q.filter (fun i => decide (i.lane = l)) }
      rw [List.filter_cons_of_pos (by simpa using hi), run_cons h₂ hq₂]
      subst hi
      exact ih s₁' s₂' (commandReadsOnlyItsLane i _ _ _ _ (by simpa using hs) h₁ h₂)
    · rw [List.filter_cons_of_neg (by simpa using hi)]
      have hkept : s₁'.lane l = s₁.lane l := by simpa using hother l (Ne.symm hi)
      exact ih s₁' s₂ (hkept.trans hs)

/-- Settles O4, by induction on the queue: a command to the lane does to it the same in both runs, any other leaves it as it is. -/
theorem laneIsIsolatedOverRuns : Obligations.LaneIsIsolatedOverRuns :=
  fun l q s => run_agrees_filter l q s s rfl

/-! ### The invariant of the lanes -/

/-- A lane is settled after every operation, whatever it was before. -/
theorem after_settled (L : Lane) (l : LaneId) (n : Nat) : (L.after l n).Settled l := ⟨rfl, icSettle_settled _⟩

/-- A step that answers a next state idles on an empty queue, or runs the front command with the rest of the queue. -/
theorem step_cases {s s' : State} (h : step s = .next s') :
    (s.pending = [] ∧ s' = s) ∨ ∃ i q, s.pending = i :: q ∧ exec i { s with pending := q } = .next s' := by
  unfold step at h
  split at h
  case h_1 hq => exact .inl ⟨hq, (Host.Outcome.next.inj h).symm⟩
  case h_2 i q hq => exact .inr ⟨i, q, hq, h⟩

theorem exec_keeps_inv {i : Instr} {s s' : State} (hs : s.Inv) (h : exec i s = .next s') : s'.Inv := by
  obtain ⟨t, f, hf⟩ := exec_eq_next i
  obtain rfl := Host.Outcome.next.inj ((hf s).symm.trans h)
  intro l
  by_cases hl : l = i.lane
  · subst hl
    rw [State.lane_setLane_same]
    exact after_settled ..
  · rw [State.lane_setLane_other _ _ hl]
    exact hs l

/-- Settles O6: an idle step changes nothing, and a command leaves its lane settled and the others as they were. -/
theorem everyStepKeepsSettledLanes : Obligations.EveryStepKeepsSettledLanes := by
  intro s s' hs h
  obtain ⟨-, rfl⟩ | ⟨i, q, -, hi⟩ := step_cases h
  · exact hs
  · exact exec_keeps_inv (fun l => by simpa using hs l) hi

theorem reset_settled (l : LaneId) : (Lane.reset l).Settled l := ⟨rfl, fun _ h => nomatch h⟩

/-- Settles O7: after reset every lane has its own name, and no target waits. -/
theorem resetLanesAreSettled : Obligations.ResetLanesAreSettled
  | .A => reset_settled .A
  | .B => reset_settled .B
  | .C => reset_settled .C

end Sys2Proof.Proofs
end

section
/-! PROOFS. Frames of the cross-lane links that fail their CRC (R30, R88) or carry a key message of another kind (R465), and the links going down
and coming up (R30). -/

namespace Sys2Proof.Proofs

open Sys2Proof.Machine Sys2Proof.Laws

/-! ### A frame that fails its CRC

Every class of frame is dropped where its check has failed, before anything else of it is looked at. -/

section BadFrame

variable (L : Lane) (p : Port)

theorem rxFrame_bad (n : Nat) : (L.rxFrame p false n).2 = false := rfl

theorem angleFrameReceive_bad (fr : AngleFrame) : L.angleFrameReceive p fr false = (L.rxFrame p false 144).1 :=
  rfl

theorem voteFrameReceive_bad (fr : VoteFrame) : L.voteFrameReceive p fr false = (L.rxFrame p false 16).1 :=
  rfl

theorem setpointFrameReceive_bad (fr : SetpointFrame) : L.setpointFrameReceive p fr false = (L.rxFrame p false 208).1 :=
  rfl

theorem shelfFrameReceive_bad (fr : ShelfFrame) :
    L.shelfFrameReceive p fr false =
      (L.rxFrame p false 1040).1.when (L.rxFrame p false 1040).1.inSvcShadow (·.raise F.KY_EVENT_SHELF_REJECT) :=
  if_neg (by simp [rxFrame_bad])

theorem coordinationFrameReceive_bad (fr : CoordFrame) : L.coordinationFrameReceive p fr false = (L.rxFrame p false 40).1 :=
  rfl

end BadFrame

/-! ### A key message that is not taken -/

section KeyMessage

variable (L : Lane) (p : Port) (m : KeyMsg)

theorem rxKey_bad (k : Nat) : (L.rxKey p m k false).2 = false := rfl

/-- A key message of another kind than its command's is discarded, though its frame is good (R465). -/
theorem rxKey_otherKind {k : Nat} (ok : Bool) (h : m.kind ≠ k) : (L.rxKey p m k ok).2 = false := by simp [Lane.rxKey, h]

variable {L p m} {ok : Bool}

theorem renewalReceive_discards (h : (L.rxKey p m 0 ok).2 = false) : L.renewalReceive p m ok = (L.rxFrame p ok 16).1 :=
  if_pos (by simp [h])

theorem renewalAckReceive_discards (h : (L.rxKey p m 1 ok).2 = false) : L.renewalAckReceive p m ok = (L.rxFrame p ok 16).1 :=
  if_pos (by simp [h])

theorem claimReceive_discards (h : (L.rxKey p m 2 ok).2 = false) : L.claimReceive p m ok = (L.rxFrame p ok 16).1 :=
  if_pos (by simp [h])

theorem claimAckReceive_discards (h : (L.rxKey p m 3 ok).2 = false) : L.claimAckReceive p m ok = (L.rxFrame p ok 16).1 :=
  if_pos (by simp [h])

theorem claimWithdrawalReceive_discards (h : (L.rxKey p m 4 ok).2 = false) : L.claimWithdrawalReceive p m ok = (L.rxFrame p ok 16).1 :=
  if_pos (by simp [h])

theorem releaseReceive_discards (h : (L.rxKey p m 5 ok).2 = false) : L.releaseReceive p m ok = (L.rxFrame p ok 16).1 :=
  if_pos (by simp [h])

theorem revocationReceive_discards (h : (L.rxKey p m 6 ok).2 = false) : L.revocationReceive p m ok = (L.rxFrame p ok 16).1 :=
  if_pos (by simp [h])

end KeyMessage

/-- Settles O24, by the class of the frame: each is dropped once its check has failed, and a key message of another kind is discarded. -/
theorem badFrameOnlyCountsAsBad : Obligations.BadFrameOnlyCountsAsBad := by
  intro s l t p L ha bad
  refine ⟨fun fr => does_gate rfl ha (angleFrameReceive_bad L p fr), fun fr => does_gate rfl ha (voteFrameReceive_bad L p fr),
    fun fr => does_gate rfl ha (setpointFrameReceive_bad L p fr), fun fr => does_gate rfl ha (shelfFrameReceive_bad L p fr),
    fun fr => does_gate rfl ha (coordinationFrameReceive_bad L p fr), fun m => ?badKey, fun m ok => ?otherKind⟩
  case badKey =>
    have hb := rxKey_bad L p m
    exact ⟨does_gate rfl ha (renewalReceive_discards (hb 0)), does_gate rfl ha (renewalAckReceive_discards (hb 1)),
      does_gate rfl ha (claimReceive_discards (hb 2)), does_gate rfl ha (claimAckReceive_discards (hb 3)),
      does_gate rfl ha (claimWithdrawalReceive_discards (hb 4)), does_gate rfl ha (releaseReceive_discards (hb 5)),
      does_gate rfl ha (revocationReceive_discards (hb 6))⟩
  case otherKind =>
    have ho {k : Nat} := rxKey_otherKind L p m (k := k) ok
    exact ⟨fun h => does_gate rfl ha (renewalReceive_discards (ho h)), fun h => does_gate rfl ha (renewalAckReceive_discards (ho h)),
      fun h => does_gate rfl ha (claimReceive_discards (ho h)), fun h => does_gate rfl ha (claimAckReceive_discards (ho h)),
      fun h => does_gate rfl ha (claimWithdrawalReceive_discards (ho h)), fun h => does_gate rfl ha (releaseReceive_discards (ho h)),
      fun h => does_gate rfl ha (revocationReceive_discards (ho h))⟩

/-! ### Links down and up -/

section Links

variable (L : Lane) (p : Port)

theorem linkSilence_falls (h : (L.link p).lastValid + us 20 ≤ L.now ∨ 3 ≤ (L.link p).crcRun) : L.linkSilence p = L.linkDown p :=
  if_pos (by simpa using h)

theorem linkSilence_stands (ht : L.now < (L.link p).lastValid + us 20) (hr : (L.link p).crcRun < 3) : L.linkSilence p = L :=
  if_neg (by simp [ht, hr])

theorem linkUp_idle (h : (L.link p).up = true ∨ (L.link p).valid < 100) : L.linkUp p = L := if_pos (by simpa using h)

/-- The link up again, and its declared loss over. -/
def relinked : Lane := L.setLink p { L.link p with up := true, declared := false, remote := false }

theorem linkUp_comesUp_next (hu : (L.link .N).up = false) (hv : 100 ≤ (L.link .N).valid) :
    L.linkUp .N = ((relinked L .N).raise F.CX_EVENT_UP_N).when (L.link .N).declared (·.bump F.CX_ERR_N_RETURNS) :=
  if_neg (by simp [hu, hv])

theorem linkUp_comesUp_previous (hu : (L.link .P).up = false) (hv : 100 ≤ (L.link .P).valid) :
    L.linkUp .P = ((relinked L .P).raise F.CX_EVENT_UP_P).when (L.link .P).declared (·.bump F.CX_ERR_P_RETURNS) :=
  if_neg (by simp [hu, hv])

end Links

/-- Settles O26, by whether the silence, the run of failures or the run of valid frames suffices. -/
theorem linksGoDownAndUp : Obligations.LinksGoDownAndUp := by
  intro s l t p L ha
  exact ⟨fun h => does_gate rfl ha (linkSilence_falls L p h), fun ht hr => does_gate rfl ha (linkSilence_stands L p ht hr),
    fun h => does_gate rfl ha (linkUp_idle L p h), fun hu hv => does_gate rfl ha (linkUp_comesUp_next L hu hv),
    fun hu hv => does_gate rfl ha (linkUp_comesUp_previous L hu hv)⟩

end Sys2Proof.Proofs
end

section
/-! PROOFS. The die-to-die link (R25, R26) and the field supplies (R222). -/

namespace Sys2Proof.Proofs

open Sys2Proof.Machine Sys2Proof.Laws

variable (L : Lane)

/-! ### Frames of the die-to-die link -/

/-- The logic die with its run of bad frames cleared by a good one, whose time it keeps. -/
def d2dCleared : Lane := { L with sf := { L.sf with d2dRun := 0, d2dInj := false, d2dLast := L.now } }

section LogicDie

variable (hi : L.injecting 10 = false)
include hi

theorem d2dFrameReceive_good : L.d2dFrameReceive true none = d2dCleared L := by
  simp [Lane.d2dFrameReceive, Lane.when, hi, d2dCleared]

theorem d2dFrameReceive_good_temp (x : Int) : L.d2dFrameReceive true (some x) = (d2dCleared L).thermalSample 4 x := by
  simp [Lane.d2dFrameReceive, Lane.when, hi, d2dCleared]

theorem d2dFrameReceive_bad (temp : Option Int) :
    L.d2dFrameReceive false temp = { L with sf := { L.sf with d2dRun := L.sf.d2dRun + 1 } } := by
  simp [Lane.d2dFrameReceive, Lane.when, hi]

end LogicDie

/-- An injected error counts whatever the frame. -/
theorem d2dFrameReceive_injected (ok : Bool) (temp : Option Int) (hi : L.injecting 10 = true) :
    L.d2dFrameReceive ok temp = { L.injTake with sf := { L.injTake.sf with d2dRun := L.injTake.sf.d2dRun + 1, d2dInj := true } } := by
  simp [Lane.d2dFrameReceive, Lane.when, hi]

theorem fieldFrame_good : L.fieldFrame true = { L with sf := { L.sf with fieldRun := 0, fieldLast := L.now } } := rfl

theorem fieldFrame_bad : L.fieldFrame false = { L with sf := { L.sf with fieldRun := L.sf.fieldRun + 1 } } := rfl

/-! ### The loss of the die-to-die link -/

/-- The logic die finds the link lost, which is fault source 12. -/
theorem d2dLinkLoss_logic (hl : L.sf.d2dLost = false) (h : 2 ≤ L.sf.d2dRun ∨ L.sf.d2dLast + us 4 ≤ L.now) :
    L.d2dLinkLoss = (({ L with sf := { L.sf with d2dLost := true } }).fault 12 0xFFFF (L.sf.d2dInj && decide (2 ≤ L.sf.d2dRun))).fieldOff :=
  if_neg (by simp [hl]; omega)

/-- Else the field die is left to judge. -/
theorem d2dLinkLoss_field (h : L.sf.d2dLost = true ∨ (L.sf.d2dRun < 2 ∧ L.now < L.sf.d2dLast + us 4)) : L.d2dLinkLoss = L.fieldLoss :=
  if_pos (by simpa using h)

theorem fieldLoss_lost (hl : L.sf.fieldLost = false) (h : 2 ≤ L.sf.fieldRun ∨ L.sf.fieldLast + us 4 ≤ L.now) : L.fieldLoss = L.fieldOff :=
  if_neg (by simp [hl]; omega)

theorem fieldLoss_idle (h : L.sf.fieldLost = true ∨ (L.sf.fieldRun < 2 ∧ L.now < L.sf.fieldLast + us 4)) : L.fieldLoss = L :=
  if_pos (by simpa using h)

/-! ### Field supplies -/

section Supplies

variable (x : Fin 8)

theorem supplyLimitTrip_trips (ho : L.supplyOn x = true) (hl : (L.supply x).lim = true) (ht : (L.supply x).limSince + ms 10 ≤ L.now) :
    L.supplyLimitTrip x = L.supplyTrip x :=
  if_pos (by simp [ho, hl, ht])

theorem supplyLimitTrip_idle (h : L.supplyOn x = false ∨ (L.supply x).lim = false ∨ L.now < (L.supply x).limSince + ms 10) :
    L.supplyLimitTrip x = L :=
  if_neg (by rcases h with h | h | h <;> simp [h])

theorem supplyRetry_unset (k : Bool) (h : (L.supply x).retryAt = none) : L.supplyRetry x k = L := by simp only [Lane.supplyRetry, h]

/-- A supply that waits to retry does so when it is still enabled and off and its wait has ended. -/
theorem supplyRetry_set {d : Nat} (k : Bool) (h : (L.supply x).retryAt = some d) :
    L.supplyRetry x k = if L.supplyEn x = false ∨ (L.supply x).off = false ∨ L.now < d then L
      else L.updSupply x (fun y => { y with off := k, trying := k, lim := k, limSince := L.now, retryAt := none }) := by
  simp [Lane.supplyRetry, h, or_assoc]

theorem supplyRetry_early {d : Nat} (k : Bool) (h : (L.supply x).retryAt = some d) (ht : L.now < d) : L.supplyRetry x k = L :=
  (supplyRetry_set L x k h).trans (if_pos (.inr (.inr ht)))

theorem supplyRetry_tries {d : Nat} (k : Bool) (h : (L.supply x).retryAt = some d) (he : L.supplyEn x = true) (ho : (L.supply x).off = true)
    (ht : d ≤ L.now) :
    L.supplyRetry x k = L.updSupply x (fun y => { y with off := k, trying := k, lim := k, limSince := L.now, retryAt := none }) :=
  (supplyRetry_set L x k h).trans (if_neg (by simp [he, ho, ht]))

/-- One with no wait, disabled or not off does not retry. -/
theorem supplyRetry_idle (k : Bool) (h : (L.supply x).retryAt = none ∨ L.supplyEn x = false ∨ (L.supply x).off = false) :
    L.supplyRetry x k = L := by
  cases hr : (L.supply x).retryAt with
  | none => exact supplyRetry_unset L x k hr
  | some d =>
    have h' : L.supplyEn x = false ∨ (L.supply x).off = false := by simpa [hr] using h
    exact (supplyRetry_set L x k hr).trans (if_pos (h'.imp_right .inl))

/-- Supplies 0 to 3 are the pulsed ones, with their enables in PS_EN. -/
theorem supplyEnableClear_pulsed (hx : x.val < 4) :
    L.supplyEnableClear x =
      (L.setFld F.SF_CTRL_PS_EN (putBit (L.fld F.SF_CTRL_PS_EN) x false)).updSupply x (fun _ => SupplyS.reset) := by
  simp only [Lane.supplyEnableClear, if_pos hx]

theorem supplyEnableClear_steady (hx : 4 ≤ x.val) :
    L.supplyEnableClear x =
      (L.setFld F.SF_CTRL_SS_EN (putBit (L.fld F.SF_CTRL_SS_EN) (x - 4) false)).updSupply x (fun _ => SupplyS.reset) := by
  simp only [Lane.supplyEnableClear, if_neg (Nat.not_lt.2 hx)]

theorem supplyCurrentLimit_off (k : Bool) (ho : L.supplyOn x = false) : L.supplyCurrentLimit x k = L := if_pos (by simp [ho])

section On

variable (ho : L.supplyOn x = true)
include ho

theorem supplyCurrentLimit_begins (hl : (L.supply x).lim = false) :
    L.supplyCurrentLimit x true = L.updSupply x (fun y => { y with lim := true, limSince := L.now }) := by
  simp [Lane.supplyCurrentLimit, ho, hl]

theorem supplyCurrentLimit_goesOn (hl : (L.supply x).lim = true) : L.supplyCurrentLimit x true = L := by
  simp [Lane.supplyCurrentLimit, ho, hl]

theorem supplyCurrentLimit_ends :
    L.supplyCurrentLimit x false = L.updSupply x (fun y => { y with off := y.off && !y.trying, trying := false, lim := false }) := by
  simp [Lane.supplyCurrentLimit, ho]

end On

end Supplies

/-- Settles O32: the link by what each die has received, and each supply by its enable, its limitation and its wait. -/
theorem dieToDieLinkAndFieldSupplies : Obligations.DieToDieLinkAndFieldSupplies := by
  refine ⟨?link, ?supplies⟩
  case link =>
    intro s l t L ha
    refine ⟨fun hi => ?logic, fun hi x => ?injected, fun x => ?field, fun hl h => ?lost, fun h => ⟨fun hl hf => ?fieldLost, fun hf => ?idle⟩⟩
    case logic =>
      exact ⟨does_gate rfl ha (d2dFrameReceive_good L hi), fun x => does_gate rfl ha (d2dFrameReceive_good_temp L hi x),
        fun x => does_gate rfl ha (d2dFrameReceive_bad L hi x)⟩
    case injected => exact does_gate rfl ha (d2dFrameReceive_injected L x.ok x.temp hi)
    case field => exact ⟨does_gate rfl ha (fieldFrame_good L), does_gate rfl ha (fieldFrame_bad L)⟩
    case lost => exact does_gate rfl ha (d2dLinkLoss_logic L hl h)
    case fieldLost => exact does_gate rfl ha ((d2dLinkLoss_field L h).trans (fieldLoss_lost L hl hf))
    case idle => exact does_gate rfl ha ((d2dLinkLoss_field L h).trans (fieldLoss_idle L hf))
  case supplies =>
    intro s l t x L ha
    refine ⟨fun ho hl ht => ?trips, fun h => ?noTrip, fun d k h ht => ?early, fun d k h he ho ht => ?tries, fun k h => ?noRetry,
      fun hp hx => ?pulsed, fun hp hx => ?steady, fun ho hl => ?begins, fun ho hl => ?goesOn, fun ho => ?ends, fun ho k => ?off⟩
    case trips => exact does_gate rfl ha (supplyLimitTrip_trips L x ho hl ht)
    case noTrip => exact does_gate rfl ha (supplyLimitTrip_idle L x h)
    case early => exact does_gate rfl ha (supplyRetry_early L x k h ht)
    case tries => exact does_gate rfl ha (supplyRetry_tries L x k h he ho ht)
    case noRetry => exact does_gate rfl ha (supplyRetry_idle L x k h)
    case pulsed => exact does_gatePair rfl hp (supplyEnableClear_pulsed L x hx)
    case steady => exact does_gatePair rfl hp (supplyEnableClear_steady L x hx)
    case begins => exact does_gate rfl ha (supplyCurrentLimit_begins L x ho hl)
    case goesOn => exact does_gate rfl ha (supplyCurrentLimit_goesOn L x ho hl)
    case ends => exact does_gate rfl ha (supplyCurrentLimit_ends L x ho)
    case off => exact does_gate rfl ha (supplyCurrentLimit_off L x k ho)

end Sys2Proof.Proofs
end

section
/-! PROOFS. Supplies, RST_N and the release of lane reset (R41, R432, R436, R440); what lane reset keeps and clears (R437). -/

namespace Sys2Proof.Proofs

open Sys2Proof.Machine Sys2Proof.Laws

variable (L : Lane)

/-! ### Lane reset -/

/-- A tally that does not wrap leaves all of the lane but its tallies. -/
theorem tallyOne_unwrapped (b i n : Nat) (h : L.tallyWord b i % 2 ^ 48 + n < 2 ^ 48) :
    L.tallyOne b i n = { L with tl := (L.tallyOne b i n).tl } := by
  rw [tallyOne_small L b i n h]; rfl

/-- The count of the reset itself is the first one after its tallies were cleared, so that it does not wrap. -/
theorem tallyOne_cleared (h : L.tl = .reset) : L.tallyOne 0 0 1 = { L with tl := (L.tallyOne 0 0 1).tl } := by
  have hw : L.tallyWord 0 0 = 0 := by rw [Lane.tallyWord, h]; rfl
  exact tallyOne_unwrapped L 0 0 1 (by rw [hw]; decide)

/-- What stands through lane reset, and the register file that it leaves (R437). -/
theorem laneReset_keeps :
    L.laneReset.id = L.id ∧ L.laneReset.regs = keptRegs L.id L.regs ∧ L.laneReset.mem = L.mem ∧ L.laneReset.lc.otp = L.lc.otp ∧
    L.laneReset.fc.queue = L.fc.queue ∧ L.laneReset.fc.recov = L.fc.recov := by
  rw [Lane.laneReset, tallyOne_cleared _ rfl]
  exact ⟨rfl, rfl, rfl, rfl, rfl, rfl⟩

/-- What starts afresh after it. -/
theorem laneReset_clears :
    L.laneReset.ky = .reset ∧ L.laneReset.cx = .reset ∧ L.laneReset.groups = Vector.replicate 16 .reset ∧
    L.laneReset.ln = { LnS.reset with timeAt := L.now } ∧ L.laneReset.ic = .reset ∧ L.laneReset.oc = .reset ∧
    L.laneReset.lc.challenge = none ∧ L.laneReset.sy.permit = false := by
  rw [Lane.laneReset, tallyOne_cleared _ rfl]
  exact ⟨rfl, rfl, rfl, rfl, rfl, rfl, rfl, rfl⟩

theorem laneReset_mem : L.laneReset.mem = L.mem := by
  obtain ⟨_, _, hmem, _⟩ := laneReset_keeps L
  exact hmem

/-- A register reads as the bits that lane reset keeps of it, and its reset value elsewhere. -/
theorem reg_laneReset (a : Nat) : L.laneReset.reg a = keptWord L.id a (L.reg a) := by
  obtain ⟨hid, hregs, _⟩ := laneReset_keeps L
  rw [Lane.reg, hid, hregs]
  exact get_keptRegs L.id L.regs a

theorem byte_laneReset (a : Nat) : L.laneReset.byte a = L.byte a := congrArg (cellGet (memDefault a) · a) (laneReset_mem L)

/-! ### The release of lane reset -/

theorem bootState_withdrawn (h : L.heldWithdrawn = true) : L.bootState = .withdrawn := if_pos h

theorem bootState_booting (h : L.heldWithdrawn = false) : L.bootState = .booting := if_neg (by simp [h])

/-- With no lock missed at the boot before, no cause is shown, and the lane is as it was but for its reset, its state and its times. -/
theorem release_quiet (h : L.sy.nolockNext = false) :
    L.release = { L with
      sy := { L.sy with resetHeld := false, releasedAt := L.now, nolockNext := false }
      ky := { L.ky with state := L.bootState }
      ic := { L.ic with cycleAt := L.now, yCycleAt := L.now }
      ln := { L.ln with timeNs := 0, timeFrac := 0, timeAt := L.now } } := by
  have hw : L.when L.sy.nolockNext (·.cause F.SY_RSTCAUSE_NOLOCK) = L := if_neg (by simp [h])
  unfold Lane.release
  rw [hw]

/-- Settles O10: the reset part by part, and its end by what the cellar holds. -/
theorem laneResetKeepsTheCellarOnly : Obligations.LaneResetKeepsTheCellarOnly := by
  refine ⟨fun L => ?reset, fun L h => ?release⟩
  case reset =>
    obtain ⟨_, _, _, hotp, hqueue, hrecov⟩ := laneReset_keeps L
    exact ⟨reg_laneReset L, byte_laneReset L, hotp, hqueue, hrecov, laneReset_clears L⟩
  case release =>
    rw [release_quiet L h]
    exact ⟨rfl, rfl, rfl, rfl, bootState_withdrawn L, bootState_booting L⟩

/-! ### Supplies and RST_N -/

theorem holdReset_mem : L.holdReset.mem = L.mem := laneReset_mem L

/-- The lane held in reset with rail `r` down and its SRAM lost; flash and larder stay (R437). -/
def unpowered (r : Fin 5) : Lane :=
  { L.holdReset with
    mem := L.holdReset.mem.filter (fun c => decide (c.1 < 0x20000000) || (decide (0x25000000 ≤ c.1) && decide (c.1 < 0x25040000)))
    sy := { L.holdReset.sy with rails := putBit L.holdReset.sy.rails r false } }

theorem railLoss_eq (r : Fin 5) :
    L.railLoss r = if r = 3 then (unpowered L r).cellarClear else (unpowered L r).raise F.SY_RSTCAUSE_RAIL := by
  rw [unpowered, holdReset_mem]; rfl

theorem railLoss_shows (r : Fin 5) (h : r ≠ 3) : L.railLoss r = (unpowered L r).raise F.SY_RSTCAUSE_RAIL :=
  (railLoss_eq L r).trans (if_neg h)

/-- VDD_AO takes the content of the cellar with it. -/
theorem railLoss_cellar : L.railLoss 3 = (unpowered L 3).cellarClear := (railLoss_eq L 3).trans (if_pos rfl)

theorem cellarReset_clears : L.cellarReset = (unpowered L 3).cellarClear := railLoss_cellar L

theorem rstNLow_holds :
    L.rstNLow = ({ L.holdReset with sy := { L.holdReset.sy with rstN := false } } : Lane).raise F.SY_RSTCAUSE_PIN := rfl

theorem railsUp_iff : L.railsUp = true ↔ L.sy.rails = 31 := beq_iff_eq

section Return

variable (r : Fin 5)

/-- The 2.0 ms count starts when the rails were not all up and now are (R436). -/
theorem railReturn_last (hw : L.sy.rails ≠ 31) (hl : putBit L.sy.rails r true = 31) :
    L.railReturn r = { L with sy := { L.sy with rails := 31, railsAt := L.now } } := by
  simp [Lane.railReturn, Lane.railsUp, hw, hl]

theorem railReturn_others (hl : putBit L.sy.rails r true ≠ 31) :
    L.railReturn r = { L with sy := { L.sy with rails := putBit L.sy.rails r true } } := by
  simp [Lane.railReturn, Lane.railsUp, hl]

end Return

section Release

variable (k : Bool)

theorem laneResetRelease_boots (hh : L.sy.resetHeld = true) (hr : L.sy.rails = 31) (hn : L.sy.rstN = true) (ht : L.sy.railsAt + ms 2 ≤ L.now) :
    L.laneResetRelease k = ({ L with sy := { L.sy with extRef := k } }).release :=
  if_pos (by simp [hh, (railsUp_iff L).2 hr, hn, ht])

theorem laneResetRelease_waits (h : L.sy.resetHeld = false ∨ L.sy.rails ≠ 31 ∨ L.sy.rstN = false ∨ L.now < L.sy.railsAt + ms 2) :
    L.laneResetRelease k = L := by
  refine if_neg (fun c => ?_)
  simp only [Bool.and_eq_true, railsUp_iff, decide_eq_true_eq] at c
  obtain ⟨⟨⟨hh, hr⟩, hn⟩, ht⟩ := c
  rcases h with h | h | h | h
  · simp [h] at hh
  · exact h hr
  · simp [h] at hn
  · omega

/-- With RST_N high again the lane boots or waits as at any release. -/
theorem rstNRelease_boots (hh : L.sy.resetHeld = true) (hr : L.sy.rails = 31) (ht : L.sy.railsAt + ms 2 ≤ L.now) :
    L.rstNRelease k = ({ L with sy := { L.sy with rstN := true, extRef := k } }).release :=
  laneResetRelease_boots { L with sy := { L.sy with rstN := true } } k hh hr rfl ht

theorem rstNRelease_waits (h : L.sy.resetHeld = false ∨ L.sy.rails ≠ 31 ∨ L.now < L.sy.railsAt + ms 2) :
    L.rstNRelease k = { L with sy := { L.sy with rstN := true } } :=
  laneResetRelease_waits { L with sy := { L.sy with rstN := true } } k (h.imp_right (.imp_right .inr))

end Release

/-- Settles O9: what takes a supply or the pin away, and the release by what still holds the lane. -/
theorem railsPinAndReleaseOfReset : Obligations.RailsPinAndReleaseOfReset := by
  refine ⟨?supplies, ?release⟩
  case supplies =>
    intro s l t L H lost
    exact ⟨fun r h => does_ungated rfl (railLoss_shows L r h), does_ungated rfl (railLoss_cellar L), does_ungated rfl (cellarReset_clears L),
      does_ungated rfl (rstNLow_holds L), fun r hw hl => does_ungated rfl (railReturn_last L r hw hl),
      fun r hl => does_ungated rfl (railReturn_others L r hl)⟩
  case release =>
    intro s l t k L
    exact ⟨fun hh hr hn ht => does_ungated rfl (laneResetRelease_boots L k hh hr hn ht), fun h => does_ungated rfl (laneResetRelease_waits L k h),
      fun hh hr ht => does_ungated rfl (rstNRelease_boots L k hh hr ht), fun h => does_ungated rfl (rstNRelease_waits L k h)⟩

end Sys2Proof.Proofs
end

section
/-! PROOFS. The commands of KY_CMD (R41, R81), the course of a controlled stop (R54) and the host's commands (R47, R50, R61). -/

namespace Sys2Proof.Proofs

open Sys2Proof.Machine Sys2Proof.Laws

/-- A command of the runtime does what its lane operation makes of the lane, once the runtime runs. -/
theorem does_task {i : Instr} {l : LaneId} {t : Nat} {s : State} {M : Lane} {f : Lane → Lane} (hi : exec i s = onLane l t (gateTask f) s)
    (ha : (s.seen l t).acts .core 0x20 = true) (hr : (s.seen l t).runtime = true) (hf : f (s.seen l t) = M) : Does i l t s M :=
  does_of rfl hi ((gateTask_on f ha hr).trans hf)

variable (L : Lane)

/-! ### KY_CMD -/

theorem releaseCmd_idle (h : L.ky.holder ≠ some L.id) : L.releaseCmd = L := if_neg h

/-- The key's holder gives it up and names the lane of rank 1. -/
theorem releaseCmd_givesUp (h : L.ky.holder = some L.id) :
    L.releaseCmd = L.clearKey.sendKey { kind := 5, sender := L.id.index, epoch := L.ky.epoch, number := 0, named := L.rankOne } :=
  if_pos h

theorem benchCmd_asks (h : L.ky.state = .service) : L.benchCmd = { L with ky := { L.ky with benchReq := true } } := if_pos h

theorem benchCmd_idle (h : L.ky.state ≠ .service) : L.benchCmd = L := if_neg h

theorem readmitCmd_asks (h : L.ky.state = .bench) : L.readmitCmd = { L with ky := { L.ky with readmitReq := true } } := if_pos h

theorem readmitCmd_idle (h : L.ky.state ≠ .bench) : L.readmitCmd = L := if_neg h

/-! ### The controlled stop -/

section NoStop

variable (h : L.stop.active = false)
include h

theorem standstillConfirm_noStop : L.standstillConfirm = L := by
  unfold Lane.standstillConfirm
  split
  · rfl
  · exact if_neg (by simp [h])

theorem stopTimeLimit_noStop : L.stopTimeLimit = L := if_neg (by simp [h])

theorem steeringHoldEnd_noStop : L.steeringHoldEnd = L := by
  unfold Lane.steeringHoldEnd
  split
  · rfl
  · exact if_neg (by simp [h])

theorem stopEnd_noStop : L.stopEnd = L := by
  unfold Lane.stopEnd
  split
  · rfl
  · exact if_neg (by simp [h])

end NoStop

section Stop

variable (ha : L.stop.active = true)
include ha

theorem standstillConfirm_confirms {d : Nat} (hc : L.stop.confirmed = none) (hs : L.stop.still = some d) (ht : d + ms L.cfg.stillTime ≤ L.now) :
    L.standstillConfirm = { L with stop := { L.stop with confirmed := some L.now, released := true, held := true } } := by
  simp [Lane.standstillConfirm, hs, ha, hc, ht]

theorem stopTimeLimit_reached (hc : L.stop.confirmed = none) (ht : L.stop.began + sec L.cfg.limitTime ≤ L.now) :
    L.stopTimeLimit = { L with stop := { L.stop with released := true, held := true } } :=
  if_pos (by simp [ha, hc, ht])

theorem steeringHoldEnd_ramps {c : Nat} (hc : L.stop.confirmed = some c) (hr : L.stop.ramp = none) (ht : c + sec L.cfg.holdTime ≤ L.now) :
    L.steeringHoldEnd = { L with stop := { L.stop with ramp := some L.now } } := by
  simp [Lane.steeringHoldEnd, hc, ha, hr, ht]

theorem stopEnd_ends {r : Nat} (hr : L.stop.ramp = some r) (ht : r + ms 100 ≤ L.now) :
    L.stopEnd = { L with stop := { L.stop with active := false, ramp := none, held := true } } := by
  simp [Lane.stopEnd, hr, ha, ht]

end Stop

theorem stopTimeLimit_early (ht : L.now < L.stop.began + sec L.cfg.limitTime) : L.stopTimeLimit = L :=
  if_neg (by simp [Nat.not_le.2 ht])

/-! ### The host's commands -/

theorem setProfile_asks (v : Nat) (h : L.ky.holder = some L.id) (hv : v ≤ 3) :
    L.setProfile v = { L with ky := { L.ky with profileReq := some v } } :=
  if_pos ⟨h, hv⟩

theorem setProfile_idle (v : Nat) (h : L.ky.holder ≠ some L.id ∨ 3 < v) : L.setProfile v = L :=
  if_neg (fun c => h.elim (fun hn => hn c.1) (Nat.not_lt.2 c.2))

theorem startCommand_asks (h : L.ky.state = .bench) : L.startCommand = { L with ky := { L.ky with startCmd := true } } := if_pos h

theorem startCommand_idle (h : L.ky.state ≠ .bench) : L.startCommand = L := if_neg h

theorem stopCommand_asks (h : L.ky.state = .service) : L.stopCommand = { L with ky := { L.ky with stopCmd := true } } := if_pos h

theorem stopCommand_idle (h : L.ky.state ≠ .service) : L.stopCommand = L := if_neg h

/-- Settles O31: the commands by lane state and holder, the stop by what of it has come. -/
theorem commandsAndControlledStop : Obligations.CommandsAndControlledStop := by
  refine ⟨?key, ?stop, ?host⟩
  case key =>
    intro s l t L hp
    exact ⟨fun h => does_gatePair rfl hp (releaseCmd_idle L h), fun h => does_gatePair rfl hp (releaseCmd_givesUp L h),
      fun h => does_gatePair rfl hp (benchCmd_asks L h), fun h => does_gatePair rfl hp (benchCmd_idle L h),
      fun h => does_gatePair rfl hp (readmitCmd_asks L h), fun h => does_gatePair rfl hp (readmitCmd_idle L h)⟩
  case stop =>
    intro s l t L ha hr
    refine ⟨fun h => ?noStop, fun h hc => ⟨fun d hs ht => ?confirms, fun ht => ?limit, fun ht => ?early⟩, fun h c hc hn ht => ?ramps,
      fun h r hp ht => ?ends⟩
    case noStop =>
      exact ⟨does_task rfl ha hr (standstillConfirm_noStop L h), does_task rfl ha hr (stopTimeLimit_noStop L h),
        does_task rfl ha hr (steeringHoldEnd_noStop L h), does_task rfl ha hr (stopEnd_noStop L h)⟩
    case confirms => exact does_task rfl ha hr (standstillConfirm_confirms L h hc hs ht)
    case limit => exact does_task rfl ha hr (stopTimeLimit_reached L h hc ht)
    case early => exact does_task rfl ha hr (stopTimeLimit_early L ht)
    case ramps => exact does_task rfl ha hr (steeringHoldEnd_ramps L h hc hn ht)
    case ends => exact does_task rfl ha hr (stopEnd_ends L h hp ht)
  case host =>
    intro s l t L ha hr
    exact ⟨fun v h hv => does_task rfl ha hr (setProfile_asks L v h hv), fun v h => does_task rfl ha hr (setProfile_idle L v h),
      fun h => does_task rfl ha hr (startCommand_asks L h), fun h => does_task rfl ha hr (startCommand_idle L h),
      fun h => does_task rfl ha hr (stopCommand_asks L h), fun h => does_task rfl ha hr (stopCommand_idle L h)⟩

end Sys2Proof.Proofs
end

section
/-! PROOFS. The PLL and the main clock (R162, R351, R375, R433), the counting monitors (R73, R434), the crystal (R434) and the rails' windows
(R436). -/

namespace Sys2Proof.Proofs

open Sys2Proof.Machine Sys2Proof.Laws

variable (L : Lane)

/-! ### The PLL -/

/-- The cycle counter of the pair brought up to now, as the clock that it counts changes. -/
def recounted : Lane := { L with ic := { L.ic with cycle := L.cycles false, cycleAt := L.now } }

def relocked : Lane := ({ recounted L with sy := { L.sy with lock := true, lostLock := false, mainPll := true } } : Lane).tally 0 2

def firstLocked : Lane := { recounted L with sy := { L.sy with lock := true, mainPll := true } }

theorem pllLocks_again (h : L.sy.lostLock = true) : L.pllLocks = relocked L := if_pos h

section FirstLock

variable (h : L.sy.lostLock = false)
include h

theorem pllLocks_late (hc : L.sy.clockFault = false) (ht : L.sy.releasedAt + ms 5 < L.now) : L.pllLocks = recounted L := by
  simp [Lane.pllLocks, recounted, h, hc, ht]

/-- A first lock counts within 5 ms of the release, or when the main clock had stopped. -/
theorem pllLocks_first (ht : L.sy.clockFault = true ∨ L.now ≤ L.sy.releasedAt + ms 5) : L.pllLocks = firstLocked L := by
  have hn : ¬ (L.sy.releasedAt + ms 5 < L.now ∧ L.sy.clockFault = false) := by
    rintro ⟨hlate, hc⟩
    exact ht.elim (by simp [hc]) (Nat.not_le.2 hlate)
  simp [Lane.pllLocks, firstLocked, recounted, h, hn]

end FirstLock

theorem pllLock_locked (hl : L.sy.lock = true) : L.pllLock = L := if_pos (by simp [hl])

theorem pllLockTimeout_locked (hl : L.sy.lock = true) : L.pllLockTimeout = L := if_pos (by simp [hl])

theorem pllLockLost_falls (hl : L.sy.lock = true) :
    L.pllLockLost = ({ L with sy := { L.sy with lock := false, lostLock := true, mainPll := false } }).permitFall.fault 11 0xFFFF :=
  if_neg (by simp [hl])

/-- The guardian has found the main clock stopped. -/
def clockStopped : Lane :=
  { L with sy := { L.sy with lock := false, lostLock := L.sy.lostLock || L.sy.lock, clockFault := true, mainPll := false } }

section OutOfReset

variable (hh : L.sy.resetHeld = false)
include hh

theorem pllLock_clocked (hl : L.sy.lock = false) (hc : L.sy.clockFault = false) : L.pllLock = L.pllLocks := by simp [Lane.pllLock, hh, hl, hc]

theorem pllLock_returns (hl : L.sy.lock = false) (hc : L.sy.clockFault = true) :
    L.pllLock = ({ L.pllLocks with sy := { L.pllLocks.sy with clockFault := false } } : Lane).fault 11 0xFFFF := by
  simp [Lane.pllLock, hh, hl, hc]

theorem pllLockTimeout_fails (hl : L.sy.lock = false) (ht : L.sy.releasedAt + ms 5 ≤ L.now) :
    L.pllLockTimeout = ({ L with sy := { L.sy with nolockNext := true } }).fault 11 0xFFFF :=
  if_neg (by simp [hh, hl, ht])

theorem mainClockStop_off (ho : L.ky.state = .off) : L.mainClockStop = (clockStopped L).permitFall :=
  (if_neg (by simp [hh])).trans (if_pos ho)

theorem mainClockStop_withdraws (ho : L.ky.state ≠ .off) : L.mainClockStop = (clockStopped L).permitFall.toWithdrawn :=
  (if_neg (by simp [hh])).trans (if_neg ho)

end OutOfReset

/-! ### The counting monitors -/

section GuardianCount

variable {n : Nat} (hi : L.injecting 17 = false)
include hi

theorem guardianCountWindow_within (hlo : 470 ≤ n) (hhi : n ≤ 530) :
    L.guardianCountWindow n = (L.setFld F.KY_CLKMON_GCYC n).setFld F.KY_CLKMON_DEV 0 := by
  have hdev : (decide (n < 470) || decide (530 < n)) = false := by simp [hlo, hhi]
  have hmin : min n 4095 = n := by omega
  simp [Lane.guardianCountWindow, Lane.when, hi, hdev, hmin, b2n]

theorem guardianCountWindow_outside (h : n < 470 ∨ 530 < n) :
    L.guardianCountWindow n =
      ((((L.setFld F.KY_CLKMON_GCYC (min n 4095)).setFld F.KY_CLKMON_DEV 1).when (!(L.flag F.KY_CLKMON_DEV))
        (·.raise F.KY_EVENT_CLOCK_DEV)).clearKey.fault 10 0xFFFF) := by
  have hdev : (decide (n < 470) || decide (530 < n)) = true := by simpa using h
  simp [Lane.guardianCountWindow, Lane.when, hi, hdev, b2n]

end GuardianCount

theorem rcCountWindow_within {n : Nat} (hlo : 85 ≤ n) (hhi : n ≤ 115) : L.rcCountWindow n = L.setFld F.SY_RCMON_RCCNT n :=
  if_neg (by simp [hlo, hhi])

theorem rcCountWindow_outside {n : Nat} (h : n < 85 ∨ 115 < n) :
    L.rcCountWindow n = (L.setFld F.SY_RCMON_RCCNT n).raise F.SY_EVENT_RC_DEV :=
  if_pos (by simpa using h)

theorem railOutOfWindow_up (r : Fin 5) (h : bit L.sy.rails r = true) : L.railOutOfWindow r = L.fault 13 r := if_pos h

theorem railOutOfWindow_down (r : Fin 5) (h : bit L.sy.rails r = false) : L.railOutOfWindow r = L := if_neg (by simp [h])

theorem x32Fail_used (h : L.flag F.PM_CTRL_XTAL = true) :
    L.x32Fail = ({ L with sy := { L.sy with x32Fail := true } }).raise F.SY_EVENT_X32_FAIL :=
  if_pos h

theorem x32Fail_unused (h : L.flag F.PM_CTRL_XTAL = false) : L.x32Fail = L := if_neg (by simp [h])

/-- Settles O11: the PLL by whether it is locked, was locked and has its main clock, and each monitor by whether its value is inside its limits. -/
theorem clockAndSupplyMonitors : Obligations.ClockAndSupplyMonitors := by
  refine ⟨?clocks, ?monitors⟩
  case clocks =>
    intro s l t L N relocked first S ha
    have hh := acts_not_held ha
    refine ⟨fun hl hc => ⟨fun hw => ?again, fun hw ht => ?late, fun hw ht => ?first⟩,
      fun hl hc => ⟨fun hw => ?returnsAgain, fun hw => ?returnsFirst⟩, fun hl ht => ?timeout, fun hl => ?locked, fun ho => ?off,
      fun ho => ?stops⟩
    case again => exact does_gate rfl ha ((pllLock_clocked L hh hl hc).trans (pllLocks_again L hw))
    case late => exact does_gate rfl ha ((pllLock_clocked L hh hl hc).trans (pllLocks_late L hw hc ht))
    case first => exact does_gate rfl ha ((pllLock_clocked L hh hl hc).trans (pllLocks_first L hw (.inr ht)))
    case returnsAgain => exact does_gate rfl ha ((pllLock_returns L hh hl hc).trans (by rw [pllLocks_again L hw]; rfl))
    case returnsFirst => exact does_gate rfl ha ((pllLock_returns L hh hl hc).trans (by rw [pllLocks_first L hw (.inl hc)]; rfl))
    case timeout => exact does_gate rfl ha (pllLockTimeout_fails L hh hl ht)
    case locked =>
      exact ⟨does_gate rfl ha (pllLock_locked L hl), does_gate rfl ha (pllLockTimeout_locked L hl), does_gate rfl ha (pllLockLost_falls L hl)⟩
    case off => exact does_gate rfl ha (mainClockStop_off L hh ho)
    case stops => exact does_gate rfl ha (mainClockStop_withdraws L hh ho)
  case monitors =>
    intro s l t L
    refine ⟨fun ha hi => ⟨fun n hlo hhi => ?guardian, fun n h => ?guardianFault⟩,
      fun ha => ⟨fun n hlo hhi => ?rc, fun n h => ?rcFault, fun r h => ?rail, fun r h => ?railDown⟩, fun h => ?crystal, fun h => ?crystalUnused⟩
    case guardian => exact does_gate rfl ha (guardianCountWindow_within L hi hlo hhi)
    case guardianFault => exact does_gate rfl ha (guardianCountWindow_outside L hi h)
    case rc => exact does_gate rfl ha (rcCountWindow_within L hlo hhi)
    case rcFault => exact does_gate rfl ha (rcCountWindow_outside L h)
    case rail => exact does_gate rfl ha (railOutOfWindow_up L r h)
    case railDown => exact does_gate rfl ha (railOutOfWindow_down L r h)
    case crystal => exact does_ungated rfl (x32Fail_used L h)
    case crystalUnused => exact does_ungated rfl (x32Fail_unused L h)

end Sys2Proof.Proofs
end

section
/-! PROOFS. The authority tick boundary (R68, R465) and the deadline of the tick's task (R344). -/

namespace Sys2Proof.Proofs

open Sys2Proof.Machine Sys2Proof.Laws

variable (L : Lane)

/-- The lane as the tick that ends leaves it: the waiting key messages sent, and a stopped tick task told. -/
def tickClosed : Lane := ({ L with cx := { L.cx with keyTick := [] } } : Lane).flushKeys.taskMissed

theorem authorityTickBoundary_idle (h : L.ky.state = .off ∨ L.pm.level = .cellar) : L.authorityTickBoundary = L :=
  if_pos (by rcases h with h | h <;> simp [h])

section Boundary

variable (hh : L.sy.resetHeld = false) (ho : L.ky.state ≠ .off) (hc : L.pm.level ≠ .cellar)
include hh ho hc

theorem authorityTickBoundary_eq :
    L.authorityTickBoundary =
      if (tickClosed L).pm.level == .hold then (tickClosed L).openTick.sendCoord
      else if (tickClosed L).taskRuns then (tickClosed L).fullBoundary.sendCoord
      else (tickClosed L).bareBoundary.sendCoord :=
  if_neg (by simp [hh, ho, hc])

theorem authorityTickBoundary_hold (hl : (tickClosed L).pm.level = .hold) :
    L.authorityTickBoundary = (tickClosed L).openTick.sendCoord :=
  (authorityTickBoundary_eq L hh ho hc).trans (if_pos (by simp [hl]))

section NotHold

variable (hl : (tickClosed L).pm.level ≠ .hold)
include hl

theorem authorityTickBoundary_runtime (hr : (tickClosed L).taskRuns = true) :
    L.authorityTickBoundary = (tickClosed L).fullBoundary.sendCoord :=
  (authorityTickBoundary_eq L hh ho hc).trans ((if_neg (by simp [hl])).trans (if_pos hr))

theorem authorityTickBoundary_bare (hr : (tickClosed L).taskRuns = false) :
    L.authorityTickBoundary = (tickClosed L).bareBoundary.sendCoord :=
  (authorityTickBoundary_eq L hh ho hc).trans ((if_neg (by simp [hl])).trans (if_neg (by simp [hr])))

end NotHold

end Boundary

theorem tickDeadline_missed (hb : L.lc.booted = true) (hd : L.sy.debugHalt = false) (hp : L.pairRan = true) (ht : L.ky.boundary + us 47 ≤ L.now) :
    L.tickDeadline = ({ L with ic := { L.ic with taskStop := L.ic.taskStop.map (fun _ => true) } }).fault 8 0xFFFF :=
  if_pos (by simp [hb, hd, hp, ht])

theorem tickDeadline_idle (h : L.lc.booted = false ∨ L.sy.debugHalt = true ∨ L.pairRan = false ∨ L.now < L.ky.boundary + us 47) :
    L.tickDeadline = L :=
  if_neg (by rcases h with h | h | h | h <;> simp [h])

/-- Settles O22: the boundary by the lane's state, its sleep level and whether the runtime does its part, and the deadline by what the pair did. -/
theorem authorityTickBoundary : Obligations.AuthorityTickBoundary := by
  intro s l t L K
  refine ⟨fun ha => ⟨fun h => ?idle, fun ho hc => ⟨fun hl => ?hold, fun hl hr => ?runtime, fun hl hr => ?bare⟩⟩,
    fun ha => ⟨fun hb hd hp ht => ?missed, fun h => ?inTime⟩⟩
  case idle => exact does_gate rfl ha (authorityTickBoundary_idle L h)
  case hold => exact does_gate rfl ha (authorityTickBoundary_hold L (acts_not_held ha) ho hc hl)
  case runtime => exact does_gate rfl ha (authorityTickBoundary_runtime L (acts_not_held ha) ho hc hl hr)
  case bare => exact does_gate rfl ha (authorityTickBoundary_bare L (acts_not_held ha) ho hc hl hr)
  case missed => exact does_gate rfl ha (tickDeadline_missed L hb hd hp ht)
  case inTime => exact does_gate rfl ha (tickDeadline_idle L h)

end Sys2Proof.Proofs
end

section
/-! PROOFS. Good frames of the cross-lane links: setpoints, shelves, votes, angles and coordination frames (R75, R84, R88, R89, R133, R238). -/

namespace Sys2Proof.Proofs

open Sys2Proof.Machine Sys2Proof.Laws

variable {L M : Lane} {p : Port}

/-! ### A frame that passes its check -/

theorem rxFrame_passes (n : Nat) (hi : L.injecting (11 + portNo p) = false) : (L.rxFrame p true n).2 = true := by simp [Lane.rxFrame, hi]

theorem rxFrame_good (n : Nat) (hi : L.injecting (11 + portNo p) = false) : L.rxFrame p true n = ((L.rxFrame p true n).1, true) :=
  Prod.ext rfl (rxFrame_passes n hi)

/-! In what follows `M` is the lane once the frame has been counted and has passed its check. -/

theorem setpointFrameReceive_next (fr : SetpointFrame) (hM : L.rxFrame .N true 208 = (M, true)) :
    L.setpointFrameReceive .N fr true = { M with ky := { M.ky with spN := some fr } } := by
  simp [Lane.setpointFrameReceive, hM]

theorem setpointFrameReceive_previous (fr : SetpointFrame) (hM : L.rxFrame .P true 208 = (M, true)) :
    L.setpointFrameReceive .P fr true = { M with ky := { M.ky with spP := some fr } } := by
  simp [Lane.setpointFrameReceive, hM]

section Shelf

variable (fr : ShelfFrame) (hM : L.rxFrame p true 1040 = (M, true))
include hM

theorem shelfFrameReceive_holder (h : M.ky.holder = some (M.id.at p)) :
    L.shelfFrameReceive p fr true = { M with ky := { M.ky with shelfRx := some fr } } := by
  simp [Lane.shelfFrameReceive, hM, h]

theorem shelfFrameReceive_rejects (h : M.ky.holder ≠ some (M.id.at p)) :
    L.shelfFrameReceive p fr true = M.when M.inSvcShadow (·.raise F.KY_EVENT_SHELF_REJECT) := by
  simp [Lane.shelfFrameReceive, hM, h]

end Shelf

/-! ### Coordination frames -/

section CoordId

variable (X : Lane) (fr : CoordFrame)

theorem keepCoord_id : (X.keepCoord p fr).id = X.id := by cases p <;> rfl

theorem takeReports_id : X.takeReports.id = X.id := by simp [Lane.takeReports, Lane.remoteDown]

theorem tokenReceive_id : (X.tokenReceive p fr).id = X.id := by
  simp only [Lane.tokenReceive]
  split <;> rfl

end CoordId

/-- What a coordination frame of the lane at its port brings, before the votes are judged. -/
def coordTaken (M : Lane) (p : Port) (fr : CoordFrame) : Lane := (M.keepCoord p fr).takeReports.tokenReceive p fr

theorem coordTaken_id (fr : CoordFrame) : (coordTaken M p fr).id = M.id := by
  rw [coordTaken, tokenReceive_id, takeReports_id, keepCoord_id]

section Coord

variable (fr : CoordFrame) (hM : L.rxFrame p true 40 = (M, true))
include hM

theorem coordinationFrameReceive_otherSender (h : fr.sender ≠ (M.id.at p).index) : L.coordinationFrameReceive p fr true = M := by
  simp [Lane.coordinationFrameReceive, hM, h]

section OwnSender

variable (h : fr.sender = (M.id.at p).index)
include h

/-- A serving sibling that reports itself Withdrawn is voted against (R84). -/
theorem coordinationFrameReceive_votes (hw : fr.state = 5) (hs : M.sib p = 4) (hk : M.ky.state = .service) :
    L.coordinationFrameReceive p fr true =
      ((coordTaken M p fr).castVote ((coordTaken M p fr).id.at p)).selfVoted.vetoes.injWatch := by
  rw [coordTaken_id]
  simp [Lane.coordinationFrameReceive, hM, h, hw, hs, hk, Lane.when, coordTaken]

theorem coordinationFrameReceive_noVote (hn : fr.state ≠ 5 ∨ M.sib p ≠ 4 ∨ M.ky.state ≠ .service) :
    L.coordinationFrameReceive p fr true = (coordTaken M p fr).selfVoted.vetoes.injWatch := by
  have hg : (fr.state == 5 && M.sib p == 4 && M.ky.state == .service) = false := by rcases hn with hn | hn | hn <;> simp [hn]
  simp [Lane.coordinationFrameReceive, hM, h, hg, Lane.when, coordTaken]

end OwnSender

end Coord

/-! ### Vote frames -/

section Vote

variable (M) (fr : VoteFrame)

/-- The vote frame as it is held: without release, stop and votes where its sender is not in Service (R238). -/
def voteTaken : VoteFrame :=
  if M.sib .N == 4 then { fr with seq := fr.seq % 4096 } else { fr with seq := fr.seq % 4096, release := 0, stop := false, against := 0 }

/-- The vote of port N held with its arrival and, in `b`, the release vote before it; then the votes are judged. `X` is the lane that the
frame has reached, and `M` the one that it was judged in. -/
def keepVote (X : Lane) (b : Option (Nat × Nat)) : Lane :=
  let rx : VoteRx := { frame := voteTaken M fr, arrival := M.now, inService := M.sib .N == 4, before := b }
  ({ X with ky := { X.ky with voteN := some rx } } : Lane).selfVoted.vetoes

/-- The release vote that a held frame leaves before a newer one. -/
def voteBefore (v : VoteRx) : Option (Nat × Nat) :=
  if v.inService then (if v.arrival / 8 = M.now / 8 then v.before else some (v.frame.release, v.arrival)) else none

/-- A serving sibling no longer reports a star live that it did report. -/
def starLost (v : VoteRx) : Bool :=
  M.sib .N == 4 && (List.finRange 16).any (fun n => M.inUse n && bit v.frame.live n && !(bit fr.live n))

variable {M} (hM : L.rxFrame .N true 16 = (M, true))
include hM

theorem voteFrameReceive_first (h : M.ky.voteN = none) : L.voteFrameReceive .N fr true = keepVote M fr M none := by
  simp [Lane.voteFrameReceive, hM, h, keepVote, voteTaken, Lane.when]

variable {v : VoteRx} (h : M.ky.voteN = some v)
include h

theorem voteFrameReceive_stale (hd : (fr.seq + 4096 - v.frame.seq % 4096) % 4096 = 0 ∨ 2047 < (fr.seq + 4096 - v.frame.seq % 4096) % 4096) :
    L.voteFrameReceive .N fr true = M := by
  simp only [Lane.voteFrameReceive, hM, h]
  exact if_pos (by simpa using hd)

theorem voteFrameReceive_newer (h0 : 0 < (fr.seq + 4096 - v.frame.seq % 4096) % 4096) (h1 : (fr.seq + 4096 - v.frame.seq % 4096) % 4096 ≤ 2047) :
    L.voteFrameReceive .N fr true = keepVote M fr (M.when (starLost M fr v) Lane.serviceLoss) (voteBefore M v) := by
  simp only [Lane.voteFrameReceive, hM, h]
  exact if_neg (by simp [Nat.pos_iff_ne_zero.1 h0, h1])

end Vote

/-! ### Angle frames -/

section Angle

/-- A group takes the entry of its sibling, where the frame carries one. -/
def starTaken (fr : AngleFrame) (X : Lane) (g : Fin 16) : Lane :=
  match fr.stars[g.val]? with
  | none => X
  | some e => X.updAn g (fun x => { x with peerN := PeerS.take e fr.age X.now })

variable (fr : AngleFrame) (hM : L.rxFrame .N true 144 = (M, true))
include hM

theorem angleFrameReceive_first (hs : M.sib .N = 3 ∨ M.sib .N = 4) (hn : M.cx.angNumN = none) :
    L.angleFrameReceive .N fr true =
      ({ M with cx := { M.cx with angNumN := some (fr.num % 65536) } } : Lane).eachGroup (starTaken fr) := by
  simp only [Lane.angleFrameReceive, hM, hn]
  exact if_neg (by rcases hs with hs | hs <;> simp [hs])

theorem angleFrameReceive_notRunning (h3 : M.sib .N ≠ 3) (h4 : M.sib .N ≠ 4) : L.angleFrameReceive .N fr true = M := by
  simp only [Lane.angleFrameReceive, hM]
  exact if_pos (by simp [h3, h4])

end Angle

/-- Settles O25, by the class of the frame and what the lane holds of its sender. -/
theorem goodFramesAreKept : Obligations.GoodFramesAreKept := by
  intro s l t L ha
  refine ⟨fun hi fr => ?spN, fun hi fr => ?spP, fun p hi fr => ?shelf, fun p hi fr => ?coord, fun hi fr => ?vote, fun hi fr => ?angle⟩
  case spN => exact does_gate rfl ha (setpointFrameReceive_next fr (rxFrame_good 208 hi))
  case spP => exact does_gate rfl ha (setpointFrameReceive_previous fr (rxFrame_good 208 hi))
  case shelf =>
    have hM := rxFrame_good (p := p) 1040 hi
    exact ⟨fun h => does_gate rfl ha (shelfFrameReceive_holder fr hM h), fun h => does_gate rfl ha (shelfFrameReceive_rejects fr hM h)⟩
  case coord =>
    have hM := rxFrame_good (p := p) 40 hi
    exact ⟨fun h => ⟨fun hw hs hk => does_gate rfl ha (coordinationFrameReceive_votes fr hM h hw hs hk),
      fun hn => does_gate rfl ha (coordinationFrameReceive_noVote fr hM h hn)⟩,
      fun h => does_gate rfl ha (coordinationFrameReceive_otherSender fr hM h)⟩
  case vote =>
    have hM := rxFrame_good (p := .N) 16 hi
    exact ⟨fun h => does_gate rfl ha (voteFrameReceive_first fr hM h),
      fun v h => ⟨fun hd => does_gate rfl ha (voteFrameReceive_stale fr hM h hd),
        fun h0 h1 => does_gate rfl ha (voteFrameReceive_newer fr hM h h0 h1)⟩⟩
  case angle =>
    have hM := rxFrame_good (p := .N) 144 hi
    exact ⟨fun hs hn => does_gate rfl ha (angleFrameReceive_first fr hM hs hn),
      fun h3 h4 => does_gate rfl ha (angleFrameReceive_notRunning fr hM h3 h4)⟩

end Sys2Proof.Proofs
end

section
/-! PROOFS. Key messages of the cross-lane links: renewals and their acknowledgements (R66, R70, R72), claims (R82), release and revocation
(R80, R81). -/

namespace Sys2Proof.Proofs

open Sys2Proof.Machine Sys2Proof.Laws

variable {L M : Lane} {p : Port} {m : KeyMsg}

/-- A key message of its command's kind, in a good frame, is taken. -/
theorem rxKey_taken {k : Nat} (hi : L.injecting (11 + portNo p) = false) (hk : m.kind = k) :
    L.rxKey p m k true = ((L.rxFrame p true 16).1, true) :=
  Prod.ext rfl (by simp [Lane.rxKey, rxFrame_passes 16 hi, hk])

theorem at_ne (l : LaneId) (p : Port) : l.at p ≠ l := by cases l <;> cases p <;> decide

/-! In what follows `M` is the lane once the message has been taken. -/

/-! ### Renewals -/

section Renewal

variable (hM : L.rxKey p m 0 true = (M, true))
include hM

theorem renewalReceive_own (h : M.ky.holder = some M.id) : L.renewalReceive p m true = M := by
  simp [Lane.renewalReceive, hM, h]

/-- One of the recognised key restarts the silence timer; a lane in Service or Shadow that makes no claim acknowledges it. -/
theorem renewalReceive_known (h : M.ky.holder = some (M.id.at p)) (he : m.epoch % 65536 = M.ky.epoch) :
    L.renewalReceive p m true =
      if M.inSvcShadow && M.ky.claim == none then
        ({ M with ky := { M.ky with silence := some M.now } } : Lane).sendKey
          { kind := 1, sender := M.id.index, epoch := m.epoch % 65536, number := m.number, named := 3 }
      else { M with ky := { M.ky with silence := some M.now } } := by
  simp [Lane.renewalReceive, hM, h, he, at_ne, Lane.inSvcShadow]

/-- A lane in Bench learns a key that is newer, or any where it recognises none, unless it has revoked it. -/
theorem renewalReceive_bench (hs : M.ky.state = .bench) (hr : M.ky.revoked ≠ some (m.epoch % 65536))
    (hn : M.ky.holder = none ∨ (M.ky.holder ≠ some M.id ∧ 0 < (m.epoch % 65536 + 65536 - M.ky.epoch) % 65536 ∧
      (m.epoch % 65536 + 65536 - M.ky.epoch) % 65536 ≤ 32767)) :
    L.renewalReceive p m true = M.recognise (M.id.at p) (m.epoch % 65536) := by
  have hown : M.ky.holder ≠ some M.id := by
    rcases hn with hn | ⟨hn, _, _⟩
    · simp [hn]
    · exact hn
  have hknown : ¬ (M.ky.holder = some (M.id.at p) ∧ m.epoch % 65536 = M.ky.epoch) := by
    rintro ⟨hp, he⟩
    rcases hn with hn | ⟨_, h0, _⟩
    · simp [hn] at hp
    · rw [he, Nat.add_sub_cancel_left] at h0
      exact absurd h0 (by decide)
  have hnewer : M.ky.holder = none ∨ (0 < (m.epoch % 65536 + 65536 - M.ky.epoch) % 65536 ∧
      (m.epoch % 65536 + 65536 - M.ky.epoch) % 65536 ≤ 32767) := hn.imp_right And.right
  have hquiet : (M.recognise (M.id.at p) (m.epoch % 65536)).inSvcShadow = false := by simp [Lane.inSvcShadow, Lane.recognise, hs]
  simp [Lane.renewalReceive, hM, hown, hknown, hs, hr, hnewer, hquiet]

end Renewal

section RenewalAck

variable (hM : L.rxKey p m 1 true = (M, true))
include hM

theorem renewalAckReceive_taken (h : M.ky.holder = some M.id) (he : m.epoch = M.ky.epoch) :
    L.renewalAckReceive p m true =
      ({ M with ky := { M.ky with acks := ((m.number, M.id.at p) :: M.ky.acks).take 32 } } : Lane).leaseFrom m.number := by
  simp [Lane.renewalAckReceive, hM, h, he]

theorem renewalAckReceive_ignored (h : M.ky.holder ≠ some M.id ∨ m.epoch ≠ M.ky.epoch) : L.renewalAckReceive p m true = M := by
  simp only [Lane.renewalAckReceive, hM]
  exact if_pos (by simpa using h)

end RenewalAck

/-- Settles O27, by the key and the state that the lane finds itself in. -/
theorem renewalsAndTheirAcknowledgements : Obligations.RenewalsAndTheirAcknowledgements := by
  intro s l t p m L ha hi M e d
  refine ⟨fun hk => ⟨fun h => ?own, fun h he => ⟨fun hs hc => ?acked, fun hn => ?silent⟩, fun hs hr hn => ?bench⟩,
    fun hk => ⟨fun h he => ?ack, fun h => ?ignored⟩⟩
  case own => exact does_gate rfl ha (renewalReceive_own (rxKey_taken hi hk) h)
  case acked => exact does_gate rfl ha ((renewalReceive_known (rxKey_taken hi hk) h he).trans (if_pos (by simp [M, hs, hc])))
  case silent =>
    refine does_gate rfl ha ((renewalReceive_known (rxKey_taken hi hk) h he).trans (if_neg ?_))
    rcases hn with hn | hn <;> simp [M, hn]
  case bench => exact does_gate rfl ha (renewalReceive_bench (rxKey_taken hi hk) hs hr hn)
  case ack => exact does_gate rfl ha (renewalAckReceive_taken (rxKey_taken hi hk) h he)
  case ignored => exact does_gate rfl ha (renewalAckReceive_ignored (rxKey_taken hi hk) h)

/-! ### Claims -/

section Claim

variable (hM : L.rxKey p m 2 true = (M, true))
include hM

theorem claimReceive_ignored (h : M.ky.state ≠ .service ∨ M.ky.holder = some M.id ∨ M.inService (M.id.at p) = false ∨
    (m.epoch % 65536 + 65536 - M.ky.epoch) % 65536 = 0 ∨ 32767 < (m.epoch % 65536 + 65536 - M.ky.epoch) % 65536) :
    L.claimReceive p m true = M := by
  simp only [Lane.claimReceive, hM]
  exact if_pos (by simpa [or_assoc] using h)

theorem claimReceive_acknowledged (hs : M.ky.state = .service) (hh : M.ky.holder ≠ some M.id) (hp : M.inService (M.id.at p) = true)
    (h0 : 0 < (m.epoch % 65536 + 65536 - M.ky.epoch) % 65536) (h1 : (m.epoch % 65536 + 65536 - M.ky.epoch) % 65536 ≤ 32767)
    (hc : M.ky.claim = none) (hk : M.ky.acked = none) :
    L.claimReceive p m true =
      ({ M with ky := { M.ky with acked := some { claimant := M.id.at p, epoch := m.epoch % 65536, at_ := M.now, acks := [M.id] } } } : Lane).sendKey
        { kind := 3, sender := M.id.index, epoch := m.epoch % 65536, number := 0, named := (M.id.at p).index } := by
  simp only [Lane.claimReceive, hM, hc, hk]
  exact if_neg (by simp [hs, hh, hp, Nat.pos_iff_ne_zero.1 h0, h1])

end Claim

section ClaimAck

variable (hM : L.rxKey p m 3 true = (M, true))
include hM

theorem claimAckReceive_noClaim (hc : M.ky.claim = none) (hk : M.ky.acked = none) : L.claimAckReceive p m true = M := by
  simp only [Lane.claimAckReceive, hM, hc, hk]
  calc ({ M with ky := { M.ky with claim := none, acked := none } } : Lane)
      = { M with ky := { M.ky with claim := M.ky.claim, acked := M.ky.acked } } := by rw [hc, hk]
    _ = M := rfl

theorem claimAckReceive_joins {c : ClaimS} (hc : M.ky.claim = some c) (hk : M.ky.acked = none) (he : c.epoch = m.epoch)
    (hn : c.claimant.index = m.named) (ha : M.id.at p ∉ c.acks) :
    L.claimAckReceive p m true = { M with ky := { M.ky with claim := some { c with acks := M.id.at p :: c.acks }, acked := none } } := by
  simp [Lane.claimAckReceive, hM, hc, hk, he, hn, ha]

end ClaimAck

section ClaimWithdrawal

variable (hM : L.rxKey p m 4 true = (M, true))
include hM

theorem claimWithdrawalReceive_noClaim (hk : M.ky.acked = none) : L.claimWithdrawalReceive p m true = M := by
  simp [Lane.claimWithdrawalReceive, hM, hk]

variable {c : ClaimS} (hk : M.ky.acked = some c)
include hk

theorem claimWithdrawalReceive_ends (hp : c.claimant = M.id.at p) (he : c.epoch = m.epoch) :
    L.claimWithdrawalReceive p m true = { M with ky := { M.ky with acked := none } } := by
  simp [Lane.claimWithdrawalReceive, hM, hk, hp, he]

theorem claimWithdrawalReceive_other (h : c.claimant ≠ M.id.at p ∨ c.epoch ≠ m.epoch) : L.claimWithdrawalReceive p m true = M := by
  have hn : ¬ (c.claimant = M.id.at p ∧ c.epoch = m.epoch) := fun ⟨hp, he⟩ => h.elim (· hp) (· he)
  simp only [Lane.claimWithdrawalReceive, hM, hk]
  exact if_neg hn

end ClaimWithdrawal

/-- Settles O28: claims by the state and the key of the lane, their acknowledgement and withdrawal by the claim that it knows. -/
theorem claimsAcknowledgedAndWithdrawn : Obligations.ClaimsAcknowledgedAndWithdrawn := by
  intro s l t p m L ha hi M e d
  refine ⟨fun hk => ⟨fun h => ?ignored, fun hs hh hp h0 h1 hc hn => ?acknowledged⟩,
    fun hk => ⟨fun hc hn => ?noClaim, fun c hc hn he hi' hx => ?joins⟩,
    fun hk => ⟨fun hn => ?noAcked, fun c hc => ⟨fun hp he => ?ends, fun h => ?other⟩⟩⟩
  case ignored => exact does_gate rfl ha (claimReceive_ignored (rxKey_taken hi hk) h)
  case acknowledged => exact does_gate rfl ha (claimReceive_acknowledged (rxKey_taken hi hk) hs hh hp h0 h1 hc hn)
  case noClaim => exact does_gate rfl ha (claimAckReceive_noClaim (rxKey_taken hi hk) hc hn)
  case joins => exact does_gate rfl ha (claimAckReceive_joins (rxKey_taken hi hk) hc hn he hi' hx)
  case noAcked => exact does_gate rfl ha (claimWithdrawalReceive_noClaim (rxKey_taken hi hk) hn)
  case ends => exact does_gate rfl ha (claimWithdrawalReceive_ends (rxKey_taken hi hk) hc hp he)
  case other => exact does_gate rfl ha (claimWithdrawalReceive_other (rxKey_taken hi hk) hc h)

/-! ### Release and revocation -/

section Unrecognise

variable (X : Lane)

/-- Recognition that ends leaves the lane without a key to recognise, and else as it was but for the start of the interregnum. -/
theorem unrecognise_frame :
    X.unrecognise.id = X.id ∧ X.unrecognise.now = X.now ∧ X.unrecognise.ky.state = X.ky.state ∧ X.unrecognise.ky.holder = none := by
  unfold Lane.unrecognise
  split
  next h => exact ⟨rfl, rfl, rfl, h⟩
  next => exact ⟨rfl, rfl, rfl, rfl⟩

theorem unrecognise_none (h : X.ky.holder = none) : X.unrecognise = X := by simp [Lane.unrecognise, h]

end Unrecognise

section Release

variable (hM : L.rxKey p m 5 true = (M, true))
include hM

theorem releaseReceive_ignored (h : m.epoch ≠ M.ky.epoch ∨ M.ky.lastHolder ≠ some (M.id.at p)) : L.releaseReceive p m true = M := by
  simp only [Lane.releaseReceive, hM]
  exact if_pos (by simpa using h)

variable (he : m.epoch = M.ky.epoch) (hl : M.ky.lastHolder = some (M.id.at p)) (hh : M.ky.holder = some (M.id.at p) ∨ M.ky.holder = none)
include he hl hh

/-- A release of the last holder's key, be it recognised still or no more. -/
theorem releaseReceive_taken :
    L.releaseReceive p m true = if m.named = M.id.index ∧ M.ky.state = .service then M.unrecognise.sendClaim else M.unrecognise := by
  obtain ⟨hid, _, hstate, hnone⟩ := unrecognise_frame M
  have hu : (if M.ky.holder == some (M.id.at p) then M.unrecognise else M) = M.unrecognise := by
    rcases hh with hh | hh
    · exact if_pos (by simp [hh])
    · rw [unrecognise_none M hh, ite_self]
  have hkey : ¬ ((!true || m.epoch != M.ky.epoch || M.ky.lastHolder != some (M.id.at p)) = true) := by simp [he, hl]
  simp only [Lane.releaseReceive, hM]
  rw [if_neg hkey, hu]
  simp [hid, hstate, hnone]

theorem releaseReceive_named (hn : m.named = M.id.index) (hs : M.ky.state = .service) :
    L.releaseReceive p m true = M.unrecognise.sendClaim :=
  (releaseReceive_taken hM he hl hh).trans (if_pos ⟨hn, hs⟩)

theorem releaseReceive_notNamed (hn : m.named ≠ M.id.index) : L.releaseReceive p m true = M.unrecognise :=
  (releaseReceive_taken hM he hl hh).trans (if_neg (fun c => hn c.1))

end Release

section Revocation

variable (hM : L.rxKey p m 6 true = (M, true))
include hM

theorem revocationReceive_ignored (h : M.ky.holder ≠ some M.id ∨ m.epoch ≠ M.ky.epoch) : L.revocationReceive p m true = M := by
  simp only [Lane.revocationReceive, hM]
  exact if_pos (by simpa using h)

/-- A sibling's first revocation is kept; the second sibling's makes the holder give its key up. -/
theorem revocationReceive_taken (h : M.ky.holder = some M.id) (he : m.epoch = M.ky.epoch) (hr : M.id.at p ∉ M.ky.revocations) :
    L.revocationReceive p m true =
      let Q : Lane := { M with ky := { M.ky with revocations := M.id.at p :: M.ky.revocations } }
      if M.ky.revocations = [] then Q else Q.giveUp.raise F.KY_EVENT_REVOKED := by
  cases hq : M.ky.revocations with
  | nil => simp [Lane.revocationReceive, hM, h, he, hq]
  | cons x xs => simp [Lane.revocationReceive, hM, h, he, hq, (hq ▸ hr : M.id.at p ∉ x :: xs)]

end Revocation

/-- Settles O29: a release by the key that the lane recognises and the lane that it names, a revocation by those that came before. -/
theorem releaseAndRevocation : Obligations.ReleaseAndRevocation := by
  intro s l t p m L ha hi M
  refine ⟨fun hk => ⟨fun h => ?otherKey,
      fun he hl => ⟨fun hh hn => ?ends, fun hh hn hs => ?claims, fun hh hn => ?stays, fun hh hn hs => ?claimsAgain⟩⟩,
    fun hk => ⟨fun h => ?notHeld, fun h he hr => ⟨fun hq => ?first, fun hq => ?second⟩⟩⟩
  case otherKey => exact does_gate rfl ha (releaseReceive_ignored (rxKey_taken hi hk) h)
  case ends => exact does_gate rfl ha (releaseReceive_notNamed (rxKey_taken hi hk) he hl (.inl hh) hn)
  case claims => exact does_gate rfl ha (releaseReceive_named (rxKey_taken hi hk) he hl (.inl hh) hn hs)
  case stays =>
    exact does_gate rfl ha ((releaseReceive_notNamed (rxKey_taken hi hk) he hl (.inr hh) hn).trans (unrecognise_none M hh))
  case claimsAgain =>
    exact does_gate rfl ha ((releaseReceive_named (rxKey_taken hi hk) he hl (.inr hh) hn hs).trans (congrArg _ (unrecognise_none M hh)))
  case notHeld => exact does_gate rfl ha (revocationReceive_ignored (rxKey_taken hi hk) h)
  case first => exact does_gate rfl ha ((revocationReceive_taken (rxKey_taken hi hk) h he hr).trans (if_pos hq))
  case second => exact does_gate rfl ha ((revocationReceive_taken (rxKey_taken hi hk) h he hr).trans (if_neg hq))

end Sys2Proof.Proofs
end

section
/-! PROOFS. The authority's timers: the lease (R71), the silence of the key's holder (R72, R82), the interregnum (R69) and the votes in force
(R84). -/

namespace Sys2Proof.Proofs

open Sys2Proof.Machine Sys2Proof.Laws

variable (L : Lane)

/-! ### The lease -/

section Lease

variable {d : Nat} (hh : L.ky.holder = some L.id) (hl : L.ky.lease = some d)
include hh hl

theorem leaseExpiry_expires (ht : d ≤ L.now) : L.leaseExpiry = L.clearKey.raise F.KY_EVENT_LEASE_EXPIRED := by
  simp [Lane.leaseExpiry, hh, hl, ht]

theorem leaseExpiry_runs (ht : L.now < d) : L.leaseExpiry = L := by
  simp [Lane.leaseExpiry, hh, hl, Nat.not_le.2 ht]

end Lease

theorem leaseExpiry_notHolder (hh : L.ky.holder ≠ some L.id) : L.leaseExpiry = L := by
  unfold Lane.leaseExpiry
  split
  next h d hk _ => exact if_neg (fun c => hh (by rw [hk, c.1]))
  next => rfl

/-! ### Silence -/

theorem silenceThreshold_idle (h : L.ky.silence = none ∨ L.ky.holder = some L.id) : L.silenceThreshold = L := by
  unfold Lane.silenceThreshold
  split
  next => rfl
  next d hs => exact if_pos (.inl (h.resolve_left (by simp [hs])))

section Silence

variable {d : Nat} (hs : L.ky.silence = some d)
include hs

theorem silenceThreshold_early (ht : L.now < d + us 350) : L.silenceThreshold = L := by simp [Lane.silenceThreshold, hs, ht]

section Silent

variable (hh : L.ky.holder ≠ some L.id) (ht : d + us 350 ≤ L.now)
include hh ht

/-- After 350 µs of silence the key is recognised no more. -/
theorem silenceThreshold_notInService (hk : L.unrecognise.ky.state ≠ .service) : L.silenceThreshold = L.unrecognise := by
  simp [Lane.silenceThreshold, hs, hh, Nat.not_lt.2 ht, hk]

variable (hk : L.unrecognise.ky.state = .service)
include hk

theorem silenceThreshold_rankOne (hr : L.unrecognise.rankOf L.unrecognise.id = 1) : L.silenceThreshold = L.unrecognise.sendClaim := by
  simp [Lane.silenceThreshold, hs, hh, Nat.not_lt.2 ht, hk, hr]

section RankTwo

variable (hr : L.unrecognise.rankOf L.unrecognise.id = 2)
include hr

/-- A lane of rank 2 leaves rank 1 another 70 µs for its claim (R82). -/
theorem silenceThreshold_rankTwo_waits (hw : L.now < d + us 420) : L.silenceThreshold = L.unrecognise := by
  obtain ⟨_, hnow, _⟩ := unrecognise_frame L
  simp [Lane.silenceThreshold, hs, hh, Nat.not_lt.2 ht, hk, hr, hnow, Nat.not_le.2 hw]

theorem silenceThreshold_rankTwo_claims (hw : d + us 420 ≤ L.now) (ha : L.unrecognise.ky.acked = none) :
    L.silenceThreshold = L.unrecognise.sendClaim := by
  obtain ⟨_, hnow, _⟩ := unrecognise_frame L
  simp [Lane.silenceThreshold, hs, hh, Nat.not_lt.2 ht, hk, hr, hnow, hw, ha]

end RankTwo

end Silent

end Silence

/-! ### The interregnum -/

theorem interregnumTimeout_withdraws (hk : L.ky.state = .service) (hh : L.ky.holder = none) (ht : L.ky.interSince + us 1000 ≤ L.now) :
    L.interregnumTimeout = L.withdraw .interregnum :=
  if_pos ⟨hk, hh, ht⟩

theorem interregnumTimeout_idle (h : L.ky.state ≠ .service ∨ L.ky.holder ≠ none ∨ L.now < L.ky.interSince + us 1000) :
    L.interregnumTimeout = L := by
  refine if_neg ?_
  rintro ⟨hk, hh, ht⟩
  rcases h with h | h | h
  · exact h hk
  · exact h hh
  · exact Nat.not_le.2 h ht

/-- Settles O30, by which time has passed, who holds the key and the rank of the lane. -/
theorem authorityTimers : Obligations.AuthorityTimers := by
  intro s l t L U ha
  refine ⟨fun d hh hl => ⟨fun ht => ?expires, fun ht => ?runs⟩, fun hh => ?notHolder, fun h => ?notSilent,
    fun d hs => ⟨fun ht => ?early,
      fun hh ht => ⟨fun hk => ?notInService, fun hk hr => ?rankOne, fun hk hr hw => ?waits, fun hk hr hw hn => ?rankTwo⟩⟩,
    fun hk hh ht => ?interregnum, fun h => ?noInterregnum, fun v => ?vote⟩
  case expires => exact does_gate rfl ha (leaseExpiry_expires L hh hl ht)
  case runs => exact does_gate rfl ha (leaseExpiry_runs L hh hl ht)
  case notHolder => exact does_gate rfl ha (leaseExpiry_notHolder L hh)
  case notSilent => exact does_gate rfl ha (silenceThreshold_idle L h)
  case early => exact does_gate rfl ha (silenceThreshold_early L hs ht)
  case notInService => exact does_gate rfl ha (silenceThreshold_notInService L hs hh ht hk)
  case rankOne => exact does_gate rfl ha (silenceThreshold_rankOne L hs hh ht hk hr)
  case waits => exact does_gate rfl ha (silenceThreshold_rankTwo_waits L hs hh ht hk hr hw)
  case rankTwo => exact does_gate rfl ha (silenceThreshold_rankTwo_claims L hs hh ht hk hr hw hn)
  case interregnum => exact does_gate rfl ha (interregnumTimeout_withdraws L hk hh ht)
  case noInterregnum => exact does_gate rfl ha (interregnumTimeout_idle L h)
  case vote => exact does_gate rfl ha rfl

end Sys2Proof.Proofs
end

section
/-! PROOFS. The hysteresis states of the torque engine (R104, R105). -/

namespace Sys2Proof.Proofs

open Sys2Proof.Machine Sys2Proof.Laws

/-! ### The tables -/

section Tables

variable {p : Int} {e ht : Rat}

theorem nextCT_above (h : ht < e) : nextCT p e ht = 1 := if_pos h

theorem nextCT_rising (h0 : 0 < e) (h : e ≤ ht) : nextCT p e ht = if p = 1 then 1 else 0 := by
  simp only [nextCT, if_neg (Rat.not_lt.2 h), if_pos h0]

theorem nextCT_zero (hb : 0 ≤ ht) (h : e = 0) : nextCT p e ht = 0 := by
  subst h
  simp only [nextCT, if_neg (Rat.not_lt.2 hb), Rat.lt_irrefl, if_true, if_false]

theorem nextCT_falling (hl : -ht ≤ e) (h : e < 0) : nextCT p e ht = if p = -1 then -1 else 0 := by
  have hu : ¬ ht < e := by grind
  simp only [nextCT, if_neg hu, if_neg (Rat.not_lt.2 (Rat.le_of_lt h)), if_neg (Rat.ne_of_lt h), if_pos hl]

theorem nextCT_below (hb : 0 ≤ ht) (h : e < -ht) : nextCT p e ht = -1 := by
  have hn : e < 0 := by grind
  have hu : ¬ ht < e := by grind
  simp only [nextCT, if_neg hu, if_neg (Rat.not_lt.2 (Rat.le_of_lt hn)), if_neg (Rat.ne_of_lt hn), if_neg (Rat.not_le.2 h)]

/-- The table of R104 by the torque error; within the band the previous state is kept where it has the sign of the error. -/
theorem nextCT_table (p : Int) (e : Rat) (hb : 0 ≤ ht) :
    (ht < e → nextCT p e ht = 1) ∧ (0 < e ∧ e ≤ ht → nextCT p e ht = if p = 1 then 1 else 0) ∧ (e = 0 → nextCT p e ht = 0) ∧
    (-ht ≤ e ∧ e < 0 → nextCT p e ht = if p = -1 then -1 else 0) ∧ (e < -ht → nextCT p e ht = -1) :=
  ⟨nextCT_above, fun h => nextCT_rising h.1 h.2, nextCT_zero hb, fun h => nextCT_falling h.1 h.2, nextCT_below hb⟩

theorem nextCPsi_above (h : ht < e) : nextCPsi p e ht = 1 := if_pos h

theorem nextCPsi_below (hb : 0 ≤ ht) (h : e < -ht) : nextCPsi p e ht = -1 := by
  have hu : ¬ ht < e := by grind
  exact (if_neg hu).trans (if_pos h)

theorem nextCPsi_within (hl : -ht ≤ e) (hu : e ≤ ht) : nextCPsi p e ht = p :=
  (if_neg (Rat.not_lt.2 hu)).trans (if_neg (Rat.not_lt.2 hl))

end Tables

/-! ### The engine's states after its tick -/

section Engine

variable (L : Lane) (g : Fin 16)

/-- A counter leaves the groups as they are, and so does an event. -/
@[simp] theorem grp_bump (f : Fld) (j k : Nat) : (L.bump f j k).grp g = L.grp g := by
  rw [bump_shape]
  rfl

@[simp] theorem grp_raise (f : Fld) (j : Nat) : (L.raise f j).grp g = L.grp g := rfl

/-- A tick in table mode that knows its states takes a vector or is held by the Quiet cap (R117); either leaves them. -/
theorem vectorOrHold_states (hold : Bool) (v : Nat) :
    ((if hold then (L.raise F.TQ_EVENT_CAP_HOLD g).bump F.TQ_CNT_CAP_HOLD g else L.updTq g (fun s => { s with vector := v })).grp g).tq.cT
      = (L.grp g).tq.cT ∧
    ((if hold then (L.raise F.TQ_EVENT_CAP_HOLD g).bump F.TQ_CNT_CAP_HOLD g else L.updTq g (fun s => { s with vector := v })).grp g).tq.cPsi
      = (L.grp g).tq.cPsi := by
  cases hold <;> simp

theorem tableSelect_states (hm : (L.grp g).tq.mode ≠ .tracking) :
    ((L.tableSelect g).grp g).tq.cT = nextCT (L.grp g).tq.cT ((L.grp g).tq.tRef - (L.grp g).tq.tHat) (L.bandT g) ∧
    ((L.tableSelect g).grp g).tq.cPsi = nextCPsi (L.grp g).tq.cPsi
      ((L.grp g).tq.psiStar - sqrtR ((L.grp g).tq.psiA * (L.grp g).tq.psiA + (L.grp g).tq.psiB * (L.grp g).tq.psiB)) (L.bandF g) := by
  simp only [Lane.tableSelect, if_neg hm]
  by_cases ht : (L.grp g).tq.mode = .table
  case neg => simp only [ne_eq, ht, not_false_eq_true, if_true, Lane.grp_updTq_same, and_self]
  case pos =>
    simp only [ne_eq, ht, not_true_eq_false, if_false, vectorOrHold_states, Lane.grp_updTq_same, and_self]

end Engine

/-- Settles O60: the engine's states are those of the two tables, and each row of R104 is the table at one previous state. -/
theorem hysteresisStates : Obligations.HysteresisStates := by
  intro L g hm hT hF cT eT bT ePsi now flux
  obtain ⟨hnow, hflux⟩ := tableSelect_states L g hm
  have table := nextCT_table cT eT hT
  rw [← hnow] at table
  refine ⟨fun hc => ?positive, fun hc => ?zero, fun hc => ?negative, fun h => ?above, fun h => ?below, fun hl hu => ?within⟩
  case positive => simpa [hc] using table
  case zero => simpa [hc] using table
  case negative => simpa [hc] using table
  case above => exact hflux.trans (nextCPsi_above h)
  case below => exact hflux.trans (nextCPsi_below hF h)
  case within => exact hflux.trans (nextCPsi_within hl hu)

end Sys2Proof.Proofs
end

section
/-! PROOFS. The decision tick (R94, R387, R395) and the carrier period (R143, R169). -/

namespace Sys2Proof.Proofs

open Sys2Proof.Machine Sys2Proof.Laws

/-! ### The decision tick -/

section Tick

variable (L : Lane) (xs : List GroupSample)

/-- What a tick finds at the inputs of a group for which it brings nothing. -/
def noSample : GroupSample := { clocks := [], high := [], illegal := 0, bothOn := false }

/-- The samples that pass the pads (R395). -/
def padSamples : List GroupSample := if L.padsHeld .drive then [] else xs

/-- The lane with the tick counted and its time noted (R94). -/
def tickCounted : Lane := { L with ad := { L.ad with tick := L.ad.tick + 1, tickAt := L.now } }

/-- Counting the tick touches neither the pads nor the sleep level. -/
theorem padSamples_tickCounted : padSamples (tickCounted L) xs = padSamples L xs := rfl

theorem dozing_tickCounted : (tickCounted L).dozing = L.dozing := rfl

theorem decisionTick_groups : L.decisionTick xs = (tickCounted L).eachGroup (fun M g =>
    if L.dozing then M.dozeTick g ((padSamples L xs).getD g noSample) else M.groupTick g ((padSamples L xs).getD g noSample)) := by
  rw [← padSamples_tickCounted, ← dozing_tickCounted]
  rfl

theorem decisionTick_awake (h : L.dozing = false) :
    L.decisionTick xs = (tickCounted L).eachGroup (fun M g => M.groupTick g ((padSamples L xs).getD g noSample)) := by
  simp only [decisionTick_groups, h, Bool.false_eq_true, if_false]

theorem decisionTick_dozing (h : L.dozing = true) :
    L.decisionTick xs = (tickCounted L).eachGroup (fun M g => M.dozeTick g ((padSamples L xs).getD g noSample)) := by
  simp only [decisionTick_groups, h, if_true]

end Tick

/-! ### The carrier period -/

/-- The first events of a period (R169): what was captured before it settles, then the commit phase and the commit point. -/
def periodCommitted (L : Lane) (g : Fin 16) (cs : List Nat) : Lane :=
  let A := (L.takeClocks g cs).legsSettle g
  ((A.updLg g (fun x => { x with periodAt := A.now })).commitPhase g).commitPoint g

/-- QCAP is taken, the period in use is shown and its end is set. -/
def periodShown (B : Lane) (g : Fin 16) : Lane :=
  let C := B.updLg g (fun x => { x with qcap := B.flag F.LG_CTRL_QCAP g })
  let D := C.setFld F.LG_PERIOD_ACT_VAL (C.lg g).active g
  D.updLg g (fun x => { x with nextAt := D.now + 8 * x.active })

/-- A trip hold ends, then hand-over, injection and illegal requests. -/
def periodReady (E : Lane) (g : Fin 16) (ill : Nat) : Lane :=
  let F := E.when ((E.lg g).tripEnd && (E.grp g).tq.mode != .table) (·.updLg g (fun x => { x with tripHold := false, tripEnd := false }))
  let G := F.handover g
  (G.updAn g (fun x => { x with injRun := x.injRun && G.injWanted g })).illegalLegs g ill

/-- The lane when the legs of a period that starts are about to be set. -/
def periodStarted (L : Lane) (g : Fin 16) (cs : List Nat) (ill : Nat) : Lane :=
  periodReady (periodShown (periodCommitted L g cs) g) g ill

section Legs

variable (H : Lane) (g : Fin 16)

/-- Legs U, V and W by their duties. -/
def legsBy (d : List Nat) (drive : Bool) : Lane :=
  ((H.legPeriod g 0 (d.getD 0 0) drive).legPeriod g 1 (d.getD 1 0) drive).legPeriod g 2 (d.getD 2 0) drive

/-- The DC-link voltage by which a period divides its reference. -/
def periodVdc : Rat := H.sdValue g 3 (H.sinc3 g 3)

/-- The duties by their source; with none of the three the last ones shown. -/
def periodDuties : List Nat :=
  if H.srcDuty g then (H.lg g).duty
  else if H.startDrives g then dutiesOf (H.injVector g) (periodVdc H g)
  else if (H.grp g).tq.mode = .carrier then dutiesOf (H.reference g) (periodVdc H g)
  else (List.range 3).map (fun k => H.fld F.LG_DUTY_ACT_DUTY g k)

/-- Whether the legs follow their duties. -/
def periodDrives : Bool :=
  (H.legsRun g || (H.startDrives g && !(H.lg g).genHold)) && (H.srcDuty g || (H.grp g).tq.mode != .table)

/-- What the period makes of the legs. -/
def periodLegs : Lane :=
  if !(H.srcDuty g) && !(H.startDrives g) && (H.grp g).tq.mode != .carrier then H else legsBy H g (periodDuties H g) (periodDrives H g)

/-- The start sequence drives only where the duty registers are not the source (R139). -/
theorem srcDuty_of_startDrives (h : H.startDrives g = true) : H.srcDuty g = false := by
  simp only [Lane.startDrives, Bool.and_eq_true, Bool.not_eq_true'] at h
  obtain ⟨⟨⟨⟨_, hs⟩, _⟩, _⟩, _⟩ := h
  exact hs

theorem startDrives_of_srcDuty (h : H.srcDuty g = true) : H.startDrives g = false := by
  simp [Lane.startDrives, h]

theorem periodLegs_none (hs : H.srcDuty g = false) (hd : H.startDrives g = false) (hm : (H.grp g).tq.mode ≠ .carrier) : periodLegs H g = H :=
  if_pos (by simp [hs, hd, hm])

theorem periodLegs_srcDuty (hs : H.srcDuty g = true) : periodLegs H g = legsBy H g (H.lg g).duty (H.legsRun g) := by
  simp [periodLegs, periodDuties, periodDrives, hs, startDrives_of_srcDuty H g hs]

theorem periodLegs_start (hd : H.startDrives g = true) :
    periodLegs H g = legsBy H g (dutiesOf (H.injVector g) (periodVdc H g)) ((H.legsRun g || !(H.lg g).genHold) && (H.grp g).tq.mode != .table) := by
  simp [periodLegs, periodDuties, periodDrives, hd, srcDuty_of_startDrives H g hd]

theorem periodLegs_engine (hs : H.srcDuty g = false) (hd : H.startDrives g = false) (hm : (H.grp g).tq.mode = .carrier) :
    periodLegs H g = legsBy H g (dutiesOf (H.reference g) (periodVdc H g)) (H.legsRun g) := by
  have ht : (Mode.carrier != Mode.table) = true := rfl
  simp [periodLegs, periodDuties, periodDrives, hs, hd, hm, ht]

end Legs

section Period

variable (L : Lane) (g : Fin 16) (cs : List Nat) (ill : Nat)

theorem carrierPeriodStart_waits (h : L.flag F.LG_CTRL_RUN g = false ∨ (L.lg g).running = false ∨ L.now < (L.lg g).nextAt) :
    L.carrierPeriodStart g cs ill = L := by
  refine if_pos ?_
  rcases h with h | h | h <;> simp [h]

/-- A lane reached stage by stage. Each stage is compared on its own: written out in one another, the stages grow exponentially. -/
theorem periodStarted_eq {B E H : Lane} (hB : B = periodCommitted L g cs) (hE : E = periodShown B g) (hH : H = periodReady E g ill) :
    H = periodStarted L g cs ill := by
  rw [hH, hE, hB, periodStarted]

/-- A period that is due runs its events in the order of R169, and then sets the legs. -/
theorem carrierPeriodStart_due (hr : L.flag F.LG_CTRL_RUN g = true) (hc : (L.lg g).running = true) (ht : (L.lg g).nextAt ≤ L.now) :
    L.carrierPeriodStart g cs ill = periodLegs (periodStarted L g cs ill) g := by
  have hw : ¬ (!(L.flag F.LG_CTRL_RUN g) || !(L.lg g).running || decide (L.now < (L.lg g).nextAt)) = true := by simp [hr, hc, ht]
  rw [Lane.carrierPeriodStart, if_neg hw]
  extract_lets A phased B C D E F G K H
  have hH : H = periodStarted L g cs ill := periodStarted_eq (B := B) (E := E) L g cs ill rfl rfl rfl
  rw [← hH]
  clear_value H
  rfl

end Period

section Command

variable {i : Instr} {l : LaneId} {t b : Nat} {s : State} {M : Lane} {f : Lane → Lane}

theorem does_gateAwake (hi : exec i s = onLane l t (gateAwake b f) s) (ha : (s.seen l t).awakeActs b = true) (hf : f (s.seen l t) = M) :
    Does i l t s M :=
  does_of rfl hi ((gateAwake_on f ha).trans hf)

end Command

/-- Settles O14: the tick by whether the lane dozes, and the period by whether it is due and by what drives its legs. -/
theorem decisionTickAndCarrierPeriod : Obligations.DecisionTickAndCarrierPeriod := by
  refine ⟨?tick, ?period⟩
  case tick =>
    intro s l t xs L zero M ys ha
    exact ⟨fun h => does_gate rfl ha (decisionTick_awake L xs h), fun h => does_gate rfl ha (decisionTick_dozing L xs h)⟩
  case period =>
    intro s l t g cs ill L ha
    refine ⟨fun h => does_gateAwake rfl ha (carrierPeriodStart_waits L g cs ill h), fun hr hc ht => ?_⟩
    have due := carrierPeriodStart_due L g cs ill hr hc ht
    intro A B C D E G H v legs
    have hH : H = periodStarted L g cs ill := periodStarted_eq (B := B) (E := E) L g cs ill rfl rfl rfl
    rw [← hH] at due
    clear_value H
    refine ⟨fun hs hd hm => ?noSource, fun hs => ?dutyRegisters, fun hd => ?startSequence, fun hs hd hm => ?engine⟩
    case noSource => exact does_gateAwake rfl ha (due.trans (periodLegs_none H g hs hd hm))
    case dutyRegisters => exact does_gateAwake rfl ha (due.trans (periodLegs_srcDuty H g hs))
    case startSequence => exact does_gateAwake rfl ha (due.trans (periodLegs_start H g hd))
    case engine => exact does_gateAwake rfl ha (due.trans (periodLegs_engine H g hs hd hm))

end Sys2Proof.Proofs
end

section
/-! PROOFS. The exchange tick (R132, R238): what sending a frame leaves of the lane, and what the tick sends and tells the groups. -/

namespace Sys2Proof.Proofs

open Sys2Proof.Machine Sys2Proof.Laws

variable (L : Lane)

/-! ### What sending leaves of the key state -/

theorem when_ky (c : Bool) {f : Lane → Lane} (hf : ∀ M : Lane, (f M).ky = M.ky) : (L.when c f).ky = L.ky := by
  cases c
  · rfl
  · exact hf L

@[simp] theorem tallyOne_ky (b i n : Nat) : (L.tallyOne b i n).ky = L.ky := by
  simp only [Lane.tallyOne]
  split
  · exact Lane.setTally_ky _ b i _
  · exact (Lane.raise_ky _ _ 0).trans (Lane.setTally_ky _ b i _)

@[simp] theorem tallyFrom_ky (f b i n : Nat) : (L.tallyFrom f b i n).ky = L.ky := by
  induction f generalizing L b i with
  | zero => exact tallyOne_ky L b i n
  | succ f ih =>
    refine List.foldlRecOn (motive := fun M : Lane => M.ky = L.ky) _ _ (tallyOne_ky L b i n) (fun M hM k _ => ?_)
    split
    · exact (ih M 5 k).trans hM
    · exact hM

@[simp] theorem tally_ky (b i n : Nat) : (L.tally b i n).ky = L.ky := by
  unfold Lane.tally
  split
  · rfl
  · exact tallyFrom_ky L 29 b i n

@[simp] theorem load_ky (i n : Nat) : (L.load i n).ky = L.ky := by
  simp only [Lane.load]
  split
  · exact when_ky _ _ fun M => Lane.setFld_ky M ..
  · exact when_ky _ _ fun M => Lane.setFld_ky M ..

@[simp] theorem onWire_ky (cls i : Nat) (ws : List CxSent) : (L.onWire cls i ws).ky = L.ky :=
  List.foldlRecOn (motive := fun M : Lane => M.ky = L.ky) ws _ rfl (fun M hM w _ => by simp only [load_ky, tally_ky, hM])

/-- Sending a frame, injected errors and all (R359), does not touch the key state. -/
@[simp] theorem sent_ky (f : CxFrame) : (L.sent f).ky = L.ky := by
  unfold Lane.sent
  extract_lets hit port act due first flip mine wired held told
  have hw : wired.ky = L.ky := (onWire_ky _ f.cls 1 _).trans (onWire_ky L f.cls 0 _)
  split
  · exact hw
  · split
    · exact hw
    · exact (Lane.raise_ky _ _ 0).trans ((Lane.setFld_ky _ _ 0 0 0).trans hw)

/-! ### What every group takes -/

/-- A part of the lane that no group's step touches stands after all of them. -/
theorem eachGroup_keeps {α : Type} (p : Lane → α) {f : Lane → Fin 16 → Lane} (hf : ∀ M g, p (f M g) = p M) : p (L.eachGroup f) = p L :=
  List.foldlRecOn (motive := fun M => p M = p L) _ f rfl fun M hM g _ => (hf M g).trans hM

/-- The angle unit of a group takes the exchange (R135). -/
def takeExchange (M : Lane) (g : Fin 16) : Lane := M.updAn g (fun s => { s with exchanged := true })

theorem takeExchange_same (M : Lane) (g : Fin 16) : ((takeExchange M g).an g).exchanged = true := by simp [takeExchange, Lane.an]

theorem takeExchange_keeps (M : Lane) (g h : Fin 16) (hm : (M.an h).exchanged = true) : ((takeExchange M g).an h).exchanged = true := by
  by_cases e : h = g
  · exact e ▸ takeExchange_same M h
  · rw [Lane.an, takeExchange, Lane.grp_updAn_other M _ e]
    exact hm

/-- A group has the exchange once its turn has come, or if it had it before. -/
theorem foldl_takeExchange (gs : List (Fin 16)) (h : Fin 16) :
    ∀ M : Lane, h ∈ gs ∨ (M.an h).exchanged = true → ((gs.foldl takeExchange M).an h).exchanged = true := by
  induction gs with
  | nil => exact fun M hm => hm.resolve_left (List.not_mem_nil)
  | cons g gs ih =>
    intro M hm
    refine ih _ ?_
    rcases hm with hm | hm
    · rcases List.mem_cons.1 hm with rfl | hm
      · exact .inr (takeExchange_same M h)
      · exact .inl hm
    · exact .inr (takeExchange_keeps M g h hm)

theorem eachGroup_takeExchange (h : Fin 16) : ((L.eachGroup takeExchange).an h).exchanged = true :=
  foldl_takeExchange _ h L (.inl (List.mem_finRange h))

/-! ### The tick -/

/-- The lane with the waiting key messages sent, the tick's interrupt source latched, the own release vote taken, and the round trips shown. -/
def exchangeOpened (n p : Nat) : Lane :=
  let A := L.flushKeys.latchSrc 113
  let B : Lane := { A with ky := { A.ky with ownVote := A.fld F.EG_VOTE_OWN_VOTE, voteSeq := (A.ky.voteSeq + 1) % 4096 } }
  (B.setFld F.CX_RTT_RTT_N (if (B.link .N).up then n else 0)).setFld F.CX_RTT_RTT_P (if (B.link .P).up then p else 0)

/-- The angle frame that a lane sends next (R132). -/
def nextAngleFrame (C : Lane) : AngleFrame :=
  { num := (C.cx.exNum + 1) % 65536, sender := C.id.index, age := min 255 ((C.now - C.ad.tickAt) / 32),
    stars := (List.finRange 16).map (fun g => C.angleEntry g) }

/-- Vote and angle frame sent, the angle frame's number and age shown. -/
def framesSent (C : Lane) : Lane :=
  let S := (C.sent (.vote C.voteFrameOf)).sent (.angle (nextAngleFrame C))
  (({ S with cx := { S.cx with exNum := (nextAngleFrame C).num },
             out := { S.out with angle := some (nextAngleFrame C), vote := some S.voteFrameOf } } : Lane).setFld
    F.AN_XCHG_TX_NUM (nextAngleFrame C).num).setFld F.AN_XCHG_AGE (nextAngleFrame C).age

theorem framesSent_ky (C : Lane) : (framesSent C).ky = C.ky := by simp [framesSent]

theorem exchangeTick_idle (n p : Nat) (h : L.mainRuns = false) : L.exchangeTick n p = L := if_pos (by simp [h])

section Runs

variable (n p : Nat) (h : L.mainRuns = true)
include h

/-- In Hold the vote frame alone goes out (R389). -/
theorem exchangeTick_hold (hl : (exchangeOpened L n p).pm.level = .hold) :
    L.exchangeTick n p =
      let S := (exchangeOpened L n p).sent (.vote (exchangeOpened L n p).voteFrameOf)
      { S with out := { S.out with vote := some S.voteFrameOf } } :=
  (if_neg (by simp [h])).trans (if_pos hl)

theorem exchangeTick_sends (hl : (exchangeOpened L n p).pm.level ≠ .hold) :
    L.exchangeTick n p = (framesSent (exchangeOpened L n p)).eachGroup takeExchange :=
  (if_neg (by simp [h])).trans (if_neg hl)

end Runs

/-- Settles O23: the tick by whether the lane may send, and by whether it is in Hold; sending keeps the vote taken, and each group has its turn. -/
theorem exchangeTickSendsVoteAndAngle : Obligations.ExchangeTickSendsVoteAndAngle := by
  intro s l t n p L ha
  refine ⟨fun h => does_gate rfl ha (exchangeTick_idle L n p h), fun h => ?_⟩
  intro A B C S
  refine ⟨fun hl => ?hold, fun hl => ?sends⟩
  case hold => exact does_gate rfl ha (exchangeTick_hold L n p h hl)
  case sends =>
    have stands {α : Type} (q : Lane → α) (hq : ∀ M g, q (takeExchange M g) = q M) := eachGroup_keeps (framesSent C) q hq
    have hky := (stands Lane.ky fun _ _ => rfl).trans (framesSent_ky C)
    have hcx := stands Lane.cx fun _ _ => rfl
    have hout := stands Lane.out fun _ _ => rfl
    refine ⟨_, does_gate rfl ha (exchangeTick_sends L n p h hl), ?vote, ?number, ?frame, ?angleSent, ?voteSent, eachGroup_takeExchange _⟩
    case vote => exact congrArg KyS.ownVote hky
    case number => exact congrArg CxS.exNum hcx
    case frame =>
      intro fr hfr
      obtain rfl : nextAngleFrame C = fr := Option.some.inj ((congrArg OutS.angle hout).symm.trans hfr)
      exact ⟨rfl, rfl, by simp [nextAngleFrame]⟩
    case angleSent => exact congrArg (fun o => o.angle.isSome) hout
    case voteSent => exact congrArg (fun o => o.vote.isSome) hout

end Sys2Proof.Proofs
end

section
/-! PROOFS. Start of a rotor angle (R139), and the sources of the angle unit: encoder alignment (R131), stale siblings (R133), returning sources
(R135). -/

namespace Sys2Proof.Proofs

open Sys2Proof.Machine Sys2Proof.Laws

variable (L : Lane) (g : Fin 16)

/-! ### The polarity test (R139) -/

section Test

variable (cs : List Nat)

/-- The lane with one more test counted and its peaks cleared (R139, step 5). -/
def testCounted (K : Lane) : Lane := K.updAn g (fun x => { x with tests := x.tests + 1, testAt := none, peakPlus := 0, peakMinus := 0 })

/-- How many times the weaker peak the stronger one must be, by MARGIN (R139, step 4). -/
def peakRatio (M : Lane) : Rat := 1 + (M.polMargin g : Rat) / 100

/-- The pulses are not over: the clocks are taken and no more. -/
theorem polarityTest_runs {K : Lane} (hK : L.takeClocks g cs = K) {t0 : Nat} (ha : (K.an g).testAt = some t0)
    (ht : K.now < t0 + 4 * us (K.polWidth g)) : L.polarityTest g cs = K := by
  subst hK
  exact if_pos (by simp [ha, ht])

section Over

variable {K : Lane} (hK : L.takeClocks g cs = K) (hs : (K.an g).starting = true) (hp : (K.an g).polOk = false) {t0 : Nat}
  (ha : (K.an g).testAt = some t0) (ht : t0 + 4 * us (K.polWidth g) ≤ K.now)
include hK hs hp ha ht

theorem polarityTest_over :
    L.polarityTest g cs =
      if (K.an g).peakMinus * peakRatio g (testCounted g K) ≤ (K.an g).peakPlus ∧ (K.an g).peakMinus < (K.an g).peakPlus then
        (testCounted g K).polarity g (K.an g).injAngle
      else if (K.an g).peakPlus * peakRatio g (testCounted g K) ≤ (K.an g).peakMinus ∧ (K.an g).peakPlus < (K.an g).peakMinus then
        (testCounted g K).polarity g ((K.an g).injAngle + 32768)
      else testCounted g K := by
  subst hK
  exact if_neg (by simp [hs, hp, ha, ht])

theorem polarityTest_plus (hm : (K.an g).peakMinus * peakRatio g (testCounted g K) ≤ (K.an g).peakPlus)
    (hl : (K.an g).peakMinus < (K.an g).peakPlus) : L.polarityTest g cs = (testCounted g K).polarity g (K.an g).injAngle :=
  (polarityTest_over L g cs hK hs hp ha ht).trans (if_pos ⟨hm, hl⟩)

theorem polarityTest_minus (hm : (K.an g).peakPlus * peakRatio g (testCounted g K) ≤ (K.an g).peakMinus)
    (hl : (K.an g).peakPlus < (K.an g).peakMinus) : L.polarityTest g cs = (testCounted g K).polarity g ((K.an g).injAngle + 32768) :=
  (polarityTest_over L g cs hK hs hp ha ht).trans ((if_neg fun h => Rat.not_lt.2 (Rat.le_of_lt hl) h.2).trans (if_pos ⟨hm, hl⟩))

theorem polarityTest_unclear
    (hm : (K.an g).peakPlus < (K.an g).peakMinus * peakRatio g (testCounted g K) ∨ (K.an g).peakPlus ≤ (K.an g).peakMinus)
    (hq : (K.an g).peakMinus < (K.an g).peakPlus * peakRatio g (testCounted g K) ∨ (K.an g).peakMinus ≤ (K.an g).peakPlus) :
    L.polarityTest g cs = testCounted g K :=
  (polarityTest_over L g cs hK hs hp ha ht).trans
    ((if_neg fun h => hm.elim (Rat.not_lt.2 h.1) (Rat.not_le.2 h.2)).trans
      (if_neg fun h => hq.elim (Rat.not_lt.2 h.1) (Rat.not_le.2 h.2)))

end Over

end Test

/-! ### A start that fails, and the wait for a sibling's polarity (R139) -/

theorem startFail_fails (hs : (L.an g).starting = true) (hp : (L.an g).polOk = false)
    (h : ((L.an g).reachedAt = none ∧ (L.an g).startAt + ms 5 ≤ L.now) ∨ 3 ≤ (L.an g).tests) :
    L.startFail g =
      ((L.updAn g (fun x => { x with starting := false, injRun := false, testAt := none })).raise F.AN_EVENT_START_FAIL g).isolate g :=
  if_pos (by simpa [hs, hp] using h)

theorem startFail_idle (h : (L.an g).starting = false ∨ (L.an g).polOk = true) : L.startFail g = L :=
  if_neg (by rcases h with h | h <;> simp [h])

section Wait

variable {d : Nat} (h : (L.an g).polWait = some d)
include h

theorem polarityWaitEnd_due (ht : d ≤ L.now) : L.polarityWaitEnd g = L.updAn g (fun x => { x with polWait := none }) := by
  simp only [Lane.polarityWaitEnd, h, if_pos ht]

theorem polarityWaitEnd_runs (ht : L.now < d) : L.polarityWaitEnd g = L := by
  simp only [Lane.polarityWaitEnd, h, if_neg (Nat.not_le.2 ht)]

end Wait

/-! ### The encoder's alignment (R131) -/

section Encoder

variable {x : Nat}

theorem encoderAlign_aligned (h : (L.an g).alignSince = some x) (ht : x + ms 100 ≤ L.now) :
    L.encoderAlign g true = L.updAn g (fun y => { y with alignOk := true }) :=
  if_pos (by simp [h, ht])

theorem encoderAlign_runs (h : (L.an g).alignSince = some x) (ht : L.now < x + ms 100) : L.encoderAlign g true = L :=
  if_neg (by simp [h, ht])

theorem encoderAlign_misaligned (h : (L.an g).misSince = some x) (ht : x + ms 10 ≤ L.now) :
    L.encoderAlign g false = (L.updAn g (fun y => { y with misalign := true, misSince := none })).raise F.AN_EVENT_ENC_MISALIGN g :=
  if_pos (by simp [h, ht])

end Encoder

/-- The electrical angle that the encoder gives before its offset is added (R130). -/
def encRaw : Nat := (L.encMult g * (L.fb g).extP) % 65536

theorem alignCapture_observer (h : (L.an g).confObs = 255) :
    L.alignCapture g =
      (L.setFld F.AN_ENC_CAPT_OFS (((L.an g).obsAngle + 65536 - encRaw L g) % 65536) g).setFld F.AN_ENC_CAPT_DONE 1 g := by
  simp only [Lane.alignCapture, h, if_true, encRaw]

theorem alignCapture_ignored (ho : (L.an g).confObs ≠ 255) (hi : (L.an g).confInj ≠ 255) : L.alignCapture g = L := by
  simp only [Lane.alignCapture, ho, hi, if_false]

/-! ### Siblings that go stale (R133), sources that return (R135) -/

theorem peerStale_next (hs : (L.an g).peerN.seen = true) (ht : (L.an g).peerN.staleTold = false)
    (he : 30 / 1000000 < L.peerElapsed .N (L.an g).peerN) :
    L.peerStale g .N =
      ((L.updAn g (fun y => { y with peerN := { y.peerN with staleTold := true } })).raise F.AN_EVENT_PEER_STALE g).bump F.AN_CNT_STALE_CNT g :=
  if_pos (Bool.and_eq_true_iff.2 ⟨by simp [Lane.peer, hs, ht], decide_eq_true he⟩)

section Return

variable {x : Nat}

theorem localSourceReturn_observer (hl : (L.an g).obsLost = true) (h : (L.an g).obsOkAt = some x) (ht : x + ms 1 ≤ L.now) :
    L.localSourceReturn g .observer = L.updAn g (fun y => { y with obsLost := false, obsOkAt := none }) :=
  if_pos (by simp [hl, h, ht])

theorem localSourceReturn_injection (hl : (L.an g).injLost = true) (h : (L.an g).injOkAt = some x) (ht : x + ms 1 ≤ L.now) :
    L.localSourceReturn g .injection = L.updAn g (fun y => { y with injLost := false, injOkAt := none }) :=
  if_pos (by simp [hl, h, ht])

end Return

/-- Settles O21: the test by whether its pulses are over and which peak wins, the start by what has failed, each wait by whether it is over. -/
theorem rotorAngleStartAndSources : Obligations.RotorAngleStartAndSources := by
  refine ⟨?start, ?sources⟩
  case start =>
    intro s l t g L ha
    refine ⟨fun lo hi => ?test, fun hs hp h => ?fails, fun h => ?noStart, fun d h ht => ?waited, fun d h ht => ?waits⟩
    case test =>
      intro K
      refine ⟨fun t0 hs hp h0 ht => ?ended, fun t0 h0 ht => ?runs⟩
      case ended =>
        intro M m p q
        exact ⟨fun hm hl => does_gate rfl ha (polarityTest_plus L g _ rfl hs hp h0 ht hm hl),
          fun hm hl => does_gate rfl ha (polarityTest_minus L g _ rfl hs hp h0 ht hm hl),
          fun hm hq => does_gate rfl ha (polarityTest_unclear L g _ rfl hs hp h0 ht hm hq)⟩
      case runs => exact does_gate rfl ha (polarityTest_runs L g _ rfl h0 ht)
    case fails => exact does_gate rfl ha (startFail_fails L g hs hp h)
    case noStart => exact does_gate rfl ha (startFail_idle L g h)
    case waited => exact does_gate rfl ha (polarityWaitEnd_due L g h ht)
    case waits => exact does_gate rfl ha (polarityWaitEnd_runs L g h ht)
  case sources =>
    intro s l t g L ha
    refine ⟨fun x h ht => ?aligned, fun x h ht => ?agrees, fun x h ht => ?misaligned, fun hp h => ?captured, fun hp ho hi => ?ignored,
      fun hs ht he => ?stale, fun x hl h ht => ?observer, fun x hl h ht => ?injection⟩
    case aligned => exact does_gate rfl ha (encoderAlign_aligned L g h ht)
    case agrees => exact does_gate rfl ha (encoderAlign_runs L g h ht)
    case misaligned => exact does_gate rfl ha (encoderAlign_misaligned L g h ht)
    case captured => exact does_gatePair rfl hp (alignCapture_observer L g h)
    case ignored => exact does_gatePair rfl hp (alignCapture_ignored L g ho hi)
    case stale => exact does_gate rfl ha (peerStale_next L g hs ht he)
    case observer => exact does_gate rfl ha (localSourceReturn_observer L g hl h ht)
    case injection => exact does_gate rfl ha (localSourceReturn_injection L g hl h ht)

end Sys2Proof.Proofs
end

section
/-! PROOFS. What counts, tells, logs and pulses leaves the groups as they are, and so does a contained fault (R350). -/

namespace Sys2Proof.Proofs

open Sys2Proof.Machine Sys2Proof.Laws

variable (L : Lane)

theorem when_groups (c : Bool) {f : Lane → Lane} (hf : ∀ M : Lane, (f M).groups = M.groups) : (L.when c f).groups = L.groups := by
  cases c
  · rfl
  · exact hf L

@[simp] theorem bump_groups (f : Fld) (j k : Nat) : (L.bump f j k).groups = L.groups := by
  rw [bump_shape]

@[simp] theorem raiseBit_groups (f : Fld) (i j : Nat) : (L.raiseBit f i j).groups = L.groups := rfl

@[simp] theorem tallyOne_groups (b i n : Nat) : (L.tallyOne b i n).groups = L.groups := by
  simp only [Lane.tallyOne]
  split
  · exact Lane.setTally_groups _ b i _
  · exact (Lane.raise_groups _ _ 0).trans (Lane.setTally_groups _ b i _)

@[simp] theorem tallyFrom_groups (f b i n : Nat) : (L.tallyFrom f b i n).groups = L.groups := by
  induction f generalizing L b i with
  | zero => exact tallyOne_groups L b i n
  | succ f ih =>
    refine List.foldlRecOn (motive := fun M : Lane => M.groups = L.groups) _ _ (tallyOne_groups L b i n) (fun M hM k _ => ?_)
    split
    · exact (ih M 5 k).trans hM
    · exact hM

@[simp] theorem tally_groups (b i n : Nat) : (L.tally b i n).groups = L.groups := by
  unfold Lane.tally
  split
  · rfl
  · exact tallyFrom_groups L 29 b i n

@[simp] theorem log_groups (kind cls source flags unit_ : Nat) (detail : List Nat) :
    (L.log kind cls source flags unit_ detail).groups = L.groups := by
  simp only [Lane.log]
  split
  · rfl
  · exact bump_groups _ _ 0 0

@[simp] theorem setPulse_groups (s : Nat) (p : PulseS) : (L.setPulse s p).groups = L.groups := by
  unfold Lane.setPulse
  split <;> rfl

@[simp] theorem relabel_groups (s : Nat) (b : Bool) : (L.relabel s b).groups = L.groups := rfl

@[simp] theorem pulse_groups (s : Nat) : (L.pulse s).groups = L.groups := by
  unfold Lane.pulse
  split
  · rfl
  · split
    · exact setPulse_groups L s _
    · extract_lets m bumped merged counted
      have hc : counted.groups = L.groups := bump_groups L _ 0 0
      split
      · exact hc
      · exact (relabel_groups _ m true).trans ((setPulse_groups counted s _).trans hc)

theorem setSrcBit_groups (f : Fld) (s : Nat) (b : Bool) : (L.setSrcBit f s b).groups = L.groups := Lane.setFld_groups L f _ 0 0

theorem faultRecord_groups (s unit_ : Nat) (inj new fatal : Bool) : (L.faultRecord s unit_ inj new fatal).groups = L.groups := by
  unfold Lane.faultRecord
  extract_lets told quieted merged pulsed
  have hn : (L.when new (·.raiseBit F.FC_NEW s)).groups = L.groups := when_groups L new fun M => raiseBit_groups M F.FC_NEW s 0
  have ht : told.groups = L.groups := (tally_groups _ 3 s 1).trans ((setSrcBit_groups _ F.FC_STATE s true).trans hn)
  have hq : quieted.groups = L.groups := Eq.trans (when_groups told _ fun _ => rfl) ht
  have hp : pulsed.groups = L.groups := (when_groups quieted _ fun M => pulse_groups M s).trans hq
  exact (log_groups pulsed ..).trans hp

theorem yardReset_groups : L.yardReset.groups = L.groups := (tally_groups _ 0 1 1).trans (Lane.setFld_groups _ F.IC_YARD_YRUN 0 0 0)

theorem setFailed_groups (u : Nat) (b : Bool) : (L.setFailed u b).groups = L.groups :=
  (Lane.setWord_groups _ F.ST_FAILED_HI _ 0 0).trans (Lane.setWord_groups _ F.ST_FAILED_LO _ 0 0)

theorem faultAction_groups (s u : Nat) : (L.faultAction s u).groups = L.groups := by
  unfold Lane.faultAction
  extract_lets yard read failed
  have hy : yard.groups = L.groups := when_groups L _ yardReset_groups
  have hr : read.groups = L.groups := Eq.trans (when_groups yard _ fun _ => rfl) hy
  exact Eq.trans (when_groups read _ fun M => (setFailed_groups _ u true).trans (Lane.setFld_groups M F.ST_UNIT_STATUS 2 0 u)) hr

/-- A contained fault is recorded in the fault hub and leaves the groups to whoever reports it (R350). -/
theorem fault_groups_of_contained {s : Nat} (u : Nat) (inj : Bool) (h : srcClass s = 1) : (L.fault s u inj).groups = L.groups := by
  simp [Lane.fault, h, faultAction_groups, faultRecord_groups]

/-- So a violation of the legality check is told (R161) and changes no leg. -/
@[simp] theorem illegalTell_groups (g : Fin 16) (k : Fin 4) : (L.illegalTell g k).groups = L.groups :=
  (fault_groups_of_contained _ _ false rfl).trans (bump_groups _ _ g 0)

end Sys2Proof.Proofs
end

section
/-! PROOFS. The leg generator's own events (R146, R154, R166, R167, R236): what a leg does next, and what a change leaves it to do. -/

namespace Sys2Proof.Proofs

open Sys2Proof.Machine Sys2Proof.Laws

/-! ### A leg's waiting changes -/

section Leg

variable (L : Lane) (g : Fin 16) (k : Fin 4) (c : LegCmd) (t : Nat)

theorem leg_of_groups {L M : Lane} (h : M.groups = L.groups) : M.leg g k = L.leg g k := by simp only [Lane.leg, Lane.grp, h]

/-- An update of a leg is what it makes of the leg that stands. -/
theorem updLeg_congr {f f' : LegS → LegS} (h : f (L.leg g k) = f' (L.leg g k)) : L.updLeg g k f = L.updLeg g k f' := by
  have hl : f (L.grp g).lg.legs[k] = f' (L.grp g).lg.legs[k] := h
  simp only [Lane.updLeg, Lane.updLg, hl]

@[simp] theorem leg_updTq (f : TqS → TqS) : (L.updTq g f).leg g k = L.leg g k := by simp [Lane.leg]

/-- Tokens that return leave a leg's command and what it waits for. -/
theorem refresh_frame (s : LegS) (burst int t : Nat) :
    (s.refresh burst int t).cmd = s.cmd ∧ (s.refresh burst int t).onAt = s.onAt ∧ (s.refresh burst int t).plan = s.plan ∧
    (s.refresh burst int t).defer = s.defer := by
  simp only [LegS.refresh]
  split
  · exact ⟨rfl, rfl, rfl, rfl⟩
  · split <;> exact ⟨rfl, rfl, rfl, rfl⟩

theorem tokens_frame :
    ((L.tokens g k t).leg g k).cmd = (L.leg g k).cmd ∧ ((L.tokens g k t).leg g k).onAt = (L.leg g k).onAt ∧
    ((L.tokens g k t).leg g k).plan = (L.leg g k).plan ∧ ((L.tokens g k t).leg g k).defer = (L.leg g k).defer := by
  simpa [Lane.tokens] using refresh_frame (L.leg g k) (L.swBurst g) (L.tokenInt g) t

/-- A change leaves the planned and the deferred one, and none held (R154, R236). -/
theorem legChange_waiting :
    ((L.legChange g k c t).leg g k).plan = (L.leg g k).plan ∧ ((L.legChange g k c t).leg g k).defer = (L.leg g k).defer ∧
    ((L.legChange g k c t).leg g k).held = none := by
  unfold Lane.legChange
  extract_lets d least told changed q
  have ht : (told.tally 10 (4 * g + k)).leg g k = L.leg g k :=
    leg_of_groups g k ((tally_groups told ..).trans (when_groups L _ fun M => illegalTell_groups M g k))
  have hb (b : Bool) (f : TqS → TqS) : (changed.when b (·.updTq g f)).leg g k = changed.leg g k := by
    cases b
    · rfl
    · exact leg_updTq changed g k f
  have hc : (changed.leg g k).plan = (L.leg g k).plan ∧ (changed.leg g k).defer = (L.leg g k).defer ∧ (changed.leg g k).held = none := by
    simp [changed, ht]
  rw [hb]
  exact hc

/-- A request that is no repetition, keeps MINPULSE and has a token changes the leg (R161, R236). -/
theorem legRequest_changes {M : Lane} (hM : L.tokens g k t = M) (hc : (M.leg g k).cmd ≠ c) (hp : (M.leg g k).onAt + M.minPulse g ≤ t)
    (ht : (M.leg g k).tokens ≠ 0) : L.legRequest g k c t = M.legChange g k c t := by
  subst hM
  simp only [Lane.legRequest, if_neg hc, if_neg ht, Nat.not_lt.2 hp, and_false, if_false]

end Leg

/-! ### What a leg does next -/

section Next

variable {s : LegS} (m back : Nat) (hp : s.plan = [])
include hp

theorem next_none (hd : s.defer = none) (hh : s.held = none) : s.next m back = none := by simp [LegS.next, hp, hd, hh]

theorem next_deferred {c : LegCmd} (hd : s.defer = some c) (hh : s.held = none) : s.next m back = some (s.onAt + m, c, false) := by
  simp [LegS.next, hp, hd, hh]

theorem next_held {c : LegCmd} (hd : s.defer = none) (hh : s.held = some c) : s.next m back = some (back, c, true) := by
  simp [LegS.next, hp, hd, hh]

end Next

section Settle

variable (L : Lane) (g : Fin 16) (k : Fin 4) {c : LegCmd}

theorem legSettleN_rests (n : Nat) (h : (L.leg g k).next (L.minPulse g) ((L.leg g k).tokenAt + L.tokenInt g) = none) :
    Lane.legSettleN g k n L = L := by
  cases n with
  | zero => rfl
  | succ n => simp only [Lane.legSettleN, h]

theorem legSettleN_waits (n : Nat) {t : Nat} {released : Bool}
    (h : (L.leg g k).next (L.minPulse g) ((L.leg g k).tokenAt + L.tokenInt g) = some (t, c, released)) (ht : L.now < t) :
    Lane.legSettleN g k n L = L := by
  cases n with
  | zero => rfl
  | succ n => simp only [Lane.legSettleN, h, if_pos ht]

theorem legSettle_of_settled {M : Lane} (h : Lane.legSettleN g k 8 L = M) : L.legSettle g k = M.judgeSeen g k := by rw [Lane.legSettle, h]

/-- A leg that changes with nothing planned or deferred has settled. -/
theorem legSettleN_legChange (n t : Nat) (hp : (L.leg g k).plan = []) (hd : (L.leg g k).defer = none) :
    Lane.legSettleN g k n (L.legChange g k c t) = L.legChange g k c t := by
  obtain ⟨plan, defer, held⟩ := legChange_waiting L g k c t
  exact legSettleN_rests _ g k n (next_none _ _ (plan.trans hp) (defer.trans hd) held)

variable (hp : (L.leg g k).plan = [])
include hp

/-- A leg without a deferred change, or one whose MINPULSE still runs, only has its edges judged. -/
theorem legSettle_notDeferred (hh : (L.leg g k).held = none)
    (h : (L.leg g k).defer = none ∨ L.now < (L.leg g k).onAt + L.minPulse g) : L.legSettle g k = L.judgeSeen g k := by
  refine legSettle_of_settled L g k ?_
  cases hd : (L.leg g k).defer with
  | none => exact legSettleN_rests L g k 8 (next_none _ _ hp hd hh)
  | some c => exact legSettleN_waits L g k 8 (next_deferred _ _ hp hd hh) (h.resolve_left (by simp [hd]))

/-- A deferred change that is due is asked for at the step at which MINPULSE has passed (R154). -/
theorem legSettleN_deferred (n : Nat) (hd : (L.leg g k).defer = some c) (hh : (L.leg g k).held = none)
    (ht : (L.leg g k).onAt + L.minPulse g ≤ L.now) :
    Lane.legSettleN g k (n + 1) L = Lane.legSettleN g k n
      ((L.updLeg g k (fun x => { x with defer := none })).legRequest g k c ((L.leg g k).onAt + L.minPulse g)) := by
  rw [Lane.legSettleN, next_deferred _ _ hp hd hh]
  simp only [if_neg (Nat.not_lt.2 ht), Bool.false_eq_true, if_false]
  exact congrArg (fun X : Lane => Lane.legSettleN g k n (X.legRequest g k c _)) (updLeg_congr L g k (by simp only [hp]))

/-- It takes effect then, with a token left for it. -/
theorem legSettle_deferred (hd : (L.leg g k).defer = some c) (hh : (L.leg g k).held = none)
    (ht : (L.leg g k).onAt + L.minPulse g ≤ L.now) (hc : (L.leg g k).cmd ≠ c) {M : Lane}
    (hM : (L.updLeg g k (fun x => { x with defer := none })).tokens g k ((L.leg g k).onAt + L.minPulse g) = M) (hk : (M.leg g k).tokens ≠ 0) :
    L.legSettle g k = (M.legChange g k c ((L.leg g k).onAt + L.minPulse g)).judgeSeen g k := by
  obtain ⟨cmd, onAt, plan, defer⟩ := tokens_frame (L.updLeg g k (fun x => { x with defer := none })) g k ((L.leg g k).onAt + L.minPulse g)
  simp only [hM, Lane.leg_updLeg_same] at cmd onAt plan defer
  have minPulse : M.minPulse g = L.minPulse g := by rw [← hM]; rfl
  rw [Lane.legSettle, legSettleN_deferred L g k hp 7 hd hh ht, legRequest_changes _ g k c _ hM (cmd ▸ hc) (Nat.le_of_eq (by rw [onAt, minPulse])) hk,
    legSettleN_legChange M g k 7 _ (plan.trans hp) defer]

variable (hd : (L.leg g k).defer = none)
include hd

/-- A token that is back releases the held change (R236). -/
theorem legSettle_released (hh : (L.leg g k).held = some c) (ht : (L.leg g k).tokenAt + L.tokenInt g ≤ L.now) :
    L.legSettle g k = ((L.tokens g k ((L.leg g k).tokenAt + L.tokenInt g)).legChange g k c ((L.leg g k).tokenAt + L.tokenInt g)).judgeSeen g k := by
  obtain ⟨-, -, plan, defer⟩ := tokens_frame L g k ((L.leg g k).tokenAt + L.tokenInt g)
  rw [Lane.legSettle, Lane.legSettleN, next_held _ _ hp hd hh]
  simp only [if_neg (Nat.not_lt.2 ht), if_true, legSettleN_legChange _ g k 7 _ (plan.trans hp) (defer.trans hd)]

theorem legSettle_notReleased (h : (L.leg g k).held = none ∨ L.now < (L.leg g k).tokenAt + L.tokenInt g) :
    L.legSettle g k = L.judgeSeen g k := by
  refine legSettle_of_settled L g k ?_
  cases hh : (L.leg g k).held with
  | none => exact legSettleN_rests L g k 8 (next_none _ _ hp hd hh)
  | some c => exact legSettleN_waits L g k 8 (next_held _ _ hp hd hh) (h.resolve_left (by simp [hh]))

end Settle

/-! ### The group's own events -/

section Group

variable (L : Lane) (g : Fin 16)

theorem lgCommit_asks (h : (L.lg g).commit = false) : L.lgCommit g = L.updLg g (fun x => { x with commit := true, commitAt := L.now }) :=
  if_neg (by simp [h])

theorem lgCommit_asked (h : (L.lg g).commit = true) : L.lgCommit g = L := if_pos h

theorem tripClr_clears (ht : (L.lg g).tripHold = true) (hc : (L.grp g).sd.oc = 0) :
    L.tripClr g = L.updLg g (fun x => { x with tripEnd := true, tripClrAt := L.now }) :=
  if_pos (by simp [ht, hc])

theorem tripClr_ignored (h : (L.lg g).tripHold = false ∨ (L.grp g).sd.oc ≠ 0) : L.tripClr g = L :=
  if_neg (by rcases h with h | h <;> simp [h])

theorem genHoldEnd_ends (hh : (L.lg g).genHold = true) (ht : (L.lg g).genAt + us 2 ≤ L.now) :
    L.genHoldEnd g = L.updLg g (fun x => { x with genHold := false }) :=
  if_pos (by simp [hh, ht])

theorem genHoldEnd_holds (h : (L.lg g).genHold = false ∨ L.now < (L.lg g).genAt + us 2) : L.genHoldEnd g = L :=
  if_neg (by rcases h with h | h <;> simp [h])

end Group

/-- Settles O15: each event by its condition, and the leg's two by what it waits for. -/
theorem legGeneratorEvents : Obligations.LegGeneratorEvents := by
  intro s l t g k L at_ back
  refine ⟨fun ha => ⟨fun h => ?asks, fun h => ?asked, fun ht hc => ?clears, fun h => ?ignored⟩,
    fun ha => ⟨fun hh ht => ?ends, fun h => ?holds, fun hp hh => ⟨fun h => ?notDeferred, fun c hd ht hc => ?deferred⟩⟩,
    fun ha hp hd => ⟨fun c hh ht => ?released, fun h => ?notReleased⟩⟩
  case asks => exact does_gatePair rfl ha (lgCommit_asks L g h)
  case asked => exact does_gatePair rfl ha (lgCommit_asked L g h)
  case clears => exact does_gatePair rfl ha (tripClr_clears L g ht hc)
  case ignored => exact does_gatePair rfl ha (tripClr_ignored L g h)
  case ends => exact does_gate rfl ha (genHoldEnd_ends L g hh ht)
  case holds => exact does_gate rfl ha (genHoldEnd_holds L g h)
  case notDeferred => exact does_gate rfl ha (legSettle_notDeferred L g k hp hh h)
  case deferred => exact fun hk => does_gate rfl ha (legSettle_deferred L g k hp hd hh ht hc rfl hk)
  case released => exact does_gate rfl ha (congrArg (·.tokens g k L.now) (legSettle_released L g k hp hd hh ht))
  case notReleased => exact does_gate rfl ha (congrArg (·.tokens g k L.now) (legSettle_notReleased L g k hp hd h))

end Sys2Proof.Proofs
end

section
/-! PROOFS. Edges of the switching node (R156, R159, R160): which change an edge belongs to, and how it is judged. -/

namespace Sys2Proof.Proofs

open Sys2Proof.Machine Sys2Proof.Laws

/-! ### A silent edge (R159, R160, R175) -/

section Silent

variable (L : Lane) (g : Fin 16) (k : Fin 4)

/-- What every silent edge does: it is told, and counted on its leg and in all. -/
def silentCounted : Lane :=
  ((L.updLeg g k (fun y => { y with silent := true, silentRun := y.silentRun + 1, goodRun := 0 })).raise F.LG_EVENT_SILENT g).bump F.LG_CNT1_SILENT g

theorem silentEdge_counts (h : ((silentCounted L g k).leg g k).silentRun < (silentCounted L g k).fld1 F.LG_SIL_SIL_N g) :
    L.silentEdge g k = silentCounted L g k :=
  if_pos h

section Reached

variable (h : (silentCounted L g k).fld1 F.LG_SIL_SIL_N g ≤ ((silentCounted L g k).leg g k).silentRun)
include h

theorem silentEdge_chopper (hk : k = 3) : L.silentEdge g k = (silentCounted L g k).chopFault g 2 :=
  (if_neg (Nat.not_lt.2 h)).trans (if_pos hk)

theorem silentEdge_isolates (hk : k ≠ 3) : L.silentEdge g k =
    (((silentCounted L g k).updLeg g k (fun y => { y with fault := true })).raise F.LG_EVENT_LEG_FAULT g).isolate g :=
  (if_neg (Nat.not_lt.2 h)).trans (if_neg hk)

end Reached

end Silent

/-! ### An edge that is judged (R156, R159) -/

section Judge

variable (L : Lane) (g : Fin 16) (k : Fin 4) (e : LegEdge)

/-- The lane whose leg has this change no longer to be judged. -/
def edgeTaken : Lane := L.updLeg g k (fun y => { y with edges := y.edges.filter (fun z => decide (z ≠ e)) })

/-- The conditions of R159 under which an edge is checked. -/
def edgeChecked : Bool := (L.lg g).gen && L.sy.permit && decide (L.vsilMin g ≤ L.vdc g)

theorem edgeChecked_eq_true : edgeChecked L g = true ↔ (L.lg g).gen = true ∧ L.sy.permit = true ∧ L.vsilMin g ≤ L.vdc g := by
  simp only [edgeChecked, Bool.and_eq_true, decide_eq_true_eq, and_assoc]

theorem edgeChecked_eq_false : edgeChecked L g = false ↔ (L.lg g).gen = false ∨ L.sy.permit = false ∨ L.vdc g < L.vsilMin g := by
  simp only [edgeChecked, Bool.and_eq_false_iff, decide_eq_false_iff_not, Rat.not_le, or_assoc]

/-- Taking a change away from its leg leaves what the conditions look at. -/
@[simp] theorem edgeChecked_edgeTaken : edgeChecked (edgeTaken L g k e) g = edgeChecked L g := by
  have gen : ((edgeTaken L g k e).lg g).gen = (L.lg g).gen := by simp [edgeTaken, Lane.lg, Lane.updLeg]
  have vdc : (edgeTaken L g k e).vdc g = L.vdc g := by simp [edgeTaken, Lane.vdc, Lane.updLeg]
  have permit : (edgeTaken L g k e).sy = L.sy := rfl
  have vsilMin : (edgeTaken L g k e).vsilMin g = L.vsilMin g := rfl
  simp only [edgeChecked, gen, vdc, permit, vsilMin]

theorem judgeEdge_unchecked (x : Option Nat) (h : edgeChecked L g = false) :
    L.judgeEdge g k e x = (edgeTaken L g k e).senseShow g k e.rising 3 0 :=
  if_pos (congrArg (!·) ((edgeChecked_edgeTaken L g k e).trans h))

section Checked

variable (h : edgeChecked L g = true)
include h

theorem judgeEdge_noCrossing : L.judgeEdge g k e none = ((edgeTaken L g k e).senseShow g k e.rising 2 0).silentEdge g k :=
  if_neg (ne_true_of_eq_false (congrArg (!·) ((edgeChecked_edgeTaken L g k e).trans h)))

/-- A crossing is judged by the time from the fall of the outgoing command, less the comparator's delay (R156). -/
theorem judgeEdge_crossing (c : Nat) {m : Nat} (hm : c - (edgeTaken L g k e).fld F.LG_DTADP_SNS_COMP g = m) : L.judgeEdge g k e (some c) =
    let S := (edgeTaken L g k e).senseShow g k e.rising 0 (min m 0xFFFF)
    if m < e.dt then
      (S.when (k != 3 && S.flag F.LG_CTRL_ADAPT g && decide (S.izc g ≤ absR (S.fastAt g k e.fell))) (·.adapt g k e.rising m)).goodEdge g k
    else if m ≤ e.dt + (edgeTaken L g k e).tsil g then ((edgeTaken L g k e).senseShow g k e.rising 1 0).goodEdge g k
    else ((edgeTaken L g k e).senseShow g k e.rising 2 0).silentEdge g k := by
  subst hm
  exact if_neg (ne_true_of_eq_false (congrArg (!·) ((edgeChecked_edgeTaken L g k e).trans h)))

theorem judgeEdge_silent (x : Option Nat)
    (hx : x.all (fun c => decide (e.dt + (edgeTaken L g k e).tsil g < c - (edgeTaken L g k e).fld F.LG_DTADP_SNS_COMP g)) = true) :
    L.judgeEdge g k e x = ((edgeTaken L g k e).senseShow g k e.rising 2 0).silentEdge g k := by
  cases x with
  | none => exact judgeEdge_noCrossing L g k e h
  | some c =>
    have late := of_decide_eq_true hx
    exact (judgeEdge_crossing L g k e h c rfl).trans ((if_neg (by omega)).trans (if_neg (by omega)))

variable {c m : Nat} (hm : c - (edgeTaken L g k e).fld F.LG_DTADP_SNS_COMP g = m)
include hm

theorem judgeEdge_forced (hd : e.dt ≤ m) (ht : m ≤ e.dt + (edgeTaken L g k e).tsil g) :
    L.judgeEdge g k e (some c) = ((edgeTaken L g k e).senseShow g k e.rising 1 0).goodEdge g k :=
  (judgeEdge_crossing L g k e h c hm).trans ((if_neg (Nat.not_lt.2 hd)).trans (if_pos ht))

variable (hd : m < e.dt) {S : Lane} (hS : (edgeTaken L g k e).senseShow g k e.rising 0 (min m 0xFFFF) = S)
include hd hS

/-- A natural edge that adapts nothing: on leg K, without ADAPT, or below IZC. -/
theorem judgeEdge_natural (hn : k = 3 ∨ S.flag F.LG_CTRL_ADAPT g = false ∨ absR (S.fastAt g k e.fell) < S.izc g) :
    L.judgeEdge g k e (some c) = S.goodEdge g k := by
  subst hS
  refine ((judgeEdge_crossing L g k e h c hm).trans (if_pos hd)).trans (congrArg (fun X : Lane => X.goodEdge g k) (if_neg ?_))
  rcases hn with hk | ha | hi
  · simp [hk]
  · simp [ha]
  · simp [decide_eq_false (Rat.not_le.2 hi)]

theorem judgeEdge_adapts (hk : k ≠ 3) (ha : S.flag F.LG_CTRL_ADAPT g = true) (hi : S.izc g ≤ absR (S.fastAt g k e.fell)) :
    L.judgeEdge g k e (some c) = (S.adapt g k e.rising m).goodEdge g k := by
  subst hS
  exact ((judgeEdge_crossing L g k e h c hm).trans (if_pos hd)).trans (congrArg (fun X : Lane => X.goodEdge g k) (if_pos (by simp [hk, ha, hi])))

end Checked

end Judge

/-! ### Which change an edge belongs to -/

section Edge

variable (L : Lane) (g : Fin 16) (k : Fin 4) (rise : Bool) (x : Option Nat) (cs : List Nat)

/-- The lane that a sense edge finds: the clocks taken, the leg brought up to now. -/
def edgeFound : Lane := (L.takeClocks g cs).legSettle g k

/-- The newest state change of a direction that is still to be judged. -/
def openEdge (A : Lane) : Option LegEdge := (A.leg g k).edges.find? (fun e => e.rising == rise && e.seen.isNone)

theorem rising_of_openEdge {A : Lane} {e : LegEdge} (h : openEdge g k rise A = some e) : e.rising = rise := by
  have := List.find?_some h
  simp only [Bool.and_eq_true, beq_iff_eq] at this
  exact this.1

variable {A : Lane} (hA : edgeFound L g k cs = A)
include hA

theorem switchingNodeEdge_none (h : openEdge g k rise A = none) : L.switchingNodeEdge g k rise x cs = A.senseShow g k rise 3 0 := by
  subst hA
  simp only [openEdge, edgeFound] at h
  simp only [Lane.switchingNodeEdge, h, edgeFound]

variable {e : LegEdge} (h : openEdge g k rise A = some e)
include h

theorem switchingNodeEdge_early (ht : A.now < e.fell + e.dt) : L.switchingNodeEdge g k rise x cs =
    A.updLeg g k (fun y => { y with edges := y.edges.map (fun z => if z = e then { z with seen := some x } else z) }) := by
  subst hA
  simp only [openEdge, edgeFound] at h ht
  simp only [Lane.switchingNodeEdge, h, edgeFound, if_pos ht]

theorem switchingNodeEdge_judged (ht : e.fell + e.dt ≤ A.now) : L.switchingNodeEdge g k rise x cs = A.judgeEdge g k e x := by
  subst hA
  simp only [openEdge, edgeFound] at h ht
  simp only [Lane.switchingNodeEdge, h, edgeFound, if_neg (Nat.not_lt.2 ht)]

end Edge

section Command

variable {i : Instr} {l : LaneId} {t b : Nat} {s : State} {M : Lane} {f : Lane → Lane}

theorem does_gateAwakeIn (hi : exec i s = onLane l t (gateAwakeIn b f) s) (ha : (s.seen l t).awakeActs b = true)
    (hp : (s.seen l t).inActs .drive b = true) (hf : f (s.seen l t) = M) : Does i l t s M :=
  does_of rfl hi ((gateAwakeIn_on f ha hp).trans hf)

end Command

/-- Settles O16: by whether a change waits for the edge, whether its incoming command has risen, whether it is checked, and when the node crossed. -/
theorem switchingNodeEdgeClasses : Obligations.SwitchingNodeEdgeClasses := by
  intro s l t g k rise x cs L A edge show_ good ha hp
  refine ⟨fun h => ?none, fun e h ht => ?early, fun e h ht => ?judged⟩
  case none => exact does_gateAwakeIn rfl ha hp (switchingNodeEdge_none L g k rise x cs rfl h)
  case early => exact does_gateAwakeIn rfl ha hp (switchingNodeEdge_early L g k rise x cs rfl h ht)
  case judged =>
    intro N
    have judged : L.switchingNodeEdge g k rise x cs = A.judgeEdge g k e x := switchingNodeEdge_judged L g k rise x cs rfl h ht
    obtain rfl : e.rising = rise := rising_of_openEdge g k rise h
    refine ⟨fun hu => ?unchecked, fun hg hs hv => ?checked⟩
    case unchecked =>
      exact does_gateAwakeIn rfl ha hp (judged.trans (judgeEdge_unchecked A g k e x ((edgeChecked_eq_false A g).2 hu)))
    case checked =>
      have hc : edgeChecked A g = true := (edgeChecked_eq_true A g).2 ⟨hg, hs, hv⟩
      refine ⟨fun hx => ?silent, fun c hx => ?crossed⟩
      case silent =>
        have silent := judged.trans (judgeEdge_silent A g k e hc x hx)
        exact ⟨fun hn => does_gateAwakeIn rfl ha hp (silent.trans (silentEdge_counts _ g k hn)),
          fun hn hk => does_gateAwakeIn rfl ha hp (silent.trans (silentEdge_chopper _ g k hn hk)),
          fun hn hk => does_gateAwakeIn rfl ha hp (silent.trans (silentEdge_isolates _ g k hn hk))⟩
      case crossed =>
        subst hx
        exact ⟨fun hd hm => does_gateAwakeIn rfl ha hp (judged.trans (judgeEdge_forced A g k e hc rfl hd hm)),
          fun hd => ⟨fun hn => does_gateAwakeIn rfl ha hp (judged.trans (judgeEdge_natural A g k e hc rfl hd rfl hn)),
            fun hk hf hi => does_gateAwakeIn rfl ha hp (judged.trans (judgeEdge_adapts A g k e hc rfl hd rfl hk hf hi))⟩⟩

end Sys2Proof.Proofs
end

section
/-! PROOFS. The envelope guard (R236), the settling and the faults of the sigma-delta channels (R186, R191), over- and undervoltage of the
link (R177, R181). -/

namespace Sys2Proof.Proofs

open Sys2Proof.Machine Sys2Proof.Laws

variable (L : Lane) (g : Fin 16)

/-! ### The end of settling (R186) -/

theorem settlingEnd_settles (hs : (L.grp g).sd.settling = true) (he : L.flag F.SD_CTRL_ENABLE g = true)
    (ht : (L.grp g).sd.enabledAt + 3 * L.sdM g * L.sdDiv g * 8 ≤ L.now) :
    L.settlingEnd g = (L.updSd g (fun x => { x with settling := false })).genUpdate g :=
  if_pos (by simp [hs, he, ht])

/-! ### The envelope guard (R236) -/

/-- A phase's newest fast value is at or above EG_OC. -/
def phaseReaches (K : Lane) : Bool := [0, 1, 2].any (fun k => decide (K.f32 F.EG_OC g ≤ absR (K.fast g k)))

section Clocks

variable (cs : List Nat) {K : Lane} (hK : L.takeClocks g cs = K)
include hK

theorem egOvercurrent_eq : L.egOvercurrent g cs =
    if K.sdRuns g && f32pos (K.word F.EG_OC g) && phaseReaches g K then K.groupOff g true else K := by
  subst hK
  rfl

theorem egOvercurrent_off (hr : K.sdRuns g = true) (hl : f32pos (K.word F.EG_OC g) = true) (hp : phaseReaches g K = true) :
    L.egOvercurrent g cs = K.groupOff g true :=
  (egOvercurrent_eq L g cs hK).trans (if_pos (by simp [hr, hl, hp]))

theorem egOvercurrent_passes (h : K.sdRuns g = false ∨ f32pos (K.word F.EG_OC g) = false ∨ phaseReaches g K = false) :
    L.egOvercurrent g cs = K :=
  (egOvercurrent_eq L g cs hK).trans (if_neg (by rcases h with h | h | h <;> simp [h]))

theorem egOvervoltage_off (hr : K.sdRuns g = true) (hl : f32pos (K.word F.EG_OV g) = true) (hf : K.fastFor g 3 (us 1) = true) :
    L.egOvervoltage g cs = K.groupOff g true := by
  subst hK
  exact if_pos (by simp [hr, hl, hf])

theorem egOvervoltage_passes (h : K.sdRuns g = false ∨ f32pos (K.word F.EG_OV g) = false ∨ K.fastFor g 3 (us 1) = false) :
    L.egOvervoltage g cs = K := by
  subst hK
  exact if_neg (by rcases h with h | h | h <;> simp [h])

/-! ### A stuck channel (R191) -/

section Stuck

variable (c : Fin 4)

theorem channelStuck_passes (h : (K.grp g).sd.settling = true ∨ K.sdRuns g = false ∨ bit (K.grp g).sd.chfault c = true ∨
    (K.grp g).sd.runs.getD c 0 < 128) : L.channelStuck g c cs = K := by
  subst hK
  exact if_pos (by rcases h with h | h | h | h <;> simp [h, -List.getD_eq_getElem?_getD])

/-- The lane with a channel's fault latched and told. -/
def channelFaulted (K : Lane) : Lane :=
  (K.updSd g (fun x => { x with chfault := putBit x.chfault c true })).raise F.SD_EVENT_CHFAULT g

variable (hs : (K.grp g).sd.settling = false) (hr : K.sdRuns g = true) (hc : bit (K.grp g).sd.chfault c = false)
  (hn : 128 ≤ (K.grp g).sd.runs.getD c 0)
include hs hr hc hn

theorem channelStuck_faults : L.channelStuck g c cs =
    if c = 3 then (channelFaulted g c K).groupOff g false else (channelFaulted g c K).isolate g := by
  subst hK
  exact if_neg (by simp [hs, hr, hc, hn, -List.getD_eq_getElem?_getD])

theorem channelStuck_link (h3 : c = 3) : L.channelStuck g c cs = (channelFaulted g c K).groupOff g false :=
  (channelStuck_faults L g cs hK c hs hr hc hn).trans (if_pos h3)

theorem channelStuck_phase (h3 : c ≠ 3) : L.channelStuck g c cs = (channelFaulted g c K).isolate g :=
  (channelStuck_faults L g cs hK c hs hr hc hn).trans (if_neg h3)

end Stuck

/-! ### The link above VOV2 and VOV3 for OV_QUAL (R177) -/

section Overvoltage

theorem ovQualified_unqualified (third : Bool) (hf : K.fastFor g (if third then 2 else 1) (800 * K.ovQual g) = false) :
    L.ovQualified g third cs = K := by
  subst hK
  exact if_pos (by simp [hf])

theorem ovQualified_qualified (third : Bool) (hf : K.fastFor g (if third then 2 else 1) (800 * K.ovQual g) = true) :
    L.ovQualified g third cs =
      if third then
        if (K.lg g).iso == .groupOff then K
        else ((K.updCh g (fun x => { x with step := 3 })).raise F.LG_CH_EVENT_GROUP_OFF g).groupOff g false
      else if (K.grp g).tq.isolated then K
      else ((K.updCh g (fun x => { x with step := max 2 x.step })).raise F.LG_CH_EVENT_OV_ISO g).isolate g := by
  subst hK
  exact if_neg (by simp [hf])

theorem ovQualified_groupOff (hf : K.fastFor g 2 (800 * K.ovQual g) = true) (hi : (K.lg g).iso ≠ .groupOff) :
    L.ovQualified g true cs = ((K.updCh g (fun x => { x with step := 3 })).raise F.LG_CH_EVENT_GROUP_OFF g).groupOff g false :=
  (ovQualified_qualified L g cs hK true hf).trans ((if_pos rfl).trans (if_neg (by simpa using hi)))

theorem ovQualified_isolates (hf : K.fastFor g 1 (800 * K.ovQual g) = true) (hi : (K.grp g).tq.isolated = false) :
    L.ovQualified g false cs =
      ((K.updCh g (fun x => { x with step := max 2 x.step })).raise F.LG_CH_EVENT_OV_ISO g).isolate g :=
  (ovQualified_qualified L g cs hK false hf).trans ((if_neg Bool.false_ne_true).trans (if_neg (by simp [hi])))

/-- Nothing happens before VOV3 has qualified, nor in a group that is off already. -/
theorem ovQualified_third_passes (h : K.fastFor g 2 (800 * K.ovQual g) = false ∨ (K.lg g).iso = .groupOff) :
    L.ovQualified g true cs = K := by
  cases hf : K.fastFor g 2 (800 * K.ovQual g) with
  | false => exact ovQualified_unqualified L g cs hK true hf
  | true => exact (ovQualified_qualified L g cs hK true hf).trans ((if_pos rfl).trans (if_pos (by simpa [hf] using h)))

/-- Nothing happens before VOV2 has qualified, nor to a star that is isolated already. -/
theorem ovQualified_second_passes (h : K.fastFor g 1 (800 * K.ovQual g) = false ∨ (K.grp g).tq.isolated = true) :
    L.ovQualified g false cs = K := by
  cases hf : K.fastFor g 1 (800 * K.ovQual g) with
  | false => exact ovQualified_unqualified L g cs hK false hf
  | true =>
    exact (ovQualified_qualified L g cs hK false hf).trans ((if_neg Bool.false_ne_true).trans (if_pos (by simpa [hf] using h)))

end Overvoltage

/-! ### The link below VUV_TRIP for UV_T (R181) -/

theorem undervoltageTrip_isolates (hf : K.fastFor g 0 (160000 * K.uvT g) = true) (hg : (K.lg g).gen = true)
    (ht : (K.lg g).genAt + 160000 * K.uvT g ≤ K.now) (hi : (K.grp g).tq.isolated = false) :
    L.undervoltageTrip g cs = (K.raise F.LG_CH_EVENT_UV_ISO g).isolate g := by
  subst hK
  exact if_neg (by simp [hf, hg, ht, hi])

theorem undervoltageTrip_passes (h : K.fastFor g 0 (160000 * K.uvT g) = false ∨ (K.lg g).gen = false ∨
    K.now < (K.lg g).genAt + 160000 * K.uvT g ∨ (K.grp g).tq.isolated = true) : L.undervoltageTrip g cs = K := by
  subst hK
  exact if_pos (by rcases h with h | h | h | h <;> simp [h])

end Clocks

/-- Settles O18: each guard, channel and link event by its condition, on the lane with the clocks up to now taken. -/
theorem envelopeGuardChannelsAndLink : Obligations.EnvelopeGuardChannelsAndLink := by
  refine ⟨?guard, ?channelsAndLink⟩
  case guard =>
    intro s l t g u v w cs L M K reached ha
    exact ⟨fun hr hl hp => does_gate rfl ha (egOvercurrent_off L g _ rfl hr hl hp),
      fun h => does_gate rfl ha (egOvercurrent_passes L g _ rfl h),
      fun hr hl hf => does_gate rfl ha (egOvervoltage_off L g cs rfl hr hl hf),
      fun h => does_gate rfl ha (egOvervoltage_passes L g cs rfl h)⟩
  case channelsAndLink =>
    intro s l t g c cs L K
    refine ⟨fun ha => ⟨fun hs he ht => ?settles, fun hs hr hc hn => ?stuck, fun h => ?notStuck⟩,
      fun ha => ⟨fun hf hi => ?groupOff, fun hf hi => ?isolates, fun h => ?third, fun h => ?second, fun hf hg ht hi => ?undervoltage,
        fun h => ?noUndervoltage⟩⟩
    case settles => exact does_gate rfl ha (settlingEnd_settles L g hs he ht)
    case stuck =>
      exact ⟨fun h3 => does_gate rfl ha (channelStuck_link L g cs rfl c hs hr hc hn h3),
        fun h3 => does_gate rfl ha (channelStuck_phase L g cs rfl c hs hr hc hn h3)⟩
    case notStuck => exact does_gate rfl ha (channelStuck_passes L g cs rfl c h)
    case groupOff => exact does_gate rfl ha (ovQualified_groupOff L g cs rfl hf hi)
    case isolates => exact does_gate rfl ha (ovQualified_isolates L g cs rfl hf hi)
    case third => exact does_gate rfl ha (ovQualified_third_passes L g cs rfl h)
    case second => exact does_gate rfl ha (ovQualified_second_passes L g cs rfl h)
    case undervoltage => exact does_gate rfl ha (undervoltageTrip_isolates L g cs rfl hf hg ht hi)
    case noUndervoltage => exact does_gate rfl ha (undervoltageTrip_passes L g cs rfl h)

end Sys2Proof.Proofs
end

section
/-! PROOFS. Overcurrent (R187, R190): what the comparators show after a clock, and what one that stands does. -/

namespace Sys2Proof.Proofs

open Sys2Proof.Machine Sys2Proof.Laws

variable (L : Lane) (g : Fin 16)

/-! ### A count changes registers, marks and tallies alone -/

/-- Two lanes that differ at most in what a tally writes. -/
def SameButTallies (L M : Lane) : Prop := ∃ regs marks tl, M = { L with regs := regs, marks := marks, tl := tl }

theorem SameButTallies.trans {L M N : Lane} (hM : SameButTallies L M) (hN : SameButTallies M N) : SameButTallies L N := by
  obtain ⟨_, _, _, rfl⟩ := hM
  obtain ⟨_, _, _, rfl⟩ := hN
  exact ⟨_, _, _, rfl⟩

theorem SameButTallies.now_eq {L M : Lane} (h : SameButTallies L M) : M.now = L.now := by
  obtain ⟨_, _, _, rfl⟩ := h
  rfl

theorem tallyMark_sameButTallies (b i : Nat) : SameButTallies L (L.tallyMark b i) := ⟨_, _, _, rfl⟩

theorem setTally_sameButTallies (b i v : Nat) : SameButTallies L (L.setTally b i v) := ⟨_, _, _, rfl⟩

theorem raise_sameButTallies (f : Fld) (j : Nat) : SameButTallies L (L.raise f j) := ⟨_, _, _, rfl⟩

theorem tallyOne_sameButTallies (b i n : Nat) : SameButTallies L (L.tallyOne b i n) := by
  have counted (v : Nat) := (tallyMark_sameButTallies L b i).trans (setTally_sameButTallies _ b i v)
  simp only [Lane.tallyOne]
  split
  · exact counted _
  · exact (counted _).trans (raise_sameButTallies _ _ 0)

theorem tallyFrom_sameButTallies (f b i n : Nat) : SameButTallies L (L.tallyFrom f b i n) := by
  induction f generalizing L b i with
  | zero => exact tallyOne_sameButTallies L b i n
  | succ f ih =>
    refine List.foldlRecOn (motive := SameButTallies L) _ _ (tallyOne_sameButTallies L b i n) (fun M hM k _ => ?_)
    split
    · exact hM.trans (ih M 5 k)
    · exact hM

theorem tally_sameButTallies (b i n : Nat) : SameButTallies L (L.tally b i n) := by
  unfold Lane.tally
  split
  · exact ⟨_, _, _, rfl⟩
  · exact tallyFrom_sameButTallies L 29 b i n

@[simp] theorem tally_now (b i n : Nat) : (L.tally b i n).now = L.now := (tally_sameButTallies L b i n).now_eq

@[simp] theorem bump_now (f : Fld) (j k : Nat) : (L.bump f j k).now = L.now := by
  rw [bump_shape]

@[simp] theorem tally_grp (b i n : Nat) : (L.tally b i n).grp g = L.grp g := by simp only [Lane.grp, tally_groups]

/-! ### A trip hold leaves the time and the channels -/

section Leg

variable (k : Fin 4)

@[simp] theorem updLeg_now (f : LegS → LegS) : (L.updLeg g k f).now = L.now := rfl

@[simp] theorem sd_updLeg (f : LegS → LegS) : ((L.updLeg g k f).grp g).sd = (L.grp g).sd := by simp [Lane.updLeg]

@[simp] theorem legOff_now : (L.legOff g k).now = L.now := by simp [Lane.legOff]

@[simp] theorem sd_legOff : ((L.legOff g k).grp g).sd = (L.grp g).sd := by simp [Lane.legOff]

end Leg

@[simp] theorem legsOff_now : (L.legsOff g).now = L.now := by simp [Lane.legsOff, Lane.dropCarry, Lane.legsStop]

@[simp] theorem sd_legsOff : ((L.legsOff g).grp g).sd = (L.grp g).sd := by simp [Lane.legsOff, Lane.dropCarry, Lane.legsStop]

@[simp] theorem legKOff_now : (L.legKOff g).now = L.now := legOff_now L g 3

@[simp] theorem sd_legKOff : ((L.legKOff g).grp g).sd = (L.grp g).sd := by simp [Lane.legKOff]

theorem tripHold_now : (L.tripHold g).now = L.now := by
  cases h : (L.grp g).lg.iso == .none <;> simp [Lane.tripHold, Lane.when, Lane.updLg, h]

theorem sd_tripHold : ((L.tripHold g).grp g).sd = (L.grp g).sd := by
  cases h : (L.grp g).lg.iso == .none <;> simp [Lane.tripHold, Lane.when, h]

/-! ### The comparators after a clock (R187) -/

/-- Phase `k` delivers a value, and it is at or above SD_OC. -/
def phaseOver (k : Nat) : Bool := L.sdGood g && decide (L.f32 F.SD_OC g ≤ absR (L.fast g k))

section Keeps

variable {f : SdS → SdS} (hh : (f (L.grp g).sd).hist = (L.grp g).sd.hist)
include hh

theorem fast_updSd (k : Nat) : (L.updSd g f).fast g k = L.fast g k := by
  simp only [Lane.fast, Lane.sinc2, Lane.grp_updSd_same, hh]
  rfl

/-- What keeps the captured bits and the settling keeps the comparators' inputs. -/
theorem phaseOver_updSd (hs : (f (L.grp g).sd).settling = (L.grp g).sd.settling) (k : Nat) :
    phaseOver (L.updSd g f) g k = phaseOver L g k := by
  simp only [phaseOver, Lane.sdGood, fast_updSd L g hh, Lane.grp_updSd_same, hs]
  rfl

end Keeps

theorem oc_pushClock (b : Nat) : ((L.pushClock g b).grp g).sd.oc =
    b2n (phaseOver (L.pushClock g b) g 0) + 2 * b2n (phaseOver (L.pushClock g b) g 1) + 4 * b2n (phaseOver (L.pushClock g b) g 2) := by
  simp only [Lane.pushClock, phaseOver_updSd, Lane.grp_updSd_same]
  rfl

/-! ### A comparator that stands (R187, R190) -/

theorem comparators_rests (h : (L.grp g).sd.oc = 0 ∨ ((L.lg g).tripHold = true ∧ (L.lg g).tripEnd = false)) : L.comparators g = L := by
  by_cases hoc : (L.grp g).sd.oc = 0
  · exact if_pos hoc
  · obtain ⟨ht, he⟩ := h.resolve_left hoc
    exact (if_neg hoc).trans (if_pos (by simpa [Lane.lg] using And.intro ht he))

section Stands

variable (hoc : (L.grp g).sd.oc ≠ 0)
include hoc

theorem comparators_undoes_clearing (ht : (L.lg g).tripHold = true) (he : (L.lg g).tripEnd = true)
    (hc : (L.lg g).tripClrAt / 8 = L.now / 8) : L.comparators g = L.updLg g (fun x => { x with tripEnd := false }) := by
  rw [Lane.lg] at ht he hc
  simp [Lane.comparators, hoc, ht, he, hc]

theorem comparators_trips (h : (L.lg g).tripHold = false ∨ ((L.lg g).tripEnd = true ∧ (L.lg g).tripClrAt / 8 ≠ L.now / 8)) :
    L.comparators g = L.overcurrent g := by
  rw [Lane.lg] at h
  rcases h with ht | ⟨he, hc⟩
  · simp [Lane.comparators, hoc, ht]
  · simp [Lane.comparators, hoc, he, hc]

end Stands

theorem overcurrent_of_isolated (hi : (L.lg g).iso ≠ .none) : L.overcurrent g = L.tripHold g :=
  if_pos (by simpa [Lane.lg] using hi)

/-- The lane with its legs in trip hold and the trip counted. -/
def tripCounted : Lane := ((L.tripHold g).bump F.SD_CNT_TRIP_CNT g).tally 13 g

/-- The trips within the window of the one that comes now, itself the last. -/
def tripSeries : List Nat :=
  (L.grp g).sd.trips.filter (fun t0 => decide (L.now ≤ t0 + ms ((tripCounted L g).tripWin g))) ++ [L.now]

/-- The counted trip put with those of its window. -/
def tripKept : Lane := (tripCounted L g).updSd g (fun x => { x with trips := tripSeries L g })

section Counted

variable (hi : (L.lg g).iso = .none)
include hi

theorem overcurrent_counted : L.overcurrent g =
    if (tripSeries L g).length < (tripKept L g).tripN g then tripKept L g
    else (((tripKept L g).updSd g (fun x => { x with trips := [] })).raise F.SD_EVENT_OC_ISO g).isolate g := by
  have hn : (tripCounted L g).now = L.now := by simp [tripCounted, tripHold_now]
  have hs : ((tripCounted L g).grp g).sd = (L.grp g).sd := by simp [tripCounted, sd_tripHold]
  have hc : ¬ (!(L.grp g).lg.iso == .none) = true := by rw [← Lane.lg, hi]; decide
  rw [Lane.overcurrent]
  refine (if_neg hc).trans ?_
  simp only [tripKept, tripSeries, ← hn, ← hs]
  rfl

theorem overcurrent_below (hl : (tripSeries L g).length < (tripKept L g).tripN g) : L.overcurrent g = tripKept L g :=
  (overcurrent_counted L g hi).trans (if_pos hl)

theorem overcurrent_isolates (hl : (tripKept L g).tripN g ≤ (tripSeries L g).length) : L.overcurrent g =
    (((tripKept L g).updSd g (fun x => { x with trips := [] })).raise F.SD_EVENT_OC_ISO g).isolate g :=
  (overcurrent_counted L g hi).trans (if_neg (Nat.not_lt.2 hl))

end Counted

/-! ### The clocks since the last command (R185) -/

section Clocks

variable (cs : List Nat) {bs : List Nat} (hb : cs.take (L.captured g L.now - (L.grp g).sd.taken) = bs)
include hb

theorem takeClocks_none (h : L.sdRuns g = false ∨ L.padsHeld .drive = true ∨ bs = []) : L.takeClocks g cs = L := by
  subst hb
  exact if_pos (by rcases h with h | h | h <;> simp only [h, List.isEmpty_nil, Bool.not_false, Bool.true_or, Bool.or_true])

theorem takeClocks_some (hr : L.sdRuns g = true) (hp : L.padsHeld .drive = false) (hn : bs ≠ []) : L.takeClocks g cs =
    (List.range 4).foldl (fun (M : Lane) k => M.setF32 F.SD_VAL2 (M.fast g k) g k)
      (bs.foldl (fun (M : Lane) b => (M.pushClock g b).comparators g) L) := by
  subst hb
  exact if_neg (by simpa only [hr, hp, Bool.not_true, Bool.false_or, List.isEmpty_iff] using hn)

end Clocks

/-- Settles O17: the clocks by whether the channels run and bring bits, and the comparators by the hold, its clearing and the trips before. -/
theorem overcurrentTripsThenIsolates : Obligations.OvercurrentTripsThenIsolates := by
  intro s l t g u v w L bs N ha
  refine ⟨fun h => ?idle, fun hr hp hn => ?clocks, fun M b => oc_pushClock M g b,
    fun C => ⟨comparators_rests C g, comparators_undoes_clearing C g, fun hoc h => ?trips⟩⟩
  case idle => exact does_gate rfl ha (takeClocks_none L g _ rfl h)
  case clocks => exact does_gate rfl ha (takeClocks_some L g _ rfl hr hp hn)
  case trips =>
    have trips := comparators_trips C g hoc h
    exact ⟨fun hi => trips.trans (overcurrent_of_isolated C g hi), fun hi hl => trips.trans (overcurrent_below C g hi hl),
      fun hi hl => trips.trans (overcurrent_isolates C g hi hl)⟩

end Sys2Proof.Proofs
end

section
/-! PROOFS. The field converters: SAR ADC frames (R192), the loopback DAC (R195) and the excitation monitor (R204). -/

namespace Sys2Proof.Proofs

open Sys2Proof.Machine Sys2Proof.Laws

variable (L : Lane)

/-! ### The frame that is due (R192) -/

section Odd

variable (hp : L.ad.tick % 2 = 1)
include hp

/-- After an odd number of ticks a frame starts with the newest of them, in its cycle alone. -/
theorem frameDue_odd : L.frameDue = if L.ad.tickAt / 8 = L.now / 8 then some ((L.ad.tick + 1) / 2) else none := if_pos hp

theorem frameDue_started (ht : L.ad.tickAt / 8 = L.now / 8) : L.frameDue = some ((L.ad.tick + 1) / 2) := (frameDue_odd L hp).trans (if_pos ht)

theorem frameDue_past (ht : L.ad.tickAt / 8 ≠ L.now / 8) : L.frameDue = none := (frameDue_odd L hp).trans (if_neg ht)

end Odd

section Even

variable (hp : L.ad.tick % 2 = 0)
include hp

/-- After an even number the next frame starts with the tick that is still to run. -/
theorem frameDue_even : L.frameDue = if L.ad.tick = 0 ∨ L.ad.tickAt / 8 + 500 = L.now / 8 then some (L.ad.tick / 2 + 1) else none :=
  if_neg (by omega)

theorem frameDue_next (h : L.ad.tick = 0 ∨ L.ad.tickAt / 8 + 500 = L.now / 8) : L.frameDue = some (L.ad.tick / 2 + 1) :=
  (frameDue_even L hp).trans (if_pos h)

theorem frameDue_between (h0 : L.ad.tick ≠ 0) (ht : L.ad.tickAt / 8 + 500 ≠ L.now / 8) : L.frameDue = none :=
  (frameDue_even L hp).trans (if_neg (not_or.2 ⟨h0, ht⟩))

end Even

/-! ### A frame -/

section Frame

variable (fe hk tp : List Int)

/-- The lane with frame `n` begun now. -/
def frameBegun (n : Nat) : Lane := { L with ad := { L.ad with frame := n, frameAt := L.now } }

/-- ADC `j` is enabled. -/
def adcOn (j : Nat) : Bool := bit (L.fld F.AD_CTRL_ENABLE) j

/-- The front-end inputs of every enabled ADC converted. -/
def feConverted : Lane := (List.range 32).foldl (fun (L : Lane) i => if adcOn L (i / 8) then L.feConvert i (fe.getD i 0) else L) L

/-- The feedback interfaces served with their inputs. -/
def feDelivered : Lane := (List.finRange 16).foldl (fun (L : Lane) (f : Fin 16) => L.feDeliver f) L

/-- Two housekeeping entries of every enabled ADC converted. -/
def hkConverted : Lane :=
  (List.range 8).foldl (fun (L : Lane) i =>
    let j := i % 4
    if adcOn L j then L.hkConvert j (hk.getD (2 * j + i / 4) 0) (tp.getD j 0) else L) L

theorem adcFrame_notDue (h : L.frameDue = none) : L.adcFrame fe hk tp = L := by simp only [Lane.adcFrame, h]

variable {n : Nat} (h : L.frameDue = some n)
include h

theorem adcFrame_again (hn : n ≤ L.ad.frame) : L.adcFrame fe hk tp = L := by simp only [Lane.adcFrame, h, if_pos hn]

theorem adcFrame_converts (hn : L.ad.frame < n) : L.adcFrame fe hk tp =
    hkConverted (feDelivered (feConverted (frameBegun L n) (if L.padsHeld .field then [] else fe))) hk tp := by
  simp only [Lane.adcFrame, h, if_neg (Nat.not_le.2 hn)]
  rfl

end Frame

/-! ### The loopback DAC (R195) -/

section Dac

variable (v : Word)

theorem dacRoute_denied (hr : F.AD_DAC_ROUTE.get v = 2) (hk : L.ky.state ≠ .bench) : L.dacRoute v = L.raise F.AD_EVENT_DAC_DENIED :=
  if_pos ⟨hr, hk⟩

theorem dacRoute_set (h : F.AD_DAC_ROUTE.get v ≠ 2 ∨ L.ky.state = .bench) : L.dacRoute v =
    ((L.setFld F.AD_DAC_INPUT (F.AD_DAC_INPUT.get v)).setFld F.AD_DAC_ROUTE (F.AD_DAC_ROUTE.get v)).setFld F.AD_DAC_CODE (F.AD_DAC_CODE.get v) :=
  if_neg (fun c => h.elim (· c.1) c.2)

end Dac

/-! ### The excitation (R204) -/

section Excitation

variable (a : Nat)

theorem excitationHalfPeriod_off (he : L.flag F.FB_EXC_EXC_EN = false) (k : Bool) : L.excitationHalfPeriod a k = L := if_pos (by simp [he])

/-- The amplitude shown, and both runs of bad half periods ended. -/
def excitationGood : Lane :=
  { L.setFld F.FB_EXC_MON_AMP a with sf := { L.sf with excAmpRun := 0, excLimRun := 0, excOk := true } }

/-- A half period within 15 % of EXC_AMP and without the current limit ends both runs, and so sets no fault. -/
theorem excitationHalfPeriod_good (he : L.flag F.FB_EXC_EXC_EN = true) (hl : L.fldIn F.FB_EXC_EXC_AMP 20 70 * 10 * 85 ≤ a * 100)
    (hu : a * 100 ≤ L.fldIn F.FB_EXC_EXC_AMP 20 70 * 10 * 115) : L.excitationHalfPeriod a false = excitationGood L a := by
  simp [Lane.excitationHalfPeriod, excitationGood, Lane.when, he, hl, hu]

end Excitation

/-- Settles O19: a frame by whether it is due and new, the frame due by the parity and the time of the ticks, the DAC by its route and the lane
state, the excitation by EXC_EN. -/
theorem fieldConverters : Obligations.FieldConverters := by
  intro s l t L ha
  refine ⟨fun fe hk tp h => ?notDue, fun fe hk tp n h hn => ?again, fun fe hk tp n h hn => ?converts, frameDue_started L, frameDue_past L,
    frameDue_next L, frameDue_between L, fun hp v hr hk => ?denied, fun hp v h => ?routed, fun he a k => ?excitationOff,
    fun he a hl hu => ?excitationGood⟩
  case notDue => exact does_gate rfl ha (adcFrame_notDue L fe hk tp h)
  case again => exact does_gate rfl ha (adcFrame_again L fe hk tp h hn)
  case converts => exact does_gate rfl ha (adcFrame_converts L fe hk tp h hn)
  case denied => exact does_gatePair rfl hp (dacRoute_denied L v hr hk)
  case routed => exact does_gatePair rfl hp (dacRoute_set L v h)
  case excitationOff => exact does_gate rfl ha (excitationHalfPeriod_off L a he k)
  case excitationGood => exact does_gate rfl ha (excitationHalfPeriod_good L a he hl hu)

end Sys2Proof.Proofs
end

section
/-! PROOFS. Counting feedback: quadrature edges (R200), the Z edge and SET_REF (R201), Hall patterns (R208), line faults (R210) and the timeout of
the speed (R212). -/

namespace Sys2Proof.Proofs

open Sys2Proof.Machine Sys2Proof.Laws

/-- What comes in on pads that are not held does what its block makes of it. -/
theorem does_gateIn {i : Instr} {l : LaneId} {t : Nat} {s : State} {M : Lane} {f : Lane → Lane} {d : Domain} {b : Nat}
    (hi : exec i s = onLane l t (gateIn d b f) s) (ha : (s.seen l t).inActs d b = true) (hf : f (s.seen l t) = M) : Does i l t s M :=
  does_of rfl hi ((gateIn_on f ha).trans hf)

variable (L : Lane) (f : Fin 16)

@[simp] theorem fb_updFb (u : FbS → FbS) : (L.updFb f u).fb f = u (L.fb f) := by simp [Lane.fb]

/-! ### The glitch filter (R200) -/

section Filter

variable {held : Nat}

theorem filtered_early (h : held < L.fld F.FB_CTRL_FILT f) : (!L.filtered f held) = true := by simp [Lane.filtered, h]

theorem filtered_held (h : L.fld F.FB_CTRL_FILT f ≤ held) : ¬ (!L.filtered f held) = true := by simp [Lane.filtered, h]

end Filter

/-! ### A quadrature edge (R200, R219) -/

section Quadrature

variable (a b z : Bool) (n : Int)

/-- The levels of A, B and Z taken. -/
def levelsTaken : Lane := L.updFb f (fun x => { x with levelA := a, levelB := b, levelZ := z })

/-- The quadrature states from the levels before to those of A and B. -/
def quadSteps : Nat := (quadState a b + 4 - quadState (L.fb f).levelA (L.fb f).levelB) % 4

/-- What a step up counts: DIR_INV turns it round in incremental mode alone. -/
def quadUp : Int := if L.fbMode f = fbIncr ∧ L.flag F.FB_CTRL_DIR_INV f = true then -1 else 1

/-- The count before Z set the reference, while the cycle of that edge lasts. -/
def countBeforeZ : Option Nat := (L.fb f).zSet.bind (fun x => if x.1 / 8 = L.now / 8 then some x.2 else none)

/-- The edge counted: a count of the cycle in which Z set the reference comes before it, and so carries into the revolutions alone. -/
def edgeCounted : Lane :=
  match countBeforeZ L f with
  | none => (levelsTaken L f a b z).countStep f n
  | some c =>
    let carry := ((c : Int) + n) / (L.countMod f : Int)
    ((levelsTaken L f a b z).updFb f (fun x => { x with sigRun := 0 })).when (L.fbMode f == fbIncr && carry != 0) (fun X => (X.revAdd f carry).fbShow f)

/-- And, of an encoder that has a sample and stays without fault, a step of the speed. -/
def edgeStepped : Lane :=
  if L.fbMode f = fbIncr ∧ (L.fb f).valid = true ∧ ((edgeCounted L f a b z n).fb f).fault = false then
    (edgeCounted L f a b z n).spdStep f (decide (n < 0)) (edgeCounted L f a b z n).now
  else edgeCounted L f a b z n

variable {held : Nat}

theorem incrementalEdge_early (h : held < L.fld F.FB_CTRL_FILT f) : L.incrementalEdge f a b z held = L := if_pos (filtered_early L f h)

theorem counts_of {m : Nat} (hm : m = fbIncr ∨ m = fbSinCos) : (m == fbIncr || m == fbSinCos) = true := by simpa using hm

theorem quadUp_eq : quadUp L f = if L.fbMode f = fbIncr then if L.flag F.FB_CTRL_DIR_INV f = true then -1 else 1 else 1 := by
  unfold quadUp
  by_cases hm : L.fbMode f = fbIncr
  · simp only [hm, true_and, if_true]
  · rw [if_neg hm, if_neg (fun h => hm h.1)]

theorem countBeforeZ_eq : countBeforeZ L f = match (L.fb f).zSet with
    | none => none
    | some (t, c) => if t / 8 = L.now / 8 then some c else none := by
  unfold countBeforeZ
  cases (L.fb f).zSet <;> rfl

theorem edgeStepped_eq : edgeStepped L f a b z n =
    if (decide (L.fbMode f = fbIncr) && (L.fb f).valid && !((edgeCounted L f a b z n).fb f).fault) = true then
      (edgeCounted L f a b z n).spdStep f (decide (n < 0)) (edgeCounted L f a b z n).now
    else edgeCounted L f a b z n := by
  simp only [edgeStepped, Bool.and_eq_true, decide_eq_true_eq, Bool.not_eq_true', and_assoc]

section Counts

variable {L f a b} {J : Lane} (hJ : L.zJudge f = J) (h : L.fld F.FB_CTRL_FILT f ≤ held) (hon : J.fbOn f = true) (hf : (J.fb f).fault = false)
  (hm : J.fbMode f = fbIncr ∨ J.fbMode f = fbSinCos)
include hJ h hon hf hm

/-- A filtered edge of an interface that counts, by the quadrature states that it passes. -/
theorem incrementalEdge_counts : L.incrementalEdge f a b z held =
    if quadSteps J f a b = 0 then levelsTaken J f a b z
    else if quadSteps J f a b = 2 then (levelsTaken J f a b z).sigFail f F.FB_EVENT_COUNT_ERR
    else edgeStepped J f a b z (if quadSteps J f a b = 1 then quadUp J f else -quadUp J f) := by
  subst hJ
  refine (if_neg (filtered_held L f h)).trans ((if_neg (by simp [hon, hf, counts_of hm])).trans ?_)
  simp only [edgeStepped_eq, quadUp_eq, edgeCounted, countBeforeZ_eq]
  rfl

theorem incrementalEdge_same (hd : quadSteps J f a b = 0) : L.incrementalEdge f a b z held = levelsTaken J f a b z := by
  rw [incrementalEdge_counts z hJ h hon hf hm, if_pos hd]

theorem incrementalEdge_up (hd : quadSteps J f a b = 1) : L.incrementalEdge f a b z held = edgeStepped J f a b z (quadUp J f) := by
  simp [incrementalEdge_counts z hJ h hon hf hm, hd]

theorem incrementalEdge_down (hd : quadSteps J f a b = 3) : L.incrementalEdge f a b z held = edgeStepped J f a b z (-quadUp J f) := by
  simp [incrementalEdge_counts z hJ h hon hf hm, hd]

theorem incrementalEdge_skips (hd : quadSteps J f a b = 2) :
    L.incrementalEdge f a b z held = (levelsTaken J f a b z).sigFail f F.FB_EVENT_COUNT_ERR := by
  simp [incrementalEdge_counts z hJ h hon hf hm, hd]

end Counts

end Quadrature

/-! ### The Z edge and SET_REF (R198, R201) -/

section Reference

variable {held : Nat}

theorem zEdge_early (h : held < L.fld F.FB_CTRL_FILT f) : L.zEdge f held = L := if_pos (filtered_early L f h)

/-- The level of Z taken, once the Z edge before it has been judged. -/
def zLevelTaken : Lane := (L.zJudge f).updFb f (fun x => { x with levelZ := true })

section Filtered

variable {L f} (h : L.fld F.FB_CTRL_FILT f ≤ held)
include h

/-- A filtered Z edge, by what the interface makes of it. -/
theorem zEdge_filtered : L.zEdge f held =
    let M := zLevelTaken L f
    if (!M.fbOn f || (M.fb f).fault || !(M.fb f).valid || !M.flag F.FB_CTRL_Z_USE f || !(M.fbMode f == fbIncr || M.fbMode f == fbSinCos)) = true then M
    else if (!(M.fb f).refOk) = true then (M.refSet f).updFb f (fun x => { x with zSet := some (M.now, (M.fb f).count) })
    else M.updFb f (fun x => { x with zSince := true, zCheck := some (M.now, x.zSince) }) :=
  if_neg (filtered_held L f h)

variable {M : Lane} (hM : zLevelTaken L f = M)
include hM

theorem zEdge_idle (hi : M.fbOn f = false ∨ (M.fb f).fault = true ∨ (M.fb f).valid = false ∨ M.flag F.FB_CTRL_Z_USE f = false) :
    L.zEdge f held = M := by
  rw [zEdge_filtered h, hM]
  exact if_pos (by rcases hi with hi | hi | hi | hi <;> simp [hi])

section Used

variable (hon : M.fbOn f = true) (hf : (M.fb f).fault = false) (hv : (M.fb f).valid = true) (hz : M.flag F.FB_CTRL_Z_USE f = true)
  (hm : M.fbMode f = fbIncr ∨ M.fbMode f = fbSinCos)
include hon hf hv hz hm

theorem zEdge_sets (hr : (M.fb f).refOk = false) :
    L.zEdge f held = (M.refSet f).updFb f (fun x => { x with zSet := some (M.now, (M.fb f).count) }) := by
  rw [zEdge_filtered h, hM]
  simp only [hon, hf, hv, hz, counts_of hm, hr]
  rfl

theorem zEdge_waits (hr : (M.fb f).refOk = true) :
    L.zEdge f held = M.updFb f (fun x => { x with zSince := true, zCheck := some (M.now, x.zSince) }) := by
  rw [zEdge_filtered h, hM]
  simp only [hon, hf, hv, hz, counts_of hm, hr]
  rfl

end Used

end Filtered

section SetRef

variable {L f}

theorem setRef_sets (hon : L.fbOn f = true) (hm : L.fbMode f = fbIncr) (hz : L.flag F.FB_CTRL_Z_USE f = false) (hf : (L.fb f).fault = false)
    (hv : (L.fb f).valid = true) : L.setRef f = L.refSet f :=
  if_pos (by simp [hon, hm, hz, hf, hv])

theorem setRef_idle (h : L.fbOn f = false ∨ L.fbMode f ≠ fbIncr ∨ L.flag F.FB_CTRL_Z_USE f = true ∨ (L.fb f).fault = true ∨ (L.fb f).valid = false) :
    L.setRef f = L :=
  if_neg (by rcases h with h | h | h | h | h <;> simp [h])

end SetRef

end Reference

/-! ### Hall patterns (R208) -/

section Hall

variable (p : Nat) (d : Int)

/-- The levels of the three inputs taken. -/
def hallLevels : Lane := L.updFb f (fun x => { x with levelA := bit p 0, levelB := bit p 1, levelZ := bit p 2 })

/-- The sector of a pattern, as HALL_INV reads it. -/
def hallRead : Nat := hallSector (L.flag F.FB_HALL_HALL_INV f) p

/-- The sector taken, and the last one that a pattern named. -/
def hallTaken : Lane :=
  L.updFb f (fun x => { x with hall := hallRead L f p, hallAt := L.now, hallLast := if hallRead L f p = 7 then x.hallLast else hallRead L f p })

/-- What a step up counts (R199). -/
def hallUp : Int := if L.flag F.FB_CTRL_DIR_INV f then -1 else 1

/-- A step between neighbouring sectors: a count and, once there is a sample, a step of the speed. -/
def hallStepped : Lane :=
  if (L.fb f).valid then ((hallTaken L f p).countStep f d).spdStep f (decide (d < 0)) ((hallTaken L f p).countStep f d).now
  else (hallTaken L f p).countStep f d

variable {held : Nat}

theorem hallChange_early (h : held < L.fld F.FB_CTRL_FILT f) : L.hallChange f p held = L := if_pos (filtered_early L f h)

section Filtered

variable {L f p} {N : Lane} {k last : Nat} (hN : hallLevels L f p = N) (h : L.fld F.FB_CTRL_FILT f ≤ held)
include hN h

theorem hallChange_unread (hi : N.fbOn f = false ∨ N.fbMode f ≠ fbHall) : L.hallChange f p held = N := by
  subst hN
  refine (if_neg (filtered_held L f h)).trans (if_pos ?_)
  rcases hi with hi | hi <;> rw [hallLevels] at hi <;> simp [hi]

variable (hk : hallRead N f p = k) (hl : (N.fb f).hallLast = last) (hon : N.fbOn f = true) (hm : N.fbMode f = fbHall)
include hk hl hon hm

/-- A pattern that is read, by its sector and the last one. -/
theorem hallChange_read : L.hallChange f p held =
    if ((N.fb f).fault || k == 7 || last == 7 || k == last) = true then hallTaken N f p
    else if k = (last + 1) % 6 then hallStepped N f p (hallUp N f)
    else if last = (k + 1) % 6 then hallStepped N f p (-hallUp N f)
    else (hallTaken N f p).sigFail f F.FB_EVENT_HALL_INVALID := by
  subst hN hk hl
  rw [hallLevels] at hon hm
  exact (if_neg (filtered_held L f h)).trans (if_neg (by simp [hon, hm]))

theorem hallChange_stays (hi : (N.fb f).fault = true ∨ k = 7 ∨ last = 7 ∨ k = last) : L.hallChange f p held = hallTaken N f p :=
  (hallChange_read hN h hk hl hon hm).trans (if_pos (by rcases hi with hi | hi | hi | hi <;> simp [hi]))

section Sectors

variable (hf : (N.fb f).fault = false) (hk6 : k < 6) (hl6 : last < 6)
include hf hk6 hl6

theorem hallChange_moves (hd : k ≠ last) : L.hallChange f p held =
    if k = (last + 1) % 6 then hallStepped N f p (hallUp N f)
    else if last = (k + 1) % 6 then hallStepped N f p (-hallUp N f)
    else (hallTaken N f p).sigFail f F.FB_EVENT_HALL_INVALID :=
  (hallChange_read hN h hk hl hon hm).trans (if_neg (by simp [hf, hd]; omega))

theorem hallChange_up (hu : k = (last + 1) % 6) : L.hallChange f p held = hallStepped N f p (hallUp N f) :=
  (hallChange_moves hN h hk hl hon hm hf hk6 hl6 (by omega)).trans (if_pos hu)

theorem hallChange_down (hd : last = (k + 1) % 6) : L.hallChange f p held = hallStepped N f p (-hallUp N f) :=
  (hallChange_moves hN h hk hl hon hm hf hk6 hl6 (by omega)).trans ((if_neg (by omega)).trans (if_pos hd))

theorem hallChange_skips (hne : k ≠ last) (hu : k ≠ (last + 1) % 6) (hd : last ≠ (k + 1) % 6) :
    L.hallChange f p held = (hallTaken N f p).sigFail f F.FB_EVENT_HALL_INVALID :=
  (hallChange_moves hN h hk hl hon hm hf hk6 hl6 hne).trans ((if_neg hu).trans (if_neg hd))

end Sectors

end Filtered

theorem hallInvalidHold_fails (hon : L.fbOn f = true) (hm : L.fbMode f = fbHall) (hk : (L.fb f).hall = 7) (ht : (L.fb f).hallAt + us 1 < L.now)
    (hf : (L.fb f).fault = false) : L.hallInvalidHold f = L.sigFail f F.FB_EVENT_HALL_INVALID :=
  if_pos (by simp [hon, hm, hk, ht, hf])

end Hall

/-! ### Line faults and the timeout of the speed (R210, R212) -/

section Lines

variable (r : Fin 3)

/-- The line fault of a receiver told. -/
def lineTold : Lane := (L.updFb f (fun x => { x with line := putBit x.line r true })).raise F.FB_EVENT_LINE f

variable {L f r} (hon : L.fbOn f = true) (hm : L.fbMode f = fbIncr)
include hon hm

/-- In incremental mode every receiver is told. -/
theorem lineFault_incremental : L.lineFault f r = (lineTold L f r).when (r != 2 || (lineTold L f r).flag F.FB_CTRL_Z_USE f) (·.fbFault f) :=
  if_neg (by simp [hon, hm])

theorem lineFault_faults (h : r ≠ 2 ∨ (lineTold L f r).flag F.FB_CTRL_Z_USE f = true) : L.lineFault f r = (lineTold L f r).fbFault f :=
  (lineFault_incremental hon hm).trans (if_pos (by simpa using h))

theorem lineFault_unused (hr : r = 2) (h : (lineTold L f r).flag F.FB_CTRL_Z_USE f = false) : L.lineFault f r = lineTold L f r :=
  (lineFault_incremental hon hm).trans (if_neg (by simp [hr ▸ h, hr]))

end Lines

theorem speedTimeout_on (hon : L.fbOn f = true) :
    L.speedTimeout f = (L.spdTimeout f).setWord F.FB_SPEED (f32of ((L.spdTimeout f).fb f).speed) f :=
  if_pos hon

end Sys2Proof.Proofs
end

section
/-! PROOFS. SSI transfers (R206, R207): when one starts and ends, and what the decision tick makes of its word (R219). -/

namespace Sys2Proof.Proofs

open Sys2Proof.Machine Sys2Proof.Laws

/-! ### The waiting conversions stand

A decision tick takes the word of a transfer before it looks for a conversion; nothing that it does with the word brings one. -/

section Conversions

variable (L : Lane) (f : Fin 16)

theorem fb_of_groups {M : Lane} (h : M.groups = L.groups) : M.fb f = L.fb f := by simp only [Lane.fb, Lane.grp, h]

@[simp] theorem fb_setWord (r : Fld) (w : Word) (g k : Nat) : (L.setWord r w g k).fb f = L.fb f := fb_of_groups L f (Lane.setWord_groups L r w g k)

@[simp] theorem fb_setFld (r : Fld) (v g k : Nat) : (L.setFld r v g k).fb f = L.fb f := fb_of_groups L f (Lane.setFld_groups L r v g k)

@[simp] theorem fb_raise (r : Fld) (g : Nat) : (L.raise r g).fb f = L.fb f := fb_of_groups L f (Lane.raise_groups L r g)

@[simp] theorem fb_bump (r : Fld) (g k : Nat) : (L.bump r g k).fb f = L.fb f := fb_of_groups L f (bump_groups L r g k)

@[simp] theorem fb_tally (b i n : Nat) : (L.tally b i n).fb f = L.fb f := fb_of_groups L f (tally_groups L b i n)

/-- Source 20, the fault of an interface, is contained (R211). -/
@[simp] theorem fb_fault (u : Nat) (inj : Bool) : (L.fault 20 u inj).fb f = L.fb f := fb_of_groups L f (fault_groups_of_contained L u inj rfl)

@[simp] theorem fb_fbShow : (L.fbShow f).fb f = L.fb f := by simp [Lane.fbShow]

/-- What may be done, where it keeps the conversions. -/
@[simp] theorem conv_when (c : Bool) {op : Lane → Lane} (h : ∀ M : Lane, ((op M).fb f).conv = (M.fb f).conv) :
    ((L.when c op).fb f).conv = (L.fb f).conv := by
  cases c
  · rfl
  · exact h L

@[simp] theorem conv_fbFault : ((L.fbFault f).fb f).conv = (L.fb f).conv := by
  unfold Lane.fbFault
  split <;> simp

@[simp] theorem conv_sigFail (ev : Fld) : ((L.sigFail f ev).fb f).conv = (L.fb f).conv := by simp [Lane.sigFail]

@[simp] theorem conv_revAdd (d : Int) : ((L.revAdd f d).fb f).conv = (L.fb f).conv := by simp [Lane.revAdd]

@[simp] theorem conv_setPos (p : Nat) : ((L.setPos f p).fb f).conv = (L.fb f).conv := by simp [Lane.setPos]

@[simp] theorem conv_spdStep (neg : Bool) (t : Nat) : ((L.spdStep f neg t).fb f).conv = (L.fb f).conv := by simp [Lane.spdStep]

@[simp] theorem conv_sampleSteps (t : Nat) : ((L.sampleSteps f t).fb f).conv = (L.fb f).conv := by
  simp only [Lane.sampleSteps, fb_updFb]
  exact List.foldlRecOn (motive := fun M : Lane => (M.fb f).conv = (L.fb f).conv) _ _ rfl fun M hM _ _ => (conv_spdStep M f _ t).trans hM

@[simp] theorem conv_takeSample (p t : Nat) : ((L.takeSample f p t).fb f).conv = (L.fb f).conv := by
  unfold Lane.takeSample
  extract_lets s position predicted far jumped moved
  split
  · simp [jumped]
  · split <;> simp [moved]

@[simp] theorem conv_emulate (i : Nat) : ((L.emulate f i).fb f).conv = (L.fb f).conv := by
  unfold Lane.emulate
  extract_lets on was target count counted
  split
  · simp
  · split <;> simp [counted]

end Conversions

/-! ### A transfer begins and ends (R206) -/

section Transfer

variable {L : Lane} {f : Fin 16}

section Due

variable (hon : L.fbOn f = true) (hm : L.fbMode f = fbSsi) (hf : (L.fb f).fault = false) (hp : L.ssiParam f = false)
  (h0 : (L.fb f).framesSince ≠ 0) (hn : ((L.fb f).framesSince - 1) % L.ssiFrames f = 0)
include hon hm hf hp h0 hn

/-- In the frame of a transfer the level of the data line decides. -/
theorem ssiTransfer_due (d : Bool) : L.ssiTransfer f d =
    if d = true then L.updFb f (fun x => { x with busy := true, ssiAt := L.now }) else L.sigFail f F.FB_EVENT_SSI_ERR :=
  if_neg (by simp [hon, hm, hf, hp, h0, hn])

end Due

theorem ssiTransfer_idle (d : Bool) (h : L.fbMode f ≠ fbSsi ∨ (L.fb f).fault = true ∨ L.ssiParam f = true ∨ (L.fb f).framesSince = 0 ∨
    ((L.fb f).framesSince - 1) % L.ssiFrames f ≠ 0) : L.ssiTransfer f d = L :=
  if_pos (by rcases h with h | h | h | h | h <;> simp [h])

variable (w : Nat) (p last : Bool)

theorem ssiTransferDone_idle (h : (L.fb f).busy = false ∨ (L.fb f).fault = true ∨ L.now < L.ssiEnd f) : L.ssiTransferDone f w p last = L :=
  if_pos (by rcases h with h | h | h <;> simp [h])

theorem ssiTransferDone_waits (hon : L.fbOn f = true) (hb : (L.fb f).busy = true) (hf : (L.fb f).fault = false) (ht : L.ssiEnd f ≤ L.now) :
    L.ssiTransferDone f w p last =
      L.updFb f (fun x => { x with busy := false, ssiRx := some { began := x.ssiAt, word := w, par := p, last := last } }) :=
  if_neg (by simp [hon, hb, hf, ht])

end Transfer

/-! ### The word of a transfer (R207) -/

section Word

variable (M : Lane) (f : Fin 16) (x : SsiS)

/-- The word no longer waits. -/
def ssiTaken : Lane := M.updFb f (fun y => { y with ssiRx := none })

/-- The number of ones in the word and its parity bit is odd. -/
def ssiOdd : Prop := (ones (M.ssiBits f) x.word + b2n x.par) % 2 = 1

/-- The word has not the parity that SSI_PAR asks for. -/
def ssiParityBad : Prop := (M.ssiParity f = 1 ∧ ssiOdd M f x) ∨ (2 ≤ M.ssiParity f ∧ ¬ ssiOdd M f x)

/-- The value of the word, its Gray code undone. -/
def ssiValue : Nat :=
  if M.flag F.FB_SSI_GRAY f then grayDecode (M.ssiBits f) (x.word % 2 ^ M.ssiBits f) else x.word % 2 ^ M.ssiBits f

/-- The bits that count turns, and their count. -/
def ssiTurnBits : Nat := M.ssiBits f - M.ssiSt f
def ssiTurns : Nat := ssiValue M f x / 2 ^ M.ssiSt f

/-- The position within one turn, in 16 bits. -/
def ssiPos : Nat :=
  if 16 ≤ M.ssiSt f then ssiValue M f x % 2 ^ M.ssiSt f / 2 ^ (M.ssiSt f - 16) else ssiValue M f x % 2 ^ M.ssiSt f * 2 ^ (16 - M.ssiSt f)

/-- The reference set by the first good word. -/
def ssiReferred : Lane :=
  M.updFb f (fun y => { y with rev := if ssiTurnBits M f = 0 then 0 else ssiTurns M f x, refOk := true, sigRun := 0, count := ssiValue M f x })

/-- The sample of a later good word taken. -/
def ssiFollowed : Lane :=
  ((M.updFb f (fun y => { y with count := ssiValue M f x })).takeSample f (ssiPos M f x) x.began).updFb f (fun y => { y with sigRun := 0 })

/-- The check of the parity, as the interface makes it. -/
def ssiParityFails : Bool :=
  if M.ssiParity f = 0 then false
  else if M.ssiParity f = 1 then decide ((ones (M.ssiBits f) x.word + b2n x.par) % 2 = 1)
  else !decide ((ones (M.ssiBits f) x.word + b2n x.par) % 2 = 1)

theorem ssiParityFails_iff : ssiParityFails M f x = true ↔ ssiParityBad M f x := by
  unfold ssiParityFails ssiParityBad ssiOdd
  split
  · simp [*]
  · split
    · simp [*]
    · simp only [Bool.not_eq_true', decide_eq_false_iff_not]
      omega

variable (K : Lane)

/-- A word, by its mode, its checks and whether the reference stands. -/
theorem ssiSample_eq : K.ssiSample f x =
    let M := ssiTaken K f
    if (M.fbMode f != fbSsi || (K.fb f).fault) = true then M
    else if (ssiParityFails M f x || x.last) = true then M.sigFail f F.FB_EVENT_SSI_ERR
    else if (!(K.fb f).refOk) = true then
      (((ssiReferred M f x).raise F.FB_EVENT_REF_SET f).takeSample f (ssiPos M f x) x.began).emulate f (8000 * (ssiReferred M f x).ssiFrames f)
    else if ssiTurnBits M f ≠ 0 ∧ M.revAt f (ssiPos M f x) % 2 ^ ssiTurnBits M f ≠ (ssiTurns M f x : Int) then M.sigFail f F.FB_EVENT_SSI_ERR
    else (ssiFollowed M f x).when (((ssiFollowed M f x).fb f).sampleAt == x.began) (·.emulate f (8000 * (ssiFollowed M f x).ssiFrames f)) :=
  rfl

theorem conv_ssiSample : ((K.ssiSample f x).fb f).conv = (K.fb f).conv := by
  have taken : ((ssiTaken K f).fb f).conv = (K.fb f).conv := by simp [ssiTaken]
  rw [ssiSample_eq]
  extract_lets M
  split
  · exact taken
  · split
    · exact (conv_sigFail M f _).trans taken
    · split
      · simp [ssiReferred, taken, M]
      · split
        · exact (conv_sigFail M f _).trans taken
        · simp [ssiFollowed, taken, M]

variable {M f x K} (hM : ssiTaken K f = M) (hx : (K.fb f).ssiRx = some x) (hc : (K.fb f).conv = [])

section Taken

include hx hc

/-- With no conversion waiting, the tick makes of the word that waits what `ssiSample` does. -/
theorem takeConv_ssi : K.takeConv f = K.ssiSample f x := by simp [Lane.takeConv, hx, conv_ssiSample, hc]

variable (hm : K.fbMode f = fbSsi) (hf : (K.fb f).fault = false)
include hM hm hf

theorem takeConv_bad (h : ssiParityBad M f x ∨ x.last = true) : K.takeConv f = M.sigFail f F.FB_EVENT_SSI_ERR := by
  subst hM
  rw [takeConv_ssi hx hc, ssiSample_eq]
  refine (if_neg ?_).trans (if_pos ?_)
  · simp [hf]; exact hm
  · rwa [Bool.or_eq_true, ssiParityFails_iff]

section Good

variable (hp : ¬ ssiParityBad M f x) (hl : x.last = false)
include hp hl

/-- A word that passes its checks, by whether the reference stands. -/
theorem takeConv_good : K.takeConv f =
    if (!(K.fb f).refOk) = true then
      (((ssiReferred M f x).raise F.FB_EVENT_REF_SET f).takeSample f (ssiPos M f x) x.began).emulate f (8000 * (ssiReferred M f x).ssiFrames f)
    else if ssiTurnBits M f ≠ 0 ∧ M.revAt f (ssiPos M f x) % 2 ^ ssiTurnBits M f ≠ (ssiTurns M f x : Int) then M.sigFail f F.FB_EVENT_SSI_ERR
    else (ssiFollowed M f x).when (((ssiFollowed M f x).fb f).sampleAt == x.began) (·.emulate f (8000 * (ssiFollowed M f x).ssiFrames f)) := by
  subst hM
  rw [takeConv_ssi hx hc, ssiSample_eq]
  refine (if_neg ?_).trans (if_neg ?_)
  · simp [hf]; exact hm
  · simpa [ssiParityFails_iff, hl] using hp

theorem takeConv_refers (hr : (K.fb f).refOk = false) : K.takeConv f =
    (((ssiReferred M f x).raise F.FB_EVENT_REF_SET f).takeSample f (ssiPos M f x) x.began).emulate f (8000 * (ssiReferred M f x).ssiFrames f) :=
  (takeConv_good hM hx hc hm hf hp hl).trans (if_pos (by simp [hr]))

variable (hr : (K.fb f).refOk = true)
include hr

theorem takeConv_strays (hb : ssiTurnBits M f ≠ 0) (ht : M.revAt f (ssiPos M f x) % 2 ^ ssiTurnBits M f ≠ (ssiTurns M f x : Int)) :
    K.takeConv f = M.sigFail f F.FB_EVENT_SSI_ERR :=
  (takeConv_good hM hx hc hm hf hp hl).trans ((if_neg (by simp [hr])).trans (if_pos ⟨hb, ht⟩))

theorem takeConv_agrees (h : ssiTurnBits M f = 0 ∨ M.revAt f (ssiPos M f x) % 2 ^ ssiTurnBits M f = (ssiTurns M f x : Int)) : K.takeConv f =
    (ssiFollowed M f x).when (((ssiFollowed M f x).fb f).sampleAt == x.began) (fun X => X.emulate f (8000 * X.ssiFrames f)) := by
  refine (takeConv_good hM hx hc hm hf hp hl).trans ((if_neg (by simp [hr])).trans ((if_neg fun c => h.elim c.1 c.2).trans ?_))
  simp only [Lane.when]

end Good

end Taken

end Word

end Sys2Proof.Proofs
end

section
/-! PROOFS. The feedback interfaces: every clause of the statement from the lemma that says it. -/

namespace Sys2Proof.Proofs

open Sys2Proof.Machine Sys2Proof.Laws

/-- Settles O20: each level by the filter and by what the interface counts, each transfer by whether it is due, its word by its checks, its
reference and its turns. -/
theorem feedbackInterfaces : Obligations.FeedbackInterfaces := by
  constructor
  · intro s l t f held L J
    refine ⟨fun ha h => ?early, fun ha h hon hf hm a b z => ?quadrature, fun ha h => ?zEdge, fun hp hon hm hz hf hv => ?sets, fun hp h => ?setsNot,
      fun ha h p => ?hall, fun ha hon hm hk ht hf => ?hallHeld⟩
    case early =>
      exact ⟨fun a b z => does_gateIn rfl ha (incrementalEdge_early L f a b z h), does_gateIn rfl ha (zEdge_early L f h),
        fun p => does_gateIn rfl ha (hallChange_early L f p h)⟩
    case quadrature =>
      refine ⟨fun hd => ?same, fun hd => ?up, fun hd => ?down, fun hd => ?skips⟩
      case same => exact does_gateIn rfl ha (incrementalEdge_same z rfl h hon hf hm hd)
      case up => exact does_gateIn rfl ha (incrementalEdge_up z rfl h hon hf hm hd)
      case down => exact does_gateIn rfl ha (incrementalEdge_down z rfl h hon hf hm hd)
      case skips => exact does_gateIn rfl ha (incrementalEdge_skips z rfl h hon hf hm hd)
    case zEdge =>
      refine ⟨fun hi => ?idle, fun hon hf hv hz hm => ⟨fun hr => ?reference, fun hr => ?waits⟩⟩
      case idle => exact does_gateIn rfl ha (zEdge_idle h rfl hi)
      case reference => exact does_gateIn rfl ha (zEdge_sets h rfl hon hf hv hz hm hr)
      case waits => exact does_gateIn rfl ha (zEdge_waits h rfl hon hf hv hz hm hr)
    case sets => exact does_gatePair rfl hp (setRef_sets hon hm hz hf hv)
    case setsNot => exact does_gatePair rfl hp (setRef_idle h)
    case hall =>
      refine ⟨fun hi => ?unread, fun hon hm => ⟨fun hi => ?stays, fun hf hk hl => ⟨fun hu => ?up, fun hd => ?down, fun hne hu hd => ?skips⟩⟩⟩
      case unread => exact does_gateIn rfl ha (hallChange_unread rfl h hi)
      case stays => exact does_gateIn rfl ha (hallChange_stays rfl h rfl rfl hon hm hi)
      case up => exact does_gateIn rfl ha (hallChange_up rfl h rfl rfl hon hm hf hk hl hu)
      case down => exact does_gateIn rfl ha (hallChange_down rfl h rfl rfl hon hm hf hk hl hd)
      case skips => exact does_gateIn rfl ha (hallChange_skips rfl h rfl rfl hon hm hf hk hl hne hu hd)
    case hallHeld => exact does_gate rfl ha (hallInvalidHold_fails L f hon hm hk ht hf)
  · intro s l t f L hon
    refine ⟨fun ha hm hf hp h0 hn => ?begins, fun ha d h => ?beginsNot, fun ha w p last => ?ends, fun K x hx hc hm hf => ?word, fun ha => ?timeout,
      fun ha hm r => ?line⟩
    case begins =>
      have due := ssiTransfer_due hon hm hf hp h0 hn
      exact ⟨does_gateIn rfl ha (due true), does_gateIn rfl ha (due false)⟩
    case beginsNot => exact does_gateIn rfl ha (ssiTransfer_idle d h)
    case ends =>
      exact ⟨fun h => does_gateIn rfl ha (ssiTransferDone_idle w p last h),
        fun hb hf ht => does_gateIn rfl ha (ssiTransferDone_waits w p last hon hb hf ht)⟩
    case word =>
      exact ⟨takeConv_bad rfl hx hc hm hf, takeConv_refers rfl hx hc hm hf,
        fun hp hl hr => ⟨takeConv_strays rfl hx hc hm hf hp hl hr, takeConv_agrees rfl hx hc hm hf hp hl hr⟩⟩
    case timeout => exact does_gate rfl ha (speedTimeout_on L f hon)
    case line =>
      exact ⟨fun h => does_gateIn rfl ha (lineFault_faults hon hm h), fun hr h => does_gateIn rfl ha (lineFault_unused hon hm hr h)⟩

end Sys2Proof.Proofs
end

section
/-! PROOFS. The safety inputs: their samples (R223), the off-pulses of their supplies (R221), the test samples (R225) and the test cycles (R226). -/

namespace Sys2Proof.Proofs

open Sys2Proof.Machine Sys2Proof.Laws

/-- What comes in on pads changes nothing if its block would make nothing of it, whether they are held or not. -/
theorem does_gateIn_fixed {i : Instr} {l : LaneId} {t : Nat} {s : State} {f : Lane → Lane} {d : Domain} {b : Nat}
    (hi : exec i s = onLane l t (gateIn d b f) s) (hf : f (s.seen l t) = s.seen l t) : Does i l t s (s.seen l t) :=
  does_of rfl hi (by simp [gateIn, hf])

variable (L : Lane)

/-! ### Samples (R223) -/

section Sample

variable (raw : Nat)

/-- The time since which the wake comparator of each input sees it high, after levels `raw` (R397). -/
def highSince : List (Option Nat) :=
  (List.range 16).map (fun i => if bit raw i then some ((L.pm.inHigh.getD i none).getD L.now) else none)

/-- The sixteen filters after levels `raw`. -/
def inputsFiltered : Lane := (List.finRange 16).foldl (fun (L : Lane) (i : Fin 16) => L.sampleInput i (bit raw i)) L

theorem inputSample_lost (h : L.sf.d2dLost = true ∨ L.sf.fieldLost = true) : L.inputSample raw = L := if_pos (by simpa using h)

theorem inputSample_filters (hd : L.sf.d2dLost = false) (hf : L.sf.fieldLost = false) :
    L.inputSample raw = inputsFiltered { L with pm := { L.pm with inHigh := highSince L raw } } raw :=
  if_neg (by simp [hd, hf])

end Sample

/-! ### Off-pulses and their test samples (R221, R225) -/

section Pulse

variable (j : Fin 4)

/-- An off-pulse of supply `j` begun now, its test still to come. -/
def pulseBegun : Lane := { L with sf := { L.sf with pulseAt := L.sf.pulseAt.set j (some L.now), tested := putBit L.sf.tested j false } }

/-- The raw level of every input kept for the test. -/
def rawKept : Lane := (List.finRange 16).foldl (fun (L : Lane) (i : Fin 16) => L.updInput i (fun x => { x with before := x.raw })) L

theorem offPulseStart_idle (h : L.pulseDue j = false) : L.offPulseStart j = L := if_pos (by simp [h])

theorem offPulseStart_begins (h : L.pulseDue j = true) : L.offPulseStart j = rawKept (pulseBegun L j) := if_neg (by simp [h])

/-- The test of this off-pulse is taken. -/
def testTaken : Lane := { L with sf := { L.sf with tested := putBit L.sf.tested j true } }

variable (raw : Nat)

/-- Input `i` judged: one in use that was high fails when it is low at another's off-pulse or high at that of its own supply. -/
def inputJudged (i : Fin 16) : Lane :=
  if L.inFunc i == 0 || !(L.input i).before then L
  else if (L.inSource i == j.val) == bit raw i then L.testFail i j (L.inSource i == j.val)
  else (L.tally 16 (16 + j)).updInput i (fun x => x.pass j (L.inSource i == j.val))

/-- Every input judged. -/
def inputsJudged : Lane := (List.finRange 16).foldl (fun (L : Lane) (i : Fin 16) => inputJudged L j raw i) L

theorem testSample_idle (h : L.testDue j = false) : L.testSample j raw = L := if_pos (by simp [h])

section Due

variable (h : L.testDue j = true)
include h

/-- A test that is due is taken whether the supply is on or not, and judges the inputs if it is. -/
theorem testSample_due : L.testSample j raw =
    if (!(testTaken L j).supplyOn ⟨j.val, by omega⟩) = true then testTaken L j else inputsJudged (testTaken L j) j raw :=
  if_neg (by simp [h])

theorem testSample_unsupplied (ho : (testTaken L j).supplyOn ⟨j.val, by omega⟩ = false) : L.testSample j raw = testTaken L j :=
  (testSample_due L j raw h).trans (if_pos (by simp [ho]))

theorem testSample_judges (ho : (testTaken L j).supplyOn ⟨j.val, by omega⟩ = true) :
    L.testSample j raw = inputsJudged (testTaken L j) j raw :=
  (testSample_due L j raw h).trans (if_neg (by simp [ho]))

end Due

end Pulse

/-! ### Test cycles (R226) -/

/-- The clean cycles of input `i` in a row, the one that ends counted if it had a pass and no fail. -/
def cleanRun (i : Fin 16) : Nat := if !(L.input i).cycleFail && (L.input i).cyclePass then (L.input i).cleanCycles + 1 else 0

/-- Input `i` with the record of its cycle closed. -/
def cycleClosed (i : Fin 16) : Lane :=
  L.updInput i (fun x => { x with cycleFail := false, cyclePass := false, cleanCycles := cleanRun L i })

/-- The faults of input `i` and all runs that lead to one cleared. -/
def inputMended (i : Fin 16) : Lane :=
  (L.inputChange i (fun x => { x with stuck := false, cross := false, stuckRun := 0, crossRun := 0, crossMask := 0, cleanCycles := 0 })).raise
    F.SF_EVENT_FAULT_CLR

/-- The end of a cycle for input `i`: a fault clears after 4 clean cycles, but never that of a stop input with the untested source (R224). -/
def inputCycled (i : Fin 16) : Lane :=
  if ((L.input i).stuck || (L.input i).cross) && decide (4 ≤ cleanRun L i) && !((cycleClosed L i).badStop i) then inputMended (cycleClosed L i) i
  else cycleClosed L i

theorem testCycleEnd_within (h : L.devTime / 20000000 = L.sf.cycleNo) : L.testCycleEnd = L := if_pos h

theorem testCycleEnd_ends (h : L.devTime / 20000000 ≠ L.sf.cycleNo) : L.testCycleEnd =
    (List.finRange 16).foldl (fun (L : Lane) (i : Fin 16) => inputCycled L i)
      { L with sf := { L.sf with cycleNo := L.devTime / 20000000 } } :=
  if_neg h

/-- Settles O33: a sample by the pads and the links, an off-pulse by its phase, a test sample by its time and its supply, a cycle by its number. -/
theorem safetyInputs : Obligations.SafetyInputs := by
  intro s l t L ha
  refine ⟨fun raw h => ?unseen, fun raw hp hd hf => ?sampled, fun j h => ?noPulse, fun j h => ?pulse, fun j raw h => ?noTest,
    fun j raw hp h => ⟨fun ho => ?unsupplied, fun ho => ?judged⟩, fun h => ?within, fun h => ?ends⟩
  case unseen => exact h.elim (does_gateIn_held rfl) fun hl => does_gateIn_fixed rfl (inputSample_lost L raw hl)
  case sampled => exact does_gateIn rfl (inActs_iff.2 ⟨ha, hp⟩) (inputSample_filters L raw hd hf)
  case noPulse => exact does_gate rfl ha (offPulseStart_idle L j h)
  case pulse => exact does_gate rfl ha (offPulseStart_begins L j h)
  case noTest => exact h.elim (does_gateIn_held rfl) fun hd => does_gateIn_fixed rfl (testSample_idle L j raw hd)
  case unsupplied => exact does_gateIn rfl (inActs_iff.2 ⟨ha, hp⟩) (testSample_unsupplied L j raw h ho)
  case judged => exact does_gateIn rfl (inActs_iff.2 ⟨ha, hp⟩) (testSample_judges L j raw h ho)
  case within => exact does_gate rfl ha (testCycleEnd_within L h)
  case ends => exact does_gate rfl ha (testCycleEnd_ends L h)

end Sys2Proof.Proofs
end

section
/-! PROOFS. What every step keeps: a step is the front command's own (95_what_each_step_holds.md), a lane's time never goes back, and a lane that is
held in reset takes nothing but the commands that reach it there (R436, R437). -/

namespace Sys2Proof.Proofs

open Sys2Proof.Machine Sys2Proof.Laws

/-- Settles O1: a step takes the front command from the queue, and idles on an empty one. -/
theorem stepRunsFrontCommand : Obligations.StepRunsFrontCommand :=
  ⟨fun _ _ => rfl, fun s h => by simp only [step, h]⟩

/-! ### Time -/

/-- A lane that a command finds has the later of its own time and the command's. -/
theorem seen_now (s : State) (l : LaneId) (t : Nat) : (s.seen l t).now = max (s.lane l).now t := rfl

theorem exec_keeps_time {i : Instr} {s s' : State} (h : exec i s = .next s') (l : LaneId) : (s.lane l).now ≤ (s'.lane l).now := by
  obtain ⟨t, f, hf⟩ := exec_eq_next i
  obtain rfl := Host.Outcome.next.inj ((hf s).symm.trans h)
  by_cases hl : l = i.lane
  · subst hl
    rw [State.lane_setLane_same]
    exact Nat.le_max_left _ t
  · rw [State.lane_setLane_other _ _ hl]

/-- Settles O5: an idle step changes no lane, a command gives its lane the later of two times and leaves the others. -/
theorem laneTimeNeverGoesBack : Obligations.LaneTimeNeverGoesBack := by
  intro s s' h l
  obtain ⟨-, rfl⟩ | ⟨i, q, -, hi⟩ := step_cases h
  · exact Nat.le_refl _
  · simpa using exec_keeps_time hi l

/-! ### A lane held in reset -/

section Held

variable {L : Lane} (hr : L.sy.resetHeld = true) (d : Domain) (b : Nat) (f : Lane → Lane)
include hr

theorem gate_held : gate d b f L = L := gate_off f (acts_held d b hr)

theorem gatePair_held : gatePair d b f L = L := gatePair_off f (by simp [Lane.pairActs, acts_held d b hr])

theorem inActs_held : L.inActs d b = false := by simp [Lane.inActs, acts_held d b hr]

theorem gateIn_held : gateIn d b f L = L := gateIn_off f (inActs_held hr d b)

theorem gateAwake_held : gateAwake b f L = L := gateAwake_off f (by simp [Lane.awakeActs, acts_held .drive b hr])

theorem gateAwakeIn_held : gateAwakeIn b f L = L := by simp [gateAwakeIn, inActs_held hr .drive b]

theorem gateTask_held : gateTask f L = L := by simp [gateTask, acts_held .core 0x20 hr]

end Held

/-- Settles O8: every command but those that reach a lane held in reset stands behind a gate, and none of the gates is open there. -/
theorem laneHeldInResetTakesNoCommand : Obligations.LaneHeldInResetTakesNoCommand := by
  intro i s h hr
  have hr : (s.seen i.lane i.time).sy.resetHeld = true := hr
  cases i <;> simp only [Instr.reachesReset, Bool.true_eq_false] at h <;>
    exact does_of rfl rfl (by simp only [gate_held hr, gatePair_held hr, gateIn_held hr, gateAwake_held hr, gateAwakeIn_held hr, gateTask_held hr])

end Sys2Proof.Proofs
end

section
/-! PROOFS. A fatal fault (R351): what of the lane its record and its action leave, and what its course forces. -/

namespace Sys2Proof.Proofs

open Sys2Proof.Machine Sys2Proof.Laws

variable (L : Lane)

/-! ### What a record in the hub leaves -/

/-- What R351 speaks of: the lane's name and state, the key, the guardian's permission, and ERR_OUT. -/
def fatalView : LaneId × LaneState × Option LaneId × Bool × Bool × Option PulseS :=
  (L.id, L.ky.state, L.ky.holder, L.sy.permit, L.fc.forced, L.fc.pulse)

@[simp] theorem fatalView_setFld (f : Fld) (v g k : Nat) : fatalView (L.setFld f v g k) = fatalView L := rfl

@[simp] theorem fatalView_setWord (f : Fld) (w : Word) (g k : Nat) : fatalView (L.setWord f w g k) = fatalView L := rfl

@[simp] theorem fatalView_raise (f : Fld) (g : Nat) : fatalView (L.raise f g) = fatalView L := rfl

@[simp] theorem fatalView_raiseBit (f : Fld) (i g : Nat) : fatalView (L.raiseBit f i g) = fatalView L := rfl

@[simp] theorem fatalView_setSrcBit (f : Fld) (i : Nat) (b : Bool) : fatalView (L.setSrcBit f i b) = fatalView L := rfl

theorem fatalView_ic (x : IcS) : fatalView { L with ic := x } = fatalView L := rfl

theorem fatalView_st (x : StS) : fatalView { L with st := x } = fatalView L := rfl

theorem fatalView_pm (x : PmS) : fatalView { L with pm := x } = fatalView L := rfl

theorem fatalView_tl (x : TlS) : fatalView { L with tl := x } = fatalView L := rfl

theorem fatalView_when (c : Bool) {f : Lane → Lane} (hf : ∀ M, fatalView (f M) = fatalView M) : fatalView (L.when c f) = fatalView L := by
  cases c
  · rfl
  · exact hf L

@[simp] theorem fatalView_tally (b i n : Nat) : fatalView (L.tally b i n) = fatalView L := by
  obtain ⟨_, _, _, h⟩ := tally_sameButTallies L b i n
  rw [h]
  rfl

@[simp] theorem fatalView_bump (f : Fld) (g k : Nat) : fatalView (L.bump f g k) = fatalView L := by
  rw [bump_shape]
  rfl

@[simp] theorem fatalView_log (kind cls source flags unit_ : Nat) (detail : List Nat) :
    fatalView (L.log kind cls source flags unit_ detail) = fatalView L := by
  simp only [Lane.log]
  split
  · rfl
  · exact fatalView_bump _ _ 0 0

/-- A fatal fault makes no pulse. -/
theorem fatalView_faultRecord (s u : Nat) (inj new : Bool) : fatalView (L.faultRecord s u inj new true) = fatalView L := by
  unfold Lane.faultRecord
  extract_lets told quieted merged pulsed
  have ht : fatalView told = fatalView L := by
    rw [fatalView_tally, fatalView_setSrcBit, fatalView_when L new fun _ => fatalView_raiseBit ..]
  have hq : fatalView quieted = fatalView told := fatalView_when told _ fun _ => rfl
  have hp : pulsed = quieted := by simp [pulsed, Lane.when]
  rw [fatalView_log, hp, hq, ht]

theorem fatalView_yardReset : fatalView L.yardReset = fatalView L := by
  simp only [Lane.yardReset, fatalView_tally, fatalView_setFld, fatalView_ic]

theorem fatalView_setFailed (u : Nat) (b : Bool) : fatalView (L.setFailed u b) = fatalView L := by
  unfold Lane.setFailed
  extract_lets n st failed
  have hf : fatalView failed = fatalView L := fatalView_st L _
  exact (fatalView_setWord _ F.ST_FAILED_HI _ 0 0).trans ((fatalView_setWord _ F.ST_FAILED_LO _ 0 0).trans hf)

theorem fatalView_faultAction (s u : Nat) : fatalView (L.faultAction s u) = fatalView L := by
  unfold Lane.faultAction
  extract_lets yard read failed
  have hy : fatalView yard = fatalView L := fatalView_when L _ fatalView_yardReset
  have hr : fatalView read = fatalView yard := fatalView_when yard _ fun _ => rfl
  have hf : fatalView failed = fatalView read := fatalView_when read _ fun M =>
    (fatalView_setFailed _ u true).trans (fatalView_setFld M F.ST_UNIT_STATUS 2 0 u)
  rw [fatalView_tl, hf, hr, hy]

/-! ### The withdrawal -/

@[simp] theorem fatalView_updLeg (g : Fin 16) (k : Fin 4) (f : LegS → LegS) : fatalView (L.updLeg g k f) = fatalView L := rfl

@[simp] theorem fatalView_legOff (g : Fin 16) (k : Fin 4) : fatalView (L.legOff g k) = fatalView L := by simp [Lane.legOff]

theorem fatalView_genLow (g : Fin 16) : fatalView (L.genLow g) = fatalView L := by
  have hg (M : Lane) (x : Group) : fatalView (M.setGrp g x) = fatalView M := rfl
  simp only [Lane.genLow, Lane.legKOff, Lane.legsOff, Lane.dropCarry, Lane.legsStop, Lane.updLg, Lane.updTq, Lane.updCh, hg, fatalView_updLeg,
    fatalView_legOff]

/-- As the guardian's permission falls, nothing else of this changes. -/
theorem fatalView_permitFall : fatalView L.permitFall = fatalView { L with sy := { L.sy with permit := false } } := by
  unfold Lane.permitFall
  split
  · exact eachGroup_keeps _ fatalView fun M g => (fatalView_when _ _ fun _ => fatalView_raise ..).trans (fatalView_genLow M g)
  · rename_i h
    simp [fatalView, h]

@[simp] theorem fatalView_endRun : fatalView L.endRun = fatalView L := by
  unfold Lane.endRun
  split
  · rfl
  · rw [fatalView_st, fatalView_raise]

@[simp] theorem fatalView_rollBack : fatalView L.rollBack = fatalView L := by
  simp only [Lane.rollBack, fatalView_pm, fatalView_tally, fatalView_bump, fatalView_raise]

@[simp] theorem fatalView_injWatch : fatalView L.injWatch = fatalView L := by
  unfold Lane.injWatch
  split
  · rw [fatalView_raise, fatalView_setFld]
    rfl
  · rfl

/-- A lane that leaves Service, Shadow or Bench loses permission and key. -/
theorem leaveService_loses : L.leaveService.sy.permit = false ∧ L.leaveService.ky.holder ≠ some L.leaveService.id ∧
    L.leaveService.fc.forced = L.fc.forced ∧ L.leaveService.fc.pulse = L.fc.pulse := by
  have hp : fatalView L.permitFall = fatalView { L with sy := { L.sy with permit := false } } := fatalView_permitFall L
  have he : fatalView L.permitFall.clearKey.endRun = fatalView L.permitFall.clearKey := fatalView_endRun _
  simp only [fatalView, Prod.mk.injEq] at hp he
  obtain ⟨hid, -, -, hpermit, hforced, hpulse⟩ := hp
  obtain ⟨heid, -, heholder, hepermit, heforced, hepulse⟩ := he
  simp only [Lane.leaveService, hepermit, heholder, heid, heforced, hepulse]
  unfold Lane.clearKey
  split
  · exact ⟨hpermit, nofun, hforced, hpulse⟩
  · rename_i h
    exact ⟨hpermit, h, hforced, hpulse⟩

/-- The last part of a withdrawal, once the lane has left its state and an entry that was being prepared is rolled back. -/
def withdrawLeft (K : Lane) : Lane :=
  ({ K with st := { K.st with holds := false }, ky := { K.ky with state := .withdrawn, benchReq := false, readmitReq := false } } : Lane).injWatch

theorem toWithdrawn_eq : L.toWithdrawn = withdrawLeft (L.leaveService.when (L.leaveService.pm.phase == .prepare) Lane.rollBack) := rfl

theorem fatalView_withdrawLeft (K : Lane) : fatalView (withdrawLeft K) = (K.id, .withdrawn, K.ky.holder, K.sy.permit, K.fc.forced, K.fc.pulse) :=
  fatalView_injWatch _

/-- A lane that withdraws loses permission and key; ERR_OUT stands as it is. -/
theorem toWithdrawn_loses : L.toWithdrawn.ky.state = .withdrawn ∧ L.toWithdrawn.fc.forced = L.fc.forced ∧ L.toWithdrawn.fc.pulse = L.fc.pulse ∧
    L.toWithdrawn.sy.permit = false ∧ L.toWithdrawn.ky.holder ≠ some L.toWithdrawn.id := by
  obtain ⟨hpermit, hholder, hforced, hpulse⟩ := leaveService_loses L
  have hr := fatalView_when L.leaveService (L.leaveService.pm.phase == .prepare) fatalView_rollBack
  have hw := fatalView_withdrawLeft (L.leaveService.when (L.leaveService.pm.phase == .prepare) Lane.rollBack)
  simp only [fatalView, Prod.mk.injEq] at hr hw
  obtain ⟨hrid, -, hrholder, hrpermit, hrforced, hrpulse⟩ := hr
  obtain ⟨hwid, hwstate, hwholder, hwpermit, hwforced, hwpulse⟩ := hw
  rw [toWithdrawn_eq, hwstate, hwid, hwholder, hwpermit, hwforced, hwpulse, hrid, hrholder, hrpermit, hrforced, hrpulse]
  exact ⟨rfl, hforced, hpulse, hpermit, hholder⟩

/-! ### ERR_OUT forced -/

theorem forceErr_forces (s : Nat) : (L.forceErr (some s)).fc.forced = true ∧ (L.fc.forced = false → (L.forceErr (some s)).fc.pulse = none) := by
  simp only [Lane.forceErr]
  split
  · rename_i h
    simp_all
  · exact ⟨rfl, fun _ => rfl⟩

theorem forceErr_state (s : Nat) : (L.forceErr (some s)).ky.state = L.ky.state := by
  have relabelled (cs : List (Nat × Nat)) (M : Lane) (hM : M.ky = L.ky) : (cs.foldl (fun (N : Lane) c => N.relabel c.2 false) M).ky = L.ky :=
    List.foldlRecOn (motive := fun N : Lane => N.ky = L.ky) _ _ hM fun _ hN _ _ => hN
  simp only [Lane.forceErr]
  split
  · rfl
  · exact congrArg KyS.state (relabelled _ _ (Lane.setFld_ky L _ _ 0 0))

/-- The course of a fatal fault in a lane that is not Off. -/
theorem faultFatal_withdraws (x : Nat) (h : L.ky.state ≠ .off) :
    (L.faultFatal x).ky.state = .withdrawn ∧ (L.faultFatal x).fc.forced = true ∧ (L.fc.forced = false → (L.faultFatal x).fc.pulse = none) ∧
      (L.faultFatal x).sy.permit = false ∧ (L.faultFatal x).ky.holder ≠ some (L.faultFatal x).id := by
  unfold Lane.faultFatal
  extract_lets forced halts halted
  obtain ⟨hfc, hky⟩ : halted.fc = forced.fc ∧ halted.ky = forced.ky := by
    cases hc : halts <;> simp [halted, hc, Lane.when]
  have hstate : halted.ky.state = L.ky.state := by rw [hky, forceErr_state, Lane.raise_ky]
  obtain ⟨hforced, hpulse⟩ := forceErr_forces (L.raise F.FC_EVENT_FATAL) x
  obtain ⟨wstate, wforced, wpulse, wpermit, wholder⟩ := toWithdrawn_loses halted
  rw [if_neg (hstate ▸ h)]
  exact ⟨wstate, wforced.trans (hfc ▸ hforced), fun hL => wpulse.trans (hfc ▸ hpulse hL), wpermit, wholder⟩

/-- Settles O47: the fault's record and action leave what R351 speaks of, its course forces ERR_OUT and withdraws the lane. -/
theorem fatalFaultWithdrawsTheLane : Obligations.FatalFaultWithdrawsTheLane := by
  intro L x u hx hp hs
  have hv := (fatalView_faultAction _ x u).trans (fatalView_faultRecord L x u false (!(L.srcBit F.FC_STATE x)))
  have hf : L.fault x u = ((L.faultRecord x u false (!(L.srcBit F.FC_STATE x)) true).faultAction x u).faultFatal x := by
    simp [Lane.fault, hx, hp]
  simp only [fatalView, Prod.mk.injEq] at hv
  obtain ⟨-, hstate, -, -, hforced, -⟩ := hv
  rw [hf]
  have h := faultFatal_withdraws ((L.faultRecord x u false (!(L.srcBit F.FC_STATE x)) true).faultAction x u) x (hstate ▸ hs)
  rwa [hforced] at h

end Sys2Proof.Proofs
end

section
/-! PROOFS. Reports of checkers (R350 to R355, R358), and the arming of fault injection and of the trapdoor (R358 to R360). -/

namespace Sys2Proof.Proofs

open Sys2Proof.Machine Sys2Proof.Laws

variable (L : Lane)

@[simp] theorem when_true (f : Lane → Lane) : L.when true f = f L := rfl

@[simp] theorem when_false (f : Lane → Lane) : L.when false f = L := rfl

/-! ### Reports -/

/-- The unit index that a record of source `x` shows. -/
def unitShown (x u : Nat) : Nat := if x ∈ [7, 8, 9, 10, 11, 12, 15, 27, 30, 31] then 0xFFFF else u

theorem unitShown_eq (x u : Nat) : (if noUnit x then 0xFFFF else u) = unitShown x u := by simp only [noUnit, unitShown, List.contains_iff_mem]

section Report

variable (x u : Nat)

theorem faultReport_unknown (k : Bool) (hx : 32 ≤ x) : L.faultReport x u k = L := if_pos (by simp [hx])

/-- No injection is armed, or another checker's: there is no such report. -/
theorem faultReport_uncaused (h : L.fc.injArm = false ∨ L.injReports x u = false) : L.faultReport x u true = L :=
  if_pos (by rcases h with h | h <;> simp [h])

theorem faultReport_found (hx : x < 32) : L.faultReport x u false = L.fault x (unitShown x u) := by
  unfold Lane.faultReport
  rw [if_neg (by simp [hx]), when_false, unitShown_eq]

/-- A report that follows from an injection uses one up first. -/
theorem faultReport_injected (hx : x < 32) (ha : L.fc.injArm = true) (hi : L.injReports x u = true) :
    L.faultReport x u true = L.injTake.fault x (unitShown x u) true := by
  unfold Lane.faultReport
  rw [if_neg (by simp [hx, ha, hi]), when_true, unitShown_eq]

end Report

/-- Settles O46, by whether the source exists and the report has a cause. -/
theorem checkerReports : Obligations.CheckerReports := by
  intro s l t x u L ha
  refine ⟨fun hx k => does_gate rfl ha (faultReport_unknown L x u k hx), fun hx => ?found, fun _ h => ?uncaused, fun hx harm hi => ?injected⟩
  case found => exact does_gate rfl ha (faultReport_found L x u hx)
  case uncaused => exact does_gate rfl ha (faultReport_uncaused L x u h)
  case injected => exact does_gate rfl ha (faultReport_injected L x u hx harm hi)

/-! ### Arming -/

section Arm

variable (v : Word)

/-- The settings of an FC_INJ write; a checker that does not exist is not taken (R358). -/
def injSet : Lane :=
  ((L.setFld F.FC_INJ_CHECKER (if 17 < F.FC_INJ_CHECKER.get v then L.fld F.FC_INJ_CHECKER else F.FC_INJ_CHECKER.get v)).setFld F.FC_INJ_MODE
    (F.FC_INJ_MODE.get v)).setFld F.FC_INJ_COUNT (F.FC_INJ_COUNT.get v)

/-- The settings of an FC_XINJ write (R359). -/
def xinjSet : Lane :=
  ((((L.setFld F.FC_XINJ_ACTION (F.FC_XINJ_ACTION.get v)).setFld F.FC_XINJ_PORT (F.FC_XINJ_PORT.get v)).setFld F.FC_XINJ_CLASS
    (F.FC_XINJ_CLASS.get v)).setFld F.FC_XINJ_OFS (F.FC_XINJ_OFS.get v)).setFld F.FC_XINJ_COUNT (F.FC_XINJ_COUNT.get v)

theorem fcInjArm_disarms (h : F.FC_INJ_ARM.get v = 0) : L.fcInjArm v =
    ({ injSet L v with fc := { (injSet L v).fc with injArm := false, injLeft := 0 } }).setFld F.FC_INJ_ARM 0 :=
  if_pos h

theorem fcInjArm_denied (h : F.FC_INJ_ARM.get v ≠ 0) (hd : 17 < F.FC_INJ_CHECKER.get v ∨ (injSet L v).injAllowed = false) :
    L.fcInjArm v = (injSet L v).raise F.FC_EVENT_INJ_DENIED :=
  (if_neg h).trans (if_pos (by simpa [injSet] using hd))

theorem fcInjArm_arms (h : F.FC_INJ_ARM.get v ≠ 0) (hc : F.FC_INJ_CHECKER.get v ≤ 17) (ha : (injSet L v).injAllowed = true) : L.fcInjArm v =
    ({ injSet L v with fc := { (injSet L v).fc with injArm := true, injLeft := (injSet L v).fld1 F.FC_INJ_COUNT } }).setFld F.FC_INJ_ARM 1 :=
  (if_neg h).trans (if_neg (by simpa [injSet] using And.intro hc ha))

theorem fcXinjArm_disarms (h : F.FC_XINJ_ARM.get v = 0) : L.fcXinjArm v =
    ({ xinjSet L v with fc := { (xinjSet L v).fc with xinjLeft := 0 } }).setFld F.FC_XINJ_ARM 0 :=
  if_pos h

theorem fcXinjArm_denied (h : F.FC_XINJ_ARM.get v ≠ 0) (hs : (xinjSet L v).lc.state ≠ .service) :
    L.fcXinjArm v = (xinjSet L v).raise F.FC_EVENT_INJ_DENIED :=
  (if_neg h).trans (if_pos hs)

theorem fcXinjArm_arms (h : F.FC_XINJ_ARM.get v ≠ 0) (hs : (xinjSet L v).lc.state = .service) : L.fcXinjArm v =
    ({ xinjSet L v with fc := { (xinjSet L v).fc with
        xinjLeft := if F.FC_XINJ_ACTION.get v = 3 then 2 else (xinjSet L v).fld1 F.FC_XINJ_COUNT } }).setFld F.FC_XINJ_ARM 1 :=
  (if_neg h).trans (if_neg (not_not_intro hs))

theorem fcTrapWrite_refused (e : Fin 8) (h : L.lc.state ≠ .blank) : L.fcTrapWrite e v = L := if_pos h

theorem fcTrapWrite_taken (e : Fin 8) (h : L.lc.state = .blank) : L.fcTrapWrite e v =
    (((((L.setFld F.FC_TRAP_EN (F.FC_TRAP_EN.get v) 0 e).setFld F.FC_TRAP_VALUE (F.FC_TRAP_VALUE.get v) 0 e).setFld F.FC_TRAP_BIT
      (F.FC_TRAP_BIT.get v) 0 e).setFld F.FC_TRAP_BLOCK (F.FC_TRAP_BLOCK.get v) 0 e).setFld F.FC_TRAP_GROUP (F.FC_TRAP_GROUP.get v) 0 e).setFld
      F.FC_TRAP_OFFSET (F.FC_TRAP_OFFSET.get v / 4 * 4) 0 e :=
  if_neg (not_not_intro h)

end Arm

/-- Settles O49: each of the two injections by its ARM field and by what denies it, the trapdoor by the life-cycle state. -/
theorem injectionArming : Obligations.InjectionArming := by
  intro s l t v L hp
  have does {i : Instr} {f : Lane → Lane} {M : Lane} (hi : exec i s = onLane l t (gatePair .core 3 f) s) (hf : f L = M) : Does i l t s M :=
    does_gatePair hi hp hf
  refine ⟨⟨fun h => ?disarms, fun h hd => ?denied, fun h hc ha => ?arms⟩, ⟨fun h => ?xdisarms, fun h hs => ?xdenied, fun h hs => ?xarms⟩,
    fun e h => ?refused, fun e h => ?taken⟩
  case disarms => exact does rfl (fcInjArm_disarms L v h)
  case denied => exact does rfl (fcInjArm_denied L v h hd)
  case arms => exact does rfl (fcInjArm_arms L v h hc ha)
  case xdisarms => exact does rfl (fcXinjArm_disarms L v h)
  case xdenied => exact does rfl (fcXinjArm_denied L v h hs)
  case xarms => exact does rfl (fcXinjArm_arms L v h hs)
  case refused => exact does rfl (fcTrapWrite_refused L v e h)
  case taken => exact does rfl (fcTrapWrite_taken L v e h)

end Sys2Proof.Proofs
end

section
/-! PROOFS. Budget timer, software interrupt, doorbells, yard core and its firewall (R337, R345, R348 to R350), and the application's calls (R345 to
R347). -/

namespace Sys2Proof.Proofs

open Sys2Proof.Machine Sys2Proof.Laws

variable (L : Lane)

/-! ### Budget timer -/

theorem icBudgetStart_stops (n : Nat) (h : n % 2 ^ 24 = 0) :
    L.icBudgetStart n = { L with ic := { L.ic with budgetEnd := none, appBudget := false } } := by
  simp only [Lane.icBudgetStart, if_pos h]

theorem icBudgetStart_starts (n : Nat) (h : n % 2 ^ 24 ≠ 0) :
    L.icBudgetStart n = { L with ic := { L.ic with budgetEnd := some (L.now + 8 * (n % 2 ^ 24)), appBudget := false } } := by
  simp only [Lane.icBudgetStart, if_neg h]

theorem budgetExpiry_none (h : L.ic.budgetEnd = none) : L.budgetExpiry = L := by simp only [Lane.budgetExpiry, h]

/-- The timer stopped at 0, its source pending (R337, R345). -/
def budgetOver : Lane := ({ L with ic := { L.ic with budgetEnd := none, appBudget := false } }).latchSrc 117

section Budget

variable {d : Nat} (h : L.ic.budgetEnd = some d)
include h

theorem budgetExpiry_running (ht : L.now < d) : L.budgetExpiry = L := by simp only [Lane.budgetExpiry, h, if_pos ht]

theorem budgetExpiry_over (ht : d ≤ L.now) :
    L.budgetExpiry = (budgetOver L).when (L.ic.appBudget && (L.ic.window || L.ic.init)) (fun L => L.appAbort 0) := by
  simp only [Lane.budgetExpiry, h, if_neg (Nat.not_lt.2 ht)]
  rfl

theorem budgetExpiry_own (ht : d ≤ L.now) (ho : L.ic.appBudget = false ∨ (L.ic.window = false ∧ L.ic.init = false)) :
    L.budgetExpiry = budgetOver L := by
  have hc : (L.ic.appBudget && (L.ic.window || L.ic.init)) = false := by
    rcases ho with ho | ⟨hw, hi⟩
    · simp [ho]
    · simp [hw, hi]
  rw [budgetExpiry_over L h ht, hc, when_false]

theorem budgetExpiry_aborts (ht : d ≤ L.now) (ha : L.ic.appBudget = true) (hw : L.ic.window = true ∨ L.ic.init = true) :
    L.budgetExpiry = (budgetOver L).appAbort 0 := by
  have hc : (L.ic.appBudget && (L.ic.window || L.ic.init)) = true := by simpa [ha] using hw
  rw [budgetExpiry_over L h ht, hc, when_true]

end Budget

/-! ### Yard core -/

theorem doorbellH_rings (h : L.yardRuns = true) : L.doorbellH = L.latchSrc 114 := if_pos h

theorem doorbellH_idle (h : L.yardRuns = false) : L.doorbellH = L := if_neg (by simp [h])

section Firewall

variable (a : Nat) (w : Bool)

theorem yardFirewallRefuse_idle (h : L.yardRuns = false ∨ yardMay a w = true) : L.yardFirewallRefuse a w = L :=
  if_pos (by rcases h with h | h <;> simp [h])

/-- The access counted and shown in FW_ERR (R348). -/
def fwCounted : Lane := (L.raise F.IC_YARD_FW_ERR).bump F.IC_YARD_FW_CNT

theorem yardFirewallRefuse_refuses (hr : L.yardRuns = true) (hm : yardMay a w = false) :
    L.yardFirewallRefuse a w = { fwCounted L with
      rdata := 0, busErr := true
      ic := { (fwCounted L).ic with
        refused := ((fwCounted L).now :: (fwCounted L).ic.refused.filter (fun t => decide ((fwCounted L).now < t + ms 1))).take 1000 } } :=
  if_neg (by simp [hr, hm])

end Firewall

theorem firewallStorm_below (h : (L.ic.refused.filter (fun t => decide (L.now < t + ms 1))).length < 1000) : L.firewallStorm = L := if_pos h

theorem firewallStorm_resets (h : 1000 ≤ (L.ic.refused.filter (fun t => decide (L.now < t + ms 1))).length) :
    L.firewallStorm = ({ L with ic := { L.ic with refused := [] } }).fault 27 0xFFFF :=
  if_neg (Nat.not_lt.2 h)

/-- Settles O51: the timer by whether it runs, is over and is the application's, the yard core by whether it runs and may make the access. -/
theorem yardCoreAndDoorbells : Obligations.YardCoreAndDoorbells := by
  refine ⟨?timerAndBells, ?firewall⟩
  case timerAndBells =>
    intro s l t n L
    refine ⟨fun hp => ⟨fun h => ?stops, fun h => ?starts, does_gatePair rfl hp rfl, does_gatePair rfl hp rfl⟩,
      fun ha => ⟨fun h => ?none, fun d h ht => ?running, fun d h ht => ⟨fun ho => ?own, fun hb hw => ?aborts⟩⟩,
      fun hp => does_gatePair rfl hp rfl, fun ha => ⟨fun h => ?rings, fun h => ?rests⟩⟩
    case stops => exact does_gatePair rfl hp (icBudgetStart_stops L n h)
    case starts => exact does_gatePair rfl hp (icBudgetStart_starts L n h)
    case none => exact does_gate rfl ha (budgetExpiry_none L h)
    case running => exact does_gate rfl ha (budgetExpiry_running L h ht)
    case own => exact does_gate rfl ha (budgetExpiry_own L h ht ho)
    case aborts => exact does_gate rfl ha (budgetExpiry_aborts L h ht hb hw)
    case rings => exact does_gate rfl ha (doorbellH_rings L h)
    case rests => exact does_gate rfl ha (doorbellH_idle L h)
  case firewall =>
    intro s l t L ha
    refine ⟨fun a w h => ?permitted, fun a w hr hm => ?refused, fun h => ?below, fun h => ?storm⟩
    case permitted => exact does_gate rfl ha (yardFirewallRefuse_idle L a w h)
    case refused => exact does_gate rfl ha (yardFirewallRefuse_refuses L a w hr hm)
    case below => exact does_gate rfl ha (firewallStorm_below L h)
    case storm => exact does_gate rfl ha (firewallStorm_resets L h)

/-! ### The application's calls -/

section Idle

variable (h : L.appRuns = false)
include h

theorem appCall_idle (c : AppCall) (w : Word) : L.appCall c w = L := if_pos (by simp [h])

theorem appTally_idle (b i : Nat) : L.appTally b i = L := if_pos (by simp [h])

theorem appMail_idle (a n : Nat) : L.appMail a n = L := if_pos (by simp [h])

theorem tickDone_idle : L.tickDone = L := if_pos (by simp [h])

end Idle

section Calls

variable (h : L.appRuns = true)
include h

theorem appCall_unlisted (w : Word) : L.appCall .unlisted w = L.refuseCall := if_neg (by simp [h])

theorem appCall_exception (w : Word) : L.appCall .exception w = L.appAbort 1 := if_neg (by simp [h])

theorem appCall_log (c : Nat) (w : Word) : L.appCall (.log c) w = L.appLog c w := if_neg (by simp [h])

theorem appTally_denied (b i : Nat) (hp : bit ((L.ic.app.getD (0, 0)).2) 0 = false) : L.appTally b i = L.refuseCall :=
  (if_neg (by simp [h])).trans (if_pos (by simp [hp]))

theorem appTally_reads {b i : Nat} (hp : bit ((L.ic.app.getD (0, 0)).2) 0 = true) (hb : b ≤ 22) (hi : i < 64) : L.appTally b i =
    { L with ic := { L.ic with
      a0 := BitVec.ofNat 32 (cellGet 0 L.tl.snap (64 * b + i)), a1 := BitVec.ofNat 32 (cellGet 0 L.tl.snap (64 * b + i) / 2 ^ 32 % 65536) } } := by
  unfold Lane.appTally
  rw [if_neg (by simp [h]), if_neg (by simp [hp]), if_pos ⟨hb, hi⟩]

theorem appMail_refused (a n : Nat) (hr : L.ic.mail = true ∨ n = 0 ∨ 256 < n ∨ a < 0x202E0000 ∨ 0x20300000 < a + n) :
    L.appMail a n = L.refuseCall :=
  (if_neg (by simp [h])).trans (if_pos (by simpa [or_assoc] using hr))

theorem appMail_posts {a n : Nat} (hm : L.ic.mail = false) (h0 : 0 < n) (hn : n ≤ 256) (ha : 0x202E0000 ≤ a) (he : a + n ≤ 0x20300000) :
    L.appMail a n = (({ L with ic := { L.ic with mail := true, a0 := 0 } }).setBytes 0x2403F000 (L.bytes a n)).doorbellY :=
  (if_neg (by simp [h])).trans (if_neg (by simp [hm]; omega))

end Calls

theorem appLog_refused (c : Nat) (w : Word) (hn : 4 ≤ L.ic.logCalls) : L.appLog c w = L.refuseCall := if_pos hn

theorem appLog_logs (c : Nat) (w : Word) (hn : L.ic.logCalls < 4) : L.appLog c w =
    ({ L with ic := { L.ic with logCalls := L.ic.logCalls + 1, a0 := 0 } }).log 6 3 0xFF 0 0xFFFF [c % 65536, w.toNat] :=
  if_neg (Nat.not_le.2 hn)

/-! ### TICK_DONE -/

/-- A demand of an owned actuator that is no finite number (R345). -/
def demandUnfinite : Bool := (List.range 16).any (fun n => L.owned n && !(f32finite (L.outWord (8 * n))))

/-- The window closed, the outputs taken as the lane's setpoints and sent (R345, R346). -/
def outputsSent : Lane :=
  let A : Lane := { L with ic := { L.ic with window := false, abortRun := 0, budgetEnd := none, appBudget := false } }
  let B : Lane := { A with ky := { A.ky with own := A.appSetpoints } }
  (B.setFld F.EG_VOTE_OWN_VOTE (if B.ky.state = .service then B.ky.own.release else 0)).sendSetpoints

/-- The words that an application puts in the holder's shelf (R346). -/
def appShelf : List Word := (List.range 64).map (fun i => L.outWord (0x80 + 4 * i))

/-- They stand in KY_SHELF_OUT. -/
def shelfSet : Lane := L.setWords F.KY_SHELF_OUT 0xC0 (appShelf L)

section TickDone

variable (h : L.appRuns = true)
include h

theorem tickDone_init (hi : L.ic.init = true) :
    L.tickDone = { L with ic := { L.ic with init := false, budgetEnd := none, appBudget := false } } :=
  (if_neg (by simp [h])).trans (if_pos hi)

section Tick

variable (hi : L.ic.init = false)
include hi

theorem tickDone_unfinite (hf : demandUnfinite L = true) : L.tickDone = L.appAbort 2 :=
  (if_neg (by simp [h])).trans ((if_neg (by simp [hi])).trans (if_pos hf))

variable (hf : demandUnfinite L = false)
include hf

theorem tickDone_sends : L.tickDone =
    if (outputsSent L).ky.holder ≠ some (outputsSent L).id then outputsSent L
    else match (shelfSet (outputsSent L)).out.shelf with
      | none => shelfSet (outputsSent L)
      | some f => { shelfSet (outputsSent L) with
          out := { (shelfSet (outputsSent L)).out with shelf := some { f with words := f.words.take 0xC0 ++ appShelf (outputsSent L) } } } :=
  (if_neg (by simp [h])).trans ((if_neg (by simp [hi])).trans (if_neg (by simpa [demandUnfinite] using hf)))

theorem tickDone_keyless (hk : (outputsSent L).ky.holder ≠ some (outputsSent L).id) : L.tickDone = outputsSent L :=
  (tickDone_sends L h hi hf).trans (if_pos hk)

variable (hk : (outputsSent L).ky.holder = some (outputsSent L).id)
include hk

theorem tickDone_shelfless (hs : (shelfSet (outputsSent L)).out.shelf = none) : L.tickDone = shelfSet (outputsSent L) := by
  rw [tickDone_sends L h hi hf, if_neg (not_not_intro hk), hs]

theorem tickDone_shelf {f : ShelfFrame} (hs : (shelfSet (outputsSent L)).out.shelf = some f) : L.tickDone =
    { shelfSet (outputsSent L) with
      out := { (shelfSet (outputsSent L)).out with shelf := some { f with words := f.words.take 0xC0 ++ appShelf (outputsSent L) } } } := by
  rw [tickDone_sends L h hi hf, if_neg (not_not_intro hk), hs]

end Tick

end TickDone

/-- Settles O52: each call by whether an application runs and the call is within its limits, TICK_DONE by the outputs, the key and the shelf. -/
theorem applicationCalls : Obligations.ApplicationCalls := by
  intro s l t L ha hr
  have does {i : Instr} {f : Lane → Lane} {M : Lane} (hi : exec i s = onLane l t (gateTask f) s) (hf : f L = M) : Does i l t s M :=
    does_task hi ha hr hf
  refine ⟨fun h a b w x => ⟨?idleLog, ?idleTally, ?idleMail, ?idleTick⟩, fun h => ⟨fun w => ⟨?unlisted, ?exception⟩, fun c w hn => ?fifth,
    fun c w hn => ?logs, fun b i hp => ?noTallies, fun b i hp hb hi => ?tallies, fun a n hm => ?noMail, fun a n hm h0 hn ha he => ?mails,
    fun hi => ?init, fun hi hf => ?unfinite, fun hi hf => ⟨fun hk => ?keyless, fun hk hs => ?shelfless, fun f hk hs => ?shelf⟩⟩⟩
  case idleLog => exact does rfl (appCall_idle L h x w)
  case idleTally => exact does rfl (appTally_idle L h a b)
  case idleMail => exact does rfl (appMail_idle L h a b)
  case idleTick => exact does rfl (tickDone_idle L h)
  case unlisted => exact does rfl (appCall_unlisted L h w)
  case exception => exact does rfl (appCall_exception L h w)
  case fifth => exact does rfl ((appCall_log L h c w).trans (appLog_refused L c w hn))
  case logs => exact does rfl ((appCall_log L h c w).trans (appLog_logs L c w hn))
  case noTallies => exact does rfl (appTally_denied L h b i hp)
  case tallies => exact does rfl (appTally_reads L h hp hb hi)
  case noMail => exact does rfl (appMail_refused L h a n hm)
  case mails => exact does rfl (appMail_posts L h hm h0 hn ha he)
  case init => exact does rfl (tickDone_init L h hi)
  case unfinite => exact does rfl (tickDone_unfinite L h hi hf)
  case keyless => exact does rfl (tickDone_keyless L h hi hf hk)
  case shelfless => exact does rfl (tickDone_shelfless L h hi hf hk hs)
  case shelf => exact does rfl (tickDone_shelf L h hi hf hk hs)

end Sys2Proof.Proofs
end

section
/-! PROOFS. The operations of CF_OP (R431) and the event log (R361, R362). -/

namespace Sys2Proof.Proofs

open Sys2Proof.Machine Sys2Proof.Laws

variable (L : Lane)

/-! ### CF_OP -/

/-- The address of the next CF_OP, and its length in bytes. -/
def opAddr : Nat := (L.word F.CF_ADDR).toNat
def opLen : Nat := (L.word F.CF_LEN).toNat

/-- What CF_OP refuses of `n` bytes at alignment `k` (R431). -/
def opRefused (k n : Nat) : Prop := L.flashBusy = true ∨ L.th.flashOk = false ∨ opAddr L % k ≠ 0 ∨ flashOwned (opAddr L) n = true

theorem opRefused_iff (k n : Nat) :
    (L.flashBusy || !L.th.flashOk || opAddr L % k != 0 || flashOwned (opAddr L) n) = true ↔ opRefused L k n := by
  simp [opRefused, or_assoc]

theorem not_opRefused {k n : Nat} (hb : L.flashBusy = false) (hf : L.th.flashOk = true) (ha : opAddr L % k = 0)
    (ho : flashOwned (opAddr L) n = false) : ¬ opRefused L k n := by
  simp [opRefused, hb, hf, ha, ho]

theorem cfErase_refused (h : opRefused L 65536 65536) : L.cfErase = L.cfRefuse := if_pos ((opRefused_iff L _ _).2 h)

theorem cfErase_taken (h : ¬ opRefused L 65536 65536) : L.cfErase = { L with lc := { L.lc with op := some (1, opAddr L, []) } } :=
  if_neg (mt (opRefused_iff L _ _).1 h)

/-- A length that the register allows. -/
theorem opLen_allowed (h1 : 16 ≤ opLen L) (h2 : opLen L ≤ 4096) (h3 : opLen L % 16 = 0) :
    (decide (16 ≤ opLen L) && decide (opLen L ≤ 4096) && opLen L % 16 == 0) = true := by simp [h1, h2, h3]

/-- Any other, of which the spec leaves open how many bytes it moves (log entry 93). -/
theorem opLen_other (h : opLen L < 16 ∨ 4096 < opLen L ∨ opLen L % 16 ≠ 0) :
    ¬ (decide (16 ≤ opLen L) && decide (opLen L ≤ 4096) && opLen L % 16 == 0) = true := by
  simp
  omega

/-- CF_OP program of `r` bytes, as the lane stands once their number is known. -/
def programOf (r : Nat) (M : Lane) : Lane :=
  if L.flashBusy || !L.th.flashOk || opAddr L % 16 != 0 || flashOwned (opAddr L) r then L.cfRefuse
  else { M with lc := { M.lc with op := some (2, opAddr L, M.bytes (M.word F.CF_SRC).toNat r) } }

theorem cfProgram_allowed (h1 : 16 ≤ opLen L) (h2 : opLen L ≤ 4096) (h3 : opLen L % 16 = 0) : L.cfProgram = programOf L (opLen L) L :=
  congrArg (fun r : Nat × Lane => programOf L r.1 r.2) (if_pos (opLen_allowed L h1 h2 h3))

theorem cfProgram_other (h : opLen L < 16 ∨ 4096 < opLen L ∨ opLen L % 16 ≠ 0) : L.cfProgram = programOf L (L.drawNat.1 % 4097) L.drawNat.2 :=
  congrArg (fun r : Nat × Lane => programOf L r.1 r.2) (if_neg (opLen_other L h))

theorem programOf_refused {r : Nat} (M : Lane) (h : opRefused L 16 r) : programOf L r M = L.cfRefuse := if_pos ((opRefused_iff L _ _).2 h)

theorem programOf_taken {r : Nat} (M : Lane) (h : ¬ opRefused L 16 r) :
    programOf L r M = { M with lc := { M.lc with op := some (2, opAddr L, M.bytes (M.word F.CF_SRC).toNat r) } } :=
  if_neg (mt (opRefused_iff L _ _).1 h)

theorem cfOpDone_none (h : L.lc.op = none) : L.cfOpDone = L := by simp only [Lane.cfOpDone, h]

/-- The lane with BUSY clear. -/
def opEnded : Lane := { L with lc := { L.lc with op := none } }

section Op

variable {k x : Nat} {bs : List Byte} (h : L.lc.op = some (k, x, bs))
include h

theorem cfOpDone_outside (hx : x < 0x08000000 ∨ 0x09800000 ≤ x) : L.cfOpDone = opEnded L := by
  simp only [Lane.cfOpDone, h, if_pos hx]
  rfl

theorem cfOpDone_inside (h1 : 0x08000000 ≤ x) (h2 : x < 0x09800000) :
    L.cfOpDone = if k = 1 then (opEnded L).eraseSector x else (opEnded L).program x bs := by
  simp only [Lane.cfOpDone, h, if_neg (show ¬ (x < 0x08000000 ∨ 0x09800000 ≤ x) by omega)]
  rfl

end Op

/-! ### Event log -/

theorem logRecordWrite_empty (h : L.fc.queue = []) : L.logRecordWrite = L := by simp only [Lane.logRecordWrite, h]

section Front

variable {r : LogRec} {q : List LogRec} (h : L.fc.queue = r :: q)
include h

theorem logRecordWrite_hot (hf : L.th.flashOk = false) : L.logRecordWrite = L.raise F.FC_EVENT_TEMP_HOLD := by
  simp only [Lane.logRecordWrite, h, hf, Bool.not_false, if_true]

/-- The front record written. -/
def frontWritten (r : LogRec) (q : List LogRec) : Lane := ({ L with fc := { L.fc with queue := q } }).writeRec r

/-- A record of what was dropped follows it. -/
theorem logRecordWrite_writes (hf : L.th.flashOk = true) : L.logRecordWrite =
    if (frontWritten L r q).fc.dropped = 0 then frontWritten L r q
    else ({ frontWritten L r q with fc := { (frontWritten L r q).fc with dropped := 0 } }).log 10 3 0xFF 0 0xFFFF [(frontWritten L r q).fc.dropped] := by
  unfold Lane.logRecordWrite frontWritten
  rw [h]
  exact if_neg (by simp [hf])

end Front

/-- Settles O45: an operation by its refusals, its length and its address, the log by its front record and the heat. -/
theorem flashOperationsAndEventLog : Obligations.FlashOperationsAndEventLog := by
  refine ⟨?operations, ?log⟩
  case operations =>
    intro s l t L a n
    refine ⟨fun hp h => ?eraseRefused, fun hp hb hf ha ho => ?eraseTaken, fun hp hl => ⟨fun h => ?openRefused, fun hb hf ha ho => ?openTaken⟩,
      fun hp h1 h2 h3 => ⟨fun h => ?refused, fun hb hf ha ho => ?taken⟩, fun ha h => ?idle, fun ha k x bs h hx => ?outside,
      fun ha k x bs h h1 h2 => ⟨fun hk => ?erases, fun hk => ?programs⟩⟩
    case eraseRefused => exact does_gatePair rfl hp (cfErase_refused L h)
    case eraseTaken => exact does_gatePair rfl hp (cfErase_taken L (not_opRefused L hb hf ha ho))
    case openRefused => exact does_gatePair rfl hp ((cfProgram_other L hl).trans (programOf_refused L _ h))
    case openTaken => exact does_gatePair rfl hp ((cfProgram_other L hl).trans (programOf_taken L _ (not_opRefused L hb hf ha ho)))
    case refused => exact does_gatePair rfl hp ((cfProgram_allowed L h1 h2 h3).trans (programOf_refused L L h))
    case taken => exact does_gatePair rfl hp ((cfProgram_allowed L h1 h2 h3).trans (programOf_taken L L (not_opRefused L hb hf ha ho)))
    case idle => exact does_gate rfl ha (cfOpDone_none L h)
    case outside => exact does_gate rfl ha (cfOpDone_outside L h hx)
    case erases => exact does_gate rfl ha ((cfOpDone_inside L h h1 h2).trans (if_pos hk))
    case programs => exact does_gate rfl ha ((cfOpDone_inside L h h1 h2).trans (if_neg hk))
  case log =>
    intro s l t L ha
    refine ⟨fun h => ?empty, fun r q h => ⟨fun hf => ?hot, fun hf => ⟨fun hd => ?writes, fun hd => ?tellsLosses⟩⟩⟩
    case empty => exact does_gate rfl ha (logRecordWrite_empty L h)
    case hot => exact does_gate rfl ha (logRecordWrite_hot L h hf)
    case writes => exact does_gate rfl ha ((logRecordWrite_writes L h hf).trans (if_pos hd))
    case tellsLosses => exact does_gate rfl ha ((logRecordWrite_writes L h hf).trans (if_neg hd))

end Sys2Proof.Proofs
end

section
/-! PROOFS. The helm pair's checkers and its halt (R328 to R331, R350, R390), and the claim, vector and completion of interrupts (R332, R338, R339). -/

namespace Sys2Proof.Proofs

open Sys2Proof.Machine Sys2Proof.Laws

variable (L : Lane)

/-! ### Checkers -/

theorem pairMismatch_ran (h : L.pairRan = true) : L.pairMismatch = L.fault 7 0xFFFF := if_pos h

theorem pairMismatch_halted (h : L.pairRan = false) : L.pairMismatch = L := if_neg (by simp [h])

theorem compareTimeout_early {n : Nat} (h : n < 1024) : L.compareTimeout n = L := if_pos h

theorem compareTimeout_late {n : Nat} (h : 1024 ≤ n) : L.compareTimeout n = L.pairMismatch := if_neg (Nat.not_lt.2 h)

theorem compareTimeout_idle {n : Nat} (h : n < 1024 ∨ L.pairRan = false) : L.compareTimeout n = L := by
  by_cases hn : n < 1024
  · exact compareTimeout_early L hn
  · exact (compareTimeout_late L (Nat.not_lt.1 hn)).trans (pairMismatch_halted L (h.resolve_left hn))

theorem interruptTake_takes (n : Nat) (hh : L.ic.halted = false) (hm : L.meip = true) :
    L.interruptTake n = { L with ic := { L.ic with retired := n, taken := (L.bestSrc false).map (fun x => (n, x)) } } :=
  if_neg (by simp [hh, hm])

theorem interruptTake_idle (n : Nat) (h : L.ic.halted = true ∨ L.meip = false) : L.interruptTake n = L :=
  if_pos (by rcases h with h | h <;> simp [h])

/-! ### A pair that issues nothing -/

theorem pairActs_idle {d : Domain} {b : Nat} (h : L.ic.halted = true ∨ L.acts .core 0x20 = false) : L.pairActs d b = false := by
  rcases h with h | h <;> simp [Lane.pairActs, h]

/-- A pair that is halted or stopped stores nothing. -/
theorem gate_pairWrite_idle (a : Nat) (x : StoreData) (h : L.ic.halted = true ∨ L.acts .core 0x20 = false) :
    gate .core 0x20 (Lane.pairWrite a x) L = L := by
  cases ha : L.acts .core 0x20
  · exact gate_off _ ha
  · exact (gate_on _ ha).trans (pairWrite_halted L x (h.resolve_right (by simp [ha])))

/-! ### Claim -/

section Claim

variable (yard : Bool)

/-- What a claim reads at its target: the yard core as it comes, the helm pair through the agreement buffer (R332). -/
def claimRead (M : Lane) (w : Word) : Lane := if yard then { M with rdata := w, busErr := false } else M.leadRead w

/-- Source `n` active, the threshold stacked and raised to its level, and the claim counted (R338). -/
def claimed (n : Nat) : Lane :=
  let A := L.setThreshold yard (max (L.threshold yard) (L.srcLevel n)) (L.threshold yard :: L.thrStack yard)
  ({ A with ic := { A.ic with active := n :: A.ic.active } }).tally 22 ((if yard then 8 else 0) + A.srcLevel n)

theorem claimSrc_none (h : L.bestSrc yard = none) : L.claimSrc yard = (none, L) := by simp only [Lane.claimSrc, h]

theorem claimSrc_full {n : Nat} (h : L.bestSrc yard = some n) (hf : 7 ≤ (L.thrStack yard).length) : L.claimSrc yard = (none, L) := by
  simp only [Lane.claimSrc, h, if_pos hf]

theorem claimSrc_some {n : Nat} (h : L.bestSrc yard = some n) (hf : (L.thrStack yard).length < 7) :
    L.claimSrc yard = (some n, claimed L yard n) := by
  simp only [Lane.claimSrc, h, if_neg (Nat.not_le.2 hf)]
  rfl

theorem icClaim_halted (h : L.ic.halted = true) : L.icClaim false = L := if_pos (by simp [h])

variable (h : yard = true ∨ L.ic.halted = false)
include h

theorem icClaim_nothing (hc : L.claimSrc yard = (none, L)) : L.icClaim yard = claimRead yard L 0 := by
  unfold Lane.icClaim
  rw [if_neg (by rcases h with h | h <;> simp [h]), hc]
  rfl

theorem icClaim_source {n : Nat} (hc : L.claimSrc yard = (some n, claimed L yard n)) :
    L.icClaim yard = claimRead yard (claimed L yard n) (BitVec.ofNat 32 (2 ^ 31 + 256 * L.srcLevel n + n)) := by
  unfold Lane.icClaim
  rw [if_neg (by rcases h with h | h <;> simp [h]), hc]
  rfl

end Claim

/-! ### Completion -/

section Complete

variable (yard : Bool)

theorem icComplete_ignored {n : Nat} (h : n ∉ L.ic.active ∨ L.srcTarget n ≠ yard) : L.icComplete yard n = L :=
  if_pos (by rcases h with h | h <;> simp [h])

theorem icComplete_halted (n : Nat) (h : L.ic.halted = true) : L.icComplete false n = L := if_pos (by simp [h])

/-- An event of the source that falls in the cycle of its completion (R13, R339). -/
def srcAgain (n : Nat) : Bool := bit (L.setNow (F.IC_PEND.addr 0 (n / 32))) (n % 32)

/-- Source `n` ended, but for an event of the same cycle. -/
def srcEnded (n : Nat) : Lane :=
  { L with ic := { L.ic with active := L.ic.active.filter (fun x => x != n), latched := putBit L.ic.latched n (srcAgain L n) } }

/-- The stacked threshold of a target restored. -/
def thresholdBack (M : Lane) : Lane :=
  match M.thrStack yard with
  | [] => M
  | x :: st => M.setThreshold yard x st

theorem thresholdBack_empty {M : Lane} (h : M.thrStack yard = []) : thresholdBack yard M = M := by simp only [thresholdBack, h]

theorem thresholdBack_stacked {M : Lane} {x : Nat} {st : List Nat} (h : M.thrStack yard = x :: st) :
    thresholdBack yard M = M.setThreshold yard x st := by
  simp only [thresholdBack, h]

/-- The mailbox of the yard core read (R349): its doorbell falls. -/
def mailRead (M : Lane) : Lane := ({ M with ic := { M.ic with mail := false } }).setFld F.IC_YARD_DOORBELL_Y 0

theorem thrStack_mailRead (M : Lane) : (mailRead M).thrStack yard = M.thrStack yard := by cases yard <;> rfl

variable {n : Nat} (ha : n ∈ L.ic.active) (ht : L.srcTarget n = yard) (h : yard = true ∨ L.ic.halted = false)
include ha ht h

theorem icComplete_ends : L.icComplete yard n = thresholdBack yard ((srcEnded L n).when (n == 115 && !(srcAgain L n)) mailRead) := by
  have hc : (!(L.ic.active.contains n) || L.srcTarget n != yard || (!yard && L.ic.halted)) = false := by
    rcases h with h | h <;> simp [ha, ht, h]
  unfold Lane.icComplete
  rw [hc]
  rfl

theorem icComplete_other (hn : n ≠ 115) : L.icComplete yard n = thresholdBack yard (srcEnded L n) := by
  rw [icComplete_ends L yard ha ht h, beq_eq_false_iff_ne.2 hn, Bool.false_and, when_false]

end Complete

/-- The completed message of the yard core takes its doorbell down, unless it is rung again in the same cycle. -/
theorem icComplete_mail (yard : Bool) (ha : 115 ∈ L.ic.active) (ht : L.srcTarget 115 = yard) (h : yard = true ∨ L.ic.halted = false)
    (hs : L.thrStack yard = []) (hn : srcAgain L 115 = false) : L.icComplete yard 115 = mailRead (srcEnded L 115) := by
  have hk : (srcEnded L 115).thrStack yard = [] := hs
  have hm : ((115 : Nat) == 115 && !(srcAgain L 115)) = true := by rw [hn]; rfl
  rw [icComplete_ends L yard ha ht h, hm, when_true, thresholdBack_empty yard ((thrStack_mailRead yard _).trans hk)]

/-- Settles O50: the checkers by whether the pair ran, its accesses by the halt, a claim by the best source and the stack, a completion by what is
active at its target. -/
theorem helmPairAndInterrupts : Obligations.HelmPairAndInterrupts := by
  refine ⟨?checkers, ?halted, ?interrupts⟩
  case checkers =>
    intro s l t n L ha
    refine ⟨fun h => does_gate rfl ha (pairMismatch_halted L h), fun h => does_gate rfl ha (pairMismatch_ran L h), fun hn h => ?late,
      does_gate rfl ha rfl, fun h => does_gate rfl ha (compareTimeout_idle L h), fun hh hm => does_gate rfl ha (interruptTake_takes L n hh hm),
      fun h => does_gate rfl ha (interruptTake_idle L n h)⟩
    case late => exact does_gate rfl ha ((compareTimeout_late L hn).trans (pairMismatch_ran L h))
  case halted =>
    intro s l t g e p v n a k x L h
    have issuesNone {i : Instr} {d : Domain} {b : Nat} {f : Lane → Lane} (hi : exec i s = onLane l t (gatePair d b f) s) : Does i l t s L :=
      does_of rfl hi (gatePair_off f (pairActs_idle L h))
    iterate 40 refine ⟨issuesNone rfl, ?_⟩
    exact does_of rfl rfl (gate_pairWrite_idle L a x h)
  case interrupts =>
    intro s l t yard L answers
    refine ⟨fun ha h => ⟨fun hb => ?nothing, fun n hb hf => ?full, fun n hb hf => ?claims, fun n hn => ?ignored,
      fun n hact ht hn => ⟨fun hs => ?unstacked, fun y st hs => ?restores⟩, fun hact ht hs hn => ?mail⟩,
      fun ha h => ⟨does_gate rfl ha (icClaim_halted L h), fun n => does_gate rfl ha (icComplete_halted L n h)⟩, fun hp => does_gatePair rfl hp rfl⟩
    case nothing => exact does_gate rfl ha (icClaim_nothing L yard h (claimSrc_none L yard hb))
    case full => exact does_gate rfl ha (icClaim_nothing L yard h (claimSrc_full L yard hb hf))
    case claims => exact does_gate rfl ha (icClaim_source L yard h (claimSrc_some L yard hb hf))
    case ignored => exact does_gate rfl ha (icComplete_ignored L yard hn)
    case unstacked => exact does_gate rfl ha ((icComplete_other L yard hact ht h hn).trans (thresholdBack_empty yard hs))
    case restores => exact does_gate rfl ha ((icComplete_other L yard hact ht h hn).trans (thresholdBack_stacked yard hs))
    case mail =>
      have hend : srcEnded L 115 = { L with ic := { L.ic with active := L.ic.active.filter (fun x => x != 115), latched := putBit L.ic.latched 115 false } } := by
        rw [srcEnded, show srcAgain L 115 = false from hn]
      exact does_gate rfl ha ((icComplete_mail L yard hact ht h hs hn).trans (congrArg mailRead hend))

end Sys2Proof.Proofs
end

section
/-! PROOFS. Self-test (R364 to R374): programs, single steps and the token, the start of a slice and its end. -/

namespace Sys2Proof.Proofs

open Sys2Proof.Machine Sys2Proof.Laws

variable (L : Lane)

/-! ### Programs -/

/-- In Booting, the runtime entered and a sibling heard, the start-up program starts (R371, R440). -/
theorem startUpRun_starts (hk : L.ky.state = .booting) (hb : L.lc.booted = true) (hh : L.ic.halted = false) (hs : L.hears = true)
    (hp : L.st.prog = .idle) (ht : L.st.passed = false) : L.startUpRun = L.startProgram .startUp :=
  if_pos (by simp [hk, hb, hh, hs, hp, ht])

theorem startUpRun_elsewhere (hk : L.ky.state ≠ .booting) : L.startUpRun = L := if_neg (by simp [hk])

theorem deep_starts (hk : L.ky.state = .bench) (hp : L.st.prog = .idle) : L.deep = L.startProgram .deep := if_pos ⟨hk, hp⟩

theorem deep_idle (h : L.ky.state ≠ .bench ∨ L.st.prog ≠ .idle) : L.deep = L := if_neg fun ⟨hk, hp⟩ => h.elim (· hk) (· hp)

theorem stAbort_idle (h : L.st.prog = .idle) : L.stAbort = L := if_pos h

theorem stAbort_waits (h : L.st.prog ≠ .idle) (hs : L.st.slice.isSome = true) : L.stAbort = { L with st := { L.st with abortReq := true } } :=
  (if_neg h).trans (if_pos hs)

theorem stAbort_ends (h : L.st.prog ≠ .idle) (hs : L.st.slice = none) : L.stAbort = L.endRun := (if_neg h).trans (if_neg (by simp [hs]))

theorem step1_denied (h : L.directAllowed = false ∨ L.flag F.ST_CTRL_DIRECT = false) : L.step1 = L.raise F.ST_EVENT_DENIED :=
  if_pos (by rcases h with h | h <;> simp [h])

section Direct

variable (ha : L.directAllowed = true) (hd : L.flag F.ST_CTRL_DIRECT = true)
include ha hd

theorem step1_busy (hp : L.st.prog ≠ .idle) : L.step1 = L := (if_neg (by simp [ha, hd])).trans (if_pos hp)

theorem step1_runs (hp : L.st.prog = .idle) {u : Nat} (hu : (List.range 51).find? (fun u => bit L.selected u) = some u) :
    L.step1 = { L with st := { L.st with prog := .direct, todo := [u], spent := 0, runFail := false, abortReq := false } } := by
  unfold Lane.step1
  rw [if_neg (by simp [ha, hd]), if_neg (not_not_intro hp), hu]

end Direct

theorem periodicRunStart_idle (h : L.flag F.ST_CTRL_PERIODIC = false ∨ L.inSvcShadow = false ∨ L.now < L.st.cycleAt + sec L.st.cycleLen) :
    L.periodicRunStart = L :=
  if_pos (by rcases h with h | h | h <;> simp [h])

section Cycle

variable (hf : L.flag F.ST_CTRL_PERIODIC = true) (hs : L.inSvcShadow = true) (ht : L.st.cycleAt + sec L.st.cycleLen ≤ L.now)
include hf hs ht

theorem cycle_over : ¬ (!(L.flag F.ST_CTRL_PERIODIC) || !(L.inSvcShadow) || decide (L.now < L.st.cycleAt + sec L.st.cycleLen)) = true := by
  simp [hf, hs, Nat.not_lt.2 ht]

theorem periodicRunStart_starts (hp : L.st.prog = .idle) :
    L.periodicRunStart = ({ L with st := { L.st with cycleAt := L.now } }).startPeriodic :=
  (if_neg (cycle_over L hf hs ht)).trans ((if_neg (by simp [hp])).trans (if_pos hp))

theorem periodicRunStart_late (hp : L.st.prog = .periodic) : L.periodicRunStart =
    (({ L with st := { L.st with cycleAt := L.now, late := true } }).raise F.ST_EVENT_CYCLE_LATE).bump F.ST_CNT_CYCLE_LATE :=
  (if_neg (cycle_over L hf hs ht)).trans (if_pos hp)

end Cycle

/-! ### Token -/

theorem tokenCreate_idle (h : L.st.holds = true ∨ L.ky.state = .off ∨ L.now < L.st.lastPass + ms 1 ∨ L.tokenMaker = false ∨
    (L.ky.state ≠ .service ∧ L.hears = false)) : L.tokenCreate = L :=
  if_pos (by rcases h with h | h | h | h | ⟨hk, hh⟩ <;> simp [*])

theorem tokenCreate_creates (hh : L.st.holds = false) (hk : L.ky.state = .service ∨ (L.ky.state ≠ .off ∧ L.hears = true))
    (ht : L.st.lastPass + ms 1 ≤ L.now) (hm : L.tokenMaker = true) :
    let n := (L.st.num + 1) % 65536
    L.tokenCreate = ({ L with st := { L.st with
      num := n, holder := L.id.index, holds := true, lastHeld := L.st.lastHeld.set L.id.index n, lastPass := L.now } }).raise F.ST_EVENT_TOKEN_NEW :=
  if_neg (by rcases hk with hk | ⟨hk, hs⟩ <;> simp [*])

/-! ### The start of a slice -/

/-- The lane with the start-up program begun where it is due, and the units that need no slice judged. -/
def sliceReady : Lane := L.startUpRun.skipContinuous

theorem sliceStart_done (n : Nat) (h : (sliceReady L).st.todo = []) : L.sliceStart n = sliceReady L := by
  simp only [Lane.sliceStart, show L.startUpRun.skipContinuous.st.todo = [] from h]
  rfl

section Slice

variable {n u : Nat} {us_ : List Nat}

/-- The slice of unit `u` begun. -/
def sliceBegun (M : Lane) (u n : Nat) : Lane :=
  let x : SliceS := { unit := u, began := M.now, len := n, group := M.st.replay, inputs := none, copy := bit M.st.copy u }
  ({ M with st := { M.st with slice := some x, unit := u } }).setFld F.ST_UNIT_STATUS 3 0 u

/-- What forbids a slice of `n` µs in this tick, whatever its unit (R367, R368). -/
def sliceForbidden (M : Lane) (n : Nat) : Bool :=
  !M.st.holds || M.st.slice.isSome || M.st.prog == .idle || M.ky.state == .withdrawn || M.ky.state == .off || n == 0 || decide (50 < n)
    || decide (M.ky.boundary + us 50 < M.now + us (n + 3))

theorem sliceStart_next (h : (sliceReady L).st.todo = u :: us_) : L.sliceStart n =
    if sliceForbidden (sliceReady L) n || !((sliceReady L).powered (unitDomain u)) || !((sliceReady L).gapFree u n) then sliceReady L
    else sliceBegun (sliceReady L) u n := by
  unfold Lane.sliceStart
  extract_lets M
  split
  case h_1 hn => exact absurd (h.symm.trans hn) (List.cons_ne_nil _ _)
  case h_2 v vs hv =>
    obtain ⟨rfl, -⟩ := List.cons.inj (h.symm.trans hv)
    rfl

theorem sliceForbidden_false {M : Lane} (hh : M.st.holds = true) (hs : M.st.slice = none) (hp : M.st.prog ≠ .idle) (hw : M.ky.state ≠ .withdrawn)
    (ho : M.ky.state ≠ .off) (h0 : 0 < n) (hn : n ≤ 50) (ht : M.now + us (n + 3) ≤ M.ky.boundary + us 50) : sliceForbidden M n = false := by
  simp [sliceForbidden, *, Nat.pos_iff_ne_zero.1 h0]

variable (h : (sliceReady L).st.todo = u :: us_) (hf : sliceForbidden (sliceReady L) n = false)
include h hf

theorem sliceStart_begins (hd : (sliceReady L).powered (unitDomain u) = true) (hg : (sliceReady L).gapFree u n = true) :
    L.sliceStart n = sliceBegun (sliceReady L) u n :=
  (sliceStart_next L h).trans (if_neg (by simp [hf, hd, hg]))

omit hf in
theorem sliceStart_waits (hw : (sliceReady L).powered (unitDomain u) = false ∨ (sliceReady L).gapFree u n = false) :
    L.sliceStart n = sliceReady L :=
  (sliceStart_next L h).trans (if_pos (by rcases hw with hw | hw <;> simp [hw]))

end Slice

/-! ### The end of a slice -/

theorem sliceEnd_none (p k : Bool) (sig : Word) (h : L.st.slice = none) : L.sliceEnd p k sig = L := by simp only [Lane.sliceEnd, h]

/-- What a run does once a slice of it has been judged. -/
def sliceClosed (M : Lane) : Lane :=
  if M.st.prog = .idle then M
  else if M.st.abortReq then M.endRun
  else if M.st.prog = .direct then { M with st := { M.st with prog := .idle, todo := [] } }
  else if M.skipContinuous.st.todo = [] then M.skipContinuous.runDone else M.skipContinuous

/-- A single step is over with its slice (R374). -/
theorem sliceClosed_direct {M : Lane} (hp : M.st.prog = .direct) (ha : M.st.abortReq = false) :
    sliceClosed M = { M with st := { M.st with prog := .idle, todo := [] } } := by
  unfold sliceClosed
  rw [if_neg (by simp [hp]), if_neg (by simp [ha]), if_pos hp]

@[simp] theorem tally_st (b i n : Nat) : (L.tally b i n).st = L.st := by
  obtain ⟨_, _, _, h⟩ := tally_sameButTallies L b i n
  rw [h]

section End

variable (x : SliceS)

/-- What a slice of a unit showed: of a duplicated unit, whether its signature is that of the boot ROM (R366). -/
def slicePassed (p : Bool) (sig : Word) : Bool := if signatureUnit x.unit then sig == Config.lbistSig dieSet x.unit else p

/-- The slice counted and ended, with the time and the units that it leaves; the copies of a duplicated unit act in turn. -/
def sliceTaken (spent : Nat) (todo : List Nat) : Lane :=
  let A := L.tally 4 0
  { A with st := { A.st with
    slice := none, spent := spent, todo := todo
    copy := if signatureUnit x.unit then putBit A.st.copy x.unit (!(bit A.st.copy x.unit)) else A.st.copy } }

theorem sliceTaken_signature (hs : signatureUnit x.unit = true) (spent : Nat) (todo : List Nat) :
    let A := L.tally 4 0
    sliceTaken L x spent todo = { A with st := { A.st with
      slice := none, spent := spent, todo := todo, copy := putBit A.st.copy x.unit (!(bit A.st.copy x.unit)) } } := by
  simp only [sliceTaken, if_pos hs]

theorem sliceTaken_plain (hs : signatureUnit x.unit = false) (spent : Nat) (todo : List Nat) :
    let A := L.tally 4 0
    sliceTaken L x spent todo = { A with st := { A.st with slice := none, spent := spent, todo := todo } } := by
  simp only [sliceTaken, hs, Bool.false_eq_true, if_false]

/-- The lane as the end of a slice outside the periodic program leaves it to the run: a unit that is not done keeps its turn and shows its time, one
that is done its result. -/
def sliceJudged (pass done : Bool) (sig : Word) : Lane :=
  let spent := L.st.spent + x.len
  let B := (sliceTaken L x (if done then 0 else spent) (if done then (L.tally 4 0).st.todo.drop 1 else (L.tally 4 0).st.todo)).when
    (signatureUnit x.unit) (·.setWord F.ST_SIG sig 0 x.unit)
  if !done then B.setWord F.ST_DUR (BitVec.ofNat 32 spent) 0 x.unit
  else if pass then (B.unitResult x.unit 1 (B.covOf x.unit) spent).when (B.st.prog != .startUp) (·.setFailed x.unit false)
  else (B.unitResult x.unit 2 (B.covOf x.unit) spent).unitFail x.unit x.group

/-- The unit keeps its turn. -/
theorem sliceJudged_kept (sig : Word) : sliceJudged L x true false sig =
    ((sliceTaken L x (L.st.spent + x.len) (L.tally 4 0).st.todo).when (signatureUnit x.unit) (·.setWord F.ST_SIG sig 0 x.unit)).setWord
      F.ST_DUR (BitVec.ofNat 32 (L.st.spent + x.len)) 0 x.unit := rfl

/-- The unit is done, and passed. -/
theorem sliceJudged_done (hs : signatureUnit x.unit = false) (sig : Word) :
    let B := sliceTaken L x 0 ((L.tally 4 0).st.todo.drop 1)
    sliceJudged L x true true sig =
      (B.unitResult x.unit 1 (B.covOf x.unit) (L.st.spent + x.len)).when (B.st.prog != .startUp) (·.setFailed x.unit false) := by
  unfold sliceJudged
  rw [hs]
  rfl

variable {x} (h : L.st.slice = some x)
include h

theorem sliceEnd_running (p k : Bool) (sig : Word) (ht : L.now < x.began + us x.len) : L.sliceEnd p k sig = L := by
  simp only [Lane.sliceEnd, h, if_pos ht]

variable (ht : x.began + us x.len ≤ L.now) (hp : L.st.prog = .direct)
include ht hp

/-- The end of the slice of a single step (R374). -/
theorem sliceEnd_direct (p k : Bool) (sig : Word) :
    L.sliceEnd p k sig = sliceClosed (sliceJudged L x (slicePassed x p sig) (!(slicePassed x p sig) || k) sig) := by
  unfold Lane.sliceEnd
  rw [h]
  dsimp only
  rw [if_neg (Nat.not_lt.2 ht), hp]
  rfl

end End

/-- Settles O53: each command by its program and its conditions, the token by who may make it, a slice by its unit and by whether it is over. -/
theorem selfTestRunsAndSlices : Obligations.SelfTestRunsAndSlices := by
  refine ⟨?runs, ?ends⟩
  case runs =>
    intro s l t L ha
    refine ⟨startUpRun_starts L, startUpRun_elsewhere L, fun n h => does_gate rfl ha (sliceStart_done L n h), fun n u us_ hu hh hs hp hw ho h0 hn ht => ?slice,
      fun hp hk hi => does_gatePair rfl hp (deep_starts L hk hi), fun hp h => does_gatePair rfl hp (deep_idle L h),
      fun hp h => does_gatePair rfl hp (stAbort_idle L h), fun hp h hs => does_gatePair rfl hp (stAbort_waits L h hs),
      fun hp h hs => does_gatePair rfl hp (stAbort_ends L h hs), fun hp h hd hf => does_gatePair rfl hp (step1_busy L hd hf h),
      fun hp h => does_gatePair rfl hp (step1_denied L h), fun hp u hd hf hi hu => does_gatePair rfl hp (step1_runs L hd hf hi hu),
      fun h => does_gate rfl ha (periodicRunStart_idle L h), fun hf hs ht hp => does_gate rfl ha (periodicRunStart_starts L hf hs ht hp),
      fun hf hs ht hp => does_gate rfl ha (periodicRunStart_late L hf hs ht hp), fun h => does_gate rfl ha (tokenCreate_idle L h),
      fun hh hk ht hm => does_gate rfl ha (tokenCreate_creates L hh hk ht hm)⟩
    have hfree := sliceForbidden_false hh hs hp hw ho h0 hn ht
    exact ⟨fun hd hg => does_gate rfl ha (sliceStart_begins L hu hfree hd hg), fun hw => does_gate rfl ha (sliceStart_waits L hu hw)⟩
  case ends =>
    intro s l t sig L ha
    refine ⟨fun h p k => does_gate rfl ha (sliceEnd_none L p k sig h), fun x h => ⟨fun ht p k => does_gate rfl ha (sliceEnd_running L h p k sig ht),
      fun ht hs hp hq p => ?signature, fun ht hs hp hq => ⟨fun hcp hcq => ?kept, fun hdp hdq => ?done⟩⟩⟩
    case signature =>
      have hpass : slicePassed x p (Config.lbistSig dieSet x.unit) = true := by simp [slicePassed, hs]
      have hj := sliceJudged_kept L x (Config.lbistSig dieSet x.unit)
      rw [hs, when_true] at hj
      refine does_gate rfl ha ((sliceEnd_direct L h ht hp p false _).trans ?_)
      rw [hpass, Bool.not_true, Bool.or_false, hj, sliceTaken_signature L x hs]
      exact sliceClosed_direct (by simpa using hp) (by simpa using hq)
    case kept =>
      have hpass : slicePassed x true sig = true := by simp [slicePassed, hs]
      have hj := sliceJudged_kept L x sig
      rw [hs, when_false, sliceTaken_plain L x hs] at hj
      refine does_gate rfl ha ((sliceEnd_direct L h ht hp true false sig).trans ?_)
      rw [hpass, Bool.not_true, Bool.or_false, hj, sliceClosed_direct hcp hcq]
    case done =>
      have hpass : slicePassed x true sig = true := by simp [slicePassed, hs]
      have hj := sliceJudged_done L x hs sig
      rw [sliceTaken_plain L x hs] at hj
      refine does_gate rfl ha ((sliceEnd_direct L h ht hp true true sig).trans ?_)
      rw [hpass, Bool.or_true, hj, sliceClosed_direct hdp hdq]

end Sys2Proof.Proofs
end

section
/-! PROOFS. Tallies, snapshots, peek, attic and core counters (R375 to R383). -/

namespace Sys2Proof.Proofs

open Sys2Proof.Machine Sys2Proof.Laws

variable (L : Lane)

/-! ### Windows and snapshots -/

/-- The ticks since the window began. -/
def windowTicks : Nat := (L.ky.tick + 2 ^ 32 - L.tl.windowAt) % 2 ^ 32

theorem tallyWindowEnd_within (xs : List (Nat × Nat)) (h : L.nowCycle L.ky.boundary = false ∨ windowTicks L < L.tl.windowLen) :
    L.tallyWindowEnd xs = L :=
  if_pos (by simpa [windowTicks] using h)

theorem tallyWindowEnd_latches (xs : List (Nat × Nat)) (hb : L.nowCycle L.ky.boundary = true) (hw : L.tl.windowLen ≤ windowTicks L) :
    let M := L.tallyOutside xs
    L.tallyWindowEnd xs = { M with tl := { M.tl with
      latch := some (M.devTime, (L.tallyUndo.tallyOutside xs).tl.live), snapLen := M.tl.windowLen / 20, windowAt := M.ky.tick,
      windowLen := 20 * M.windowMs } } :=
  if_neg (by simpa [hb, windowTicks] using hw)

theorem snapshotReady_none (h : L.tl.latch = none) : L.snapshotReady = L := by simp only [Lane.snapshotReady, h]

/-- The latched snapshot readable, with its derived figures and its number (R377, R379, R380). -/
def snapShown (x : Nat × List (Nat × Nat)) : Lane :=
  let A : Lane := { L with tl := { L.tl with prev := L.tl.snap, snap := x.2, snapTime := x.1, latch := none } }
  let B := (List.range 10).foldl (fun (L : Lane) k => L.setF32 F.TL_BW (L.bandwidth k) 0 k) A
  let C := (List.range 8).foldl (fun (L : Lane) k => L.setFld F.TL_TD_SHARE (L.slotShare (k / 4) (k % 4)) 0 k) B
  (C.setWord F.TL_SNAPNUM (C.word F.TL_SNAPNUM + 1)).raise F.TL_EVENT_SNAP

section Latched

variable {x : Nat × List (Nat × Nat)} (h : L.tl.latch = some x)
include h

theorem snapshotReady_latched : L.snapshotReady =
    if !((snapShown L x).streamOn 1) then snapShown L x
    else if (snapShown L x).en.snapOut.isSome then ((snapShown L x).raise F.TL_EVENT_SKIP).bump F.TL_CNT_SKIP
    else { snapShown L x with en := { (snapShown L x).en with snapOut := some (0, (snapShown L x).snapObject) } } := by
  unfold Lane.snapshotReady
  rw [h]
  rfl

theorem snapshotReady_alone (ho : (snapShown L x).streamOn 1 = false) : L.snapshotReady = snapShown L x :=
  (snapshotReady_latched L h).trans (if_pos (by simp [ho]))

variable (ho : (snapShown L x).streamOn 1 = true)
include ho

/-- Stream 1 skips a snapshot that meets the one before it still being sent (R385). -/
theorem snapshotReady_skipped (hs : (snapShown L x).en.snapOut.isSome = true) :
    L.snapshotReady = ((snapShown L x).raise F.TL_EVENT_SKIP).bump F.TL_CNT_SKIP :=
  (snapshotReady_latched L h).trans ((if_neg (by simp [ho])).trans (if_pos hs))

theorem snapshotReady_sent (hs : (snapShown L x).en.snapOut = none) : L.snapshotReady =
    { snapShown L x with en := { (snapShown L x).en with snapOut := some (0, (snapShown L x).snapObject) } } :=
  (snapshotReady_latched L h).trans ((if_neg (by simp [ho])).trans (if_neg (by simp [hs])))

end Latched

/-! ### Peek -/

/-- A read of the peek register gives the low word of `w` and holds the high one. -/
def peeked (w : Nat) : Lane := ({ L with tl := { L.tl with peekHi := BitVec.ofNat 32 (w / 2 ^ 32) } } : Lane).leadRead (BitVec.ofNat 32 w)

theorem tlPeekRead_tally (h : L.fld F.TL_PEEK_BLOCK ≤ 22) :
    L.tlPeekRead = peeked L (L.tallyWord (L.fld F.TL_PEEK_BLOCK) (L.fld F.TL_PEEK_INDEX)) :=
  congrArg (peeked L) (if_pos h)

theorem tlPeekRead_none (h : 22 < L.fld F.TL_PEEK_BLOCK) : L.tlPeekRead = peeked L 0 := congrArg (peeked L) (if_neg (Nat.not_le.2 h))

/-! ### Attic -/

section Attic

variable (c : Nat) (pc i d : Word) (n : Nat) (u b : Bool)

/-- The attic takes an event of code `c` (R382). -/
def atticTakes (M : Lane) : Bool :=
  M.flag F.TL_ASAMP_AEN && !M.tl.atticStop && !M.tl.atticFull && c == M.fld F.TL_ASAMP_EVENT && atticEvent c

/-- A record that is due: dropped by a writer that is busy, else written (R383). -/
def atticRecorded (M : Lane) : Lane :=
  let N : Lane := { M with tl := { M.tl with occ := 0 } }
  if b then (N.raise F.TL_EVENT_ADROP).bump F.TL_CNT_ADROP else N.atticWrite (N.atticRecord c pc i (if dataEvent c i then d else 0) n u)

theorem atticSample_eq : L.atticSample c pc i d n u b =
    if !(atticTakes c (L.coreEvent c)) then L.coreEvent c
    else if (L.coreEvent c).tl.occ + 1 < (L.coreEvent c).fld1 F.TL_ASAMP_PERIOD then
      { L.coreEvent c with tl := { (L.coreEvent c).tl with occ := (L.coreEvent c).tl.occ + 1 } }
    else atticRecorded c pc i d n u b (L.coreEvent c) := by
  simp only [atticTakes, Bool.not_and, Bool.not_not]
  rfl

theorem atticSample_other (h : (L.coreEvent c).flag F.TL_ASAMP_AEN = false ∨ (L.coreEvent c).tl.atticStop = true ∨
    (L.coreEvent c).tl.atticFull = true ∨ c ≠ (L.coreEvent c).fld F.TL_ASAMP_EVENT ∨ atticEvent c = false) :
    L.atticSample c pc i d n u b = L.coreEvent c := by
  rw [atticSample_eq]
  exact if_pos (by rcases h with h | h | h | h | h <;> simp [atticTakes, h])

section Takes

variable {c} (h : atticTakes c (L.coreEvent c) = true)
include h

theorem atticSample_counts (hn : (L.coreEvent c).tl.occ + 1 < (L.coreEvent c).fld1 F.TL_ASAMP_PERIOD) :
    L.atticSample c pc i d n u b = { L.coreEvent c with tl := { (L.coreEvent c).tl with occ := (L.coreEvent c).tl.occ + 1 } } := by
  rw [atticSample_eq]
  exact (if_neg (by simp [h])).trans (if_pos hn)

theorem atticSample_due (hn : (L.coreEvent c).fld1 F.TL_ASAMP_PERIOD ≤ (L.coreEvent c).tl.occ + 1) :
    L.atticSample c pc i d n u b = atticRecorded c pc i d n u b (L.coreEvent c) := by
  rw [atticSample_eq, if_neg (by simp [h]), if_neg (Nat.not_lt.2 hn)]

end Takes

end Attic

/-! ### Core counters -/

section Counters

variable (v : Word) {k : Nat}

theorem hpmCounterWrite_low (hk : k < 29) : L.hpmCounterWrite (0xB03 + k) v = L.tallyWrite 5 k (L.tallyStart 5 k / 2 ^ 32 * 2 ^ 32 + v.toNat) := by
  unfold Lane.hpmCounterWrite
  rw [if_pos (by omega), Nat.add_sub_cancel_left]

theorem hpmCounterWrite_high (hk : k < 29) :
    L.hpmCounterWrite (0xB83 + k) v = L.tallyWrite 5 k (v.toNat % 65536 * 2 ^ 32 + L.tallyStart 5 k % 2 ^ 32) := by
  unfold Lane.hpmCounterWrite
  rw [if_neg (by omega), if_pos (by omega), Nat.add_sub_cancel_left]

theorem hpmCounterWrite_selection (hk : k < 29) :
    L.hpmCounterWrite (0x323 + k) v = { L with tl := { L.tl with hpm := L.tl.hpm.set k (hpmSelect v.toNat) } } := by
  unfold Lane.hpmCounterWrite
  iterate 6 rw [if_neg (by omega)]
  rw [if_pos (by omega), Nat.add_sub_cancel_left]

theorem hpmCounterWrite_other (hk : k < 0x323) : L.hpmCounterWrite k v = L := by
  unfold Lane.hpmCounterWrite
  iterate 7 rw [if_neg (by omega)]

theorem tallyStart_quiet {b i : Nat} (h : L.tallyNow b i = 0) : L.tallyStart b i = L.tallyWord b i % 2 ^ 48 := by
  rw [Lane.tallyStart, h]
  omega

theorem tallyWrite_quiet {b i : Nat} (x : Nat) (h : L.tallyNow b i = 0) :
    (L.tallyWrite b i x).tl.live = cellSet 0 L.tl.live (64 * b + i) (L.tallyWord b i / 2 ^ 48 * 2 ^ 48 + x % 2 ^ 48) := by
  unfold Lane.tallyWrite
  extract_lets n M T N
  rw [if_pos h]
  rfl

/-- A count written to a tally that has counted nothing in this cycle leaves the wrap flag and the wrap count (R381). -/
theorem tallyWord_tallyWrite {b i x : Nat} (h : L.tallyNow b i = 0) (hx : x < 2 ^ 48) :
    (L.tallyWrite b i x).tallyWord b i = L.tallyWord b i / 2 ^ 48 * 2 ^ 48 + x := by
  rw [Lane.tallyWord, tallyWrite_quiet L x h, cellGet_set_same, Nat.mod_eq_of_lt hx]

theorem readCsr_countLow (hk : k < 29) : L.readCsr false (0xB03 + k) = some (BitVec.ofNat 32 (L.tallyWord 5 k % 2 ^ 48)) := by
  unfold Lane.readCsr
  iterate 11 rw [if_neg (by omega)]
  rw [if_neg Bool.false_ne_true, if_neg (by omega), if_pos (by omega), show (0xB03 + k) % 256 - 3 = k by omega]

theorem readCsr_countHigh (hk : k < 29) : L.readCsr false (0xB83 + k) = some (BitVec.ofNat 32 (L.tallyWord 5 k % 2 ^ 48 / 2 ^ 32)) := by
  unfold Lane.readCsr
  iterate 11 rw [if_neg (by omega)]
  rw [if_neg Bool.false_ne_true, if_neg (by omega), if_neg (by omega), if_pos (by omega), show (0xB83 + k) % 128 - 3 = k by omega]

/-- The count of a written tally is the value written. -/
theorem tallyCount_tallyWrite {b i x : Nat} (h : L.tallyNow b i = 0) (hx : x < 2 ^ 48) : (L.tallyWrite b i x).tallyWord b i % 2 ^ 48 = x := by
  rw [tallyWord_tallyWrite L h hx]
  omega

/-- So the two halves of a counter read back as written. -/
theorem readCsr_tallyWrite (hk : k < 29) {x : Nat} (h : L.tallyNow 5 k = 0) (hx : x < 2 ^ 48) :
    (L.tallyWrite 5 k x).readCsr false (0xB03 + k) = some (BitVec.ofNat 32 (x % 2 ^ 32)) ∧
      (L.tallyWrite 5 k x).readCsr false (0xB83 + k) = some (BitVec.ofNat 32 (x / 2 ^ 32)) := by
  have hlow : BitVec.ofNat 32 (x % 2 ^ 32) = BitVec.ofNat 32 x := BitVec.eq_of_toNat_eq (by simp)
  rw [readCsr_countLow _ hk, readCsr_countHigh _ hk, tallyCount_tallyWrite L h hx, hlow]
  exact ⟨rfl, rfl⟩

end Counters

/-- Settles O56: the window by its length, the snapshot by stream 1, the attic by what it takes and its period, the counters by their address. -/
theorem talliesAtticAndCoreCounters : Obligations.TalliesAtticAndCoreCounters := by
  refine ⟨?tallies, ?counters⟩
  case tallies =>
    intro s l t L since ha
    refine ⟨fun xs h => does_gate rfl ha (tallyWindowEnd_within L xs h), fun xs hb hw => does_gate rfl ha (tallyWindowEnd_latches L xs hb hw),
      fun h => does_gate rfl ha (snapshotReady_none L h), fun x h => ?snapshot, fun hp => does_gatePair rfl hp rfl, fun hp => does_gatePair rfl hp rfl,
      fun hp h => does_gatePair rfl hp (tlPeekRead_tally L h), fun hp h => does_gatePair rfl hp (tlPeekRead_none L h), fun c pc i d n u b => ?attic⟩
    case snapshot =>
      exact ⟨fun ho => does_gate rfl ha (snapshotReady_alone L h ho), fun ho hs => does_gate rfl ha (snapshotReady_skipped L h ho hs),
        fun ho hs => does_gate rfl ha (snapshotReady_sent L h ho hs)⟩
    case attic =>
      refine ⟨fun h => does_gate rfl ha (atticSample_other L c pc i d n u b h), fun hen hstop hfull hc hev => ?takes⟩
      have ht : atticTakes c (L.coreEvent c) = true := by simpa [atticTakes, hen, hstop, hfull, hev] using hc
      exact ⟨fun hn => does_gate rfl ha (atticSample_counts L pc i d n u b ht hn),
        fun hn => ⟨does_gate rfl ha (atticSample_due L pc i d n u true ht hn), does_gate rfl ha (atticSample_due L pc i d n u false ht hn)⟩⟩
  case counters =>
    intro s l t v k L hp
    refine ⟨fun hk => ⟨does_gatePair rfl hp (hpmCounterWrite_low L v hk), does_gatePair rfl hp (hpmCounterWrite_high L v hk),
      fun h => ⟨tallyStart_quiet L h, fun x hx => ⟨tallyWord_tallyWrite L h hx, readCsr_tallyWrite L hk h hx⟩⟩,
      does_gatePair rfl hp (hpmCounterWrite_selection L v hk)⟩, does_gatePair rfl hp rfl, does_gatePair rfl hp rfl, does_gatePair rfl hp rfl,
      does_gatePair rfl hp rfl, fun hk => does_gatePair rfl hp (hpmCounterWrite_other L v hk)⟩

end Sys2Proof.Proofs
end

section
/-! PROOFS. Sleep: its command, prepare, drain (R388 to R395). -/

namespace Sys2Proof.Proofs

open Sys2Proof.Machine Sys2Proof.Laws

variable (L : Lane)

/-! ### The command -/

/-- The blocks are asked in stop order. -/
def sleepAsked (k : Bool) : Lane :=
  { L with pm := { L.pm with
    level := .entering, fromDoze := L.pm.level == .doze, phase := .prepare, cellar := k, ask := stopOrder k, acked := [], askedAt := L.now, phaseAt := L.now, wakes := 0 } }

theorem sleep_ignored (k : Bool) (h : L.pm.level ≠ .awake) (h' : L.pm.level ≠ .doze) : L.sleep k = L := if_pos ⟨h, h'⟩

/-- No entry and no wake runs. -/
theorem not_entering (h : L.pm.level = .awake ∨ L.pm.level = .doze) : ¬ (L.pm.level ≠ .awake ∧ L.pm.level ≠ .doze) := by
  rintro ⟨ha, hd⟩
  exact h.elim ha hd

theorem sleep_denied (k : Bool) (h : L.pm.level = .awake ∨ L.pm.level = .doze) (hb : L.ky.state ≠ .bench) : L.sleep k = L.raise F.PM_EVENT_DENIED :=
  (if_neg (not_entering L h)).trans (if_pos hb)

theorem sleep_asks (k : Bool) (h : L.pm.level = .awake ∨ L.pm.level = .doze) (hb : L.ky.state = .bench) : L.sleep k = sleepAsked L k :=
  (if_neg (not_entering L h)).trans (if_neg (not_not.2 hb))

/-! ### Prepare -/

section Prepare

variable {L} (k : Bool)

theorem prepareAnswer_idle (h : L.pm.phase ≠ .prepare) : L.prepareAnswer k = L := if_pos h

section Asked

variable (h : L.pm.phase = .prepare)
include h

theorem prepareAnswer_wake (hw : L.wakeActive = true) : L.prepareAnswer k = L.refuse 0x22 6 :=
  (if_neg (not_not.2 h)).trans (if_pos hw)

variable (hw : L.wakeActive = false) {b : Nat} {r : List Nat} (ha : L.pm.ask = b :: r) (hs : b ≠ 4 ∨ L.st.slice = none)
include hw ha hs

/-- The block asked has nothing that it must end first. -/
theorem prepareAnswer_front : L.prepareAnswer k =
    if L.refusal b k ≠ 0 then L.refuse b (L.refusal b k)
    else { L with pm := { L.pm with
      ask := r, acked := b :: L.pm.acked, askedAt := L.now, phase := if r = [] then .drain else .prepare, phaseAt := if r = [] then L.now else L.pm.phaseAt } } := by
  have hslice : ¬ (b = 4 ∧ L.st.slice.isSome = true) := by
    rintro ⟨rfl, hsome⟩
    rcases hs with hs | hs
    · exact hs rfl
    · simp [hs] at hsome
  rw [Lane.prepareAnswer, if_neg (not_not.2 h), if_neg (by simp [hw]), ha]
  exact if_neg hslice

theorem prepareAnswer_refused (hr : L.refusal b k ≠ 0) : L.prepareAnswer k = L.refuse b (L.refusal b k) :=
  (prepareAnswer_front k h hw ha hs).trans (if_pos hr)

theorem prepareAnswer_next (hr : L.refusal b k = 0) (hn : r ≠ []) : L.prepareAnswer k =
    { L with pm := { L.pm with ask := r, acked := b :: L.pm.acked, askedAt := L.now, phase := .prepare } } := by
  rw [prepareAnswer_front k h hw ha hs, if_neg (not_not.2 hr), if_neg hn, if_neg hn]

/-- The last acknowledgement commits the entry (R392). -/
theorem prepareAnswer_last (hr : L.refusal b k = 0) (hn : r = []) : L.prepareAnswer k =
    { L with pm := { L.pm with ask := [], acked := b :: L.pm.acked, askedAt := L.now, phase := .drain, phaseAt := L.now } } := by
  rw [prepareAnswer_front k h hw ha hs, if_neg (not_not.2 hr), if_pos hn, if_pos hn, hn]

end Asked

theorem prepareTimeout_idle (h : L.pm.phase ≠ .prepare) : L.prepareTimeout = L := if_pos (.inl h)

theorem prepareTimeout_early (h : L.now < L.pm.askedAt + us 100) : L.prepareTimeout = L := if_pos (.inr h)

theorem prepareTimeout_over (h : L.pm.phase = .prepare) (ht : L.pm.askedAt + us 100 ≤ L.now) :
    L.prepareTimeout = L.refuse (L.pm.ask.headD 0xFF) 7 := if_neg (by simp [h, ht])

end Prepare

/-! ### Drain -/

section Drain

variable {L} (n : Nat) {xs : List Nat}

/-- One transfer that did not complete: a bus error, its frame discarded, told and counted. -/
def abortTransfer (L : Lane) (a : Nat) : Lane :=
  let N : Lane := { L.when (decide (0x22000000 ≤ a ∧ a < 0x22100000)) (·.dropFrame a) with rdata := 0, busErr := true }
  (((N.raise F.PM_EVENT_ABORT).setWord F.PM_ABORT (BitVec.ofNat 32 a)).bump F.PM_CNT_ABORT_CNT).tally 1 5

/-- The drain is over and the save begins. -/
def saveBegins (M : Lane) : Lane := { M with pm := { M.pm with phase := .save, phaseAt := M.now } }

theorem drainExpiry_idle (h : L.pm.phase ≠ .drain) : L.drainExpiry n xs = L := if_pos (.inl h)

theorem drainExpiry_early (hx : xs ≠ []) (ht : L.now < L.pm.phaseAt + us 50) : L.drainExpiry n xs = L := if_pos (.inr ⟨hx, ht⟩)

theorem drainExpiry_over (h : L.pm.phase = .drain) (ht : xs = [] ∨ L.pm.phaseAt + us 50 ≤ L.now) :
    L.drainExpiry n xs = saveBegins (xs.foldl abortTransfer (L.tally 1 4 n)) := by
  refine if_neg ?_
  rintro (hd | ⟨hx, he⟩)
  · exact hd h
  · exact ht.elim hx (Nat.not_le.2 he)

end Drain

/-- Settles O54: the command by the level and the lane state, prepare by the block asked and what it answers, the drain by what was left. -/
theorem sleepIsPreparedInBench : Obligations.SleepIsPreparedInBench := by
  refine ⟨?command, ?prepare⟩
  case command =>
    intro s l t L hp
    refine ⟨fun hl => ⟨fun hb => ?asked, fun hb => ?denied⟩, fun ha hd => ?ignored, fun on => does_gatePair rfl hp rfl,
      fun v => does_gatePair rfl hp rfl⟩
    case asked => exact ⟨does_gatePair rfl hp (sleep_asks L false hl hb), does_gatePair rfl hp (sleep_asks L true hl hb)⟩
    case denied => exact ⟨does_gatePair rfl hp (sleep_denied L false hl hb), does_gatePair rfl hp (sleep_denied L true hl hb)⟩
    case ignored => exact ⟨does_gatePair rfl hp (sleep_ignored L false ha hd), does_gatePair rfl hp (sleep_ignored L true ha hd)⟩
  case prepare =>
    intro s l t L
    refine ⟨fun h k => ⟨does_ungated rfl (prepareAnswer_idle k h), does_ungated rfl (prepareTimeout_idle h)⟩,
      fun h k => ⟨fun hw => does_ungated rfl (prepareAnswer_wake k h hw), fun hw b r ha hs => ?asked⟩,
      fun h => ⟨fun ht => does_ungated rfl (prepareTimeout_early ht), fun ht => does_ungated rfl (prepareTimeout_over h ht)⟩,
      fun n h xs => does_ungated rfl (drainExpiry_idle n h), fun n h => does_ungated rfl (drainExpiry_over n h (.inl rfl)),
      fun n xs h hx ht => does_ungated rfl (drainExpiry_early n hx ht), fun n xs h hx ht => does_ungated rfl (drainExpiry_over n h (.inr ht))⟩
    case asked =>
      exact ⟨fun hr => does_ungated rfl (prepareAnswer_refused k h hw ha hs hr), fun hr hn => does_ungated rfl (prepareAnswer_next k h hw ha hs hr hn),
        fun hr hn => does_ungated rfl (prepareAnswer_last k h hw ha hs hr hn)⟩

end Sys2Proof.Proofs
end

section
/-! PROOFS. Secure boot, the configuration load and the strap read (R414, R421, R423); the holes of the register map (R442). -/

namespace Sys2Proof.Proofs

open Sys2Proof.Machine Sys2Proof.Laws

variable (L : Lane)

/-! ### Boot -/

section Boot

variable {L}

/-- A lane that acts is not held in reset. -/
theorem not_held_of_acts {d : Domain} {b : Nat} (h : L.acts d b = true) : L.sy.resetHeld = false := by
  simp only [Lane.acts, Bool.and_eq_true, Bool.not_eq_true'] at h
  simp_all

theorem booting_or_withdrawn (h : L.ky.state = .booting ∨ L.ky.state = .withdrawn) : (L.ky.state == .booting || L.ky.state == .withdrawn) = true := by
  simpa using h

section Start

variable (hr : L.sy.resetHeld = false) (hk : L.ky.state = .booting ∨ L.ky.state = .withdrawn) (hb : L.lc.booted = false) (hh : L.ic.halted = false)
include hr hk hb hh

theorem not_boot_refused : ¬ (L.sy.resetHeld || L.lc.booted || L.ic.halted || !(L.ky.state == .booting || L.ky.state == .withdrawn)) = true := by
  simp [hr, hb, hh, booting_or_withdrawn hk]

theorem secureBoot_enters {M : Lane} (h : L.bootFrom L.slotOrder = some M) : L.secureBoot = M := by
  rw [Lane.secureBoot, if_neg (not_boot_refused hr hk hb hh), h]

theorem secureBoot_fails (h : L.bootFrom L.slotOrder = none) : L.secureBoot = ({ L with ic := { L.ic with halted := true } }).bootFail := by
  rw [Lane.secureBoot, if_neg (not_boot_refused hr hk hb hh), h]

end Start

/-- The load begins without a network key, with the straps read. -/
def loadBegun (L : Lane) (n : Nat) : Lane := ({ L with lc := { L.lc with netKey := none } }).bootStraps n

theorem bootStraps_state (n : Nat) : (L.bootStraps n).lc.state = L.lc.state := by
  unfold Lane.bootStraps
  split <;> rfl

theorem loadBegun_state (n : Nat) : (loadBegun L n).lc.state = L.lc.state := bootStraps_state n

/-- A retired lane loads nothing and withdraws. -/
def retiredLoad (M : Lane) : Lane :=
  let N : Lane := { M with lc := { M.lc with loaded := true } }
  if N.ky.state = .booting then N.toWithdrawn else N

section Load

variable (n : Nat) (hk : L.ky.state = .booting ∨ L.ky.state = .withdrawn) (hr : L.runtime = true) (hl : L.lc.loaded = false)
include hk hr hl

theorem not_load_refused : ¬ (!L.runtime || L.lc.loaded || !(L.ky.state == .booting || L.ky.state == .withdrawn)) = true := by
  simp [hr, hl, booting_or_withdrawn hk]

theorem configLoad_retired (hs : L.lc.state = .retired) : L.configLoad n = retiredLoad (loadBegun L n) := by
  unfold Lane.configLoad
  rw [if_neg (not_load_refused hk hr hl)]
  extract_lets _ M
  have hM : M.lc.state = .retired := (loadBegun_state n).trans hs
  rw [if_pos hM]
  rfl

section Live

variable (hs : L.lc.state ≠ .retired)
include hs

/-- Any other takes the newest bank that can be taken (R421); without one it has no configuration. -/
theorem configLoad_empty (hb : (loadBegun L n).bankTaken = none) : L.configLoad n = (loadBegun L n).noConfig.bootToBench := by
  unfold Lane.configLoad
  rw [if_neg (not_load_refused hk hr hl)]
  extract_lets _ M
  have hM : ¬ M.lc.state = .retired := fun h => hs ((loadBegun_state n).symm.trans h)
  rw [if_neg hM]
  split
  case h_1 => rfl
  case h_2 h => exact absurd (hb.symm.trans h) nofun

theorem configLoad_takes {b : Nat} (hb : (loadBegun L n).bankTaken = some b) : L.configLoad n = ((loadBegun L n).takeBank b n).bootToBench := by
  unfold Lane.configLoad
  rw [if_neg (not_load_refused hk hr hl)]
  extract_lets _ M
  have hM : ¬ M.lc.state = .retired := fun h => hs ((loadBegun_state n).symm.trans h)
  rw [if_neg hM]
  split
  case h_1 h => exact absurd (hb.symm.trans h) nofun
  case h_2 c h => exact congrArg (fun b => ((loadBegun L n).takeBank b n).bootToBench) (Option.some.inj (h.symm.trans hb))

end Live

end Load

section Straps

variable {n : Nat} (hr : L.runtime = true) (hs : L.lc.state = .field ∨ L.lc.state = .service)
include hr hs

theorem strapReadNow_changed (h : n % 256 ≠ L.lc.strapRead) :
    L.strapReadNow n = (({ L with lc := { L.lc with strapRead := n % 256 } }).raise F.LC_EVENT_STRAP_CHANGE).bump F.LC_CNT_STRAP_CHG :=
  if_neg (by rcases hs with hs | hs <;> simp [hr, hs, h])

omit hr hs in
theorem strapReadNow_same (h : n % 256 = L.lc.strapRead) : L.strapReadNow n = L := if_pos (by simp [h])

end Straps

end Boot

/-- Settles O13: the boot by what its slots give, the load by the life cycle and the bank taken, the strap read by the pattern. -/
theorem bootAndConfigurationLoad : Obligations.BootAndConfigurationLoad := by
  intro s l t L
  refine ⟨fun ha hk => ⟨fun hb hh => ?boot, fun n hr hl hs => ?retired, fun n hr hl hs => ?load⟩, fun n ha hr hs => ⟨fun h => ?changed, fun h => ?same⟩⟩
  case boot =>
    have hr := not_held_of_acts ha
    split
    case h_1 M h => exact does_gate rfl ha (secureBoot_enters hr hk hb hh h)
    case h_2 h => exact does_gate rfl ha (secureBoot_fails hr hk hb hh h)
  case retired => exact does_gate rfl ha (configLoad_retired n hk hr hl hs)
  case load =>
    intro M
    split
    case h_1 h => exact does_gate rfl ha (configLoad_empty n hk hr hl hs h)
    case h_2 b h => exact does_gate rfl ha (configLoad_takes n hk hr hl hs h)
  case changed => exact does_task rfl ha hr (strapReadNow_changed hr hs h)
  case same => exact does_task rfl ha hr (strapReadNow_same h)

/-! ### A sticking counter that lies with its flags in one word -/

section Words

/-- FW_ERR shown leaves the count. -/
theorem fwCnt_put_fwErr (w : Word) (v : Nat) : F.IC_YARD_FW_CNT.get (F.IC_YARD_FW_ERR.put w v) = F.IC_YARD_FW_CNT.get w := by
  simp only [Fld.get, Fld.put, F.IC_YARD_FW_CNT, F.IC_YARD_FW_ERR, BitVec.toNat_ofNat]
  omega

/-- A count leaves FW_ERR. -/
theorem fwErr_put_fwCnt (w : Word) (v : Nat) : F.IC_YARD_FW_ERR.get (F.IC_YARD_FW_CNT.put w v) = F.IC_YARD_FW_ERR.get w := by
  simp only [Fld.get, Fld.put, F.IC_YARD_FW_CNT, F.IC_YARD_FW_ERR, BitVec.toNat_ofNat]
  omega

/-- A bit set beside a field leaves it. -/
theorem fld_get_bit_other {e : Fld} (w : Word) {i : Nat} (he : e.lo + e.wid ≤ 32) (h : i < e.lo ∨ e.lo + e.wid ≤ i) :
    e.get (BitVec.ofNat 32 (putBit w.toNat i true)) = e.get w := by
  apply Nat.eq_of_testBit_eq
  intro j
  simp only [Fld.get, putBit, if_true, BitVec.toNat_ofNat, Nat.testBit_mod_two_pow, Nat.testBit_div_two_pow, Nat.testBit_or, Nat.testBit_shiftLeft]
  by_cases hj : j < e.wid
  · have h1 : j + e.lo < 32 := by omega
    have h2 : i ≠ j + e.lo := by omega
    have h3 : (1 : Nat).testBit (j + e.lo - i) = true → ¬ j + e.lo ≥ i := by
      rw [Nat.testBit_one_eq_true_iff_self_eq_zero]
      omega
    simp [hj, h1]
    grind
  · simp [hj]

end Words

/-! ### An access that the yard core's firewall refuses -/

section Refused

/-- Below its end the counter only counts. -/
theorem bump_counts {f : Fld} {g k : Nat} (h : L.fld f g k + 1 < 2 ^ f.wid - 1) :
    L.bump f g k = (bumpMark L f g k).setFld f (L.fld f g k + 1) g k := by
  rcases bump_cases L f g k with ⟨he, _⟩ | ⟨_, hb⟩ | ⟨_, he, _⟩
  · omega
  · exact hb
  · omega

/-- A stuck counter stays as it is. -/
theorem bump_stuck {f : Fld} {g k : Nat} (h : L.fld f g k = 2 ^ f.wid - 1) : L.bump f g k = bumpMark L f g k := by
  rcases bump_cases L f g k with ⟨_, hb⟩ | ⟨hn, _⟩ | ⟨hn, _⟩
  · exact hb
  · exact absurd h hn
  · exact absurd h hn

/-- A counter in the step to its end, with the stuck bit that its row names. -/
def stuckCount (f : Fld) (g : Nat) (c : CntRow) (M : Lane) : Lane :=
  { M.setReg (blockBase f.blk + 0x1000 * g + c.stuckOff)
      (BitVec.ofNat 32 (putBit (M.reg (blockBase f.blk + 0x1000 * g + c.stuckOff)).toNat c.stuckBit true)) with
    stuckEvents := M.stuckEvents + (if f.wid = 8 then 0 else 1) }

theorem bump_sticks {f : Fld} {g k : Nat} {r : RegRow} {i : Nat} {c : CntRow} (hr : regAt (f.addr g k) = some (r, i))
    (hc : r.cnts.find? (fun c => c.lo == f.lo) = some c) (hv : L.fld f g k + 1 = 2 ^ f.wid - 1) :
    L.bump f g k = stuckCount f g c ((bumpMark L f g k).setFld f (L.fld f g k + 1) g k) := by
  unfold Lane.bump
  extract_lets v M N
  have hv' : v + 1 = 2 ^ f.wid - 1 := hv
  rw [if_neg (by omega), if_neg (by omega), hr]
  dsimp only
  rw [hc]
  rfl

theorem reg_stuckCount {f : Fld} {g a : Nat} {c : CntRow} (M : Lane) (ha : blockBase f.blk + 0x1000 * g + c.stuckOff = a) :
    (stuckCount f g c M).reg a = BitVec.ofNat 32 (putBit (M.reg a).toNat c.stuckBit true) := by
  subst ha
  exact reg_setReg_same M _ _

/-- The register that holds FW_CNT, FW_ERR and the counter's stuck bit. -/
def fwAddr : Nat := F.IC_YARD_FW_CNT.addr 0 0

/-- Its row, with the stuck bit in the same word. -/
def fwRow : RegRow := ⟨0x018, 1, 4, 0, 0x00000000, 0x00000001, 0x00000000, 0x00000008, 0x00000004, [⟨16, 16, 0x018, 4⟩], [], 0xFFFF001F, false⟩

theorem regAt_fwAddr : regAt fwAddr = some (fwRow, 0) := by decide

theorem fwRow_cnt : fwRow.cnts.find? (fun c => c.lo == F.IC_YARD_FW_CNT.lo) = some ⟨16, 16, 0x018, 4⟩ := by decide

/-- Its word with the count at its end and the stuck bit set. -/
def fwStuckWord (w : Word) : Word := BitVec.ofNat 32 (putBit (F.IC_YARD_FW_CNT.put w (F.IC_YARD_FW_CNT.get w + 1)).toNat 4 true)

/-- In the step to its end the counter sets its stuck bit too. -/
theorem reg_bump_fwCnt_last (h : L.fld F.IC_YARD_FW_CNT = 65534) : (L.bump F.IC_YARD_FW_CNT).reg fwAddr = fwStuckWord (L.reg fwAddr) := by
  rw [bump_sticks L (f := F.IC_YARD_FW_CNT) (g := 0) (k := 0) regAt_fwAddr fwRow_cnt (congrArg Nat.succ h), reg_stuckCount _ (by decide), fwStuckWord]
  exact congrArg (fun w : Word => BitVec.ofNat 32 (putBit w.toNat 4 true)) (reg_setReg_same _ _ _)

/-- What the word says of the firewall: FW_ERR and the count. -/
theorem fwStuckWord_err (w : Word) : F.IC_YARD_FW_ERR.get (fwStuckWord w) = F.IC_YARD_FW_ERR.get w :=
  (fld_get_bit_other _ (by decide) (by decide)).trans (fwErr_put_fwCnt w _)

theorem fwStuckWord_cnt (w : Word) : F.IC_YARD_FW_CNT.get (fwStuckWord w) = (F.IC_YARD_FW_CNT.get w + 1) % 65536 :=
  (fld_get_bit_other _ (by decide) (by decide)).trans (fld_get_put F.IC_YARD_FW_CNT w _ (by decide))

/-- The count takes one more: FW_ERR stands, and the count sticks at its end (R15). -/
theorem bump_fwCnt : (L.bump F.IC_YARD_FW_CNT).fld F.IC_YARD_FW_ERR = L.fld F.IC_YARD_FW_ERR ∧
    (L.bump F.IC_YARD_FW_CNT).fld F.IC_YARD_FW_CNT = min 65535 (L.fld F.IC_YARD_FW_CNT + 1) := by
  have hlt : L.fld F.IC_YARD_FW_CNT < 65536 := Nat.mod_lt _ (by decide)
  have words {w : Word} (h : (L.bump F.IC_YARD_FW_CNT).reg fwAddr = w) : (L.bump F.IC_YARD_FW_CNT).fld F.IC_YARD_FW_ERR = F.IC_YARD_FW_ERR.get w ∧
      (L.bump F.IC_YARD_FW_CNT).fld F.IC_YARD_FW_CNT = F.IC_YARD_FW_CNT.get w :=
    ⟨congrArg F.IC_YARD_FW_ERR.get h, congrArg F.IC_YARD_FW_CNT.get h⟩
  rcases lt_trichotomy (L.fld F.IC_YARD_FW_CNT) 65534 with h | h | h
  case inl =>
    obtain ⟨he, hc⟩ := words ((congrArg (·.reg fwAddr) (bump_counts L (Nat.succ_lt_succ h))).trans (reg_setReg_same _ _ _))
    refine ⟨he.trans (fwErr_put_fwCnt _ _), hc.trans ((fld_get_put _ _ _ (by decide)).trans ?_)⟩
    rw [show (2 : Nat) ^ F.IC_YARD_FW_CNT.wid = 65536 from rfl]
    omega
  case inr.inl =>
    obtain ⟨he, hc⟩ := words (reg_bump_fwCnt_last L h)
    refine ⟨he.trans (fwStuckWord_err _), hc.trans ((fwStuckWord_cnt _).trans ?_)⟩
    change (L.fld F.IC_YARD_FW_CNT + 1) % 65536 = _
    omega
  case inr.inr =>
    have hf : L.fld F.IC_YARD_FW_CNT = 65535 := by omega
    obtain ⟨he, hc⟩ := words (congrArg (·.reg fwAddr) (bump_stuck L hf))
    refine ⟨he, hc.trans ?_⟩
    change L.fld F.IC_YARD_FW_CNT = _
    omega

theorem raise_fwErr_cnt : (L.raise F.IC_YARD_FW_ERR).fld F.IC_YARD_FW_CNT = L.fld F.IC_YARD_FW_CNT :=
  (congrArg F.IC_YARD_FW_CNT.get (reg_setReg_same L fwAddr _)).trans (fwCnt_put_fwErr _ 1)

/-- A counted access is shown in FW_ERR, -/
theorem fwCounted_err : (fwCounted L).flag F.IC_YARD_FW_ERR = true := by
  have h : (fwCounted L).fld F.IC_YARD_FW_ERR = 1 :=
    (bump_fwCnt (L.raise F.IC_YARD_FW_ERR)).1.trans ((note_fld _ _ _ _ _ _).trans (fld_setFld_same L F.IC_YARD_FW_ERR 1 0 0 (by decide)))
  simp [Lane.flag, h]

/-- and counted. -/
theorem fwCounted_cnt : (fwCounted L).fld F.IC_YARD_FW_CNT = min 65535 (L.fld F.IC_YARD_FW_CNT + 1) :=
  (bump_fwCnt (L.raise F.IC_YARD_FW_ERR)).2.trans (congrArg (fun n => min 65535 (n + 1)) (raise_fwErr_cnt L))

theorem fwCounted_mem : (fwCounted L).mem = L.mem := (bump_frame (L.raise F.IC_YARD_FW_ERR) F.IC_YARD_FW_CNT 0 0).1

/-- Below the counter's end no other register changes. -/
theorem reg_fwCounted_other (h : L.fld F.IC_YARD_FW_CNT < 65534) {x : Nat} (hx : x ≠ fwAddr) : (fwCounted L).reg x = L.reg x := by
  have hc : (L.raise F.IC_YARD_FW_ERR).fld F.IC_YARD_FW_CNT + 1 < 2 ^ F.IC_YARD_FW_CNT.wid - 1 := by
    rw [raise_fwErr_cnt]
    exact Nat.succ_lt_succ h
  rw [fwCounted, bump_counts _ hc, reg_setFld_other _ _ _ _ _ hx]
  exact reg_raise_other L F.IC_YARD_FW_ERR 0 hx

/-- A lane with another bus answer reads its registers alike. -/
def refusedAccess (M : Lane) (ts : List Nat) : Lane := { M with rdata := 0, busErr := true, ic := { M.ic with refused := ts } }

theorem reg_refusedAccess (M : Lane) (ts : List Nat) (a : Nat) : (refusedAccess M ts).reg a = M.reg a := rfl

theorem fld_refusedAccess (M : Lane) (ts : List Nat) (f : Fld) (g k : Nat) : (refusedAccess M ts).fld f g k = M.fld f g k := rfl

theorem flag_refusedAccess (M : Lane) (ts : List Nat) (f : Fld) (g k : Nat) : (refusedAccess M ts).flag f g k = M.flag f g k := rfl

end Refused

/-! ### An access of the helm pair where no register lies -/

section Hole

variable {L} {a : Nat}

theorem readReg_none (h : regAt a = none) : L.readReg a = 0 := by
  rw [Lane.readReg, if_neg (by simp [h]), Lane.regValue, h]

theorem putReg_none (h : regAt a = none) (v : Word) : L.putReg a v = L := by
  rw [Lane.putReg, h]

theorem busHole_false (h : a < 0x40170000) (hw : a % 0x10000 < windowSize (blockOf a)) : busHole a = false := by
  simp [busHole, h, hw]

theorem busHole_true (h : 0x40170000 ≤ a ∨ windowSize (blockOf a) ≤ a % 0x10000) : busHole a = true := by
  simpa [busHole] using h

end Hole

/-- Settles O59: the bus by the window and its rows, the firewall by what it counts. -/
theorem holesOfTheRegisterMap : Obligations.HolesOfTheRegisterMap := by
  intro s l t a v w L
  refine ⟨fun hp hm h4 hlo => ?helm, fun ha hr hy => ?yard⟩
  case helm =>
    obtain ⟨ha, -, hh⟩ := (pairActs_iff ..).1 hp
    have store {M : Lane} (h : busStore L a 4 v = M) : Does (.registerWrite l t a ⟨4, v, false, none⟩) l t s M :=
      does_gate rfl ha ((pairWrite_agreed L hh (.inl rfl)).trans ((registerWrite_issued L hh (absurd · (by decide)) (by decide) h4).trans h))
    refine ⟨fun hw hhi hn ht => ⟨readReg_none hn, ?_⟩, fun h => store (busStore_window_hole L hm hlo (busHole_true h))⟩
    exact store ((busStore_register L hm hlo rfl h4 (busHole_false hhi hw) ht).trans (putReg_none hn v))
  case yard =>
    refine ⟨refusedAccess (fwCounted L) _, does_gate rfl ha (yardFirewallRefuse_refuses L a w hr hy), rfl, rfl, fwCounted_mem L,
      (flag_refusedAccess _ _ _ _ _).trans (fwCounted_err L), fun hf => ?full, fun hf => ?counts, fun hf x hx => ?others⟩
    case full => 
      rw [fld_refusedAccess, fwCounted_cnt, hf]
      rfl
    case counts =>
      rw [fld_refusedAccess, fwCounted_cnt]
      exact Nat.min_eq_right hf
    case others => exact (reg_refusedAccess _ _ _).trans (reg_fwCounted_other L hf hx)

end Sys2Proof.Proofs
end

section
/-! PROOFS. The lane network's command registers (R253, R255, R264, R265, R281). -/

namespace Sys2Proof.Proofs

open Sys2Proof.Machine Sys2Proof.Laws

variable (L : Lane) (v : Word)

/-! ### LN_RXLOCK -/

section RxLock

/-- LN_RXLOCK with its fields written. -/
def rxlockWritten : Lane :=
  ((L.setFld F.LN_RXLOCK_SLOT (F.LN_RXLOCK_SLOT.get v)).setFld F.LN_RXLOCK_PORT (F.LN_RXLOCK_PORT.get v)).setFld F.LN_RXLOCK_LOCK (F.LN_RXLOCK_LOCK.get v)

/-- The window named. -/
def rxlockWindow : Nat × Nat := (F.LN_RXLOCK_SLOT.get v, F.LN_RXLOCK_PORT.get v)

/-- The frame that waited behind a lock becomes readable. -/
def rxReleased (M : Lane) : Lane :=
  match M.ln.lock, M.ln.held with
  | some k, some x => M.fillWindow k.1 k.2 x
  | _, _ => M

/-- What the write does once its fields stand. -/
def rxlockActs (on : Bool) (w : Nat × Nat) (M : Lane) : Lane :=
  if on && M.ln.lock == some w then M
  else ((rxReleased M).updLn (fun n => { n with lock := if on then some w else none, held := none })).when on (·.lockTie w.1 w.2)

theorem lnRxlock_acts : L.lnRxlock v = rxlockActs (F.LN_RXLOCK_LOCK.get v == 1) (rxlockWindow v) (rxlockWritten L v) := rfl

theorem rxlockActs_same {w : Nat × Nat} {M : Lane} (h : M.ln.lock = some w) : rxlockActs true w M = M := if_pos (by simp [h])

theorem rxlockActs_locks {w : Nat × Nat} {M : Lane} (h : M.ln.lock ≠ some w) :
    rxlockActs true w M = ((rxReleased M).updLn (fun n => { n with lock := some w, held := none })).lockTie w.1 w.2 :=
  if_neg (by simp [h])

theorem rxlockActs_unlocks (w : Nat × Nat) (M : Lane) :
    rxlockActs false w M = (rxReleased M).updLn (fun n => { n with lock := none, held := none }) := rfl

section Written

variable {v}

theorem lnRxlock_same (h1 : F.LN_RXLOCK_LOCK.get v = 1) (hw : (rxlockWritten L v).ln.lock = some (rxlockWindow v)) :
    L.lnRxlock v = rxlockWritten L v := by
  rw [lnRxlock_acts, h1]
  exact rxlockActs_same hw

theorem lnRxlock_locks (h1 : F.LN_RXLOCK_LOCK.get v = 1) (hw : (rxlockWritten L v).ln.lock ≠ some (rxlockWindow v)) :
    L.lnRxlock v = ((rxReleased (rxlockWritten L v)).updLn (fun n => { n with lock := some (rxlockWindow v), held := none })).lockTie
      (rxlockWindow v).1 (rxlockWindow v).2 := by
  rw [lnRxlock_acts, h1]
  exact rxlockActs_locks hw

theorem lnRxlock_unlocks (h1 : F.LN_RXLOCK_LOCK.get v ≠ 1) :
    L.lnRxlock v = (rxReleased (rxlockWritten L v)).updLn (fun n => { n with lock := none, held := none }) := by
  rw [lnRxlock_acts, beq_false_of_ne h1]
  exact rxlockActs_unlocks _ _

end Written

end RxLock

/-! ### LN_INJ -/

section Inj

/-- LN_INJ with its fields written. -/
def injWritten : Lane :=
  ((((L.setFld F.LN_INJ_ACTION (F.LN_INJ_ACTION.get v)).setFld F.LN_INJ_PORT (F.LN_INJ_PORT.get v)).setFld F.LN_INJ_SLOT
    (F.LN_INJ_SLOT.get v)).setFld F.LN_INJ_SLOT2 (F.LN_INJ_SLOT2.get v)).setFld F.LN_INJ_CYCLES (F.LN_INJ_CYCLES.get v)

variable {v}

theorem lnInjArm_disarms (h : F.LN_INJ_ARM.get v = 0) :
    L.lnInjArm v = ((injWritten L v).updLn (fun x => { x with injLeft := 0 })).setFld F.LN_INJ_ARM 0 := by
  unfold Lane.lnInjArm
  rw [if_pos h]
  rfl

theorem lnInjArm_denied (h : F.LN_INJ_ARM.get v ≠ 0) (hs : (injWritten L v).lc.state ≠ .service) :
    L.lnInjArm v = (injWritten L v).raise F.LN_EVENT_INJ_DENIED := by
  unfold Lane.lnInjArm
  rw [if_neg h]
  exact if_pos (.inl hs)

/-- A drop or a corruption is armed in life-cycle Service; so is a reorder, of two entries of the same length. -/
theorem lnInjArm_arms (h : F.LN_INJ_ARM.get v ≠ 0) (hs : (injWritten L v).lc.state = .service) (ha : (injWritten L v).fld F.LN_INJ_ACTION ≠ 3) :
    L.lnInjArm v = ((injWritten L v).updLn (fun x => { x with injLeft := (injWritten L v).fld1 F.LN_INJ_CYCLES })).setFld F.LN_INJ_ARM 1 := by
  unfold Lane.lnInjArm
  rw [if_neg h]
  refine if_neg ?_
  rintro (hn | ⟨hn, _⟩)
  · exact hn hs
  · exact ha hn

end Inj

/-! ### LN_MREQ -/

section Mreq

variable {v}

theorem lnMreqGo_ignored (h : F.LN_MREQ_GO.get v = 0 ∨ L.ln.state ≠ .sync ∨ L.ln.pend.isSome = true) : L.lnMreqGo v = L := if_pos h

theorem lnMreqGo_asks (h : F.LN_MREQ_GO.get v ≠ 0) (hs : L.ln.state = .sync) (hp : L.ln.pend = none) :
    L.lnMreqGo v = L.updLn (fun x => { x with goMode := some (F.LN_MREQ_MODE.get v) }) := if_neg (by simp [h, hs, hp])

end Mreq

/-- Settles O37: a commit and a time read by their definition, a lock by the window named, an injection by ARM and the life cycle, a mode request by
the network's state. -/
theorem networkCommandRegisters : Obligations.NetworkCommandRegisters := by
  intro s l t v L hp
  refine ⟨fun hi => does_gatePair rfl hp rfl, ⟨?same, ?locks, ?unlocks⟩, ⟨?disarms, ?denied, ?arms⟩, fun h => does_gatePair rfl hp (lnMreqGo_ignored L h),
    fun h hs hn => does_gatePair rfl hp (lnMreqGo_asks L h hs hn), does_gatePair rfl hp rfl, does_gatePair rfl hp rfl⟩
  case same => exact fun h hw => does_gatePair rfl hp (lnRxlock_same L h hw)
  case locks => exact fun h hw => does_gatePair rfl hp (lnRxlock_locks L h hw)
  case unlocks => exact fun h => does_gatePair rfl hp (lnRxlock_unlocks L h)
  case disarms => exact fun h => does_gatePair rfl hp (lnInjArm_disarms L h)
  case denied => exact fun h hs => does_gatePair rfl hp (lnInjArm_denied L h hs)
  case arms => exact fun h hs ha => does_gatePair rfl hp (lnInjArm_arms L h hs ha)

end Sys2Proof.Proofs
end

section
/-! PROOFS. The lane network's start-up and its time sources (R268 to R271, R279, R286). -/

namespace Sys2Proof.Proofs

open Sys2Proof.Machine Sys2Proof.Laws

variable {L : Lane}

/-! ### Start-up -/

section StartUp

theorem listenTimeout_idle (h : L.ln.state ≠ .listen ∨ L.rank = 0 ∨ L.now < L.ln.listenAt + us (2 * L.cycLen 0 + 250 * (L.rank - 1))) :
    L.listenTimeout = L := if_pos h

theorem listenTimeout_starts (hs : L.ln.state = .listen) (hr : L.rank ≠ 0)
    (ht : L.ln.listenAt + us (2 * L.cycLen 0 + 250 * (L.rank - 1)) ≤ L.now) :
    L.listenTimeout = (L.updLn (fun x => { x with
      p0 := L.reAge x.p0, p1 := L.reAge x.p1, cyc := 0, mode := 0, cycStart := L.devTime, acted := 0, attempt := 0, csSent := 0
      joinWait := false })).setNet .coldStart :=
  if_neg (not_or.2 ⟨not_not.2 hs, not_or.2 ⟨hr, Nat.not_lt.2 ht⟩⟩)

/-- A command of the network acts on the lane with its transmissions brought up to now. -/
theorem coldStartCollision_other (h : L.txSettle.ln.state ≠ .coldStart) : L.coldStartCollision = L.txSettle := if_pos (.inl h)

/-- The lane with a new run of cold-start frames, its first one at the back-off of its rank (R271). -/
def coldStartAnew (S : Lane) : Lane :=
  (S.updLn (fun x => { x with
    cyc := 0, csSent := 0, acted := 0, toSync := none, p0 := { x.p0 with tx := none }, p1 := { x.p1 with tx := none }
    cycStart := x.csStart + 1000 * (1100 + 250 * (S.rank - 1)) - 2000 })).raise F.LN_TEVENT_CS_COLLIDE

theorem coldStartCollision_anew (hs : L.txSettle.ln.state = .coldStart) (hc : L.txSettle.ln.csSent ≠ 0)
    (ht : L.txSettle.devTime ≤ L.txSettle.ln.csStart + 100 * frameTime 16 L.txSettle.lnCmac) :
    L.coldStartCollision = coldStartAnew L.txSettle :=
  if_neg (not_or.2 ⟨not_not.2 hs, not_or.2 ⟨hc, Nat.not_lt.2 ht⟩⟩)

theorem coldStartDone_other (h : L.txSettle.ln.state ≠ .coldStart) : L.coldStartDone = L.txSettle := if_pos (.inl h)

theorem coldStartDone_waits (h : L.txSettle.ln.csSent < 4 ∨ L.txSettle.ln.p0.tx.isSome = true ∨ L.txSettle.ln.p1.tx.isSome = true) :
    L.coldStartDone = L.txSettle := if_pos (.inr h)

theorem coldStartDone_ready (hs : L.txSettle.ln.state = .coldStart) (hc : 4 ≤ L.txSettle.ln.csSent) (h0 : L.txSettle.ln.p0.tx = none)
    (h1 : L.txSettle.ln.p1.tx = none) :
    L.coldStartDone = L.txSettle.updLn (fun x => { x with toSync := some (L.txSettle.lnNode, 0, L.txSettle.lnNode, L.txSettle.rank) }) :=
  if_neg (by simp [hs, hc, h0, h1])

/-! An integration -/

theorem integrateTimeout_none (h : L.ln.integ = none) : L.integrateTimeout = L := by
  unfold Lane.integrateTimeout
  rw [h]

variable {x : IntegS}

/-- The occurrences of the sender's frame by which it must have confirmed. -/
def confirmBy (L : Lane) (x : IntegS) : Nat := if x.kind = 5 then 2 * L.coldK else 2

theorem integrateTimeout_some (h : L.ln.integ = some x) : L.integrateTimeout =
    if L.ln.state ≠ .integrate ∨ L.ln.toSync.isSome ∨ x.missed < confirmBy L x ∨ (x.missed = confirmBy L x ∧ L.devTime ≤ L.actionNs x.slot + 1000)
    then L else L.toListen := by
  unfold Lane.integrateTimeout
  rw [h]
  rfl

theorem integrateTimeout_back (h : L.ln.integ = some x) (hs : L.ln.state = .integrate) (hn : L.ln.toSync = none)
    (hm : confirmBy L x < x.missed ∨ (x.missed = confirmBy L x ∧ L.actionNs x.slot + 1000 < L.devTime)) : L.integrateTimeout = L.toListen := by
  refine (integrateTimeout_some h).trans (if_neg ?_)
  rw [hs, hn]
  simp only [ne_eq, not_true_eq_false, Option.isSome_none, Bool.false_eq_true, false_or]
  omega

theorem integrateTimeout_waits (h : L.ln.integ = some x) (hm : x.missed < confirmBy L x ∨ (x.missed = confirmBy L x ∧ L.devTime ≤ L.actionNs x.slot + 1000)) :
    L.integrateTimeout = L :=
  (integrateTimeout_some h).trans (if_pos (.inr (.inr hm)))

end StartUp

/-! ### Time sources -/

section Source

theorem holdoverLimit_over (hs : L.ln.state = .sync) (hh : L.ln.holdover = true) (hc : L.fld1 F.LN_TCFG_HOLD < L.ln.holdCyc) :
    L.holdoverLimit = L.toListen := if_pos ⟨hs, hh, hc⟩

theorem holdoverLimit_within (h : L.ln.state ≠ .sync ∨ L.ln.holdover = false ∨ L.ln.holdCyc ≤ L.fld1 F.LN_TCFG_HOLD) : L.holdoverLimit = L := by
  refine if_neg ?_
  rintro ⟨hs, hh, hc⟩
  rcases h with h | h | h
  · exact h hs
  · exact absurd hh (by simp [h])
  · omega

theorem sourceLoss_idle (h : L.ln.state ≠ .sync ∨ L.ln.depth = 0 ∨ L.ln.srcSeen ≤ L.srcTo) : L.sourceLoss = L := if_pos h

/-- The loss counted, but in holdover. -/
def lossCounted (L : Lane) : Lane := L.when (!L.ln.holdover) (·.bump F.LN_TCNT_SRC_LOSS)

/-- The candidates for a new source. -/
def newSources (M : Lane) : List SyncPeer :=
  M.candidates.filter (fun x => x.node != M.ln.source && (M.rank == 0 || (x.refRank != 0 && decide (x.refRank < M.rank))))

/-- What a lane takes for its lost source. -/
def sourceReplaced (M : Lane) : Lane :=
  match bestPeer (newSources M) with
  | some x => M.takeSource x
  | none =>
    if M.ln.holdover then M
    else if M.rank = 0 then (M.updLn (fun s => { s with holdover := true, holdCyc := 0 })).raise F.LN_TEVENT_HOLDOVER
    else (M.updLn (fun s => { s with source := 0, depth := 0, ref := M.lnNode, refRank := M.rank })).raise F.LN_TEVENT_REF_TAKEN

theorem sourceReplaced_peer {M : Lane} {x : SyncPeer} (h : bestPeer (newSources M) = some x) : sourceReplaced M = M.takeSource x := by
  rw [sourceReplaced, h]

theorem sourceReplaced_none {M : Lane} (h : bestPeer (newSources M) = none) : sourceReplaced M =
    if M.ln.holdover then M
    else if M.rank = 0 then (M.updLn (fun s => { s with holdover := true, holdCyc := 0 })).raise F.LN_TEVENT_HOLDOVER
    else (M.updLn (fun s => { s with source := 0, depth := 0, ref := M.lnNode, refRank := M.rank })).raise F.LN_TEVENT_REF_TAKEN := by
  rw [sourceReplaced, h]

section Lost

variable (hs : L.ln.state = .sync) (hd : L.ln.depth ≠ 0) (ht : L.srcTo < L.ln.srcSeen)
include hs hd ht

theorem sourceLoss_lost : L.sourceLoss = sourceReplaced (lossCounted L) :=
  if_neg (not_or.2 ⟨not_not.2 hs, not_or.2 ⟨hd, Nat.not_le.2 ht⟩⟩)

end Lost

@[simp] theorem bump_ln (L : Lane) (f : Fld) (g k : Nat) : (L.bump f g k).ln = L.ln := by
  rw [bump_shape]

theorem lossCounted_ln : (lossCounted L).ln = L.ln := by
  unfold lossCounted Lane.when
  split
  · exact bump_ln L _ _ _
  · rfl

theorem not_holdover_of_lossCounted (hh : L.ln.holdover = false) : ¬ (lossCounted L).ln.holdover = true := by
  rw [lossCounted_ln, hh]
  exact Bool.false_ne_true

section Replaced

variable (hn : bestPeer (newSources (lossCounted L)) = none)
include hn

theorem sourceReplaced_holdover (hh : L.ln.holdover = true) : sourceReplaced (lossCounted L) = L := by
  rw [sourceReplaced_none hn, if_pos ((congrArg LnS.holdover lossCounted_ln).trans hh), lossCounted, hh]
  rfl

theorem sourceReplaced_holds (hh : L.ln.holdover = false) (hr : (lossCounted L).rank = 0) :
    sourceReplaced (lossCounted L) = ((lossCounted L).updLn (fun x => { x with holdover := true, holdCyc := 0 })).raise F.LN_TEVENT_HOLDOVER := by
  rw [sourceReplaced_none hn, if_neg (not_holdover_of_lossCounted hh), if_pos hr]

theorem sourceReplaced_itself (hh : L.ln.holdover = false) (hr : (lossCounted L).rank ≠ 0) :
    sourceReplaced (lossCounted L) = ((lossCounted L).updLn (fun x => { x with
      source := 0, depth := 0, ref := (lossCounted L).lnNode, refRank := (lossCounted L).rank })).raise F.LN_TEVENT_REF_TAKEN := by
  rw [sourceReplaced_none hn, if_neg (not_holdover_of_lossCounted hh), if_neg hr]

end Replaced

theorem topologyCheck_idle (h : L.ln.state ≠ .sync ∨ L.ln.cyc % 8 ≠ 0 ∨ L.ln.topoAt = some L.ln.cyc) : L.topologyCheck = L := if_pos h

theorem topologyCheck_checks (hs : L.ln.state = .sync) (hc : L.ln.cyc % 8 = 0) (ha : L.ln.topoAt ≠ some L.ln.cyc) :
    L.topologyCheck = ((L.topoCheckPort 0).topoCheckPort 1).updLn (fun x => { x with topoAt := some x.cyc }) :=
  if_neg (not_or.2 ⟨not_not.2 hs, not_or.2 ⟨not_not.2 hc, ha⟩⟩)

end Source

/-- Settles O36: the start-up by the network's state and its timers, a lost source by the candidates, holdover and the node's rank. -/
theorem networkStartUpAndSources : Obligations.NetworkStartUpAndSources := by
  intro s l t L S ha
  refine ⟨fun h => does_gate rfl ha (listenTimeout_idle h), fun hs hr ht => does_gate rfl ha (listenTimeout_starts hs hr ht),
    fun hi hs hc ht => does_gateIn rfl hi (coldStartCollision_anew hs hc ht),
    fun h => ⟨fun hi => does_gateIn rfl hi (coldStartCollision_other h), does_gate rfl ha (coldStartDone_other h)⟩,
    fun _ h => does_gate rfl ha (coldStartDone_waits h), fun hs hc h0 h1 => does_gate rfl ha (coldStartDone_ready hs hc h0 h1),
    fun x hx hs hn => ?integrate, fun h => does_gate rfl ha (integrateTimeout_none h),
    fun hs hh hc => does_gate rfl ha (holdoverLimit_over hs hh hc), fun h => does_gate rfl ha (holdoverLimit_within h),
    fun h => does_gate rfl ha (sourceLoss_idle h), fun hs hd ht => ?lost,
    fun h => does_gate rfl ha (topologyCheck_idle h), fun hs hc hn => does_gate rfl ha (topologyCheck_checks hs hc hn)⟩
  case integrate =>
    exact ⟨fun hm => does_gate rfl ha (integrateTimeout_back hx hs hn hm), fun hm => does_gate rfl ha (integrateTimeout_waits hx hm)⟩
  case lost =>
    have lost {M : Lane} (h : sourceReplaced (lossCounted L) = M) : Does (.sourceLoss l t) l t s M :=
      does_gate rfl ha ((sourceLoss_lost hs hd ht).trans h)
    exact ⟨fun x hx => lost (sourceReplaced_peer hx), fun hn hh => lost (sourceReplaced_holdover hn hh),
      fun hn hh hr => lost (sourceReplaced_holds hn hh hr), fun hn hh hr => lost (sourceReplaced_itself hn hh hr)⟩

end Sys2Proof.Proofs
end

section
/-! PROOFS. The lane network's ports and their guardians (R243, R256, R260 to R263, R268). -/

namespace Sys2Proof.Proofs

open Sys2Proof.Machine Sys2Proof.Laws

variable {L : Lane} {p : Fin 2}

/-! ### Ports -/

section Ports

theorem portLost_loses (hl : (L.lnPort p).lost = false) (hn : L.portTo_ ≤ (L.lnPort p).noneRun + L.outCycles) :
    L.portLost p = (L.updPort p (fun x => { x with lost := true })).raise F.LN_EVENT_PORT_LOST :=
  if_neg (by simp [hl, hn])

theorem portLost_keeps (h : (L.lnPort p).lost = true ∨ (L.lnPort p).noneRun + L.outCycles < L.portTo_) : L.portLost p = L :=
  if_pos (by simpa using h)

theorem portBack_returns (hl : (L.lnPort p).lost = true) (hn : L.fld1 F.LN_PORTTO_PORT_BACK ≤ (L.lnPort p).someRun) :
    L.portBack p = (L.updPort p (fun x => { x with lost := false })).raise F.LN_EVENT_PORT_BACK :=
  if_neg (by simp [hl, hn])

theorem portBack_keeps (hn : (L.lnPort p).someRun < L.fld1 F.LN_PORTTO_PORT_BACK) : L.portBack p = L := if_pos (by simp [hn])

theorem collision_ends (h : (L.txSettle.lnPort p).tx.isSome = true) :
    L.collision p = ((L.txSettle.updPort p (fun x => { x with tx := none })).raise F.LN_EVENT_COLLISION).bump F.LN_ERR3_COLLISION 0 p :=
  if_neg (by rw [Option.isNone_iff_eq_none]; exact Option.isSome_iff_ne_none.1 h)

theorem collision_idle (h : (L.txSettle.lnPort p).tx = none) : L.collision p = L.txSettle := if_pos (Option.isNone_iff_eq_none.2 h)

variable {d : Nat}

theorem guardianViolation_off (h : L.txSettle.portOn p = false) : L.guardianViolation p d = L.txSettle := if_pos (by simp [h])

theorem guardianViolation_counts (h : L.txSettle.portOn p = true) (hg : L.txSettle.guardAllows p d = false) :
    L.guardianViolation p d = L.txSettle.violation p :=
  (if_neg (by simp [h])).trans (if_pos (by simp [hg]))

/-- The transmission that runs. -/
def spanTx (S : Lane) (p : Fin 2) (d : Nat) : LnTxS := { frame := none, ends := S.devTime + 100 * d, shuts := S.guardShuts p, irq := false }

theorem guardianViolation_runs (h : L.txSettle.portOn p = true) (hg : L.txSettle.guardAllows p d = true) :
    L.guardianViolation p d =
      (L.txSettle.guardPass p).updPort p (fun y => if y.latched || y.tx.isSome then y else { y with tx := some (spanTx L.txSettle p d) }) :=
  (if_neg (by simp [h])).trans (if_neg (by simp [hg]))

theorem portEnable_param (h : L.lnParam = true) : L.portEnable p = L := if_pos h

/-- ENABLE with the port's bit, and the port started. -/
def enableSet (L : Lane) (p : Fin 2) : Lane := L.setFld F.LN_CFG_ENABLE (putBit (L.fld F.LN_CFG_ENABLE) p true)

def portStarted (A : Lane) (p : Fin 2) : Lane :=
  ((A.updLn (fun x => { x with on := putBit x.on p true })).updPort p
    (fun x => { LnPortS.reset with latched := x.latched, viols := x.viols, copy := x.copy })).clearValid p

theorem portEnable_on (h : L.lnParam = false) (ho : (enableSet L p).portOn p = true) : L.portEnable p = enableSet L p :=
  (if_neg (by simp [h])).trans (if_pos ho)

theorem portEnable_starts (h : L.lnParam = false) (ho : (enableSet L p).portOn p = false) :
    L.portEnable p = if (portStarted (enableSet L p) p).ln.state = .off then (portStarted (enableSet L p) p).toListen else portStarted (enableSet L p) p :=
  (if_neg (by simp [h])).trans (if_neg (ne_true_of_eq_false ho))

theorem reopen_denied {m : Nat} (h : L.txSettle.ky.state ≠ .bench) : L.reopen m = L.txSettle := if_pos h

theorem reopen_opens {m : Nat} (h : L.txSettle.ky.state = .bench) : L.reopen m = [0, 1].foldl (fun (L : Lane) q =>
    if !(bit m q) then L else L.updPort q (fun x =>
      let vs := x.viols.filter (fun c => decide (c.2 / 8 = L.now / 8))
      { x with latched := decide (L.gvN ≤ vs.length), viols := vs, learned := 0 })) L.txSettle := if_neg (not_not.2 h)

end Ports

/-! ### The guardian's strobe -/

section Strobe

variable {c : Nat}

/-- The cycle that the guardian counts by, in its own counts, and how far a strobe at `c` lies from its end, in µs. -/
def strobeSpan (S : Lane) (p : Fin 2) : Rat := (S.lnPort p).guard.rate * (S.guardLen p : Rat)

def strobeDev (S : Lane) (p : Fin 2) (c : Nat) (o : Int × Int) : Rat := ((((c : Int) - o.1 : Int) : Rat) - strobeSpan S p) / (S.lnPort p).guard.rate

/-- The prediction as the new origin (R260). -/
def strobeMoved (S : Lane) (p : Fin 2) (c : Nat) (o : Int × Int) : Int × Int :=
  (o.1 + (strobeSpan S p).floor, (S.devTime : Int) - (1000 * strobeDev S p c o).floor)

/-- The late strobe of a cycle whose strobe was found missing (log entry 160). -/
abbrev strobeLate (S : Lane) (p : Fin 2) (c : Nat) (o : Int × Int) : Prop :=
  (S.lnPort p).guard.missed = true ∧ 2 * (((c : Int) - o.1 : Int) : Rat) < strobeSpan S p

theorem guardianStrobe_idle (h : L.txSettle.portOn p = false ∨ L.txSettle.ln.state ≠ .sync) : L.guardianStrobe p c = L.txSettle :=
  if_pos (by rcases h with h | h <;> simp [h])

theorem strobeMissing_idle (h : L.txSettle.portOn p = false ∨ L.txSettle.ln.state ≠ .sync) : L.strobeMissing p c = L.txSettle := by
  unfold Lane.strobeMissing
  extract_lets S G
  split
  case h_1 => rfl
  case h_2 o _ => exact if_pos (by rcases h with h | h <;> simp [S, h])

theorem strobeMissing_none (h : (L.txSettle.lnPort p).guard.origin = none) : L.strobeMissing p c = L.txSettle := by
  unfold Lane.strobeMissing
  extract_lets S G
  split
  case h_1 => rfl
  case h_2 o ho => exact absurd (h.symm.trans ho) nofun

section Running

variable (hp : L.txSettle.portOn p = true) (hs : L.txSettle.ln.state = .sync)
include hp hs

theorem strobe_acts : ¬ (!(L.txSettle.portOn p) || L.txSettle.ln.state != .sync) = true := by simp [hp, hs]

theorem guardianStrobe_first (h : (L.txSettle.lnPort p).guard.origin = none) : L.guardianStrobe p c =
    L.txSettle.updGuard p (fun x => { x with origin := some (c, (L.txSettle.devTime : Int)), mode := L.txSettle.ln.mode, missed := false }) := by
  unfold Lane.guardianStrobe
  extract_lets S G now
  rw [if_neg (strobe_acts hp hs)]
  split
  case h_1 => rfl
  case h_2 o ho => exact absurd (h.symm.trans ho) nofun

variable {o : Int × Int} (h : (L.txSettle.lnPort p).guard.origin = some o)
include h

/-- A strobe within 1 µs of the prediction: the new origin, its cycle in the rate and learnt. -/
def strobeTaken (S : Lane) (p : Fin 2) (c : Nat) (o : Int × Int) : Lane :=
  (S.updGuard p (fun x => { x with
    origin := some ((c : Int), (S.devTime : Int)), rates := (((c : Int) - o.1, S.guardLen p) :: x.rates).take 8, mode := S.ln.mode, missed := false
    cycle := x.cycle + 1 })).updPort p
    (fun x => { x with learned := min 8 (x.learned + 1) })

/-- A strobe outside it: a violation that takes the prediction. -/
def strobeRefused (S : Lane) (p : Fin 2) (c : Nat) (o : Int × Int) : Lane :=
  ((S.updGuard p (fun x => { x with origin := some (strobeMoved S p c o), mode := S.ln.mode, missed := false, cycle := x.cycle + 1 })).updPort p
    (fun x => { x with learned := if x.learned < 8 then 0 else 8 })).violation p

theorem guardianStrobe_next : L.guardianStrobe p c =
    if strobeLate L.txSettle p c o then L.txSettle.updGuard p (fun x => { x with missed := false, mode := L.txSettle.ln.mode })
    else if -1 ≤ strobeDev L.txSettle p c o ∧ strobeDev L.txSettle p c o ≤ 1 then strobeTaken L.txSettle p c o
    else strobeRefused L.txSettle p c o := by
  unfold Lane.guardianStrobe
  extract_lets S G now
  rw [if_neg (strobe_acts hp hs)]
  split
  case h_1 hn => exact absurd (h.symm.trans hn) nofun
  case h_2 o' ho =>
    obtain rfl : o = o' := Option.some.inj (h.symm.trans ho)
    rfl

theorem guardianStrobe_late (hl : strobeLate L.txSettle p c o) :
    L.guardianStrobe p c = L.txSettle.updGuard p (fun x => { x with missed := false, mode := L.txSettle.ln.mode }) :=
  (guardianStrobe_next hp hs h).trans (if_pos hl)

theorem guardianStrobe_taken (hl : ¬ strobeLate L.txSettle p c o) (h1 : -1 ≤ strobeDev L.txSettle p c o) (h2 : strobeDev L.txSettle p c o ≤ 1) :
    L.guardianStrobe p c = strobeTaken L.txSettle p c o :=
  (guardianStrobe_next hp hs h).trans ((if_neg hl).trans (if_pos ⟨h1, h2⟩))

theorem guardianStrobe_refused (hl : ¬ strobeLate L.txSettle p c o) (hd : strobeDev L.txSettle p c o < -1 ∨ 1 < strobeDev L.txSettle p c o) :
    L.guardianStrobe p c = strobeRefused L.txSettle p c o := by
  refine (guardianStrobe_next hp hs h).trans ((if_neg hl).trans (if_neg ?_))
  rintro ⟨h1, h2⟩
  exact hd.elim (not_lt.2 h1) (not_lt.2 h2)

/-- A strobe found missing: a violation, and the prediction becomes the origin. -/
def strobeMissed (S : Lane) (p : Fin 2) (c : Nat) (o : Int × Int) : Lane :=
  ((S.updGuard p (fun x => { x with origin := some (strobeMoved S p c o), missed := true, cycle := x.cycle + 1 })).updPort p
    (fun x => { x with learned := if x.learned < 8 then 0 else 8 })).violation p

omit hp hs in
theorem strobeMissing_early (hd : strobeDev L.txSettle p c o ≤ 1) : L.strobeMissing p c = L.txSettle := by
  unfold Lane.strobeMissing
  extract_lets S G
  split
  case h_1 => rfl
  case h_2 o' ho =>
    obtain rfl : o = o' := Option.some.inj (h.symm.trans ho)
    extract_lets dev
    have hdev : dev ≤ 1 := hd
    exact if_pos (by simp [hdev])

theorem strobeMissing_counts (hd : 1 < strobeDev L.txSettle p c o) : L.strobeMissing p c = strobeMissed L.txSettle p c o := by
  unfold Lane.strobeMissing
  extract_lets S G
  split
  case h_1 hn => exact absurd (h.symm.trans hn) nofun
  case h_2 o' ho =>
    obtain rfl : o = o' := Option.some.inj (h.symm.trans ho)
    extract_lets dev
    have hdev : 1 < dev := hd
    exact if_neg (by simp [S, hp, hs, hdev])

end Running

end Strobe

/-- Settles O35: the ports by their counts, latch and guardian; a strobe by the origin and how far it lies from the prediction. -/
theorem networkPortsAndGuardians : Obligations.NetworkPortsAndGuardians := by
  refine ⟨?ports, ?strobes⟩
  case ports =>
    intro s l t p L S out ha
    refine ⟨fun hl hn => does_gate rfl ha (portLost_loses hl hn), fun h => does_gate rfl ha (portLost_keeps h),
      fun hl => ⟨fun hn => does_gate rfl ha (portBack_returns hl hn), fun hn => does_gate rfl ha (portBack_keeps hn)⟩,
      fun hi h => does_gateIn rfl hi (collision_ends h), fun hi h => does_gateIn rfl hi (collision_idle h),
      fun d h => does_gate rfl ha (guardianViolation_off h),
      fun d h => ⟨fun hg => does_gate rfl ha (guardianViolation_runs h hg), fun hg => does_gate rfl ha (guardianViolation_counts h hg)⟩,
      fun hp h => does_gatePair rfl hp (portEnable_param h), fun hp h => ?enable,
      fun hp m h => does_gatePair rfl hp (reopen_denied h), fun hp m h => does_gatePair rfl hp (reopen_opens h)⟩
    case enable =>
      exact ⟨fun ho => does_gatePair rfl hp (portEnable_on h ho), fun ho hb => does_gatePair rfl hp ((portEnable_starts h ho).trans (if_pos hb)),
        fun ho hb => does_gatePair rfl hp ((portEnable_starts h ho).trans (if_neg hb))⟩
  case strobes =>
    intro s l t p c L S G rate len ha
    refine ⟨fun h => ⟨does_gate rfl ha (guardianStrobe_idle h), does_gate rfl ha (strobeMissing_idle h)⟩, fun hp hs => ⟨fun h => ?first, fun o h => ?next⟩⟩
    case first => exact ⟨does_gate rfl ha (guardianStrobe_first hp hs h), does_gate rfl ha (strobeMissing_none h)⟩
    case next =>
      exact ⟨fun hl => does_gate rfl ha (guardianStrobe_late hp hs h hl), fun hl h1 h2 => does_gate rfl ha (guardianStrobe_taken hp hs h hl h1 h2),
        fun hl hd => does_gate rfl ha (guardianStrobe_refused hp hs h hl hd), fun hd => does_gate rfl ha (strobeMissing_early h hd),
        fun hd => does_gate rfl ha (strobeMissing_counts hp hs h hd)⟩

end Sys2Proof.Proofs
end

section
/-! PROOFS. The lane network's slots and cycles: lock point, action point, cycle start, reception, idle phase (R251 to R254, R265, R269, R277, R281). -/

namespace Sys2Proof.Proofs

open Sys2Proof.Machine Sys2Proof.Laws

variable {L : Lane} {k : Fin 64}

/-! ### Lock point -/

section LockPoint

/-- The mode whose slot is locked, and the slot's start; slot 0 lies in the next cycle. -/
def lockMode (S : Lane) (k : Fin 64) : Nat := if k.val = 0 then S.ln.switchTo.getD S.ln.mode else S.ln.mode

def lockStart (S : Lane) (k : Fin 64) : Nat :=
  S.ln.cycStart + 1000 * (if k.val = 0 then S.cycLen S.ln.mode else S.slotStart (lockMode S k) k)

/-- The lane with the lock point of the slot passed. -/
def lockPassed (S : Lane) (k : Fin 64) : Lane := S.updLn (fun x => { x with done := putBit x.done k true })

/-- The response that a slot of kind `kd` would carry. -/
def lockResponse (M : Lane) (m : Nat) (k : Fin 64) (kd : Nat) : List ObjResp := if kd = 3 ∧ M.responseFits m k then M.oc.netTx else []

/-- A lock point without a response: a commit is taken, or the live half goes again. -/
def lockBuffer (M : Lane) (m : Nat) (k : Fin 64) (kd : Nat) : Lane :=
  if M.commitDue k then (M.takeCommit k (M.txEntryLen m k)).when (kd == 1) (·.statusNext k)
  else
    let Q := M.updLn (fun x => { x with fresh := putBit x.fresh k false })
    if kd = 2 ∨ kd = 3 then Q.setLiveLen k 0
    else if 4 ≤ kd then Q
    else (Q.setLiveLen k (Q.txEntryLen m k)).raise F.LN_EVENT_STALE_TX

theorem lnLockPoint_idle (h : L.txSettle.ln.state ≠ .sync ∨ L.txSettle.linkSleeps = true ∨ bit L.txSettle.ln.done k = true ∨
      L.txSettle.nslot (lockMode L.txSettle k) ≤ k.val ∨ L.txSettle.devTime + 5000 < lockStart L.txSettle k) :
    L.lnLockPoint k = L.txSettle := if_pos h

section Due

variable (hs : L.txSettle.ln.state = .sync) (hl : L.txSettle.linkSleeps = false) (hd : bit L.txSettle.ln.done k = false)
  (hn : k.val < L.txSettle.nslot (lockMode L.txSettle k)) (ht : lockStart L.txSettle k ≤ L.txSettle.devTime + 5000)
include hs hl hd hn ht

theorem lock_due : ¬ (L.txSettle.ln.state ≠ .sync ∨ L.txSettle.linkSleeps = true ∨ bit L.txSettle.ln.done k = true ∨
      L.txSettle.nslot (lockMode L.txSettle k) ≤ k.val ∨ L.txSettle.devTime + 5000 < lockStart L.txSettle k) := by
  simp only [hs, hl, hd, ne_eq, not_true_eq_false, Bool.false_eq_true, false_or]
  omega

theorem lnLockPoint_none (h : (lockPassed L.txSettle k).txKind (lockMode L.txSettle k) k = none) : L.lnLockPoint k = lockPassed L.txSettle k := by
  refine (if_neg (lock_due hs hl hd hn ht)).trans ?_
  split
  case h_1 => rfl
  case h_2 kd hk => exact absurd (h.symm.trans hk) nofun

variable {kd : Nat} (h : (lockPassed L.txSettle k).txKind (lockMode L.txSettle k) k = some kd)
include h

/-- The next response goes into the write half and is committed (R300). -/
theorem lnLockPoint_response {r : ObjResp} {q : List ObjResp} (hr : lockResponse (lockPassed L.txSettle k) (lockMode L.txSettle k) k kd = r :: q) :
    L.lnLockPoint k = (({ lockPassed L.txSettle k with oc := { (lockPassed L.txSettle k).oc with netTx := q } }).putBuffer (txWrite k) 0x5C0
      r.bytes).takeCommit k r.bytes.length := by
  refine (if_neg (lock_due hs hl hd hn ht)).trans ?_
  split
  case h_1 hk => exact absurd (h.symm.trans hk) nofun
  case h_2 kd' hk =>
    obtain rfl : kd = kd' := Option.some.inj (h.symm.trans hk)
    split
    case h_1 r' q' hq =>
      obtain ⟨rfl, rfl⟩ := List.cons.inj (hr.symm.trans hq)
      rfl
    case h_2 hq => exact absurd (hr.symm.trans hq) nofun

theorem lnLockPoint_buffer (hr : lockResponse (lockPassed L.txSettle k) (lockMode L.txSettle k) k kd = []) :
    L.lnLockPoint k = lockBuffer (lockPassed L.txSettle k) (lockMode L.txSettle k) k kd := by
  refine (if_neg (lock_due hs hl hd hn ht)).trans ?_
  split
  case h_1 hk => exact absurd (h.symm.trans hk) nofun
  case h_2 kd' hk =>
    obtain rfl : kd = kd' := Option.some.inj (h.symm.trans hk)
    split
    case h_1 hq => exact absurd (hr.symm.trans hq) nofun
    case h_2 => rfl

end Due

section Buffer

variable {M : Lane} {m kd : Nat}

theorem lockResponse_next {r : ObjResp} {q : List ObjResp} (hk : kd = 3) (hf : M.responseFits m k = true) (hr : M.oc.netTx = r :: q) :
    lockResponse M m k kd = r :: q := (if_pos ⟨hk, hf⟩).trans hr

theorem lockResponse_nil (h : kd ≠ 3 ∨ M.responseFits m k = false ∨ M.oc.netTx = []) : lockResponse M m k kd = [] := by
  unfold lockResponse
  split
  case isTrue hc => rcases h with h | h | h <;> simp_all
  case isFalse => rfl

theorem lockBuffer_commit (h : M.commitDue k = true) :
    lockBuffer M m k kd = (M.takeCommit k (M.txEntryLen m k)).when (kd == 1) (·.statusNext k) := if_pos h

/-- The live half goes again, marked as not fresh. -/
def lockStale (M : Lane) (k : Fin 64) : Lane := M.updLn (fun x => { x with fresh := putBit x.fresh k false })

section Stale

variable (h : M.commitDue k = false)
include h

theorem lockBuffer_service (hk : kd = 2 ∨ kd = 3) : lockBuffer M m k kd = (lockStale M k).setLiveLen k 0 :=
  (if_neg (ne_true_of_eq_false h)).trans (if_pos hk)

theorem lockBuffer_own (hk : 4 ≤ kd) : lockBuffer M m k kd = lockStale M k :=
  (if_neg (ne_true_of_eq_false h)).trans ((if_neg (by omega)).trans (if_pos hk))

theorem lockBuffer_stale (hk : kd < 2) :
    lockBuffer M m k kd = ((lockStale M k).setLiveLen k ((lockStale M k).txEntryLen m k)).raise F.LN_EVENT_STALE_TX :=
  (if_neg (ne_true_of_eq_false h)).trans ((if_neg (by omega)).trans (if_neg (by omega)))

end Stale

end Buffer

end LockPoint

/-! ### Action point -/

section ActionPoint

theorem lnActionPoint_early (h : L.txSettle.devTime < L.txSettle.actionNs k ∨ bit L.txSettle.ln.acted k = true) : L.lnActionPoint k = L.txSettle :=
  if_pos h

/-- The action point has come and has not acted. -/
theorem action_due (ht : L.txSettle.actionNs k ≤ L.txSettle.devTime) (ha : bit L.txSettle.ln.acted k = false) :
    ¬ (L.txSettle.devTime < L.txSettle.actionNs k ∨ bit L.txSettle.ln.acted k = true) := by
  rw [ha]
  simpa using ht

theorem lnActionPoint_other (hs : L.txSettle.ln.state ≠ .sync) (hc : L.txSettle.ln.state ≠ .coldStart) : L.lnActionPoint k = L.txSettle := by
  by_cases h : L.txSettle.devTime < L.txSettle.actionNs k ∨ bit L.txSettle.ln.acted k = true
  · exact if_pos h
  · exact (if_neg h).trans ((if_neg hc).trans (if_pos (.inl hs)))

section Cold

variable (hc : L.txSettle.ln.state = .coldStart) (ht : L.txSettle.actionNs k ≤ L.txSettle.devTime) (ha : bit L.txSettle.ln.acted k = false)
include hc ht ha

theorem lnActionPoint_cold_other (h : k.val ≠ 0 ∨ L.txSettle.ln.cyc % L.txSettle.coldK ≠ 0 ∨ 4 ≤ L.txSettle.ln.csSent ∨
      L.txSettle.ln.csSent * L.txSettle.coldK ≠ L.txSettle.ln.cyc) : L.lnActionPoint k = L.txSettle :=
  (if_neg (action_due ht ha)).trans ((if_pos hc).trans (if_pos h))

/-- A cold-start frame on both ports (R269). -/
def coldSent (S : Lane) : Lane :=
  [0, 1].foldl (fun (L : Lane) p => if L.portOn p && !(L.lnPort p).latched && !L.linkSleeps then L.emit p (L.txFrame p 5 0 16) false else L) S

theorem lnActionPoint_cold (h0 : k.val = 0) (h1 : L.txSettle.ln.cyc % L.txSettle.coldK = 0) (h2 : L.txSettle.ln.csSent < 4)
    (h3 : L.txSettle.ln.csSent * L.txSettle.coldK = L.txSettle.ln.cyc) :
    L.lnActionPoint k = (coldSent L.txSettle).updLn (fun x => { x with
      attempt := (x.attempt + 1) % 256, csSent := x.csSent + 1, csStart := (coldSent L.txSettle).actionNs 0 }) :=
  (if_neg (action_due ht ha)).trans ((if_pos hc).trans (if_neg (by simp [h0, h1, h3]; omega)))

end Cold

/-- The action point of a slot in Sync (R251): its own entries, the ports each, its note. -/
def syncActed (D : Lane) (k : Fin 64) : Lane :=
  let can := !D.linkSleeps && [0, 1].any (fun p => D.mayTransmit p && D.entryAct D.ln.mode p k == 2)
  let A := D.when can (fun L => L.startRequest k)
  let B := [0, 1].foldl (fun (L : Lane) p =>
    (if !(L.mayTransmit p) then L
    else if L.entryAct L.ln.mode p k = 2 then (if L.linkSleeps then L else L.sendSlot p k)
    else if L.entryAct L.ln.mode p k = 3 then L.relaySlot p k
    else L).injPassed p k) A
  B.when can (fun L => L.noteOwn k)

theorem lnActionPoint_sync (hs : L.txSettle.ln.state = .sync) (ht : L.txSettle.actionNs k ≤ L.txSettle.devTime)
    (ha : bit L.txSettle.ln.acted k = false) (hn : k.val < L.txSettle.nslot L.txSettle.ln.mode) :
    L.lnActionPoint k = syncActed (L.txSettle.updLn (fun x => { x with acted := putBit x.acted k true })) k := by
  have hc : ¬ L.txSettle.ln.state = .coldStart := by simp [hs]
  have hr : ¬ (L.txSettle.ln.state ≠ .sync ∨ L.txSettle.nslot L.txSettle.ln.mode ≤ k.val) := by simp [hs, hn]
  exact (if_neg (action_due ht ha)).trans ((if_neg hc).trans (if_neg hr))

end ActionPoint

/-! ### Cycle start -/

section CycleStart

theorem lnCycleStart_idle (h : L.txSettle.ln.state = .off ∨ L.txSettle.ln.state = .listen ∨
      L.txSettle.devTime < L.txSettle.ln.cycStart + 1000 * L.txSettle.cycLen L.txSettle.ln.mode) : L.lnCycleStart = L.txSettle := if_pos h

/-- The cycle that is over: in Sync its missed frames are counted. -/
def cycleEnded (S : Lane) : Lane := S.when (S.ln.state == .sync) (fun L => (L.missCount).tally 18 10)

/-- A new reference of lower rank lies more than 20 µs off (R279). -/
def cycleFar (A : Lane) : Bool :=
  A.ln.rankCheck && A.ln.samples != [] && (decide (20000 < meanI A.ln.samples) || decide (meanI A.ln.samples < -20000))

/-- Its clock, corrected in Sync (R277). -/
def cycleTimed (S : Lane) : Lane := (cycleEnded S).keepTime.when (S.ln.state == .sync) Lane.clockCorrect

/-- The next cycle. -/
def cycleNext (S : Lane) : Lane :=
  (cycleTimed S).updLn (fun x => { x with
    p0 := (if S.ln.state == .sync then x.p0.endCycle else x.p0).grow, p1 := (if S.ln.state == .sync then x.p1.endCycle else x.p1).grow
    cyc := (x.cyc + 1) % 2 ^ 48, cycStart := x.cycStart + 1000 * S.cycLen S.ln.mode, nit := false,
    present := [], modes := [], rankCheck := x.rankCheck && x.samples == [], srcSeen := x.srcSeen + 1,
    holdCyc := if x.holdover then x.holdCyc + 1 else 0, done := x.done % 2, acted := 0,
    integ := x.integ.map (fun y => { y with missed := y.missed + 1 }) })

/-- The mode that it switches to. -/
def modeSwitched (C : Lane) : Lane :=
  C.ln.switchTo.elim C (fun m => (C.updLn (fun x => { x with mode := m, switchTo := none })).raise F.LN_TEVENT_MODE_SWITCH)

/-- The ports that LN_CFG keeps on. -/
def portsKept (D : Lane) : Lane := D.updLn (fun x => { x with on := x.on &&& D.fld F.LN_CFG_ENABLE })

/-- Off with both ports disabled, back to Listen far off the reference, else in Sync where that was confirmed. -/
def cycleEnters (far : Bool) (E : Lane) : Lane := if E.ln.on = 0 then E.netOff else if far then E.toListen else E.enterSync

theorem lnCycleStart_next (ho : L.txSettle.ln.state ≠ .off) (hl : L.txSettle.ln.state ≠ .listen)
    (ht : L.txSettle.ln.cycStart + 1000 * L.txSettle.cycLen L.txSettle.ln.mode ≤ L.txSettle.devTime) :
    L.lnCycleStart = cycleEnters (L.txSettle.ln.state == .sync && cycleFar (cycleEnded L.txSettle)) (portsKept (modeSwitched (cycleNext L.txSettle))) := by
  unfold Lane.lnCycleStart
  extract_lets S len sync A far B B' C D E
  have hdue : ¬ (S.ln.state = .off ∨ S.ln.state = .listen ∨ S.devTime < S.ln.cycStart + len) :=
    not_or.2 ⟨ho, not_or.2 ⟨hl, Nat.not_lt.2 ht⟩⟩
  have hD : D = modeSwitched C := by
    unfold D modeSwitched
    cases C.ln.switchTo with
    | none => rfl
    | some m => rfl
  rw [if_neg hdue]
  exact congrArg (fun D => cycleEnters (sync && far) (portsKept D)) hD

theorem cycleEnters_off {far : Bool} {E : Lane} (h : E.ln.on = 0) : cycleEnters far E = E.netOff := if_pos h

theorem cycleEnters_far {E : Lane} (h : E.ln.on ≠ 0) : cycleEnters true E = E.toListen := (if_neg h).trans (if_pos rfl)

theorem cycleEnters_sync {E : Lane} (h : E.ln.on ≠ 0) : cycleEnters false E = E.enterSync := (if_neg h).trans (if_neg Bool.false_ne_true)

end CycleStart

/-! ### Idle phase -/

section Idle

theorem networkIdleStart_idle (h : L.txSettle.ln.state = .off ∨ L.txSettle.ln.state = .listen ∨ L.txSettle.ln.nit = true) :
    L.networkIdleStart = L.txSettle :=
  if_pos (h.imp_right (Or.imp_right .inl))

/-- The idle phase begun, with the guardians' tables compared. -/
def idleCompared (S : Lane) : Lane := ((S.updLn (fun x => { x with nit := true, done := 0 })).guardCompare 0).guardCompare 1

theorem networkIdleStart_begins (ho : L.txSettle.ln.state ≠ .off) (hl : L.txSettle.ln.state ≠ .listen) (hn : L.txSettle.ln.nit = false)
    (ht : L.txSettle.ln.cycStart + 1000 * L.txSettle.slotStart L.txSettle.ln.mode (min 64 (L.txSettle.nslot L.txSettle.ln.mode)) ≤ L.txSettle.devTime) :
    L.networkIdleStart =
      if (idleCompared L.txSettle).ln.state ≠ .sync then idleCompared L.txSettle else (idleCompared L.txSettle).modeDiverge.modeDecide :=
  if_neg (not_or.2 ⟨ho, not_or.2 ⟨hl, not_or.2 ⟨ne_true_of_eq_false hn, Nat.not_lt.2 ht⟩⟩⟩)

end Idle

/-- Settles O34: the lock and the action point by the network's state, the slot and what waits to be sent; the cycle start and the idle phase by time
and state. -/
theorem networkSlotsAndCycles : Obligations.NetworkSlotsAndCycles := by
  refine ⟨?slots, ?cycles⟩
  case slots =>
    intro s l t k L S m start ha
    refine ⟨fun h => does_gate rfl ha (lnLockPoint_idle h), fun hs hl hd hn ht => ?lock, fun h => does_gate rfl ha (lnActionPoint_early h),
      fun hs hc => does_gate rfl ha (lnActionPoint_other hs hc), fun hc ht hb => ?cold, fun hs ht hb hn => does_gate rfl ha (lnActionPoint_sync hs ht hb hn)⟩
    case lock =>
      refine ⟨fun h => does_gate rfl ha (lnLockPoint_none hs hl hd hn ht h), fun kd h => ⟨fun r q hk hf hr => ?response, fun hr => ?buffer⟩⟩
      case response => exact does_gate rfl ha (lnLockPoint_response hs hl hd hn ht h (lockResponse_next hk hf hr))
      case buffer =>
        have sends {M : Lane} (e : lockBuffer (lockPassed S k) m k kd = M) : Does (.lnLockPoint l t k) l t s M :=
          does_gate rfl ha ((lnLockPoint_buffer hs hl hd hn ht h (lockResponse_nil hr)).trans e)
        exact ⟨fun hc => sends (lockBuffer_commit hc), fun hc hk => sends (lockBuffer_service hc hk), fun hc hk => sends (lockBuffer_own hc hk),
          fun hc hk => sends (lockBuffer_stale hc hk)⟩
    case cold =>
      exact ⟨fun h => does_gate rfl ha (lnActionPoint_cold_other hc ht hb h), fun h0 h1 h2 h3 => does_gate rfl ha (lnActionPoint_cold hc ht hb h0 h1 h2 h3)⟩
  case cycles =>
    intro s l t L S ha
    refine ⟨fun h => does_gate rfl ha (lnCycleStart_idle h), fun ho hl ht => ?next, fun hi p f => does_gateIn rfl hi rfl,
      fun h => does_gate rfl ha (networkIdleStart_idle h), fun ho hl hn ht => ?idle⟩
    case next =>
      intro sync A far B C D E
      have next {M : Lane} (e : cycleEnters (sync && far) E = M) : Does (.lnCycleStart l t) l t s M :=
        does_gate rfl ha ((lnCycleStart_next ho hl ht).trans e)
      refine ⟨fun h => next (cycleEnters_off h), fun h hs hf => ?far, fun h hs => ?enter⟩
      case far =>
        have hb : (sync && far) = true := Bool.and_eq_true_iff.2 ⟨hs, hf⟩
        exact next (hb ▸ cycleEnters_far h)
      case enter =>
        have hb : (sync && far) = false := Bool.and_eq_false_iff.2 hs
        exact next (hb ▸ cycleEnters_sync h)
    case idle =>
      have begins {M : Lane} (e : (if (idleCompared S).ln.state ≠ .sync then idleCompared S else (idleCompared S).modeDiverge.modeDecide) = M) :
          Does (.networkIdleStart l t) l t s M := does_gate rfl ha ((networkIdleStart_begins ho hl hn ht).trans e)
      exact ⟨fun h => begins (if_pos h), fun h => begins (if_neg (not_not.2 h))⟩

end Sys2Proof.Proofs
end

section
/-! PROOFS. A READ of a register image fetches its register (R317), which the statement on reading leaves out. -/

namespace Sys2Proof.Proofs

open Sys2Proof.Machine Sys2Proof.Laws

/-- Lane A in Bench, one second after its reset, alone in the package. -/
def imageReader : Lane :=
  { Lane.reset .A with
    now := sec 1
    sy := { SyS.reset with rails := 31, resetHeld := false, lock := true, mainPll := true, releasedAt := 0 }
    ky := { KyS.reset with state := .bench }
    lc := { (Lane.reset .A).lc with booted := true } }

def imageState : State := { State.reset with a := imageReader }

/-- A READ of 0x4F01 sub 5, the image of LN_TIME_LO, by client 1 over CAN. -/
def imageRead : Instr := .read .A 0 .can 1 1 0x4F01 5

def imageHead : ObjHead := headOf svcRead 1 1 0x4F01 5

/-- How many values read by the lead core of lane A wait for its trail core. -/
def trailValues : Host.Outcome State Fault Refusal → Nat
  | .next s => (s.lane .A).ic.agree.length
  | _ => 0

/-- The READ is new and passes its checks, and its four bytes fit a CAN message. -/
theorem imageRead_new : (imageState.seen .A 0).newRequest .can imageHead [] :=
  ⟨by decide +kernel, by decide +kernel, by decide +kernel⟩

theorem imageRead_judged : ((imageState.seen .A 0).admitted .can imageHead []).judged .can imageHead [] = stOk := by decide +kernel

/-- The low word of the time is read, and its high word latched, as in any read of the register. -/
theorem trailValues_imageRead : trailValues (exec imageRead imageState) = 1 := by decide +kernel

/-- Refutes O39: its READ clause takes the value of an entry and leaves the lane otherwise as it was admitted, but the model fetches the register of
an image entry first (R317); a READ of LN_TIME_LO leaves its value for the trail core, which the statement's next state does not hold. -/
theorem not_requestsReadAndWriteEntries : ¬ Obligations.RequestsReadAndWriteEntries := by
  rintro ⟨hreads, -⟩
  obtain ⟨hread, -⟩ := hreads imageState .A 0 .can 1 1 0x4F01 5 (by decide +kernel) (by decide +kernel)
  obtain ⟨hwhole, -⟩ := hread imageRead_new imageRead_judged
  have hnext := congrArg trailValues (hwhole (by decide +kernel))
  exact absurd (trailValues_imageRead.symm.trans hnext) (by decide +kernel)

end Sys2Proof.Proofs
end

section
/-! PROOFS. Requests that are repeated or refused (R289, R290, R294). -/

namespace Sys2Proof.Proofs

open Sys2Proof.Machine Sys2Proof.Laws

/-! ### A request on a carrier -/

section Serve

variable {L : Lane} {c : Carrier} {h : ObjHead} {d : List Byte}

theorem serve_silent (ha : (L.takeMsg c (h.bytes d)).answers = false) : L.serve c h d = L.takeMsg c (h.bytes d) := if_pos (by simp [ha])

section Answered

variable (ha : (L.takeMsg c (h.bytes d)).answers = true)
include ha

theorem accept_answers : ¬ (!(L.takeMsg c (h.bytes d)).answers) = true := by simp [ha]

theorem serve_repeat {r : Option ObjResp} (hk : ((L.takeMsg c (h.bytes d)).touch h.client).known h.client h.rid = some r) :
    L.serve c h d = ((L.takeMsg c (h.bytes d)).touch h.client).duplicate c h r := by
  rw [Lane.serve, Lane.accept, if_neg (accept_answers ha)]
  dsimp only
  rw [hk]

end Answered

/-- A new request is judged as it was admitted. -/
theorem serve_new (hn : L.newRequest c h d) : L.serve c h d = (L.admitted c h d).judge c h d := by
  obtain ⟨ha, hk, hw⟩ := hn
  rw [Lane.serve, Lane.accept, if_neg (accept_answers ha)]
  dsimp only
  rw [hk]
  exact if_neg (by simp [hw])

/-- The lane that answers the status of the check that fails (R289): a missing resource told, the transfer of a WRITE_END closed. -/
def refusal (M : Lane) (c : Carrier) (h : ObjHead) (d : List Byte) : Lane :=
  let N := M.when (M.judged c h d == stNoResource) (·.raise F.OC_EVENT_NO_RESOURCE)
  (N.when (h.service == svcWriteEnd && (N.xferFor h true).isSome) (·.closeXfer h.client)).finish c h (M.judged c h d) []

theorem judge_refuses {M : Lane} (hv : M.judged c h d ≠ stOk) : M.judge c h d = refusal M c h d := if_neg hv

theorem judge_executes {M : Lane} (hv : M.judged c h d = stOk) : M.judge c h d = M.execute c h d := if_pos hv

end Serve

/-! ### The commands of the seven services -/

section Commands

variable {i : Instr} {s : State} {l : LaneId} {t : Nat} {c : Carrier} {h : ObjHead} {d : List Byte}
  (hi : exec i s = onLane l t (gateTask (Lane.serve c h d)) s) (ha : (s.seen l t).acts .core 0x20 = true) (hr : (s.seen l t).runtime = true)
include hi ha hr

theorem does_once :
    (((s.seen l t).takeMsg c (h.bytes d)).answers = false → Does i l t s ((s.seen l t).takeMsg c (h.bytes d))) ∧
      (∀ r, ((s.seen l t).takeMsg c (h.bytes d)).answers = true →
        (((s.seen l t).takeMsg c (h.bytes d)).touch h.client).known h.client h.rid = some r →
        Does i l t s ((((s.seen l t).takeMsg c (h.bytes d)).touch h.client).duplicate c h r)) :=
  ⟨fun hs => does_task hi ha hr (serve_silent hs), fun _ hs hk => does_task hi ha hr (serve_repeat hs hk)⟩

theorem does_refuse (hn : (s.seen l t).newRequest c h d) (hv : ((s.seen l t).admitted c h d).judged c h d ≠ stOk) :
    Does i l t s (refusal ((s.seen l t).admitted c h d) c h d) :=
  does_task hi ha hr ((serve_new hn).trans (judge_refuses hv))

end Commands

/-- Settles O38: every service serves its message alike, and that goes by whether the lane answers, what the client's window holds and what the checks
come to. -/
theorem requestsRepeatedOrRefused : Obligations.RequestsRepeatedOrRefused := by
  refine ⟨?repeated, ?refused⟩
  case repeated =>
    intro s l t c client rid index sub L ha hr once
    exact ⟨does_once rfl ha hr, fun _ => does_once rfl ha hr, fun _ => does_once rfl ha hr, fun _ => does_once rfl ha hr,
      fun _ _ => does_once rfl ha hr, fun _ _ => does_once rfl ha hr, does_once rfl ha hr⟩
  case refused =>
    intro s l t c client rid index sub L ha hr refused
    exact ⟨does_refuse rfl ha hr, fun _ => does_refuse rfl ha hr, fun _ => does_refuse rfl ha hr, fun _ => does_refuse rfl ha hr,
      fun _ _ => does_refuse rfl ha hr, fun _ _ => does_refuse rfl ha hr, does_refuse rfl ha hr⟩

end Sys2Proof.Proofs
end

section
/-! PROOFS. The object channel's times (R291, R293, R294). -/

namespace Sys2Proof.Proofs

open Sys2Proof.Machine Sys2Proof.Laws

variable {L : Lane}

/-! ### Requests in progress -/

section Progress

variable {client rid : Nat}

/-- The request in progress of a client under an identifier. -/
def inProgress (L : Lane) (client rid : Nat) : Option ReqS := L.oc.inprog.find? (fun r => r.head.client == client && r.head.rid == rid)

theorem busyInterval_none (h : inProgress L client rid = none) : L.busyInterval client rid = L := by
  unfold Lane.busyInterval
  split
  case h_1 => rfl
  case h_2 r hr => exact absurd (h.symm.trans hr) nofun

theorem flashWorkDone_none (h : inProgress L client rid = none) : L.flashWorkDone client rid = L := by
  unfold Lane.flashWorkDone
  split
  case h_1 => rfl
  case h_2 r hr => exact absurd (h.symm.trans hr) nofun

variable {r : ReqS} (h : inProgress L client rid = some r)
include h

/-- The lane with the time of the request's last BUSY. -/
def busyMarked (L : Lane) (r : ReqS) : Lane :=
  { L with oc := { L.oc with inprog := L.oc.inprog.map (fun (q : ReqS) => if q.head = r.head then { q with lastBusy := L.now } else q) } }

theorem busyInterval_due (ht : r.lastBusy = r.since ∨ r.lastBusy + us 4500 ≤ L.now) :
    L.busyInterval client rid = (busyMarked L r).sendBusy r.carrier r.head := by
  have hdue : ¬ (r.lastBusy ≠ r.since ∧ L.now < r.lastBusy + us 4500) := fun ⟨hs, hl⟩ => ht.elim hs (Nat.not_le.2 hl)
  unfold Lane.busyInterval
  split
  case h_1 hn => exact absurd (h.symm.trans hn) nofun
  case h_2 r' hr =>
    obtain rfl : r = r' := Option.some.inj (h.symm.trans hr)
    exact if_neg hdue

theorem flashWorkDone_waits {d : List Byte} (hj : r.job = .wait d) : L.flashWorkDone client rid = L := by
  unfold Lane.flashWorkDone
  split
  case h_1 => rfl
  case h_2 r' hr =>
    obtain rfl : r = r' := Option.some.inj (h.symm.trans hr)
    split
    case h_1 => rfl
    case h_2 hw => exact absurd hj (hw d)

/-- The lane with the request out of progress and its record reported. -/
def recordDone (L : Lane) (r : ReqS) (d : List Byte) : Lane :=
  { L with oc := { L.oc with inprog := L.oc.inprog.filter (fun (q : ReqS) => q.head != r.head) }, fc := { L.fc with ioReport := d } }

theorem flashWorkDone_record {d : List Byte} (hj : r.job = .record d) :
    L.flashWorkDone client rid = ((recordDone L r d).finish r.carrier r.head stOk []).runWaiting 8 := by
  unfold Lane.flashWorkDone
  split
  case h_1 hn => exact absurd (h.symm.trans hn) nofun
  case h_2 r' hr =>
    obtain rfl : r = r' := Option.some.inj (h.symm.trans hr)
    split
    case h_1 d' hw => exact absurd (hj.symm.trans hw) nofun
    case h_2 =>
      rw [hj]
      exact if_neg nofun

end Progress

/-! ### Transfers -/

section Transfers

variable {client : Nat}

theorem xferTimeout_none (h : L.xferOf client = none) : L.xferTimeout client = L := by
  rw [Lane.xferTimeout, h]

variable {x : XferS} (h : L.xferOf client = some x)
include h

theorem xferTimeout_over (ht : x.last + ms L.xferTo ≤ L.now) : L.xferTimeout client = (L.closeXfer client).raise F.OC_EVENT_XFER_TIMEOUT := by
  rw [Lane.xferTimeout, h]
  exact if_neg (Nat.not_lt.2 ht)

theorem xferTimeout_within (ht : L.now < x.last + ms L.xferTo) : L.xferTimeout client = L := by
  rw [Lane.xferTimeout, h]
  exact if_pos ht

end Transfers

/-- Settles O40: a request by whether it is in progress, its last BUSY and its job, a transfer by its idle time. -/
theorem objectChannelProgress : Obligations.ObjectChannelProgress := by
  intro s l t client rid L ha hr mine
  refine ⟨fun h => ⟨does_task rfl ha hr (busyInterval_none h), does_task rfl ha hr (flashWorkDone_none h)⟩, fun r h => ⟨fun ht => ?busy, fun d hj => ?waits, fun d hj => ?record⟩,
    fun x h => ⟨fun ht => does_task rfl ha hr (xferTimeout_over h ht), fun ht => does_task rfl ha hr (xferTimeout_within h ht)⟩,
    fun h => does_task rfl ha hr (xferTimeout_none h)⟩
  case busy => exact does_task rfl ha hr (busyInterval_due h ht)
  case waits => exact does_task rfl ha hr (flashWorkDone_waits h hj)
  case record => exact does_task rfl ha hr (flashWorkDone_record h hj)

end Sys2Proof.Proofs
end

section
/-! PROOFS. The CAN carrier (R296 to R299, R389). -/

namespace Sys2Proof.Proofs

open Sys2Proof.Machine Sys2Proof.Laws

variable {L : Lane}

/-! ### Frames received -/

section Frame

variable {ext rem : Bool} {id : Nat} {d : List Byte}

/-- The length that the carrier's frames have room for, and the lane with the frame's time. -/
def canRoom (L : Lane) : Nat := if L.flag F.OC_CFG_FD then 64 else 8

def canSeen (L : Lane) : Lane := { L with oc := { L.oc with canAt := L.now } }

theorem canSeen_oc_on : (canSeen L).oc.on = L.oc.on := rfl

theorem canSeen_oc_busOff : (canSeen L).oc.busOff = L.oc.busOff := rfl

theorem canSeen_canForUs : (canSeen L).canForUs id = L.canForUs id := rfl

theorem canFrameReceive_off (h : L.oc.on = false) : L.canFrameReceive ext rem id d = L := by
  unfold Lane.canFrameReceive
  rw [h]
  extract_lets room M
  have hM : M = L := rfl
  rw [hM]
  exact if_pos (by simp [h])

section On

variable (h : L.oc.on = true)
include h

/-- What is not taken of the frames on the line. -/
def canIgnored (L : Lane) (ext rem : Bool) (id n : Nat) : Prop :=
  L.oc.busOff = true ∨ ext = false ∨ rem = true ∨ L.canForUs id = false ∨ canRoom L < n

/-- The frame on a channel that is on. -/
theorem canFrameReceive_on : L.canFrameReceive ext rem id d =
    if !(canSeen L).oc.on || (canSeen L).oc.busOff || !ext || rem || !((canSeen L).canForUs id) || decide (canRoom L < d.length) then canSeen L
    else if (canSeen L).linkSleeps then ((canSeen L).tally 19 1).tally 19 3 d.length
    else (((canSeen L).tally 19 1).tally 19 3 d.length).canPart (id / 2 ^ 11 % 16) (id / 2 ^ 7 % 8) (bit id 6) d := by
  unfold Lane.canFrameReceive
  rw [h]
  rfl

theorem canFrameReceive_ignores (hi : canIgnored L ext rem id d.length) : L.canFrameReceive ext rem id d = canSeen L := by
  refine (canFrameReceive_on h).trans (if_pos ?_)
  rw [canSeen_oc_busOff, canSeen_canForUs]
  rcases hi with hi | hi | hi | hi | hi <;> simp [hi]

section Taken

variable (hb : L.oc.busOff = false) (hu : L.canForUs id = true) (hd : d.length ≤ canRoom L)
include hb hu hd

theorem canFrameReceive_taken : L.canFrameReceive true false id d =
    if (canSeen L).linkSleeps then ((canSeen L).tally 19 1).tally 19 3 d.length
    else (((canSeen L).tally 19 1).tally 19 3 d.length).canPart (id / 2 ^ 11 % 16) (id / 2 ^ 7 % 8) (bit id 6) d := by
  refine (canFrameReceive_on h).trans (if_neg ?_)
  rw [canSeen_oc_on, canSeen_oc_busOff, canSeen_canForUs]
  simp [h, hb, hu, hd]

/-- In Hold it is only counted (R389). -/
theorem canFrameReceive_asleep (hs : L.linkSleeps = true) : L.canFrameReceive true false id d = ((canSeen L).tally 19 1).tally 19 3 d.length :=
  (canFrameReceive_taken h hb hu hd).trans (if_pos hs)

theorem canFrameReceive_part (hs : L.linkSleeps = false) : L.canFrameReceive true false id d =
    (((canSeen L).tally 19 1).tally 19 3 d.length).canPart (id / 2 ^ 11 % 16) (id / 2 ^ 7 % 8) (bit id 6) d :=
  (canFrameReceive_taken h hb hu hd).trans (if_neg (ne_true_of_eq_false hs))

end Taken

end On

end Frame

/-! ### Parts, responses, bus-off -/

section Parts

theorem canPartTimeout_none (h : L.oc.part = none) : L.canPartTimeout = L := by
  rw [Lane.canPartTimeout, h]

theorem canPartTimeout_over {q : PartS} (h : L.oc.part = some q) (ht : q.at_ + ms 10 ≤ L.now) : L.canPartTimeout = L.ocDiscard := by
  rw [Lane.canPartTimeout, h]
  exact if_neg (Nat.not_lt.2 ht)

theorem canPartTimeout_within {q : PartS} (h : L.oc.part = some q) (ht : L.now < q.at_ + ms 10) : L.canPartTimeout = L := by
  rw [Lane.canPartTimeout, h]
  exact if_pos ht

end Parts

section Responses

variable {client rid : Nat}

/-- The response of a client's request that is queued on the carrier. -/
def canQueued (L : Lane) (client rid : Nat) : Option (ObjResp × Nat) := L.oc.canTx.find? (fun r => r.1.head.client == client && r.1.head.rid == rid)

theorem retxBudgetExpiry_none (h : canQueued L client rid = none) : L.retxBudgetExpiry client rid = L := by
  unfold Lane.retxBudgetExpiry
  extract_lets mine
  split
  case h_1 => rfl
  case h_2 r hr => exact absurd (h.symm.trans hr) nofun

/-- The queue without that response and those before it. -/
def canAborted (L : Lane) (client rid : Nat) : Lane :=
  { L with oc := { L.oc with canTx := (L.oc.canTx.dropWhile (fun x => !(x.1.head.client == client && x.1.head.rid == rid))).drop 1 } }

theorem retxBudgetExpiry_aborts {r : ObjResp × Nat} (h : canQueued L client rid = some r) (ht : r.2 + us (10 * L.retxBudget) ≤ L.now) :
    L.retxBudgetExpiry client rid = ((canAborted L client rid).raise F.OC_EVENT_TX_ABORT).bump F.OC_CNT0_TX_ABORT := by
  unfold Lane.retxBudgetExpiry
  extract_lets mine
  split
  case h_1 hn => exact absurd (h.symm.trans hn) nofun
  case h_2 r' hr =>
    obtain rfl : r = r' := Option.some.inj (h.symm.trans hr)
    exact if_neg (Nat.not_lt.2 ht)

theorem busOffEnter_enters (h : L.oc.on = true) (hb : L.oc.busOff = false) : L.busOffEnter =
    (({ L with oc := { L.oc with busOff := true, part := none, canTx := [] } }).raise F.OC_EVENT_BUS_OFF).bump F.OC_CNT0_BUS_OFF :=
  if_neg (by simp [h, hb])

theorem busOffEnter_ignored (h : L.oc.on = false ∨ L.oc.busOff = true) : L.busOffEnter = L := if_pos (by simpa using h)

end Responses

/-- Settles O41: a frame by the channel, its form, its destination and length, and sleep; a message, a response and the bus by what stands and time. -/
theorem canCarrier : Obligations.CanCarrier := by
  intro s l t L ha
  refine ⟨fun hi => ⟨fun ext rem id d h => does_gateIn rfl hi (canFrameReceive_off h), fun ext rem id d h hg => does_gateIn rfl hi (canFrameReceive_ignores h hg),
      fun id d h hb hu hd => ⟨fun hs => does_gateIn rfl hi (canFrameReceive_asleep h hb hu hd hs), fun hs => does_gateIn rfl hi (canFrameReceive_part h hb hu hd hs)⟩⟩,
    fun h => does_gate rfl ha (canPartTimeout_none h), fun q h => ?part, fun client rid h => does_gate rfl ha (retxBudgetExpiry_none h),
    fun client rid r h ht => does_gate rfl ha (retxBudgetExpiry_aborts h ht), fun hi h hb => does_gateIn rfl hi (busOffEnter_enters h hb),
    fun hi h => does_gateIn rfl hi (busOffEnter_ignored h), does_gate rfl ha rfl⟩
  case part => exact ⟨fun ht => does_gate rfl ha (canPartTimeout_over h ht), fun ht => does_gate rfl ha (canPartTimeout_within h ht)⟩

end Sys2Proof.Proofs
end

section
/-! PROOFS. Unlock and attestation (R323, R415 to R417), and the life cycle's own ends (R410, R411). -/

namespace Sys2Proof.Proofs

open Sys2Proof.Machine Sys2Proof.Laws

variable {L : Lane}

/-! ### Unlock -/

section Unlock

variable {k : List Byte}

theorem unlockToken_ignored (h : L.lc.state ≠ .field ∨ L.servesWrites = false) : L.unlockToken k = L := if_pos (by simpa using h)

/-- A good token opens the Service overlay and uses the challenge up. -/
def serviceOpened (L : Lane) (k : List Byte) : Lane :=
  (({ L with lc := { L.lc with
      challenge := none
      overlay := some { began := L.now, duration := sec (60 * leNat (part k 2 2)), lanes := (k.getD 1 0).toNat % 8, vendor := k.getD 4 0 == 1 } } }).raise
    F.LC_EVENT_SVC_START).eachGroup (fun L g => L.genUpdate g)

/-- A bad one uses it up too, and is counted. -/
def tokenRefused (L : Lane) : Lane := (({ L with lc := { L.lc with challenge := none } }).raise F.LC_EVENT_TOKEN_BAD).bump F.LC_CNT_TOKEN_BAD

theorem unlockToken_judged (hf : L.lc.state = .field) (hw : L.servesWrites = true) :
    L.unlockToken k = if L.tokenOk k then serviceOpened L k else tokenRefused L := by
  unfold Lane.unlockToken
  rw [if_neg (by simp [hf, hw])]
  cases hk : L.tokenOk k with
  | true => exact if_neg (by simp)
  | false => exact if_pos (by simp)

theorem attestationNonce_starts {n : List Byte} (hw : L.servesWrites = true) :
    L.attestationNonce n = { L with lc := { L.lc with attest := some (L.now, padTo 32 n) } } := if_neg (by simp [hw])

theorem attestationNonce_ignored {n : List Byte} (hw : L.servesWrites = false) : L.attestationNonce n = L := if_pos (by simp [hw])

theorem attestDone_none (h : L.lc.attest = none) : L.attestDone = L := by
  rw [Lane.attestDone, h]

/-- The report signed with the identity key, in Blank and Retired with zeros (R417). -/
def attestReported (L : Lane) (a : Nat × List Byte) : Lane :=
  ({ L with lc := { L.lc with
    attest := none
    report := L.reportBody a.2 ++ (if L.lc.state == LifeCycle.blank || L.lc.state == LifeCycle.retired then List.replicate 132 0
      else padTo 132 (signature (L.lc.otp.idKey.getD []) (L.reportBody a.2))) } }).raise F.LC_EVENT_ATTEST_DONE

theorem attestDone_some {a : Nat × List Byte} (h : L.lc.attest = some a) : L.attestDone = attestReported L a := by
  unfold Lane.attestDone
  split
  case h_1 hn => exact absurd (h.symm.trans hn) nofun
  case h_2 a' ha =>
    obtain rfl : a = a' := Option.some.inj (h.symm.trans ha)
    rfl

end Unlock

/-! ### Service time -/

section ServiceTime

/-- The overlay gone. -/
def overlayGone (L : Lane) : Lane := { L with lc := { L.lc with overlay := none } }

/-- What ends with the overlay: the injections, a direct run and a debug halt. -/
def directEnded (L : Lane) : Lane :=
  let A := (((overlayGone L).raise F.LC_EVENT_SVC_END).eachGroup (fun L g => L.genUpdate g)).injWatch
  A.when (A.st.prog == .direct) Lane.endRun

def serviceEnded (L : Lane) : Lane :=
  let A := directEnded L
  (({ A with fc := { A.fc with xinjLeft := 0 }, ln := { A.ln with injLeft := 0 }, sy := { A.sy with debugHalt := false } }).setFld F.FC_XINJ_ARM 0).setFld
    F.LN_INJ_ARM 0

theorem serviceTimeExpiry_none (h : L.lc.overlay = none) : L.serviceTimeExpiry = L := by
  unfold Lane.serviceTimeExpiry
  split
  case h_1 => rfl
  case h_2 o ho => exact absurd (h.symm.trans ho) nofun

variable {o : OverlayS} (h : L.lc.overlay = some o)
include h

theorem serviceTimeExpiry_runs (ht : L.now < o.began + L.cellarTime o.duration) : L.serviceTimeExpiry = L := by
  unfold Lane.serviceTimeExpiry
  split
  case h_1 => rfl
  case h_2 o' ho =>
    obtain rfl : o = o' := Option.some.inj (h.symm.trans ho)
    exact if_pos ht

variable (ht : o.began + L.cellarTime o.duration ≤ L.now)
include ht

theorem serviceTimeExpiry_held (hr : L.sy.resetHeld = true) : L.serviceTimeExpiry = overlayGone L := by
  unfold Lane.serviceTimeExpiry
  split
  case h_1 hn => exact absurd (h.symm.trans hn) nofun
  case h_2 o' ho =>
    obtain rfl : o = o' := Option.some.inj (h.symm.trans ho)
    exact (if_neg (Nat.not_lt.2 ht)).trans (if_pos hr)

theorem serviceTimeExpiry_ends (hr : L.sy.resetHeld = false) : L.serviceTimeExpiry =
    if (serviceEnded L).lc.taken && !(serviceEnded L).lc.sealed then (serviceEnded L).rebootBy F.SY_RSTCAUSE_FW else serviceEnded L := by
  unfold Lane.serviceTimeExpiry
  split
  case h_1 hn => exact absurd (h.symm.trans hn) nofun
  case h_2 o' ho =>
    obtain rfl : o = o' := Option.some.inj (h.symm.trans ho)
    exact (if_neg (Nat.not_lt.2 ht)).trans (if_neg (ne_true_of_eq_false hr))

theorem serviceTimeExpiry_stays (hr : L.sy.resetHeld = false) (hc : (serviceEnded L).lc.taken = false ∨ (serviceEnded L).lc.sealed = true) :
    L.serviceTimeExpiry = serviceEnded L := by
  refine (serviceTimeExpiry_ends h ht hr).trans (if_neg ?_)
  rw [Bool.and_eq_true, Bool.not_eq_true']
  rintro ⟨htaken, hsealed⟩
  exact hc.elim (fun hc => Bool.false_ne_true (hc.symm.trans htaken)) (fun hc => Bool.false_ne_true (hsealed.symm.trans hc))

/-- A lane with an unsealed configuration reboots. -/
theorem serviceTimeExpiry_reboots (hr : L.sy.resetHeld = false) (hc : (serviceEnded L).lc.taken = true) (hs : (serviceEnded L).lc.sealed = false) :
    L.serviceTimeExpiry = (serviceEnded L).rebootBy F.SY_RSTCAUSE_FW := by
  refine (serviceTimeExpiry_ends h ht hr).trans (if_pos ?_)
  rw [hc, hs]
  rfl

end ServiceTime

/-! ### Retirement and provisioning -/

section Ends

/-- The keys gone and Retired programmed (R410). -/
def retired (L : Lane) : Lane :=
  { L with lc := { L.lc with
    otp := { L.lc.otp with lcs := .retired, idKey := none, trKey := none, integratorKey := none }, overlay := none, netKey := none } }

theorem retire_ends (hr : L.sy.resetHeld = false) (hs : L.lc.state = .blank ∨ L.lc.state = .service) :
    L.retire = if (retired L).laneReset.release.ky.state = .booting then (retired L).laneReset.release.toWithdrawn else (retired L).laneReset.release :=
  if_neg (by rcases hs with hs | hs <;> simp [hr, hs])

theorem retire_ignored (h : L.sy.resetHeld = true ∨ (L.lc.state ≠ .blank ∧ L.lc.state ≠ .service)) : L.retire = L := by
  refine if_pos ?_
  rcases h with h | ⟨hb, hs⟩
  · simp [h]
  · simp [hb, hs]

/-- The identity and transport keys made, the vendor key programmed. -/
def provisioned (L : Lane) : Lane :=
  ({ L with
    fresh := L.fresh + 2
    lc := { L.lc with otp := { L.lc.otp with
      lcs := .provisioned, vendorKey := Config.vendorKey
      idKey := some (padTo 66 (Config.freeBytes L.fresh)), trKey := some (padTo 66 (Config.freeBytes (L.fresh + 1)))
      idPub := padTo 133 (publicKey (padTo 66 (Config.freeBytes L.fresh)))
      trPub := padTo 133 (publicKey (padTo 66 (Config.freeBytes (L.fresh + 1)))) } } }).trapClear

theorem factoryProvision_provisions (hr : L.sy.resetHeld = false) (hs : L.lc.state = .blank) : L.factoryProvision = provisioned L :=
  if_neg (by simp [hr, hs])

theorem factoryProvision_ignored (h : L.sy.resetHeld = true ∨ L.lc.state ≠ .blank) : L.factoryProvision = L := if_pos (by simpa using h)

end Ends

/-- Settles O42: unlock and attestation by the life cycle and what was asked, Service time by the overlay and the reset, the ends by the life cycle. -/
theorem unlockAttestationAndLifeCycle : Obligations.UnlockAttestationAndLifeCycle := by
  refine ⟨?unlock, ?ends⟩
  case unlock =>
    intro s l t L ha hr
    exact ⟨does_task rfl ha hr rfl, fun k h => does_task rfl ha hr (unlockToken_ignored h), fun k hf hw => does_task rfl ha hr (unlockToken_judged hf hw),
      fun n hw => does_task rfl ha hr (attestationNonce_starts hw), fun n hw => does_task rfl ha hr (attestationNonce_ignored hw),
      fun h => does_task rfl ha hr (attestDone_none h), fun a h => does_task rfl ha hr (attestDone_some h)⟩
  case ends =>
    intro s l t L
    refine ⟨⟨fun h => does_ungated rfl (serviceTimeExpiry_none h), fun o h ht => does_ungated rfl (serviceTimeExpiry_runs h ht),
        fun o h ht hr => does_ungated rfl (serviceTimeExpiry_held h ht hr), fun o h ht hr => ?ended⟩,
      fun hr hs => does_ungated rfl (retire_ends hr hs), fun h => does_ungated rfl (retire_ignored h),
      fun hr hs => does_ungated rfl (factoryProvision_provisions hr hs), fun h => does_ungated rfl (factoryProvision_ignored h)⟩
    case ended =>
      exact ⟨fun hc => does_ungated rfl (serviceTimeExpiry_stays h ht hr hc), fun hc hs => does_ungated rfl (serviceTimeExpiry_reboots h ht hr hc hs)⟩

end Sys2Proof.Proofs
end

section
/-! PROOFS. Configuration commit (R323, R422) and in-service update (R406, R426 to R429). -/

namespace Sys2Proof.Proofs

open Sys2Proof.Machine Sys2Proof.Laws

variable {L : Lane}

/-! ### Commit -/

section Commit

variable {ok : Bool}

theorem configCommit_ignored (h : L.ky.state ≠ .bench ∨ L.lc.commit.isSome = true ∨ L.th.flashOk = false) : L.configCommit ok = L :=
  if_pos (by rcases h with h | h | h <;> simp [h])

/-- The image taken from RAM, and the inactive bank with it. -/
def imageReleased (L : Lane) : Lane := { L with lc := { L.lc with image := [] } }

def bankWritten (L : Lane) : Lane :=
  ((imageReleased L).eraseSpan (bankAddr (imageReleased L).inactiveBank) 0x80000).program (bankAddr (imageReleased L).inactiveBank) L.lc.image

theorem configCommit_taken (hb : L.ky.state = .bench) (hc : L.lc.commit = none) (hf : L.th.flashOk = true) : L.configCommit ok =
    if (imageReleased L).imageCheck L.lc.image ≠ 0 then (imageReleased L).commitFail ((imageReleased L).imageCheck L.lc.image)
    else if ok then { bankWritten L with lc := { (bankWritten L).lc with commit := some (bankWritten L).now } } else (bankWritten L).commitFail 6 :=
  if_neg (by simp [hb, hc, hf])

theorem configCommitComplete_none (h : L.commitHeader.lc.commitDone = none) : L.configCommitComplete = L.commitHeader := by
  unfold Lane.configCommitComplete
  extract_lets M
  split
  case h_1 => rfl
  case h_2 d hd => exact absurd (h.symm.trans hd) nofun

theorem configCommitComplete_done {d : Nat} (h : L.commitHeader.lc.commitDone = some d) :
    L.configCommitComplete = L.commitHeader.rebootBy F.SY_RSTCAUSE_FW := by
  unfold Lane.configCommitComplete
  extract_lets M
  split
  case h_1 hn => exact absurd (h.symm.trans hn) nofun
  case h_2 => rfl

end Commit

/-! ### Install -/

section Install

variable {n : Nat}

theorem installOpen_opens (hl : L.installLanes = true) (hi : L.installFree = true) (hf : L.th.flashOk = true) : L.installOpen n = L.installNow n :=
  if_neg (by simp [hl, hi, hf])

theorem installOpen_ignored (h : L.installLanes = false ∨ L.installFree = false ∨ L.th.flashOk = false) : L.installOpen n = L :=
  if_pos (by rcases h with h | h | h <;> simp [h])

theorem installVerify_starts (hb : L.ky.state = .bench) (hi : L.lc.install = 2) (hf : L.th.flashOk = true) : L.installVerify = L.setInstall 3 :=
  if_neg (by simp [hb, hi, hf])

theorem installVerify_ignored (h : L.ky.state ≠ .bench ∨ L.lc.install ≠ 2 ∨ L.th.flashOk = false) : L.installVerify = L :=
  if_pos (by rcases h with h | h | h <;> simp [h])

theorem verifyDone_ignored (h : L.lc.install ≠ 3) : L.verifyDone = L := if_pos h

/-- The header of the slot that is to boot next. -/
def slotHeader (L : Lane) : List Byte :=
  leBytes 4 (seqNext (L.slotSeq L.lc.slot)) ++ padTo 64 (sha512 (L.bytes L.instBase 512)) ++ part (L.bytes L.instBase 512) 16 4 ++
    [0xFF, 0xFF, 0xFF, 0xFF, 0xFF]

theorem verifyDone_judged (h : L.lc.install = 3) : L.verifyDone =
    if L.instImageOk then (((L.program L.instHead (slotHeader L)).setInstall 4).rebootBy F.SY_RSTCAUSE_FW)
    else ((L.raise F.CF_EVENT_VERIFY_FAIL).bump F.CF_CNT_VERIFY_FAIL).setInstall 8 := by
  unfold Lane.verifyDone
  rw [if_neg (not_not.2 h)]
  cases hi : L.instImageOk with
  | true => exact if_neg (by simp)
  | false => exact if_pos (by simp)

theorem installAbort_command (h : L.ky.state = .bench) : L.installAbort true = L.abortInstall := if_pos (by simp [h])

theorem installAbort_command_ignored (h : L.ky.state ≠ .bench) : L.installAbort true = L := if_neg (by simp [h])

theorem installAbort_lost (h : L.lc.lostLane = true) : L.installAbort false = L.abortInstall := if_pos (by simp [h])

theorem installAbort_lost_ignored (h : L.lc.lostLane = false) : L.installAbort false = L := if_neg (by simp [h])

/-- A failed trial rolls back to the confirmed slot. -/
def rolledBack (L : Lane) : Lane :=
  let M : Lane := { L with lc := { L.lc with trialBad := false } }
  ((M.invalidate.raise F.CF_EVENT_TRIAL_FAIL).setInstall 8).rebootBy F.SY_RSTCAUSE_FW

theorem trialFail_rolls (hb : L.lc.trialBad = true) (hi : L.lc.install = 5 ∨ L.lc.install = 6) (hf : L.th.flashOk = true) : L.trialFail = rolledBack L :=
  if_neg (by rcases hi with hi | hi <;> simp [hb, hi, hf])

theorem trialFail_ignored (h : L.lc.trialBad = false ∨ (L.lc.install ≠ 5 ∧ L.lc.install ≠ 6) ∨ L.th.flashOk = false) : L.trialFail = L := by
  refine if_pos ?_
  rcases h with h | ⟨h5, h6⟩ | h
  · simp [h]
  · simp [h5, h6]
  · simp [h]

end Install

/-- Settles O43: the commit by the lane, the flash and the image, the install by its state and the lanes. -/
theorem commitAndInstall : Obligations.CommitAndInstall := by
  refine ⟨?commit, ?install⟩
  case commit =>
    intro s l t ok L ha hr
    exact ⟨fun h => does_task rfl ha hr (configCommit_ignored h), fun hb hc hf => does_task rfl ha hr (configCommit_taken hb hc hf),
      fun h => does_task rfl ha hr (configCommitComplete_none h), fun d h => does_task rfl ha hr (configCommitComplete_done h)⟩
  case install =>
    intro s l t L ha hr
    exact ⟨fun n hl hi hf => does_task rfl ha hr (installOpen_opens hl hi hf), fun n h => does_task rfl ha hr (installOpen_ignored h),
      fun hb hi hf => does_task rfl ha hr (installVerify_starts hb hi hf), fun h => does_task rfl ha hr (installVerify_ignored h),
      fun h => does_task rfl ha hr (verifyDone_ignored h), fun h => does_task rfl ha hr (verifyDone_judged h),
      fun h => does_task rfl ha hr (installAbort_command h), fun h => does_task rfl ha hr (installAbort_command_ignored h),
      fun h => does_task rfl ha hr (installAbort_lost h), fun h => does_task rfl ha hr (installAbort_lost_ignored h),
      fun hb hi hf => does_task rfl ha hr (trialFail_rolls hb hi hf), fun h => does_task rfl ha hr (trialFail_ignored h)⟩

end Sys2Proof.Proofs
end

section
/-! PROOFS. Image blocks (R301, R303) and the 100BASE-T1 port (R302). -/

namespace Sys2Proof.Proofs

open Sys2Proof.Machine Sys2Proof.Laws

variable {L : Lane}

theorem bnot_of_false {b : Bool} (h : b = false) : (!b) = true := by simp [h]

theorem not_bnot_of_true {b : Bool} (h : b = true) : ¬ (!b) = true := by simp [h]

/-! ### Frames received -/

section Frames

variable {bs : List Byte}

/-- The frame counted, behind the acknowledgements that wait. -/
def frameCounted (L : Lane) (bs : List Byte) : Lane := (L.sendAcks.tally 20 1).tally 20 3 bs.length

theorem imageFrameReceive_other (h : L.enForUs bs = false) : L.imageFrameReceive bs = L := if_pos (by simp [h])

section Ours

variable (h : L.enForUs bs = true)
include h

theorem imageFrameReceive_bad (hf : enFrameOk bs = false) :
    L.imageFrameReceive bs = ((frameCounted L bs).raise F.EN_EVENT_CRC_ERR).bump F.EN_CNT_CRC_ERR :=
  (if_neg (by simp [h])).trans (if_pos (by simp [hf]))

theorem imageFrameReceive_open (hf : enFrameOk bs = true) (ho : (frameCounted L bs).installOpenNow = true) :
    L.imageFrameReceive bs = (frameCounted L bs).imageData (enOffset bs) (enData bs) :=
  (if_neg (by simp [h])).trans ((if_neg (by simp [hf])).trans (if_neg (not_bnot_of_true ho)))

theorem imageFrameReceive_none (hf : enFrameOk bs = true) (ho : (frameCounted L bs).installOpenNow = false) :
    L.imageFrameReceive bs = (frameCounted L bs).answerNone (enOffset bs / 65536) :=
  (if_neg (by simp [h])).trans ((if_neg (by simp [hf])).trans (if_pos (bnot_of_false ho)))

end Ours

end Frames

/-! ### Blocks -/

section Blocks

variable {b : Nat} {ok : Bool}

theorem imageBlockStored_ignored (h : L.lc.install ≠ 1 ∨ L.blockEnded b = false ∨ L.th.flashOk = false) : L.imageBlockStored b ok = L :=
  if_pos (by rcases h with h | h | h <;> simp [h])

section Judged

variable (hi : L.lc.install = 1) (he : L.blockEnded b = true) (hz : b = 0 ∨ L.blockStored 0 = true) (hf : L.th.flashOk = true)
include hi he hz hf

theorem block_judged : ¬ (L.lc.install ≠ 1 || !(L.blockEnded b) || (b != 0 && !(L.blockStored 0)) || !L.th.flashOk) = true := by
  rcases hz with hz | hz <;> simp [hi, he, hz, hf]
  exact hz ▸ he

theorem imageBlockStored_gap (hp : layPieces (L.blockSize b) (L.blockPieces b) = none) : L.imageBlockStored b ok = L.blockBad b := by
  rw [Lane.imageBlockStored, if_neg (block_judged hi he hz hf), hp]

variable {bs : List Byte} (hp : layPieces (L.blockSize b) (L.blockPieces b) = some bs)
include hp

/-- The block as it is programmed and read back. -/
theorem imageBlockStored_whole : L.imageBlockStored b ok =
    if b = 0 && !(L.kindOk bs) then ((L.setPieces 0 []).setInstall 8).answerNone 0
    else if ok then (L.when (b == 0) (·.takeKind bs)).storeBlock b bs else (L.when (b == 0) (·.takeKind bs)).readBackBad b := by
  rw [Lane.imageBlockStored, if_neg (block_judged hi he hz hf), hp]

/-- A block behind the first is stored, or erased and asked for again. -/
theorem imageBlockStored_later (hb : b ≠ 0) : L.imageBlockStored b ok = if ok then L.storeBlock b bs else L.readBackBad b := by
  rw [imageBlockStored_whole hi he hz hf hp, if_neg (by simp [hb]), beq_false_of_ne hb, when_false]

end Judged

section First

variable (hi : L.lc.install = 1) (he : L.blockEnded 0 = true) (hf : L.th.flashOk = true) {bs : List Byte}
  (hp : layPieces (L.blockSize 0) (L.blockPieces 0) = some bs)
include hi he hf hp

/-- Block 0 names the kind of the image (R426); one whose kind or size fails closes the install. -/
theorem imageBlockStored_closes (hk : L.kindOk bs = false) : L.imageBlockStored 0 ok = ((L.setPieces 0 []).setInstall 8).answerNone 0 := by
  rw [imageBlockStored_whole hi he (.inl rfl) hf hp, if_pos (by simp [hk])]

theorem imageBlockStored_first (hk : L.kindOk bs = true) : L.imageBlockStored 0 true = (L.takeKind bs).storeBlock 0 bs := by
  rw [imageBlockStored_whole hi he (.inl rfl) hf hp, if_neg (by simp [hk]), if_pos rfl, beq_self_eq_true, when_true]

end First

end Blocks

/-! ### Link -/

section Link

variable {q : Fin 8}

/-- The link as the PHY reports it. -/
def phyLinked (L : Lane) (u : Bool) (q : Fin 8) : Lane :=
  { L with en := { L.en with link := u, sqi := if u then q.val else 0, master := if u then L.flag F.EN_CFG_ROLE else L.en.master } }

theorem enLinkChange_reports (up : Bool) : L.enLinkChange up q =
    let u := up && L.flag F.EN_CFG_ENABLE
    if u && !L.en.link then (phyLinked L u q).raise F.EN_EVENT_LINK_UP
    else if !u && L.en.link then (phyLinked L u q).raise F.EN_EVENT_LINK_DOWN else phyLinked L u q := rfl

theorem enLinkChange_true (h : L.flag F.EN_CFG_ENABLE = true) : L.enLinkChange true q =
    if !L.en.link then (phyLinked L true q).raise F.EN_EVENT_LINK_UP else phyLinked L true q := by
  rw [enLinkChange_reports, h]
  cases L.en.link with
  | true => rfl
  | false => rfl

theorem enLinkChange_stays (h : L.flag F.EN_CFG_ENABLE = true) (hl : L.en.link = true) :
    L.enLinkChange true q = { L with en := { L.en with sqi := q.val, master := L.flag F.EN_CFG_ROLE } } :=
  (enLinkChange_true h).trans ((if_neg (not_bnot_of_true hl)).trans
    (congrArg (fun b => ({ L with en := { L.en with link := b, sqi := q.val, master := L.flag F.EN_CFG_ROLE } } : Lane)) hl.symm))

theorem enLinkChange_up (h : L.flag F.EN_CFG_ENABLE = true) (hl : L.en.link = false) : L.enLinkChange true q =
    ({ L with en := { L.en with link := true, sqi := q.val, master := L.flag F.EN_CFG_ROLE } }).raise F.EN_EVENT_LINK_UP :=
  (enLinkChange_true h).trans (if_pos (bnot_of_false hl))

/-- The link is down, as the line or as the port says. -/
def linkDown (L : Lane) : Lane := { L with en := { L.en with link := false, sqi := 0 } }

section Down

variable {up : Bool} (h : up = false ∨ L.flag F.EN_CFG_ENABLE = false)
include h

theorem enLinkChange_false : L.enLinkChange up q = if L.en.link then (linkDown L).raise F.EN_EVENT_LINK_DOWN else linkDown L := by
  have hu : (up && L.flag F.EN_CFG_ENABLE) = false := Bool.and_eq_false_iff.2 h
  rw [enLinkChange_reports, hu]
  cases L.en.link with
  | true => rfl
  | false => rfl

theorem enLinkChange_falls (hl : L.en.link = true) : L.enLinkChange up q = (linkDown L).raise F.EN_EVENT_LINK_DOWN :=
  (enLinkChange_false h).trans (if_pos hl)

theorem enLinkChange_down (hl : L.en.link = false) : L.enLinkChange up q = linkDown L :=
  (enLinkChange_false h).trans (if_neg (ne_true_of_eq_false hl))

end Down

end Link

/-! ### Streams sent -/

section Stream

variable {k : Nat}

theorem streamFrameSend_off (h : L.sendAcks.streamOn k = false) : L.streamFrameSend k = L.sendAcks := if_pos (bnot_of_false h)

theorem streamFrameSend_full (h : L.sendAcks.enRoom = none) : L.streamFrameSend k = L.sendAcks := by
  unfold Lane.streamFrameSend
  extract_lets K
  split
  case isTrue => rfl
  case isFalse =>
    split
    case h_1 => rfl
    case h_2 room hr => exact absurd (h.symm.trans hr) nofun

variable {room : Nat} (h : L.sendAcks.streamOn k = true) (hr : L.sendAcks.enRoom = some room)
include h hr

theorem streamFrameSend_none (hn : L.sendAcks.streamNext k room = none) : L.streamFrameSend k = L.sendAcks := by
  unfold Lane.streamFrameSend
  extract_lets K
  rw [if_neg (not_bnot_of_true h)]
  split
  case h_1 => rfl
  case h_2 room' hr' =>
    obtain rfl : room = room' := Option.some.inj (hr.symm.trans hr')
    split
    case h_1 => rfl
    case h_2 hs => exact absurd (hn.symm.trans hs) nofun

theorem streamFrameSend_next {o : Nat} {d : List Byte} {M : Lane} (hn : L.sendAcks.streamNext k room = some (o, d, M)) :
    L.streamFrameSend k = if d = [] then L.sendAcks else M.enSend k o d := by
  unfold Lane.streamFrameSend
  extract_lets K
  rw [if_neg (not_bnot_of_true h)]
  split
  case h_1 hr' => exact absurd (hr.symm.trans hr') nofun
  case h_2 room' hr' =>
    obtain rfl : room = room' := Option.some.inj (hr.symm.trans hr')
    split
    case h_1 hs => exact absurd (hn.symm.trans hs) nofun
    case h_2 o' d' M' hs =>
      obtain ⟨rfl, rfl, rfl⟩ : o = o' ∧ d = d' ∧ M = M' := by simpa using hn.symm.trans hs
      rfl

end Stream

/-- Settles O44: a frame by whom it is for, its check and the install, a block by its pieces, the link by the line and the port, a stream by its room. -/
theorem ethernetPort : Obligations.EthernetPort := by
  refine ⟨?images, ?port⟩
  case images =>
    intro s l t L
    refine ⟨fun hi dst src etherType head data fcs => ⟨fun h => does_gateIn rfl hi (imageFrameReceive_other h), fun h => ?ours⟩, fun ha hr b ok => ?block⟩
    case ours =>
      exact ⟨fun hf => does_gateIn rfl hi (imageFrameReceive_bad h hf), fun hf ho => does_gateIn rfl hi (imageFrameReceive_open h hf ho),
        fun hf ho => does_gateIn rfl hi (imageFrameReceive_none h hf ho)⟩
    case block =>
      refine ⟨fun h => does_task rfl ha hr (imageBlockStored_ignored h), fun hi he hb hz hf => ⟨fun hp => ?gap, fun bs hp => ?stored, fun bs hp => ?bad⟩,
        fun hi he hf bs hp => ⟨fun hk => does_task rfl ha hr (imageBlockStored_closes hi he hf hp hk),
          fun hk => does_task rfl ha hr (imageBlockStored_first hi he hf hp hk)⟩⟩
      case gap => exact does_task rfl ha hr (imageBlockStored_gap hi he (.inr hz) hf hp)
      case stored => exact does_task rfl ha hr ((imageBlockStored_later hi he (.inr hz) hf hp hb).trans (if_pos rfl))
      case bad => exact does_task rfl ha hr ((imageBlockStored_later hi he (.inr hz) hf hp hb).trans (if_neg Bool.false_ne_true))
  case port =>
    intro s l t L ha
    refine ⟨fun hi q h hl => does_gateIn rfl hi (enLinkChange_stays h hl), fun hi q h hl => does_gateIn rfl hi (enLinkChange_up h hl),
      fun hi up q hl h => does_gateIn rfl hi (enLinkChange_falls h hl), fun hi up q hl h => does_gateIn rfl hi (enLinkChange_down h hl),
      fun k h => does_gate rfl ha (streamFrameSend_off h), fun k h => does_gate rfl ha (streamFrameSend_full h), fun k room h hr => ?stream⟩
    case stream =>
      exact ⟨fun hn => does_gate rfl ha (streamFrameSend_none h hr hn), fun o d M hn => ⟨fun hd => does_gate rfl ha ((streamFrameSend_next h hr hn).trans (if_neg hd)),
        fun hd => does_gate rfl ha ((streamFrameSend_next h hr hn).trans (if_pos hd))⟩⟩

end Sys2Proof.Proofs
end
